-- ==== Sys2Proof/Word.lean ====
section
/-! DEFINITION. The word types of the NJ36: characters, the millisecond count, and masks of stations. -/

namespace Sys2Proof

/-- A character of the arm link, of a stored record or of an SPI transaction (R26, R84, R188). -/
abbrev Byte := BitVec 8

/-- A value of the millisecond count, 32 bits wide, wrapping from 2^32 − 1 to 0 (R186). -/
abbrev Ms := BitVec 32

/-- A set of stations as the setup and the fault values code it: station k is bit k − 1 (Table 3-2, R190). -/
abbrev StationMask := BitVec 6

end Sys2Proof
end

