-- ==== Sys2Proof/Syntax.lean ====
section
/-! DEFINITION. The commands of the NJ36: one constructor of `Instr` for each row of spec/opcode_table.json, with the
operands of each, and the enumerations those operands are made of. -/

namespace Sys2Proof

/-- The six stations of an arm; station n sits in joint Jn (00_scope.md, Table 0-3). -/
inductive Station where
  | j1 | j2 | j3 | j4 | j5 | j6
  deriving DecidableEq, Repr

/-- The seven phases (Table 0-2). -/
inductive Phase where
  | config | muster | recovery | ready | reference | faulted | down
  deriving DecidableEq, Repr

/-- The five grades, lowest first (R102). -/
inductive Grade where
  | lost | coarse | resolved | restored | referenced
  deriving DecidableEq, Repr

/-- The purposes of a claim (Table 2-2). -/
inductive Purpose where
  | search | park
  deriving DecidableEq, Repr

/-- The zone index carried in STATUS (Table 2-2): the default zone, one zone, combined attributes, or no zone. -/
inductive ZoneIndex where
  | default | z1 | z2 | z3 | z4 | combined | noZone
  deriving DecidableEq, Repr

/-- The causes of class STOP, codes 1 … 10 (Table 10-1). -/
inductive StopCause where
  | motorSensorFault | motorJump | motorCountOverflow | scaleFault | scaleDrift
  | directiveUntaken | wrongDirection | unbiddenMotion | linkTxFail | duplicateStation
  deriving DecidableEq, Repr

/-- The causes of class NOTE, codes 32 … 47 (Table 10-1). -/
inductive NoteCause where
  | scaleDisagree | slipDetected | calAbsent | storeTorn | storeVerify | planMismatch | musterIncomplete
  | markLapse | markClash | referenceFail | referenceAborted | claimConflict | claimStale | peerInconsistent
  | angleSaturated | linkRxErrors
  deriving DecidableEq, Repr

/-- A mark report, as a MARK_REPORT frame carries it and as a Peer Table entry keeps it (Table 2-1, Table 3-1).
An absent `thetaM` is the frame of length 7. -/
structure MarkReport where
  number : Byte
  grade : Grade
  captureGood : Bool
  scaleValid : Bool
  pM : BitVec 16
  sM : BitVec 16
  thetaM : Option Int
  deriving DecidableEq, Repr

/-- The payload of a STATUS frame (Table 2-1). An absent `theta` is the frame of length 7. -/
structure StatusFrame where
  phase : Phase
  grade : Grade
  atRest : Bool
  claim : Bool
  fault : Bool
  saturated : Bool
  zone : ZoneIndex
  markNumber : Byte
  digest : BitVec 16
  theta : Option Int
  deriving DecidableEq, Repr

/-- The payload of a POWER_DOWN frame (Table 2-1). -/
structure PowerDownFrame where
  grade : Grade
  theta : Option Int
  deriving DecidableEq, Repr

/-- The payload of a HELLO frame (Table 2-1). -/
structure HelloFrame where
  digest : BitVec 16
  interval : Byte
  deriving DecidableEq, Repr

/-- A frame of the arm link, by kind, with its payload (Table 2-1). -/
inductive Frame where
  | halt (cause : StopCause)
  | powerDown (f : PowerDownFrame)
  | markCall (number : Byte)
  | markReport (r : MarkReport)
  | claim (purpose : Purpose)
  | release
  | status (f : StatusFrame)
  | hello (f : HelloFrame)
  deriving DecidableEq, Repr

/-- The instant at which a command takes place: the free-running millisecond count then, and the level of PFAIL
(true when asserted). The assertion itself is the command `pfailAsserted`; an instant with `pfail` false is how a
deassertion, which has no row of the table, reaches the model. -/
structure Instant where
  ms : Ms
  pfail : Bool
  deriving DecidableEq, Repr

/-- A bit of the frame in transmission, the arbitration character's first bit being bit 0, and the instant at which it
is read back (R26, R31, R34). -/
structure BitInstant where
  now : Instant
  bit : Nat
  deriving DecidableEq, Repr

/-- One motor sample as the sensor delivers it (R2). -/
inductive MotorReading where
  | good (p : BitVec 16)
  | bad
  deriving DecidableEq, Repr

/-- One scale sample as the scale delivers it (R4). -/
inductive ScaleReading where
  | good (v : BitVec 12)
  | bad
  deriving DecidableEq, Repr

/-- The pins that the end of a reset latches or senses: ST[2:0], LR, the sensed ALH, the level of PFAIL (R64, R185). -/
structure Pins where
  st : BitVec 3
  lr : Bool
  alhHigh : Bool
  pfail : Bool
  deriving DecidableEq, Repr

/-- What a store write that a reset cuts leaves in its cells (R90): a cut in the erase or program step leaves them
erased or torn, and a cut in the read-back step leaves the programmed record. -/
inductive CutResidue where
  | erased
  | torn (chars : List Byte)
  | programmed
  deriving DecidableEq, Repr

/-- The read-back of a store write (R90): every character matches, or the characters read are these. -/
inductive ReadBack where
  | agrees
  | differs (chars : List Byte)
  deriving DecidableEq, Repr

/-- What the receiver read of a frame it discards (R37). -/
inductive Received where
  | framingFailure
  | lengthAbove12
  | chars (cs : List Byte)
  deriving DecidableEq, Repr

/-- The commands: one constructor per row of spec/opcode_table.json, in the table's order. `now` is the instant of
the command. For a drive port command `rest` holds the characters taken after the code character, up to the rise of
CS_N (R187, R188). For a mismatch of the readback `bit` is the bit of the frame at which it is read, 0 for the first
start bit (R31, R34). -/
inductive Instr where
  | motorSample (now : Instant) (reading : MotorReading) (flag : Bool)
  | scaleSample (now : Instant) (reading : ScaleReading)
  | por (pins : Pins) (cut : CutResidue)
  | pinReset (pins : Pins) (cut : CutResidue)
  | startupScanEnd (now : Instant)
  | writeCompletion (now : Instant) (readBack : ReadBack)
  | recoveryRead (now : Instant)
  | pfailAsserted (now : Instant)
  | linkIdle (now : Instant)
  | arbitrationLost (at_ : BitInstant)
  | bitError (at_ : BitInstant)
  | frameDiscard (now : Instant) (received : Received)
  | haltArrival (now : Instant) (sender : Station) (cause : StopCause)
  | powerDownArrival (now : Instant) (sender : Station) (f : PowerDownFrame)
  | markCallArrival (now : Instant) (sender : Station) (number : Byte)
  | markReportArrival (now : Instant) (sender : Station) (r : MarkReport)
  | claimArrival (now : Instant) (sender : Station) (purpose : Purpose)
  | releaseArrival (now : Instant) (sender : Station)
  | statusArrival (now : Instant) (sender : Station) (f : StatusFrame)
  | helloArrival (now : Instant) (sender : Station) (f : HelloFrame)
  | alhFall (now : Instant)
  | alhRise (now : Instant)
  | heartbeatExpiry (now : Instant)
  | musterTimerExpiry (now : Instant)
  | quietTimerExpiry (now : Instant)
  | holdoffExpiry (now : Instant)
  | markTimeoutExpiry (now : Instant)
  | collectionTimerExpiry (now : Instant)
  | leadReportWaitExpiry (now : Instant)
  | untakenTimerExpiry (now : Instant)
  | allowanceTimerExpiry (now : Instant)
  | dwellTimerExpiry (now : Instant)
  | prereqWaitExpiry (now : Instant)
  | settleFirstIntervalEnd (now : Instant)
  | settleEnd (now : Instant)
  | transactionIgnored (now : Instant)
  | fetch (now : Instant)
  | statusRead (now : Instant) (rest : List Byte)
  | peerRead (now : Instant) (rest : List Byte)
  | faultRead (now : Instant) (rest : List Byte)
  | faultClear (now : Instant) (rest : List Byte)
  | directiveTake (now : Instant) (rest : List Byte)
  | storeRead (now : Instant) (rest : List Byte)
  | markRequest (now : Instant) (rest : List Byte)
  | referenceStart (now : Instant) (rest : List Byte)
  | referenceAbort (now : Instant) (rest : List Byte)
  | turnConfirm (now : Instant) (rest : List Byte)
  | peerForget (now : Instant) (rest : List Byte)
  | setup (now : Instant) (rest : List Byte)
  | go (now : Instant) (rest : List Byte)
  | reset (now : Instant) (rest : List Byte) (pins : Pins) (cut : CutResidue)
  | rstNLow (cut : CutResidue)
  | unknownCommand (now : Instant) (chars : List Byte)
  deriving DecidableEq, Repr

end Sys2Proof
end

