-- ==== Sys2Proof/Machine/Ops.lean ====
section
/-! DEFINITION. The arithmetic of the NJ36, its orders and codes, tables indexed by station and by frame kind, masks,
characters, and the CRC-16: everything that needs no State. -/

namespace Sys2Proof.Machine

/-! ### Arithmetic (00_scope.md, Arithmetic) -/

/-- Division rounded to the nearest integer, halves toward plus infinity: 2.5 is 3 and −2.5 is −2. The divisor is
positive wherever the manual divides. -/
def rdiv (a b : Int) : Int := (2 * a + b) / (2 * b)

/-- The one value congruent to `x` modulo `m` in the interval from `lo` up to but not including `lo + m`. -/
def wrapFrom (lo m x : Int) : Int := lo + (x - lo) % m

/-- The magnitude of a difference. -/
def dist (a b : Int) : Nat := (a - b).natAbs

/-- 2^24 ju, one joint turn. -/
def turn : Int := 16777216

/-- The least and the greatest angle (00_scope.md, Numbers and ranges). -/
def angleMin : Int := -67108864
def angleMax : Int := 67108863

def angleInRange (a : Int) : Bool := decide (angleMin ≤ a) && decide (a ≤ angleMax)

/-- Limits an integer to an interval. -/
def clampInt (lo hi x : Int) : Int := if x < lo then lo else if hi < x then hi else x

def clampAngle (a : Int) : Int := clampInt angleMin angleMax a

/-- The limits of the motor count M (1.2). -/
def countMin : Int := -2147483648
def countMax : Int := 2147483647

def countInRange (m : Int) : Bool := decide (countMin ≤ m) && decide (m ≤ countMax)

/-- A difference of two single-turn values reduced modulo CPR into (−CPR/2, CPR/2] (R7). -/
def unwrapStep (cpr : Nat) (new old : Nat) : Int :=
  let d := ((new : Int) - (old : Int)) % (cpr : Int)
  if (cpr : Int) < 2 * d then d - (cpr : Int) else d

/-- A counter raised by 1 up to a limit. -/
def bump (limit n : Nat) : Nat := min limit (n + 1)

/-- The time between two values of the millisecond count, modulo 2^32 (R186). -/
def elapsed (now start : Ms) : Nat := (now - start).toNat

/-! ### Stations, tables and masks -/

def Station.all : List Station := [.j1, .j2, .j3, .j4, .j5, .j6]

/-- The station number n of joint Jn. -/
def stationNumber : Station → Nat
  | .j1 => 1 | .j2 => 2 | .j3 => 3 | .j4 => 4 | .j5 => 5 | .j6 => 6

/-- The station that a number names; 0 and 7 and every greater number name none (R185). -/
def stationOf : Nat → Option Station
  | 1 => some .j1 | 2 => some .j2 | 3 => some .j3 | 4 => some .j4 | 5 => some .j5 | 6 => some .j6
  | _ => none

/-- The mask of one station: station k is bit k − 1. -/
def stationBit : Station → StationMask
  | .j1 => 1#6 | .j2 => 2#6 | .j3 => 4#6 | .j4 => 8#6 | .j5 => 16#6 | .j6 => 32#6

def maskHas (m : StationMask) (k : Station) : Bool := m.getLsbD (stationNumber k - 1)

def maskAdd (m : StationMask) (k : Station) : StationMask := m ||| stationBit k

def maskDrop (m : StationMask) (k : Station) : StationMask := m &&& ~~~ stationBit k

/-- The mask of the stations that satisfy a test. -/
def maskOf (p : Station → Bool) : StationMask :=
  Station.all.foldl (fun m k => if p k then maskAdd m k else m) 0#6

/-- A table with one entry for each station number. -/
structure PerStation (α : Type) where
  s1 : α
  s2 : α
  s3 : α
  s4 : α
  s5 : α
  s6 : α
  deriving DecidableEq, Repr

def PerStation.get {α : Type} (t : PerStation α) : Station → α
  | .j1 => t.s1 | .j2 => t.s2 | .j3 => t.s3 | .j4 => t.s4 | .j5 => t.s5 | .j6 => t.s6

def PerStation.set {α : Type} (t : PerStation α) (k : Station) (a : α) : PerStation α :=
  match k with
  | .j1 => { t with s1 := a }
  | .j2 => { t with s2 := a }
  | .j3 => { t with s3 := a }
  | .j4 => { t with s4 := a }
  | .j5 => { t with s5 := a }
  | .j6 => { t with s6 := a }

def PerStation.all {α : Type} (a : α) : PerStation α := ⟨a, a, a, a, a, a⟩

def PerStation.map {α β : Type} (f : Station → α → β) (t : PerStation α) : PerStation β :=
  ⟨f .j1 t.s1, f .j2 t.s2, f .j3 t.s3, f .j4 t.s4, f .j5 t.s5, f .j6 t.s6⟩

/-! ### Grades -/

/-- The grade code of Table 2-2; the order of the grades is the order of the codes (R102). -/
def gradeCode : Grade → Nat
  | .lost => 0 | .coarse => 1 | .resolved => 2 | .restored => 3 | .referenced => 4

def gradeOf : Nat → Option Grade
  | 0 => some .lost | 1 => some .coarse | 2 => some .resolved | 3 => some .restored | 4 => some .referenced
  | _ => none

def gradeLt (a b : Grade) : Bool := decide (gradeCode a < gradeCode b)

def gradeLe (a b : Grade) : Bool := decide (gradeCode a ≤ gradeCode b)

/-- The lower of two grades. -/
def gradeMin (a b : Grade) : Grade := if gradeLe a b then a else b

/-! ### Codes of Table 2-2 and Table 10-1 -/

def phaseCode : Phase → Nat
  | .config => 0 | .muster => 1 | .recovery => 2 | .ready => 3 | .reference => 4 | .faulted => 5 | .down => 6

def phaseOf : Nat → Option Phase
  | 0 => some .config | 1 => some .muster | 2 => some .recovery | 3 => some .ready | 4 => some .reference
  | 5 => some .faulted | 6 => some .down
  | _ => none

def purposeCode : Purpose → Nat
  | .search => 1 | .park => 2

def purposeOf : Nat → Option Purpose
  | 1 => some .search | 2 => some .park
  | _ => none

def zoneIndexCode : ZoneIndex → Nat
  | .default => 0 | .z1 => 1 | .z2 => 2 | .z3 => 3 | .z4 => 4 | .combined => 14 | .noZone => 15

def zoneIndexOf : Nat → Option ZoneIndex
  | 0 => some .default | 1 => some .z1 | 2 => some .z2 | 3 => some .z3 | 4 => some .z4
  | 14 => some .combined | 15 => some .noZone
  | _ => none

def stopCode : StopCause → Nat
  | .motorSensorFault => 1 | .motorJump => 2 | .motorCountOverflow => 3 | .scaleFault => 4 | .scaleDrift => 5
  | .directiveUntaken => 6 | .wrongDirection => 7 | .unbiddenMotion => 8 | .linkTxFail => 9
  | .duplicateStation => 10

/-- The STOP causes in code order. -/
def StopCause.all : List StopCause :=
  [.motorSensorFault, .motorJump, .motorCountOverflow, .scaleFault, .scaleDrift, .directiveUntaken,
    .wrongDirection, .unbiddenMotion, .linkTxFail, .duplicateStation]

def stopOf : Nat → Option StopCause
  | 1 => some .motorSensorFault | 2 => some .motorJump | 3 => some .motorCountOverflow | 4 => some .scaleFault
  | 5 => some .scaleDrift | 6 => some .directiveUntaken | 7 => some .wrongDirection | 8 => some .unbiddenMotion
  | 9 => some .linkTxFail | 10 => some .duplicateStation
  | _ => none

def noteCode : NoteCause → Nat
  | .scaleDisagree => 32 | .slipDetected => 33 | .calAbsent => 34 | .storeTorn => 35 | .storeVerify => 36
  | .planMismatch => 37 | .musterIncomplete => 38 | .markLapse => 39 | .markClash => 40 | .referenceFail => 41
  | .referenceAborted => 42 | .claimConflict => 43 | .claimStale => 44 | .peerInconsistent => 45
  | .angleSaturated => 46 | .linkRxErrors => 47

/-- The cause code of STRAP_INVALID (Table 10-1). -/
def strapCode : Nat := 64

/-! ### Frame kinds -/

/-- The eight frame kinds, in class order (Table 2-1). -/
inductive FrameKind where
  | halt | powerDown | markCall | markReport | claim | release | status | hello
  deriving DecidableEq, Repr

def FrameKind.all : List FrameKind :=
  [.halt, .powerDown, .markCall, .markReport, .claim, .release, .status, .hello]

/-- The class of a frame kind (Table 2-1). -/
def frameClass : FrameKind → Nat
  | .halt => 0 | .powerDown => 1 | .markCall => 2 | .markReport => 3 | .claim => 4 | .release => 5
  | .status => 6 | .hello => 7

def frameKind : Frame → FrameKind
  | .halt _ => .halt
  | .powerDown _ => .powerDown
  | .markCall _ => .markCall
  | .markReport _ => .markReport
  | .claim _ => .claim
  | .release => .release
  | .status _ => .status
  | .hello _ => .hello

/-- A table with one entry for each frame kind. -/
structure PerKind (α : Type) where
  halt : α
  powerDown : α
  markCall : α
  markReport : α
  claim : α
  release : α
  status : α
  hello : α
  deriving DecidableEq, Repr

def PerKind.get {α : Type} (t : PerKind α) : FrameKind → α
  | .halt => t.halt | .powerDown => t.powerDown | .markCall => t.markCall | .markReport => t.markReport
  | .claim => t.claim | .release => t.release | .status => t.status | .hello => t.hello

def PerKind.set {α : Type} (t : PerKind α) (k : FrameKind) (a : α) : PerKind α :=
  match k with
  | .halt => { t with halt := a }
  | .powerDown => { t with powerDown := a }
  | .markCall => { t with markCall := a }
  | .markReport => { t with markReport := a }
  | .claim => { t with claim := a }
  | .release => { t with release := a }
  | .status => { t with status := a }
  | .hello => { t with hello := a }

def PerKind.all {α : Type} (a : α) : PerKind α := ⟨a, a, a, a, a, a, a, a⟩

/-! ### Characters -/

/-- A character from a number, modulo 256. -/
def byte (n : Nat) : Byte := BitVec.ofNat 8 n

/-- Two characters, the more significant first. -/
def bytes16 (w : BitVec 16) : List Byte := [w.extractLsb' 8 8, w.extractLsb' 0 8]

/-- A 32-bit two's-complement integer in four characters, the most significant first (R28). -/
def bytes32 (x : Int) : List Byte :=
  let w := BitVec.ofInt 32 x
  [w.extractLsb' 24 8, w.extractLsb' 16 8, w.extractLsb' 8 8, w.extractLsb' 0 8]

def word16 (h l : Byte) : BitVec 16 := h ++ l

/-- The integer that four characters carry in two's complement. -/
def int32 (a b c d : Byte) : Int := ((a ++ b ++ (c ++ d) : BitVec 32)).toInt

/-- One bit entering the CRC register: generator x^16 + x^12 + x^5 + 1 (R29). -/
def crcBit (r : BitVec 16) (b : Bool) : BitVec 16 :=
  if Bool.xor r.msb b then (r <<< 1) ^^^ 0x1021#16 else r <<< 1

/-- One character entering the CRC register, most significant bit first (R29). -/
def crcByte (r : BitVec 16) (c : Byte) : BitVec 16 :=
  [7, 6, 5, 4, 3, 2, 1, 0].foldl (fun r i => crcBit r (c.getLsbD i)) r

/-- The CRC-16 of the NJ36: the register starts at FFFFh, no reflection, no final inversion (R29). -/
def crc16 (cs : List Byte) : BitVec 16 := cs.foldl crcByte 0xFFFF#16

/-- The check byte of SPI commands and responses: the sum modulo 256 (R188). -/
def checkSum (cs : List Byte) : Byte := cs.foldl (· + ·) 0#8

end Sys2Proof.Machine
end

