-- ==== Sys2Proof/Machine/Blocks.lean ====
section
/-! DEFINITION. The state of each block of the NJ36 (Table 0-1) as plain data. One structure per block; the tables of
the manual that list a block's state are named in each docstring. -/

namespace Sys2Proof.Machine

/-! ### Timers -/

/-- A timer. A running timer holds the millisecond count at its start and its interval in milliseconds. `expired` is
used by the two timers whose expiry is remembered: HOLDOFF (R70) and the quiet timer (R67). -/
inductive Timer where
  | stopped
  | running (start : Ms) (interval : Nat)
  | expired
  deriving DecidableEq, Repr

/-! ### Setup (Table 11-4) -/

/-- Speed classes and caps, lowest first. -/
inductive Speed where
  | none | creep | reduced | full
  deriving DecidableEq, Repr

/-- The attributes of a zone: cap, homing flag, search direction (`plus` true for +). -/
structure ZoneAttr where
  cap : Speed
  homing : Bool
  plus : Bool
  deriving DecidableEq, Repr

/-- A zone record (R165). -/
structure ZoneRecord where
  low : Int
  high : Int
  attr : ZoneAttr
  deriving DecidableEq, Repr

/-- The arm plan (3.3). After GO it is the normalised plan. -/
structure Plan where
  h : Nat
  holdoff : Nat
  markTimeout : Nat
  lead : PerStation (Option Station)
  prereq : PerStation StationMask
  conflict : PerStation StationMask
  deriving DecidableEq, Repr

/-- The setup items of Table 11-4. -/
structure Setup where
  motorBits : Nat
  gearNum : Nat
  gearDen : Nat
  coupleNum : Int
  coupleDen : Nat
  scaleWraps : Bool
  scaleOffsetDefault : Int
  scaleTol : Nat
  slipTolRest : Nat
  slipTolMoving : Nat
  restTol : Nat
  restWindow : Nat
  travelLow : Int
  travelHigh : Int
  homeAngle : Int
  searchSpan : Nat
  flagWidthMin : Nat
  flagWidthMax : Nat
  overrun : Nat
  agree : Nat
  chatterMax : Nat
  settleTime : Nat
  startLevel : Nat
  parkAngle : Option Int
  prereqWait : Nat
  directiveTimeout : Nat
  stopAllowance : Nat
  zone1 : ZoneRecord
  zone2 : ZoneRecord
  zone3 : ZoneRecord
  zone4 : ZoneRecord
  defaultZone : ZoneAttr
  zoneDwell : Nat
  concernMask : StationMask
  plan : Plan
  deriving DecidableEq, Repr

/-! ### Station, straps and pins -/

/-- The kinds of reset (R186). -/
inductive ResetKind where
  | por | pin | command
  deriving DecidableEq, Repr

/-- The straps as latched at the most recent reset, and its kind (R185, R193). -/
structure Straps where
  st : BitVec 3
  lr : Bool
  lastReset : ResetKind
  deriving DecidableEq, Repr

/-- The levels sensed at the pins: PFAIL (R99), ALH (R64), RST_N held low, and whether a POR fell within the present
low of RST_N (R186). -/
structure Levels where
  pfail : Bool
  alhHigh : Bool
  rstLow : Bool
  porInLow : Bool
  deriving DecidableEq, Repr

/-! ### Sensor front end and reckoning unit (Table 1-1) -/

structure Sensor where
  latestMotor : Option Nat
  badMotor : Nat
  latestScale : Option Nat
  badScale : Nat
  flagLevel : Option Bool
  deriving DecidableEq, Repr

/-- The angle basis (R13). -/
inductive Basis where
  | none | counts | scale
  deriving DecidableEq, Repr

structure Anchor where
  count : Int
  time : Ms
  deriving DecidableEq, Repr

structure Reckoning where
  count : Int
  started : Bool
  lastGood : Option Nat
  held : Bool
  turnOffset : Int
  theta0 : Int
  sigma : Int
  calibrated : Bool
  lambda : Int
  lambdaSource : Bool
  basis : Basis
  theta : Option Int
  saturated : Bool
  thetaScale : Option Int
  anchor : Option Anchor
  atRest : Bool
  drift : Nat
  deriving DecidableEq, Repr

/-! ### Link interface (Table 2-4) -/

/-- A transmission attempt: the frame on the line with its characters (R28, R33). `replaced` is set when a frame of
the same kind is handed over during the attempt. -/
structure Attempt where
  frame : Frame
  chars : List Byte
  replaced : Bool
  deriving DecidableEq, Repr

/-- Where the link interface stands (R27, R31, R34, R39): it waits for the line to become idle, after a reset and after
every frame; the line is idle; it sends; it takes as a receiver the frame that won arbitration; or it has abandoned its own
frame at a bit error, and the damaged frame is still on the line. -/
inductive LineState where
  | waitingForIdle
  | idle
  | sending (a : Attempt)
  | receiving
  | abandoned
  deriving DecidableEq, Repr

structure Link where
  line : LineState
  queue : PerKind (Option Frame)
  bitErrors : PerKind Nat
  txErrors : Nat
  rxErrors : Nat
  txFail : Bool
  lastDuplicate : Option Ms
  heartbeat : Timer
  deriving DecidableEq, Repr

/-! ### Peer Table (Table 3-1) -/

inductive Presence where
  | absent | alive | stale | silent | down
  deriving DecidableEq, Repr

/-- An entry of the Peer Table. `gradeFromReport` is the grade unit's note of R104: the most recent frame that carried
a grade was the MARK_REPORT. -/
structure PeerEntry where
  presence : Presence
  silence : Nat
  heard : Bool
  heardInMuster : Bool
  phase : Phase
  grade : Grade
  angle : Option Int
  atRest : Bool
  claim : Bool
  fault : Bool
  saturated : Bool
  purpose : Option Purpose
  haltCause : Option StopCause
  zone : ZoneIndex
  markNumber : Byte
  digest : Option (BitVec 16)
  digestMatch : Bool
  mismatchReported : Bool
  report : Option MarkReport
  lastHeard : Option Ms
  gradeFromReport : Bool
  deriving DecidableEq, Repr

/-- The Peer Table with the muster timer and the own plan digest (R58, R60). -/
structure Peers where
  entries : PerStation PeerEntry
  musterTimer : Timer
  digest : Option (BitVec 16)
  deriving DecidableEq, Repr

/-! ### Mark unit (Table 4-2) -/

inductive MarkState where
  | idle | holding | awaitEdge | collecting
  deriving DecidableEq, Repr

/-- A set of capture needs (R65). -/
structure Needs where
  recovery : Bool
  reMark : Bool
  calibrate : Bool
  drive : Bool
  deriving DecidableEq, Repr

/-- The answer to a capture request (R24). A failed capture has `good` false and carries no values; `scaleCount` is S_m. -/
structure Capture where
  good : Bool
  pM : Nat
  count : Int
  theta : Option Int
  lambda : Option Int
  scaleCount : Option Nat
  scaleValid : Bool
  atRest : Bool
  deriving DecidableEq, Repr

inductive MarkOutcome where
  | none | complete | partialMark | lapsed | abandoned
  deriving DecidableEq, Repr

structure Mark where
  state : MarkState
  number : Byte
  reported : StationMask
  needs : Needs
  holdoff : Timer
  timeout : Timer
  collection : Timer
  leadWait : Timer
  quiet : Timer
  lapses : Nat
  completedMark : Bool
  outcome : MarkOutcome
  outcomeNumber : Byte
  missing : StationMask
  edgeTime : Option Ms
  lastCapture : Option Capture
  captureRequested : Bool
  serving : Needs
  reportAwaiting : Bool
  deriving DecidableEq, Repr

/-! ### Snapshot store (Table 5-1, Table 5-2, Table 5-3) -/

inductive SnapState where
  | sound | void
  deriving DecidableEq, Repr

inductive SnapCause where
  | rest | powerFail | gradeLoss | reference
  deriving DecidableEq, Repr

/-- The contents of a snapshot request, fixed when it is made (R88). -/
structure SnapRequest where
  state : SnapState
  cause : SnapCause
  grade : Grade
  atRest : Bool
  count : Int
  theta : Option Int
  lambda : Option Int
  calSeq : Option (BitVec 16)
  markNumber : Byte
  deriving DecidableEq, Repr

/-- A snapshot record (Table 5-1): a request with the sequence that the store assigned. -/
structure SnapRecord where
  seq : BitVec 16
  body : SnapRequest
  deriving DecidableEq, Repr

/-- The fields of a calibration record that the reference sequencer supplies (R85). -/
structure CalRequest where
  theta0 : Int
  sigma : Int
  centre : Int
  level : Nat
  passes : Nat
  lastDelta : Nat
  deriving DecidableEq, Repr

structure CalRecord where
  seq : BitVec 16
  body : CalRequest
  deriving DecidableEq, Repr

/-- The image of a snapshot slot: its class and, when valid, its contents (R83, R86). -/
inductive SlotImage where
  | unread | writing | empty | torn
  | valid (r : SnapRecord)
  deriving DecidableEq, Repr

inductive CalImage where
  | unread | writing | empty | torn
  | valid (r : CalRecord)
  deriving DecidableEq, Repr

inductive Slot where
  | a | b
  deriving DecidableEq, Repr

/-- A write in flight, with its target (R89). -/
inductive Write where
  | snap (target : Slot) (r : SnapRecord)
  | cal (r : CalRecord)
  deriving DecidableEq, Repr

/-- The store: the non-volatile cells as their characters, and the store's own state. -/
structure Store where
  cellsA : List Byte
  cellsB : List Byte
  cellsCal : List Byte
  imageA : SlotImage
  imageB : SlotImage
  imageCal : CalImage
  scanDone : Bool
  pendingCal : Option CalRequest
  pendingSnap : Option SnapRequest
  inFlight : Option Write
  calSeq : Option (BitVec 16)
  restRetry : Bool
  finalWrite : Bool
  deriving DecidableEq, Repr

/-! ### Grade and recovery unit (Table 6-4) -/

inductive RecoverySub where
  | idle | reading | marking | leadWait
  deriving DecidableEq, Repr

/-- What a decision knows of its lead's report of the mark (R73). -/
inductive LeadReport where
  | awaited
  | present (r : MarkReport)
  | missing
  deriving DecidableEq, Repr

/-- The snapshot chosen at recovery (R108). -/
structure ChosenSnapshot where
  slot : Slot
  r : SnapRecord
  deriving DecidableEq, Repr

/-- A turn-confirm candidate: n, θ(n) and its joint turn (R112). -/
structure Candidate where
  n : Int
  theta : Int
  jointTurn : Int
  deriving DecidableEq, Repr

inductive DecisionKind where
  | recovery | reMark | turnConfirm
  deriving DecidableEq, Repr

inductive Course where
  | noCalibration | noLead | resolution
  deriving DecidableEq, Repr

/-- The last decision as R120 returns it. A TURN_CONFIRM has no course. -/
structure Decision where
  kind : DecisionKind
  markNumber : Byte
  course : Option Course
  k : Nat
  agreed : Nat
  result : Grade
  n : Option Int
  deriving DecidableEq, Repr

structure GradeUnit where
  grade : Grade
  capped : Bool
  recordedLead : Option Grade
  sub : RecoverySub
  readPending : Bool
  held : Option Capture
  leadReport : LeadReport
  chosen : Option ChosenSnapshot
  recoveryAnchor : Option Int
  candidates : List Candidate
  candidateCapture : Option Capture
  lastDecision : Option Decision
  deriving DecidableEq, Repr

/-! ### Claim and directive unit (Table 7-4) -/

inductive ClaimState where
  | none | waiting | queued | held | releasing
  deriving DecidableEq, Repr

inductive DirKind where
  | jogPos | jogNeg | moveTo | stop
  deriving DecidableEq, Repr

inductive DirState where
  | none | posted | taken | settled
  deriving DecidableEq, Repr

/-- The directive record (Table 7-3). -/
structure Directive where
  number : Nat
  kind : Option DirKind
  speed : Option Nat
  target : Option Int
  postedTime : Option Ms
  taken : Bool
  deriving DecidableEq, Repr

/-- The claim and directive unit. `takePoint` is M at the take of the current directive; `allowanceStop` is the number
of the STOP whose allowance expired, while that STOP has not settled (R137). -/
structure Claim where
  state : ClaimState
  wanted : Bool
  purpose : Option Purpose
  dirState : DirState
  dir : Directive
  lastNumber : Nat
  untakenOpen : Bool
  untakenReported : Bool
  untakenSince : Option Ms
  untakenTimer : Timer
  allowance : Timer
  furthest : Option Int
  still : Option Int
  takePoint : Option Int
  allowanceStop : Option Nat
  deriving DecidableEq, Repr

/-! ### Reference sequencer (Table 8-1, Table 8-2) -/

inductive SearchSub where
  | none | waitPrereq | claiming | clear | forward | reverse | settle | evaluate | calibrate | park | release
  deriving DecidableEq, Repr

inductive FailCause where
  | prereqTimeout | flagNotFound | noConvergence | interrupted | leadUnsettled
  deriving DecidableEq, Repr

inductive AbortReason where
  | command | halt | claimConflict
  deriving DecidableEq, Repr

inductive SearchOutcome where
  | none | completed
  | failed (c : FailCause)
  | aborted (r : AbortReason)
  | endedByFault | endedByPower
  deriving DecidableEq, Repr

inductive WriteOutcome where
  | none | verified | failed | replaced
  deriving DecidableEq, Repr

inductive ParkOutcome where
  | none | reached | overtravel | interrupted | notRequested
  deriving DecidableEq, Repr

/-- Where the move of the present sub-state stands: none, due and waiting for ALH to rise, posted, or ended by a
STOP that has not settled (R148). -/
inductive MoveStage where
  | none | due | underway | stopping
  deriving DecidableEq, Repr

/-- The search record. `stage`, `returning`, `awaitingWrite` and `parkLimit` are the sequencer's working state for the
rules R148, R155, R158 and R159. -/
structure Search where
  sub : SearchSub
  plus : Bool
  level : Nat
  passes : Nat
  total : Nat
  interruptions : Nat
  prevCentre : Option Int
  e1 : Option Int
  e2 : Option Int
  e3 : Option Int
  e4 : Option Int
  passStart : Option Int
  moveStart : Option Int
  clearPoint : Option Int
  restartPending : Bool
  chatter : Nat
  centre : Option Int
  lastDelta : Option Nat
  theta0 : Option Int
  sigma : Option Int
  heldLambda : Option Int
  leadHold : Bool
  prereqTimer : Timer
  settleFirst : Timer
  settleSecond : Timer
  outcome : SearchOutcome
  calWrite : WriteOutcome
  refSnapshot : WriteOutcome
  parkOutcome : ParkOutcome
  stage : MoveStage
  returning : Bool
  awaitingWrite : Bool
  parkLimit : Option Nat
  deriving DecidableEq, Repr

/-! ### Zone unit (Table 9-4) -/

/-- The stored state of the zone unit; the effective attributes, the concern set, the arm grade, SPD and BRK_EN are
computed (Machine/Flags.lean). -/
structure Zone where
  capInForce : Speed
  pendingCap : Option Speed
  dwell : Timer
  deriving DecidableEq, Repr

/-! ### Fault capture (Table 10-2) -/

inductive FaultCause where
  | stop (c : StopCause)
  | note (c : NoteCause)
  | strapInvalid
  deriving DecidableEq, Repr

/-- The first-fault record (Table 10-2). The class is the constructor of `cause`. -/
structure FaultRecord where
  cause : Option FaultCause
  phase : Option Phase
  station : Option Station
  a : Int
  b : Int
  markNumber : Byte
  time : Ms
  locked : Bool
  lost : Nat
  carried : Bool
  deriving DecidableEq, Repr

/-- Fault capture: the record and the stop set (R182). `unbiddenStop` and `unbiddenStill` say with which first value,
1 or 2, UNBIDDEN_MOTION joined the stop set. -/
structure FaultCapture where
  record : FaultRecord
  stopSet : List StopCause
  unbiddenStop : Bool
  unbiddenStill : Bool
  deriving DecidableEq, Repr

/-- The attention causes that are stored; PEER is pending while the changed-peer mask is not empty (R192). -/
structure Attention where
  fault : Bool
  directive : Bool
  grade : Bool
  mark : Bool
  referenceDone : Bool
  deriving DecidableEq, Repr

end Sys2Proof.Machine
end

