-- ==== Sys2Proof/Machine/Responses.lean ====
section
/-! DEFINITION. The answers of the drive port: the status codes and reasons of Table 11-2, and the response data of
each command as the fields its rule names. The manual gives the fields, for most of them no widths of their characters, and
their order for few, so the data are held as fields (assumption log 9). -/

namespace Sys2Proof.Machine

/-- The status codes of Table 11-2. -/
inductive Status where
  | ok | clamped | wrongPhase | refused | badItem | checkError | unknown
  deriving DecidableEq, Repr

/-- The reason codes of Table 11-2; `none` is reason character 0. -/
inductive Reason where
  | none | stillPresent | markBusy | noList | busy | lead | candidate | grade | zone | present | planCycle
  | travel | strap
  deriving DecidableEq, Repr

/-- The part of the status data for the station (R193). `station` is the station number, 0 when the strap is
invalid (R185). -/
structure StationPart where
  phase : Phase
  station : Nat
  lr : Bool
  lastReset : ResetKind
  ms : Ms
  pfail : Bool
  deriving DecidableEq, Repr

structure AttentionPart where
  fault : Bool
  directive : Bool
  grade : Bool
  peer : Bool
  mark : Bool
  referenceDone : Bool
  changedPeers : StationMask
  deriving DecidableEq, Repr

structure ReckoningPart where
  motor : Option Nat
  count : Option Int
  held : Bool
  motorFailed : Bool
  scaleFailed : Bool
  scale : Option Nat
  theta : Option Int
  thetaScale : Option Int
  basis : Basis
  saturated : Bool
  atRest : Bool
  lambda : Int
  drift : Nat
  turnOffset : Int
  deriving DecidableEq, Repr

structure LinkPart where
  txErrors : Nat
  rxErrors : Nat
  txFail : Bool
  deriving DecidableEq, Repr

structure FaultPart where
  locked : Bool
  lost : Nat
  cause : Option FaultCause
  deriving DecidableEq, Repr

/-- The own last capture as R81 returns it. A failed one carries no values, and one before the first good scale value no
S_m: what these fields then return the manual does not say (DESIGN CHOICE, log 62). -/
structure CapturePart where
  good : Bool
  scaleValid : Bool
  pM : Option Nat
  count : Option Int
  scaleCount : Option Nat
  theta : Option Int
  deriving DecidableEq, Repr

structure MarkPart where
  state : MarkState
  ownPull : Bool
  alhHigh : Bool
  number : Byte
  lapses : Nat
  completedMark : Bool
  needs : Needs
  outcome : MarkOutcome
  outcomeNumber : Byte
  missing : StationMask
  edgeTime : Option Ms
  lastCapture : Option CapturePart
  deriving DecidableEq, Repr

/-- What the store is doing (R97). -/
inductive StoreActivity where
  | idle | scanning
  | writingSnapshot (target : Slot) (cause : SnapCause)
  | writingCalibration
  deriving DecidableEq, Repr

structure StorePart where
  activity : StoreActivity
  pendingCal : Bool
  pendingSnap : Option SnapCause
  newest : Option Slot
  calSeq : Option (BitVec 16)
  restRetry : Bool
  finalWrite : Option Bool
  deriving DecidableEq, Repr

/-- The chosen snapshot as R120 returns it. -/
structure ChosenPart where
  slot : Slot
  seq : BitVec 16
  theta : Option Int
  atRest : Bool
  deriving DecidableEq, Repr

/-- R120. `leadGrade` is a grade code, 0 for an uncoupled station. -/
structure GradePart where
  grade : Grade
  ceiling : Grade
  capped : Bool
  basis : Basis
  leadGrade : Nat
  sub : RecoverySub
  chosen : Option ChosenPart
  lastDecision : Option Decision
  candidates : List Candidate
  turnOffset : Int
  deriving DecidableEq, Repr

/-- The obedience check in force with its anchor point (R141). -/
inductive CheckInForce where
  | none
  | wrongDirection (furthest : Option Int)
  | stopAllowance (taken : Option Int)
  | stillness (point : Option Int)
  | moveTo (taken : Option Int)
  deriving DecidableEq, Repr

structure ClaimPart where
  state : ClaimState
  wanted : Bool
  flag : Bool
  purpose : Option Purpose
  blockingClaims : StationMask
  blockingMotion : StationMask
  dir : Directive
  dirState : DirState
  untakenOpen : Bool
  untakenReported : Bool
  untakenFor : Option Nat
  check : CheckInForce
  deriving DecidableEq, Repr

structure SearchPart where
  sub : SearchSub
  restartPending : Bool
  plus : Bool
  level : Nat
  passes : Nat
  total : Nat
  interruptions : Nat
  prevCentre : Option Int
  e1 : Option Int
  e2 : Option Int
  e3 : Option Int
  e4 : Option Int
  chatter : Nat
  passStart : Option Int
  clearPoint : Option Int
  prereqRemaining : Option Nat
  centre : Option Int
  lastDelta : Option Nat
  theta0 : Option Int
  sigma : Option Int
  heldLambda : Option Int
  outcome : SearchOutcome
  calWrite : WriteOutcome
  refSnapshot : WriteOutcome
  parkOutcome : ParkOutcome
  deriving DecidableEq, Repr

/-- The conditions of R173 in their order; the first that fails is returned with BRK_EN (R174). -/
inductive BrakeBar where
  | none | phase | grade | powerFail
  deriving DecidableEq, Repr

/-- The members of R167's member set: bit 0 the default zone, bit n zone n (R174). -/
abbrev MemberMask := BitVec 5

structure ZonePart where
  index : ZoneIndex
  members : MemberMask
  cap : Speed
  homing : Bool
  plus : Bool
  capInForce : Speed
  pendingCap : Option Speed
  dwellRemaining : Option Nat
  concern : StationMask
  armGrade : Grade
  atArmGrade : StationMask
  gradeCap : Speed
  spd : Speed
  brkEn : Bool
  brakeBar : BrakeBar
  deriving DecidableEq, Repr

/-- The own status data (R193), its parts in the manual's order. -/
structure StatusData where
  station : StationPart
  attention : AttentionPart
  reckoning : ReckoningPart
  link : LinkPart
  fault : FaultPart
  mark : MarkPart
  store : StorePart
  grade : GradePart
  claim : ClaimPart
  search : SearchPart
  zone : ZonePart
  deriving DecidableEq, Repr

/-- One part of the own status data, as the table of R193 lists them. -/
inductive StatusSection where
  | station (p : StationPart)
  | attention (p : AttentionPart)
  | reckoning (p : ReckoningPart)
  | link (p : LinkPart)
  | fault (p : FaultPart)
  | mark (p : MarkPart)
  | store (p : StorePart)
  | grade (p : GradePart)
  | claim (p : ClaimPart)
  | search (p : SearchPart)
  | zone (p : ZonePart)
  deriving DecidableEq, Repr

/-- The data of PEER_READ (R55). The purpose and the HALT cause are codes, 0 when absent, and the report is all 0 when its
present flag is clear. -/
structure PeerData where
  station : Station
  presence : Presence
  silence : Nat
  phase : Phase
  grade : Grade
  angle : Option Int
  atRest : Bool
  claim : Bool
  fault : Bool
  saturated : Bool
  digestMatch : Bool
  reportPresent : Bool
  purpose : Nat
  haltCause : Nat
  zone : ZoneIndex
  markNumber : Byte
  digest : Option (BitVec 16)
  report : MarkReport
  age : Nat
  deriving DecidableEq, Repr

/-- The data of DIRECTIVE_TAKE (R134). -/
structure DirectiveData where
  number : Nat
  kind : Option DirKind
  speed : Option Nat
  target : Option Int
  postedTime : Option Ms
  state : DirState
  deriving DecidableEq, Repr

/-- The classes of a slot and of the calibration record as STORE_READ returns them (R97). -/
inductive SlotClass where
  | unread | writing | empty | torn | sound | void
  deriving DecidableEq, Repr

inductive CalClass where
  | unread | writing | empty | torn | valid
  deriving DecidableEq, Repr

/-- The class of a slot with the characters of the fields of Table 5-1, the check word among them, when it is SOUND or VOID,
and all zero otherwise (R97). -/
structure SlotFields where
  cls : SlotClass
  fields : List Byte
  deriving DecidableEq, Repr

/-- The class of the calibration record with the characters of the fields of Table 5-2 when it is VALID, and all zero
otherwise (R97). -/
structure CalFields where
  cls : CalClass
  fields : List Byte
  deriving DecidableEq, Repr

/-- The first-fault record as FAULT_READ returns it: the fields of Table 10-2, the station concerned 0 for none, with the
stop set, each member marked present or not (R184). -/
structure FaultData where
  cause : Option FaultCause
  phase : Option Phase
  station : Nat
  a : Int
  b : Int
  markNumber : Byte
  time : Ms
  locked : Bool
  lost : Nat
  carried : Bool
  stopSet : List (StopCause × Bool)
  deriving DecidableEq, Repr

/-- The data of STORE_READ (R97): a slot with its newest flag, or the calibration record, which has none (DESIGN CHOICE, log
86). -/
inductive StoreData where
  | slot (which : Slot) (fields : SlotFields) (newest : Bool)
  | calibration (fields : CalFields)
  deriving DecidableEq, Repr

/-- The response data by command. -/
inductive ResponseData where
  | none
  | reset (kind : ResetKind) (st : BitVec 3) (lr : Bool)
  | status (d : StatusData)
  | peer (d : PeerData)
  | fault (d : FaultData)
  | stillPresent (cause : StopCause)
  | directive (d : DirectiveData)
  | store (d : StoreData)
  | setup (item : Nat) (index : Nat) (value : Option Int)
  | go (tau : Int) (span : Int) (digest : BitVec 16)
  deriving DecidableEq, Repr

/-- A response (R188): status, echoed command code, reason, data. Its characters are in Machine/Characters.lean. -/
structure Response where
  status : Status
  echo : Byte
  reason : Reason
  data : ResponseData
  deriving DecidableEq, Repr

/-- What the part shifted out in the last transaction (R187): nothing yet, FFh throughout, or the response slot. -/
inductive ShiftedOut where
  | nothing
  | allOnes
  | response (r : Response)
  deriving DecidableEq, Repr

/-- The drive port (Table 11-6). ATN and the PEER cause are computed (Machine/Flags.lean). -/
structure Port where
  slot : Response
  shifted : ShiftedOut
  transaction : Option (List Byte)
  lastEnd : Option Ms
  setup : Setup
  frozen : Bool
  tau : Option Int
  span : Option Int
  attention : Attention
  changedPeers : StationMask
  deriving DecidableEq, Repr

end Sys2Proof.Machine
end

