-- ==== Sys2Proof/Config.lean ====
section
/-! DEFINITION. The free values: constants with no body, one for each value that the manual leaves unstated although
the command that produces it runs on (assumption log 9, 12, 14, 15, 21, 36, 38). Nothing can be proved of their values. -/

namespace Sys2Proof.Config

/-- DESIGN CHOICE (log 9). The characters of the data of an answer whose layout the manual does not give (R188). The own
status data do not take it: they are made of their parts, whose order R193 gives. -/
opaque dataLayout : Machine.ResponseData → List (BitVec 8)

/-- DESIGN CHOICE (log 9). The characters of one part of the own status data, whose layout the manual does not give (R193). -/
opaque sectionLayout : Machine.StatusSection → List (BitVec 8)

/-- DESIGN CHOICE (log 12). The 32 bits that a four-character or fault value field carries for an integer outside
the signed 32-bit range (R85, R177). -/
opaque outside32 : Int → BitVec 32

/-- DESIGN CHOICE (log 14). The motor-count distance to the park target when θ is absent at the take (R159). -/
opaque parkDistance : Nat → Nat

/-- DESIGN CHOICE (log 15). The echoed command code of the answer to a transaction of no characters (R188). -/
opaque emptyEcho : Nat → BitVec 8

/-- DESIGN CHOICE (log 21). The speed level that a posted STOP of a given number carries (R132, R133). -/
opaque stopSpeed : Nat → BitVec 2

/-- DESIGN CHOICE (log 36). The mark number that the last decision shows after a TURN_CONFIRM (R120). -/
opaque confirmMark : Nat → BitVec 8

/-- DESIGN CHOICE (log 36). The k that the last decision shows after a TURN_CONFIRM (R120). -/
opaque confirmCount : Nat → Nat

/-- DESIGN CHOICE (log 36). The number of candidates that the snapshot agreed with, as the last decision shows it after a
TURN_CONFIRM (R120). -/
opaque confirmAgreed : Nat → Nat

/-- DESIGN CHOICE (log 38). The claim purpose code of a CLAIM_STALE for an entry that holds no purpose (R53). -/
opaque stalePurpose : Nat → BitVec 8

end Sys2Proof.Config
end

