-- ==== Sys2Proof/Machine/ResetValues.lean ====
section
/-! DEFINITION. The value of each block's state after a reset, as the block's own table gives it (R186). -/

namespace Sys2Proof.Machine

/-- A disabled zone (R165). -/
def zoneDisabled : ZoneRecord := { low := 0, high := 0, attr := { cap := .none, homing := false, plus := true } }

/-- Table 11-4's defaults. -/
def setupDefault : Setup where
  motorBits := 14
  gearNum := 100
  gearDen := 1
  coupleNum := 0
  coupleDen := 1
  scaleWraps := false
  scaleOffsetDefault := 0
  scaleTol := 65536
  slipTolRest := 4096
  slipTolMoving := 65536
  restTol := 16
  restWindow := 200
  travelLow := -33554432
  travelHigh := 33554432
  homeAngle := 0
  searchSpan := 4194304
  flagWidthMin := 64
  flagWidthMax := 65536
  overrun := 2048
  agree := 8
  chatterMax := 1
  settleTime := 100
  startLevel := 1
  parkAngle := none
  prereqWait := 30
  directiveTimeout := 50
  stopAllowance := 300
  zone1 := zoneDisabled
  zone2 := zoneDisabled
  zone3 := zoneDisabled
  zone4 := zoneDisabled
  defaultZone := { cap := .full, homing := true, plus := true }
  zoneDwell := 200
  concernMask := 0x3F#6
  plan :=
    { h := 10, holdoff := 4, markTimeout := 250
      lead := PerStation.all none
      prereq := PerStation.all 0#6
      conflict := PerStation.all 0#6 }

/-- Table 1-1, sensor front end. -/
def sensorReset : Sensor where
  latestMotor := none
  badMotor := 0
  latestScale := none
  badScale := 0
  flagLevel := none

/-- Table 1-1, reckoning unit. σ is SCALE_OFFSET_DEFAULT, whose default is 0 (R11). -/
def reckoningReset : Reckoning where
  count := 0
  started := false
  lastGood := none
  held := false
  turnOffset := 0
  theta0 := 0
  sigma := setupDefault.scaleOffsetDefault
  calibrated := false
  lambda := 0
  lambdaSource := false
  basis := .none
  theta := none
  saturated := false
  thetaScale := none
  anchor := none
  atRest := false
  drift := 0

/-- Table 2-4. -/
def linkReset : Link where
  line := .waitingForIdle
  queue := PerKind.all none
  bitErrors := PerKind.all 0
  txErrors := 0
  rxErrors := 0
  txFail := false
  lastDuplicate := none
  heartbeat := .stopped

/-- Table 3-1's last column. -/
def entryReset : PeerEntry where
  presence := .absent
  silence := 0
  heard := false
  heardInMuster := false
  phase := .config
  grade := .lost
  angle := none
  atRest := false
  claim := false
  fault := false
  saturated := false
  purpose := none
  haltCause := none
  zone := .noZone
  markNumber := 0#8
  digest := none
  digestMatch := false
  mismatchReported := false
  report := none
  lastHeard := none
  gradeFromReport := false

def peersReset : Peers where
  entries := PerStation.all entryReset
  musterTimer := .stopped
  digest := none

def needsNone : Needs := { recovery := false, reMark := false, calibrate := false, drive := false }

/-- Table 4-2. With the outcome NONE go mark number 0 and an empty missing set (DESIGN CHOICE, log 61). -/
def markReset : Mark where
  state := .idle
  number := 0#8
  reported := 0#6
  needs := needsNone
  holdoff := .stopped
  timeout := .stopped
  collection := .stopped
  leadWait := .stopped
  quiet := .stopped
  lapses := 0
  completedMark := false
  outcome := .none
  outcomeNumber := 0#8
  missing := 0#6
  edgeTime := none
  lastCapture := none
  captureRequested := false
  serving := needsNone
  reportAwaiting := false

/-- The number of characters of a snapshot record and of a calibration record (Table 5-1, Table 5-2). -/
def snapLength : Nat := 23
def calLength : Nat := 20

/-- The erased pattern, FFh in every character (R86). -/
def erasedCells (n : Nat) : List Byte := List.replicate n 0xFF#8

/-- Table 5-3, over given cells: a reset leaves the non-volatile cells as they stand (R101). -/
def storeReset (cellsA cellsB cellsCal : List Byte) : Store where
  cellsA := cellsA
  cellsB := cellsB
  cellsCal := cellsCal
  imageA := .unread
  imageB := .unread
  imageCal := .unread
  scanDone := false
  pendingCal := none
  pendingSnap := none
  inFlight := none
  calSeq := none
  restRetry := false
  finalWrite := false

/-- Table 6-4. -/
def gradeReset : GradeUnit where
  grade := .lost
  capped := false
  recordedLead := none
  sub := .idle
  readPending := false
  held := none
  leadReport := .awaited
  chosen := none
  recoveryAnchor := none
  candidates := []
  candidateCapture := none
  lastDecision := none

/-- The directive record of number 0, its other fields absent (R132). -/
def directiveReset : Directive where
  number := 0
  kind := none
  speed := none
  target := none
  postedTime := none
  taken := false

/-- Table 7-4. -/
def claimReset : Claim where
  state := .none
  wanted := false
  purpose := none
  dirState := .none
  dir := directiveReset
  lastNumber := 0
  untakenOpen := false
  untakenReported := false
  untakenSince := none
  untakenTimer := .stopped
  allowance := .stopped
  furthest := none
  still := none
  takePoint := none
  allowanceStop := none

/-- Table 8-1's last column. -/
def searchReset : Search where
  sub := .none
  plus := true
  level := 0
  passes := 0
  total := 0
  interruptions := 0
  prevCentre := none
  e1 := none
  e2 := none
  e3 := none
  e4 := none
  passStart := none
  moveStart := none
  clearPoint := none
  restartPending := false
  chatter := 0
  centre := none
  lastDelta := none
  theta0 := none
  sigma := none
  heldLambda := none
  leadHold := false
  prereqTimer := .stopped
  settleFirst := .stopped
  settleSecond := .stopped
  outcome := .none
  calWrite := .none
  refSnapshot := .none
  parkOutcome := .none
  stage := .none
  returning := false
  awaitingWrite := false
  parkLimit := none

/-- Table 9-4. -/
def zoneReset : Zone where
  capInForce := .none
  pendingCap := none
  dwell := .stopped

/-- Table 10-2's last column. -/
def recordReset : FaultRecord where
  cause := none
  phase := none
  station := none
  a := 0
  b := 0
  markNumber := 0#8
  time := 0#32
  locked := false
  lost := 0
  carried := false

/-- Fault capture after a reset that leaves `record`; the stop set is emptied by every reset (R184). -/
def faultReset (record : FaultRecord) : FaultCapture where
  record := record
  stopSet := []
  unbiddenStop := false
  unbiddenStill := false

/-- The reset response (R187). -/
def resetResponse (kind : ResetKind) (st : BitVec 3) (lr : Bool) : Response where
  status := .ok
  echo := 0x1F#8
  reason := .none
  data := .reset kind st lr

/-- Table 11-6; the FAULT cause is set at the end of a reset that carried a locked record (R184, R192). -/
def portReset (kind : ResetKind) (st : BitVec 3) (lr : Bool) (faultAttention : Bool) (shifted : ShiftedOut) : Port where
  slot := resetResponse kind st lr
  shifted := shifted
  transaction := none
  lastEnd := none
  setup := setupDefault
  frozen := false
  tau := none
  span := none
  attention :=
    { fault := faultAttention, directive := false, grade := false, mark := false, referenceDone := false }
  changedPeers := 0#6

end Sys2Proof.Machine
end

