-- ==== Sys2Proof/Machine/State.lean ====
section
/-! DEFINITION. The state of the NJ36 as plain data, the reasons a step could stop, and the state after a power-on reset. -/

namespace Sys2Proof.Machine

/-- Faults of the model: none. Every command of the NJ36 has an effect that the manual states, so no meaning stops with
a fault. The type is closed and has no constructor. -/
inductive Fault where
  deriving DecidableEq, Repr

/-- Refusals of the model. -/
inductive Refusal where
  /-- Raised by an arm of `exec` for a command that has no meaning in the model; safe. No arm raises it. -/
  | notModelled (mnemonic : String)
  deriving DecidableEq, Repr

/-- The state of one station, block by block (Table 0-1), and the queue of waiting commands. `free` is the model's own:
the number of free values read so far (Config). -/
structure State where
  phase : Phase
  ms : Ms
  straps : Straps
  levels : Levels
  sensor : Sensor
  reck : Reckoning
  link : Link
  peers : Peers
  mark : Mark
  store : Store
  gradeUnit : GradeUnit
  claim : Claim
  search : Search
  zone : Zone
  fault : FaultCapture
  port : Port
  free : Nat
  pending : List Instr
  deriving DecidableEq, Repr

/-- The station right after a power-on reset (R186). DESIGN CHOICE (log 1): its straps read station 1 at 250 kbit/s,
PFAIL is not asserted, ALH is sensed low since the station itself holds it, and the non-volatile cells are erased. -/
def State.reset : State where
  phase := .config
  ms := 0#32
  straps := { st := 1#3, lr := false, lastReset := .por }
  levels := { pfail := false, alhHigh := false, rstLow := false, porInLow := false }
  sensor := sensorReset
  reck := reckoningReset
  link := linkReset
  peers := peersReset
  mark := markReset
  store := storeReset (erasedCells snapLength) (erasedCells snapLength) (erasedCells calLength)
  gradeUnit := gradeReset
  claim := claimReset
  search := searchReset
  zone := zoneReset
  fault := faultReset recordReset
  port := portReset .por 1#3 false false .nothing
  free := 0
  pending := []

end Sys2Proof.Machine
end

