-- ==== Sys2Proof/Machine/Codec.lean ====
section
/-! DEFINITION. The byte layouts the manual fixes: the frames of the arm link (Table 2-1) and their bits on the line (R26),
the records of the store (Table 5-1, Table 5-2), the plan digest (Table 3-2); and what a reader of them accepts (R37,
R86). -/

namespace Sys2Proof.Machine

/-! ### Frames (R28 to R30) -/

/-- The arbitration character: 32 · class + 4 · station + 3 (R28). -/
def arbitrationChar (sender : Station) (k : FrameKind) : Byte :=
  byte (32 * frameClass k + 4 * stationNumber sender + 3)

/-! ### Bits of the line (R26, R31, R34) -/

/-- A bit on ALD: driven low, or left to the pull-up (R26). -/
inductive LineBit where
  | dominant | recessive
  deriving DecidableEq, Repr

def LineBit.other : LineBit → LineBit
  | .dominant => .recessive
  | .recessive => .dominant

/-- A data bit: dominant for 0 and recessive for 1 (R26). -/
def dataBit (b : Bool) : LineBit := if b then .recessive else .dominant

/-- The ten bits of a character: start, eight data bits with the most significant first, stop (R26). -/
def characterBits (c : Byte) : List LineBit :=
  [.dominant, dataBit (c.getLsbD 7), dataBit (c.getLsbD 6), dataBit (c.getLsbD 5), dataBit (c.getLsbD 4),
    dataBit (c.getLsbD 3), dataBit (c.getLsbD 2), dataBit (c.getLsbD 1), dataBit (c.getLsbD 0), .recessive]

/-- The bits of characters sent back to back (2.2). -/
def lineBits (cs : List Byte) : List LineBit := cs.flatMap characterBits

/-- The value 0 … 255 of eight data bits (R26). -/
def characterOf (b7 b6 b5 b4 b3 b2 b1 b0 : LineBit) : Byte :=
  byte ([b7, b6, b5, b4, b3, b2, b1, b0].foldl (fun n b => 2 * n + (if b = .recessive then 1 else 0)) 0)

/-- The characters that the receiver reads from the bits of a frame; none at a framing failure, a stop bit read dominant
or a recessive bit where the next start bit is due (R26, R37). -/
def readBits : List LineBit → Option (List Byte)
  | [] => some []
  | .dominant :: b7 :: b6 :: b5 :: b4 :: b3 :: b2 :: b1 :: b0 :: .recessive :: rest =>
    (readBits rest).map (characterOf b7 b6 b5 b4 b3 b2 b1 b0 :: ·)
  | _ => none

/-- The link rate in bits per second that the LR strap as latched gives (R26). -/
def linkRate (lr : Bool) : Nat := if lr then 1000000 else 250000

/-- The bit time in microseconds (R26). -/
def bitTime (lr : Bool) : Nat := if lr then 1 else 4

/-- The time for which ALD reads recessive before it is idle, in microseconds: 12 bit times (R27). -/
def idleTime (lr : Bool) : Nat := 12 * bitTime lr

/-- What the comparison of a bit as sent with the bit as read back leads to (R31, R34). -/
inductive Readback where
  | same | arbitrationLost | bitError
  deriving DecidableEq, Repr

/-- The comparison at bit `n` of a frame, counted from the first start bit; bits 0 … 9 are the arbitration character
(R31, R34). -/
def compareBit (n : Nat) (sent read : LineBit) : Readback :=
  match sent, read with
  | .dominant, .recessive => .bitError
  | .recessive, .dominant => if n < 10 then .arbitrationLost else .bitError
  | .dominant, .dominant | .recessive, .recessive => .same

def angleField : Option Int → List Byte
  | none => []
  | some a => bytes32 a

def flagBits (b0 b1 b2 b3 : Bool) : Byte :=
  byte (b0.toNat + 2 * b1.toNat + 4 * b2.toNat + 8 * b3.toNat)

/-- The payload of a frame (Table 2-1). -/
def payload : Frame → List Byte
  | .halt c => [byte (stopCode c)]
  | .powerDown f => byte (gradeCode f.grade) :: angleField f.theta
  | .markCall n => [n]
  | .markReport r =>
    [r.number, byte (gradeCode r.grade), flagBits r.captureGood r.scaleValid false false]
      ++ bytes16 r.pM ++ bytes16 r.sM ++ angleField r.thetaM
  | .claim p => [byte (purposeCode p)]
  | .release => []
  | .status f =>
    [byte (phaseCode f.phase), byte (gradeCode f.grade), flagBits f.atRest f.claim f.fault f.saturated,
      byte (zoneIndexCode f.zone), f.markNumber] ++ bytes16 f.digest ++ angleField f.theta
  | .hello f => bytes16 f.digest ++ [f.interval]

/-- The characters of a frame: arbitration, length, payload, check (2.2). -/
def encodeFrame (sender : Station) (f : Frame) : List Byte :=
  let body := arbitrationChar sender (frameKind f) :: byte (payload f).length :: payload f
  body ++ bytes16 (crc16 body)

/-- The content tests of R37 that the payload's types do not already make. -/
def frameContentOk : Frame → Bool
  | .powerDown f => f.theta.all angleInRange && (f.theta.isNone || decide (f.grade ≠ .lost))
  | .markReport r =>
    r.thetaM.all angleInRange && (r.thetaM.isNone || (decide (r.grade ≠ .lost) && r.captureGood))
      && decide (r.sM.toNat ≤ 4095)
  | .status f => f.theta.all angleInRange && (f.theta.isNone || decide (f.grade ≠ .lost))
  | .hello f => decide (5 ≤ f.interval.toNat) && decide (f.interval.toNat ≤ 50)
  | .halt _ | .markCall _ | .claim _ | .release => true

def readAngle : List Byte → Option (Option Int)
  | [] => some none
  | [a, b, c, d] => some (some (int32 a b c d))
  | _ => none

/-- The payload read by class: the lengths of Table 2-1 and the codes of Table 2-2, unused flag bits ignored (R30, R37). -/
def readPayload (cls : Nat) (p : List Byte) : Option Frame :=
  match cls, p with
  | 0, [c] => (stopOf c.toNat).map .halt
  | 1, g :: rest => do
    let grade ← gradeOf g.toNat
    let theta ← readAngle rest
    pure (.powerDown { grade := grade, theta := theta })
  | 2, [n] => some (.markCall n)
  | 3, n :: g :: fl :: p1 :: p0 :: s1 :: s0 :: rest => do
    let grade ← gradeOf g.toNat
    let theta ← readAngle rest
    pure (.markReport
      { number := n, grade := grade, captureGood := fl.getLsbD 0, scaleValid := fl.getLsbD 1
        pM := word16 p1 p0, sM := word16 s1 s0, thetaM := theta })
  | 4, [c] => (purposeOf c.toNat).map .claim
  | 5, [] => some .release
  | 6, ph :: g :: fl :: z :: m :: d1 :: d0 :: rest => do
    let phase ← phaseOf ph.toNat
    let grade ← gradeOf g.toNat
    let zone ← zoneIndexOf z.toNat
    let theta ← readAngle rest
    pure (.status
      { phase := phase, grade := grade, atRest := fl.getLsbD 0, claim := fl.getLsbD 1, fault := fl.getLsbD 2
        saturated := fl.getLsbD 3, zone := zone, markNumber := m, digest := word16 d1 d0, theta := theta })
  | 7, [d1, d0, h] => some (.hello { digest := word16 d1 d0, interval := h })
  | _, _ => none

/-- What the receiver makes of the characters of a whole frame: the sender and the frame, or none when a test of R37
discards it. -/
def receiveFrame (cs : List Byte) : Option (Station × Frame) :=
  match cs with
  | arb :: len :: rest =>
    let p := rest.take len.toNat
    let body := arb :: len :: p
    if len.toNat ≤ 12 ∧ rest.length = len.toNat + 2 ∧ rest.drop len.toNat = bytes16 (crc16 body)
        ∧ arb.extractLsb' 0 2 = 3#2 then
      (stationOf (arb.extractLsb' 2 3).toNat).bind fun sender =>
        (readPayload (arb.extractLsb' 5 3).toNat p).bind fun f =>
          if frameContentOk f then some (sender, f) else none
    else none
  | _ => none

/-! ### Records of the store (R84 to R86) -/

def snapStateCode : SnapState → Nat
  | .sound => 1 | .void => 2

def snapStateOf : Nat → Option SnapState
  | 1 => some .sound | 2 => some .void
  | _ => none

def snapCauseCode : SnapCause → Nat
  | .rest => 1 | .powerFail => 2 | .gradeLoss => 3 | .reference => 4

def snapCauseOf : Nat → Option SnapCause
  | 1 => some .rest | 2 => some .powerFail | 3 => some .gradeLoss | 4 => some .reference
  | _ => none

/-- A four-character field of a record. An integer outside the signed 32-bit range has no stated field (log 12). -/
def field32 (x : Int) : BitVec 32 :=
  if countInRange x then BitVec.ofInt 32 x else Config.outside32 x

def fieldBytes (x : Int) : List Byte := bytes32 (field32 x).toInt

/-- The characters of a snapshot record before its check word (Table 5-1). R28 gives the order of the characters inside a
field for a frame alone; in a record the most significant one comes first too, in the check word as well (DESIGN CHOICE, log
78). -/
def snapBody (r : SnapRecord) : List Byte :=
  bytes16 r.seq
    ++ [byte (snapStateCode r.body.state), byte (snapCauseCode r.body.cause), byte (gradeCode r.body.grade),
      flagBits r.body.atRest r.body.theta.isSome r.body.lambda.isSome r.body.calSeq.isSome]
    ++ fieldBytes r.body.count ++ fieldBytes (r.body.theta.getD 0) ++ fieldBytes (r.body.lambda.getD 0)
    ++ bytes16 (r.body.calSeq.getD 0#16) ++ [r.body.markNumber]

def encodeSnap (r : SnapRecord) : List Byte := snapBody r ++ bytes16 (crc16 (snapBody r))

/-- The characters of a calibration record before its check word (Table 5-2), the most significant one of a field first
(DESIGN CHOICE, log 78). -/
def calBody (r : CalRecord) : List Byte :=
  bytes16 r.seq ++ fieldBytes r.body.theta0 ++ fieldBytes r.body.sigma ++ fieldBytes r.body.centre
    ++ [byte r.body.level, byte r.body.passes] ++ bytes16 (BitVec.ofNat 16 r.body.lastDelta)

def encodeCal (r : CalRecord) : List Byte := calBody r ++ bytes16 (crc16 (calBody r))

def allErased (cs : List Byte) : Bool := cs.all fun c => c == 0xFF#8

/-- The class and contents of a snapshot slot's characters, the first matching line of R86 deciding. -/
def classifySnap (cs : List Byte) : SlotImage :=
  if allErased cs then .empty
  else if cs.drop 21 ≠ bytes16 (crc16 (cs.take 21)) then .torn
  else
    match cs with
    | [q1, q0, st, ca, g, fl, m3, m2, m1, m0, t3, t2, t1, t0, l3, l2, l1, l0, c1, c0, mk, _, _] =>
      match snapStateOf st.toNat, snapCauseOf ca.toNat, gradeOf g.toNat with
      | some state, some cause, some grade =>
        .valid
          { seq := word16 q1 q0
            body :=
              { state := state, cause := cause, grade := grade, atRest := fl.getLsbD 0
                count := int32 m3 m2 m1 m0
                theta := if fl.getLsbD 1 then some (int32 t3 t2 t1 t0) else none
                lambda := if fl.getLsbD 2 then some (int32 l3 l2 l1 l0) else none
                calSeq := if fl.getLsbD 3 then some (word16 c1 c0) else none
                markNumber := mk } }
      | _, _, _ => .torn
    | _ => .torn

/-- The class and contents of the calibration record's characters (R86). -/
def classifyCal (cs : List Byte) : CalImage :=
  if allErased cs then .empty
  else if cs.drop 18 ≠ bytes16 (crc16 (cs.take 18)) then .torn
  else
    match cs with
    | [q1, q0, a3, a2, a1, a0, b3, b2, b1, b0, c3, c2, c1, c0, lv, ps, d1, d0, _, _] =>
      .valid
        { seq := word16 q1 q0
          body :=
            { theta0 := int32 a3 a2 a1 a0, sigma := int32 b3 b2 b1 b0, centre := int32 c3 c2 c1 c0
              level := lv.toNat, passes := ps.toNat, lastDelta := (word16 d1 d0).toNat } }
    | _ => .torn

/-- The characters cut or padded with FFh to the length of the cells. -/
def fitCells (n : Nat) (cs : List Byte) : List Byte := cs.take n ++ List.replicate (n - cs.length) 0xFF#8

/-! ### The plan digest (R58, Table 3-2) -/

def maskChar (m : StationMask) : Byte := byte m.toNat

/-- The 22 characters of the plan digest, in the order of Table 3-2. -/
def planChars (p : Plan) : List Byte :=
  [byte p.h, byte p.holdoff] ++ bytes16 (BitVec.ofNat 16 p.markTimeout)
    ++ (Station.all.map fun k => byte (((p.lead.get k).map stationNumber).getD 0))
    ++ (Station.all.map fun k => maskChar (p.prereq.get k))
    ++ (Station.all.map fun k => maskChar (p.conflict.get k))

def planDigest (p : Plan) : BitVec 16 := crc16 (planChars p)

end Sys2Proof.Machine
end

