-- ==== Sys2Proof/Machine/Flags.lean ====
section
/-! DEFINITION. What is computed from the state rather than stored: the own station, the lead and its grade, the ceiling,
the arm grade, the effective zone attributes, and the outputs ALH, MOT_INH, SPD, BRK_EN and ATN. -/

namespace Sys2Proof.Machine

/-- The own station number; none when the latched strap is 0 or 7 (R185). -/
def own (s : State) : Option Station := stationOf s.straps.st.toNat

def isOwn (s : State) (k : Station) : Bool := own s == some k

def setupOf (s : State) : Setup := s.port.setup

def cprOf (su : Setup) : Nat := 2 ^ su.motorBits

def entry (s : State) (k : Station) : PeerEntry := s.peers.entries.get k

/-- The lead of a coupled station: none unless GO has normalised the plan, the plan names a lead for the own station and
COUPLE_NUM is not 0 (R12). -/
def lead (s : State) : Option Station :=
  if s.port.frozen && decide ((setupOf s).coupleNum ≠ 0) then
    (own s).bind fun k => (setupOf s).plan.lead.get k
  else none

def coupled (s : State) : Bool := (lead s).isSome

def motorFailed (s : State) : Bool := decide (3 ≤ s.sensor.badMotor)

/-- R4: failed when the consecutive bad count has reached 3. -/
def scaleFailed (s : State) : Bool := decide (3 ≤ s.sensor.badScale)

def scaleValid (s : State) : Bool := s.sensor.latestScale.isSome && !scaleFailed s

/-! ### Lead grade and ceiling (R103, R104) -/

/-- The grade that an entry gives to the station it leads (R104). -/
def gradeAsLead (e : PeerEntry) : Grade :=
  match e.presence with
  | .silent | .absent => .coarse
  | .alive | .stale | .down =>
    match e.gradeFromReport, e.report with
    | true, some r => r.grade
    | _, _ => e.grade

/-- The lead grade; none for an uncoupled station. -/
def leadGrade (s : State) : Option Grade := (lead s).map fun k => gradeAsLead (entry s k)

def leadAtRest (s : State) : Bool :=
  match lead s with
  | none => true
  | some k => (entry s k).atRest

/-- The highest grade the station may hold at this moment (R103). -/
def ceiling (s : State) : Grade :=
  let sat : Grade := if s.reck.saturated then .coarse else .referenced
  let scale : Grade := if scaleFailed s then .resolved else .referenced
  gradeMin (gradeMin sat scale) ((leadGrade s).getD .referenced)

/-! ### Conflict and prerequisite sets -/

/-- The conflict set of the own station in the plan (R123); before GO has normalised the plan, its CONFLICT mask as written
(DESIGN CHOICE, log 68). -/
def conflictSet (s : State) : StationMask :=
  match own s with
  | none => 0#6
  | some k => (setupOf s).plan.conflict.get k

def prereqSet (s : State) : StationMask :=
  match own s with
  | none => 0#6
  | some k => (setupOf s).plan.prereq.get k

/-- The conflicting stations whose claim flags are set, presence other than ABSENT (R124). -/
def blockingClaims (s : State) : StationMask :=
  maskOf fun k => maskHas (conflictSet s) k && (entry s k).claim && decide ((entry s k).presence ≠ .absent)

/-- The conflicting stations that are ALIVE and not at rest (R124). -/
def blockingMotion (s : State) : StationMask :=
  maskOf fun k => maskHas (conflictSet s) k && decide ((entry s k).presence = .alive) && !(entry s k).atRest

/-- The own claim flag (R122). -/
def claimFlag (s : State) : Bool := decide (s.claim.state = .held)

/-! ### Speed classes, arm grade (R170 to R172) -/

def speedCode : Speed → Nat
  | .none => 0 | .creep => 1 | .reduced => 2 | .full => 3

def speedOf : Nat → Option Speed
  | 0 => some .none | 1 => some .creep | 2 => some .reduced | 3 => some .full
  | _ => none

/-- A level of the lines SPD1 and SPD0. -/
structure SpeedLines where
  spd1 : Bool
  spd0 : Bool
  deriving DecidableEq, Repr

/-- The levels of SPD1 and SPD0 that a speed class drives, true when high (Table 9-3). -/
def speedLines : Speed → SpeedLines
  | .none => { spd1 := false, spd0 := false }
  | .creep => { spd1 := false, spd0 := true }
  | .reduced => { spd1 := true, spd0 := false }
  | .full => { spd1 := true, spd0 := true }

def speedMin (a b : Speed) : Speed := if speedCode a ≤ speedCode b then a else b

/-- The concern set: CONCERN_MASK with the own station added (R170). -/
def concernSet (s : State) : StationMask :=
  match own s with
  | none => (setupOf s).concernMask
  | some k => maskAdd (setupOf s).concernMask k

/-- What a member of the concern set contributes to the arm grade (R171). -/
def contribution (s : State) (k : Station) : Grade :=
  if isOwn s k then gradeMin s.gradeUnit.grade (entry s k).grade
  else
    match (entry s k).presence with
    | .alive | .down => (entry s k).grade
    | .stale | .silent | .absent => .lost

/-- The lowest contribution of the members (R171). Of an empty concern set it is REFERENCED, and a CONCERN_MASK written in
CONFIG re-forms it at once (DESIGN CHOICE, log 76). -/
def armGrade (s : State) : Grade :=
  Station.all.foldl (fun g k => if maskHas (concernSet s) k then gradeMin g (contribution s k) else g) .referenced

/-- Table 9-2. -/
def gradeCap : Grade → Speed
  | .referenced | .restored => .full
  | .resolved => .reduced
  | .coarse => .creep
  | .lost => .none

/-- SPD (R172). -/
def spd (s : State) : Speed :=
  match s.phase with
  | .ready => speedMin s.zone.capInForce (gradeCap (armGrade s))
  | .reference => speedMin (speedMin s.zone.capInForce (gradeCap (armGrade s))) .reduced
  | .config | .muster | .recovery | .faulted | .down => .none

/-- The lines SPD1 and SPD0 as driven (R172). -/
def spdLines (s : State) : SpeedLines := speedLines (spd s)

/-- The first condition of R173 that fails. -/
def brakeBar (s : State) : BrakeBar :=
  if s.phase ≠ .ready ∧ s.phase ≠ .reference then .phase
  else if gradeLt s.gradeUnit.grade .coarse then .grade
  else if s.levels.pfail then .powerFail
  else .none

/-- BRK_EN (R173). -/
def brkEn (s : State) : Bool := decide (brakeBar s = .none)

/-! ### The hold line (R63, R64) -/

/-- The own pull on ALH: true when held (R63). -/
def ownPull (s : State) : Bool :=
  (match s.phase with
    | .config | .muster | .faulted | .down => true
    | .recovery | .ready | .reference => false)
  || decide (s.mark.state = .holding) || (own s).isNone

/-- MOT_INH (R64). -/
def motInh (s : State) : Bool := !s.levels.alhHigh

/-! ### Attention (R192) -/

def peerAttention (s : State) : Bool := decide (s.port.changedPeers ≠ 0#6)

/-- ATN asserted (R192). -/
def atn (s : State) : Bool :=
  let a := s.port.attention
  a.fault || a.directive || a.grade || a.mark || a.referenceDone || peerAttention s

/-! ### Effective zone attributes (R165 to R168) -/

/-- The attributes the zone table gives the station at a moment (9.2). -/
structure Effective where
  cap : Speed
  homing : Bool
  plus : Bool
  index : ZoneIndex
  members : MemberMask
  deriving DecidableEq, Repr

def zoneEnabled (z : ZoneRecord) : Bool := decide (z.low < z.high)

/-- An enabled zone contains the angles from low up to but not including high (R165). -/
def zoneContains (z : ZoneRecord) (a : Int) : Bool := decide (z.low ≤ a) && decide (a < z.high)

/-- An enabled zone meets the interval lo … hi (R167). -/
def zoneMeets (z : ZoneRecord) (lo hi : Int) : Bool :=
  zoneEnabled z && decide (z.low ≤ hi) && decide (lo < z.high)

/-- The four zones with their index and their bit in the member set. -/
def zonesOf (su : Setup) : List (ZoneIndex × MemberMask × ZoneRecord) :=
  [(.z1, 2#5, su.zone1), (.z2, 4#5, su.zone2), (.z3, 8#5, su.zone3), (.z4, 16#5, su.zone4)]

/-- The least angle at or above `x` that none of the zones contains, found by one pass for each zone. -/
def firstUncovered (zs : List ZoneRecord) (x : Int) : Int :=
  zs.foldl (fun x _ => zs.foldl (fun x z => if zoneContains z x then z.high else x) x) x

/-- No position: cap NONE, no homing, +, index 15 (R166); its member set is empty (DESIGN CHOICE, log 77). -/
def effectiveNone : Effective :=
  { cap := .none, homing := false, plus := true, index := .noZone, members := 0#5 }

/-- The attributes of one zone; a cap of NONE forbids homing (R167, last paragraph). -/
def effectiveOne (index : ZoneIndex) (bit : MemberMask) (a : ZoneAttr) : Effective :=
  { cap := a.cap, homing := a.homing && decide (a.cap ≠ .none), plus := a.plus, index := index, members := bit }

/-- The exact case: the lowest-numbered enabled zone that contains θ, or the default zone; a saturated θ lies outside every
enabled zone, also one that reaches the limit of the angle (R166). -/
def effectiveAt (su : Setup) (saturated : Bool) (theta : Int) : Effective :=
  match (zonesOf su).find? fun z => !saturated && zoneContains z.2.2 theta with
  | some z => effectiveOne z.1 z.2.1 z.2.2.attr
  | none => effectiveOne .default 1#5 su.defaultZone

/-- The members of the interval lo … hi: the zones that meet it, and the default zone when some angle of it lies in no
enabled zone (R167). -/
def membersOf (su : Setup) (lo hi : Int) : List (ZoneIndex × MemberMask × ZoneAttr) :=
  let met := (zonesOf su).filter fun z => zoneMeets z.2.2 lo hi
  let uncovered := decide (firstUncovered ((zonesOf su).map fun z => z.2.2) lo ≤ hi)
  (if uncovered then [(.default, 1#5, su.defaultZone)] else []) ++ met.map fun z => (z.1, z.2.1, z.2.2.attr)

/-- The members combined (R167). -/
def combine (ms : List (ZoneIndex × MemberMask × ZoneAttr)) : Effective :=
  match ms with
  | [] => effectiveNone
  | [m] => effectiveOne m.1 m.2.1 m.2.2
  | m :: rest =>
    let cap := rest.foldl (fun c x => speedMin c x.2.2.cap) m.2.2.cap
    let sameDir := rest.all fun x => x.2.2.plus == m.2.2.plus
    { cap := cap
      homing := sameDir && decide (cap ≠ .none) && m.2.2.homing && rest.all fun x => x.2.2.homing
      plus := if sameDir then m.2.2.plus else true
      index := .combined
      members := rest.foldl (fun b x => b ||| x.2.1) m.2.1 }

/-- The effective attributes (Table 9-1). -/
def effective (s : State) : Effective :=
  match s.gradeUnit.grade, s.reck.theta with
  | .lost, _ => effectiveNone
  | _, none => effectiveNone
  | .coarse, some theta =>
    let tau := s.port.tau.getD 0
    combine (membersOf (setupOf s) (theta - tau) (theta + tau))
  | .resolved, some theta | .restored, some theta | .referenced, some theta =>
    effectiveAt (setupOf s) s.reck.saturated theta

/-! ### Directives and the search -/

/-- A JOG or MOVE_TO is current (R132). -/
def moving (s : State) : Bool :=
  match s.claim.dirState, s.claim.dir.kind with
  | .posted, some .jogPos | .posted, some .jogNeg | .posted, some .moveTo
  | .taken, some .jogPos | .taken, some .jogNeg | .taken, some .moveTo => true
  | _, _ => false

/-- A STOP is current (R132). -/
def stopCurrent (s : State) : Bool :=
  match s.claim.dirState, s.claim.dir.kind with
  | .posted, some .stop | .taken, some .stop => true
  | _, _ => false

/-- A search is in progress (R142). -/
def searching (s : State) : Bool := decide (s.search.sub ≠ .none)

/-- The code of a search sub-state (Table 8-2). -/
def subCode : SearchSub → Nat
  | .none => 0 | .waitPrereq => 1 | .claiming => 2 | .clear => 3 | .forward => 4 | .reverse => 5 | .settle => 6
  | .evaluate => 7 | .calibrate => 8 | .park => 9 | .release => 10

/-- The drift check is active (R22). -/
def driftActive (s : State) : Bool :=
  decide (s.phase = .ready ∨ s.phase = .reference) && gradeLe .resolved s.gradeUnit.grade
    && decide (s.reck.basis = .counts) && s.reck.theta.isSome && scaleValid s && leadAtRest s

end Sys2Proof.Machine
end

