-- ==== Sys2Proof/Machine/Record.lean ====
section
/-! DEFINITION. Raising a fault into the first-fault record (R177), the attention causes, the outgoing queue (R32, R35),
and timers. These operations raise nothing and change one block each. -/

namespace Sys2Proof.Machine

/-! ### Timers -/

def timerRunning : Timer → Bool
  | .running _ _ => true
  | _ => false

/-- A timer started from zero at the present millisecond count. -/
def startTimer (interval : Nat) (s : State) : Timer := .running s.ms interval

/-- The time a running timer still has, 0 at or past its expiry. -/
def timerRemaining (now : Ms) : Timer → Option Nat
  | .running start interval => some (interval - elapsed now start)
  | _ => none

/-! ### The first-fault record -/

/-- A fault value as a signed 32-bit value (Table 10-2); outside that range it is unstated (log 12). -/
def faultValue (x : Int) : Int := if countInRange x then x else (Config.outside32 x).toInt

/-- A fault raised: it fills an unlocked record and locks it, or raises the lost count of a locked one; either way it
sets the FAULT attention cause (R177). -/
def raise (c : FaultCause) (a b : Int) (st : Option Station) (s : State) : State :=
  let r := s.fault.record
  let r' : FaultRecord :=
    if r.locked then { r with lost := bump 255 r.lost }
    else
      { cause := some c, phase := some s.phase, station := st, a := faultValue a, b := faultValue b
        markNumber := s.mark.number, time := s.ms, locked := true, lost := 0, carried := false }
  { s with
    fault := { s.fault with record := r' }
    port := { s.port with attention := { s.port.attention with fault := true } } }

/-- A NOTE fault that concerns the own station (R176). -/
def note (c : NoteCause) (a b : Int) (s : State) : State := raise (.note c) a b (own s) s

/-- A NOTE fault that concerns another station. -/
def noteOf (k : Station) (c : NoteCause) (a b : Int) (s : State) : State := raise (.note c) a b (some k) s

/-! ### Attention -/

def setDirectiveAttention (v : Bool) (s : State) : State :=
  { s with port := { s.port with attention := { s.port.attention with directive := v } } }

def setGradeAttention (s : State) : State :=
  { s with port := { s.port with attention := { s.port.attention with grade := true } } }

def setMarkAttention (s : State) : State :=
  { s with port := { s.port with attention := { s.port.attention with mark := true } } }

def setDoneAttention (s : State) : State :=
  { s with port := { s.port with attention := { s.port.attention with referenceDone := true } } }

/-- A station added to the changed-peer mask (R55). -/
def addChangedPeer (k : Station) (s : State) : State :=
  { s with port := { s.port with changedPeers := maskAdd s.port.changedPeers k } }

/-! ### The outgoing queue -/

/-- Whether the queue takes a frame of this kind in this phase (R35). -/
def queueTakes (p : Phase) (k : FrameKind) : Bool :=
  match p, k with
  | .config, _ => false
  | .down, .halt | .down, .powerDown => true
  | .down, _ => false
  | _, _ => true

/-- A frame of the same kind handed over during an attempt changes the slot, not the frame on the line (R33). -/
def markReplaced (k : FrameKind) : LineState → LineState
  | .sending a => if frameKind a.frame = k then .sending { a with replaced := true } else .sending a
  | l => l

/-- A frame handed to the link interface: it takes its kind's slot or replaces the frame there (R32); a kind the phase
does not take is discarded (R35). -/
def sendFrame (f : Frame) (s : State) : State :=
  if queueTakes s.phase (frameKind f) then
    { s with
      link := { s.link with
        queue := s.link.queue.set (frameKind f) (some f)
        line := markReplaced (frameKind f) s.link.line } }
  else s

/-- A pending frame withdrawn; a frame already on the line is not stopped (R33). -/
def withdrawFrame (k : FrameKind) (s : State) : State :=
  { s with link := { s.link with queue := s.link.queue.set k none } }

def framePending (s : State) (k : FrameKind) : Bool := (s.link.queue.get k).isSome

/-- The angle field of a frame: present when the angle is and the grade carried is not LOST (R30). -/
def angleCarried (g : Grade) (theta : Option Int) : Option Int := if g = .lost then none else theta

/-- The content of a STATUS frame at this moment (R42). -/
def statusContent (s : State) : StatusFrame where
  phase := s.phase
  grade := s.gradeUnit.grade
  atRest := s.reck.atRest
  claim := claimFlag s
  fault := s.fault.record.locked
  saturated := s.reck.saturated
  zone := (effective s).index
  markNumber := s.mark.number
  digest := s.peers.digest.getD 0#16
  theta := angleCarried s.gradeUnit.grade s.reck.theta

/-- A STATUS queued, in the phases from MUSTER onward except DOWN (R42, R35). -/
def queueStatus (s : State) : State := sendFrame (.status (statusContent s)) s

end Sys2Proof.Machine
end

