-- ==== Sys2Proof/Machine/Reckon.lean ====
section
/-! DEFINITION. The reckoning unit's operations: the lead term and the angle (R14), the scale angle (R17, R18),
recomputation of θ (R13, R15), the turn offset (R10), λ (R12), the working calibration (R11). -/

namespace Sys2Proof.Machine

/-! ### Formulas -/

/-- c_lead = round(KN · λ · CPR / (KD · 2^24)), 0 for an uncoupled station (R14 stage 1). -/
def leadTerm (su : Setup) (isCoupled : Bool) (lambda : Int) : Int :=
  if isCoupled then rdiv (su.coupleNum * lambda * (cprOf su : Int)) ((su.coupleDen : Int) * turn) else 0

/-- A count quantity seen at the joint: round(x · GD · 2^24 / (GN · CPR)) (R16). -/
def seenAtJoint (su : Setup) (x : Int) : Int :=
  rdiv (x * (su.gearDen : Int) * turn) ((su.gearNum : Int) * (cprOf su : Int))

/-- The inverse factor: an angle in motor counts, rounded (R111, R159). -/
def inCounts (su : Setup) (a : Int) : Int :=
  rdiv (a * (su.gearNum : Int) * (cprOf su : Int)) ((su.gearDen : Int) * turn)

/-- θ = θ0 + round((M − c_lead) · GD · 2^24 / (GN · CPR)) (R14 stage 2). -/
def angleOfCount (su : Setup) (theta0 cLead m : Int) : Int := theta0 + seenAtJoint su (m - cLead)

/-- mid = round((TRAVEL_LOW + TRAVEL_HIGH) / 2) (R17). -/
def travelMid (su : Setup) : Int := rdiv (su.travelLow + su.travelHigh) 2

/-- S · 4096 + σ reduced modulo 2^24 into the window about the middle of travel (R17). -/
def scaleAngle (su : Setup) (sigma : Int) (sCount : Nat) : Int :=
  wrapFrom (travelMid su - 8388608) turn ((sCount : Int) * 4096 + sigma)

/-- The distance between an angle and θ_scale (R18). -/
def scaleDistance (su : Setup) (a thetaScale : Int) : Nat :=
  if su.scaleWraps then (wrapFrom (-8388608) turn (a - thetaScale)).natAbs else dist a thetaScale

/-- REST_TOL seen at the joint (R16, R94, R139). -/
def restTolAngle (su : Setup) : Int := seenAtJoint su (su.restTol : Int)

/-! ### θ and θ_scale -/

/-- The value that the basis forms for θ, before saturation (R13). In basis SCALE it is θ_scale while the count is unstarted
too, as R13 and R166 have it, where R6 has θ absent (DEDUCED, log 72). -/
def formedAngle (s : State) : Option Int :=
  match s.reck.basis with
  | .none => none
  | .counts =>
    if s.reck.started then
      some (angleOfCount (setupOf s) s.reck.theta0 (leadTerm (setupOf s) (coupled s) s.reck.lambda) s.reck.count)
    else none
  | .scale => s.reck.thetaScale

/-- θ recomputed and saturated; an entry into saturation raises ANGLE_SATURATED once (R13, R15). -/
def recomputeTheta (s : State) : State :=
  match formedAngle s with
  | none => { s with reck := { s.reck with theta := none } }
  | some v =>
    let s' := { s with reck := { s.reck with theta := some (clampAngle v), saturated := !angleInRange v } }
    if !angleInRange v && !s.reck.saturated then note .angleSaturated (if v < angleMin then 2 else 1) 0 s' else s'

/-- θ_scale formed from the latest good scale value and σ while the scale is valid, absent otherwise; θ follows in
basis SCALE (R13, R17). -/
def recomputeScale (s : State) : State :=
  let v : Option Int :=
    match s.sensor.latestScale with
    | none => none
    | some c => if scaleFailed s then none else some (scaleAngle (setupOf s) s.reck.sigma c)
  let s' := { s with reck := { s.reck with thetaScale := v } }
  if s'.reck.basis = .scale then recomputeTheta s' else s'

/-! ### λ and the working calibration -/

/-- A change of λ (R12). -/
def setLambda (v : Int) (s : State) : State :=
  recomputeTheta { s with reck := { s.reck with lambda := v, lambdaSource := true } }

/-- The working σ set; a change of it forms θ_scale anew (R11, R17). -/
def setSigma (v : Int) (s : State) : State :=
  if v = s.reck.sigma then s else recomputeScale { s with reck := { s.reck with sigma := v } }

/-- θ0 and σ taken with the calibration marker; the drift count starts afresh (R11, R23), also when the θ0 taken equals the
one held (DESIGN CHOICE, log 59). -/
def takeCalibration (theta0 sigma : Int) (marker : Bool) (s : State) : State :=
  recomputeTheta (setSigma sigma
    { s with reck := { s.reck with theta0 := theta0, calibrated := marker, drift := 0 } })

/-! ### M -/

/-- M held inside its range (R9). -/
def clampCount (m : Int) : Int := clampInt countMin countMax m

/-- The first value of MOTOR_COUNT_OVERFLOW: 1 upper limit, 2 lower limit (Table 10-1). -/
def limitCode (m : Int) : Int := if m < countMin then 2 else 1

/-- The motor count in its unstarted state (R6): the at-rest flag is clear, and θ of basis COUNTS absent, while it is; of
basis SCALE see `formedAngle` (DEDUCED, log 72). -/
def unstartCount (s : State) : State :=
  recomputeTheta
    { s with
      reck := { s.reck with
        count := 0, started := false, lastGood := none, held := false, turnOffset := 0, anchor := none
        atRest := false, drift := 0 }
      store := { s.store with restRetry := s.store.restRetry && !s.reck.atRest } }

/-- A point that moves with M when a turn offset is applied. -/
def shiftPoint (delta : Int) (p : Option Int) : Option Int := p.map (· + delta)

/-- A turn offset applied (R10): it is added to M, to the rest anchor (R21), to the recovery anchor (R115) and to the
points of the obedience checks (R136, R138), and stored; the drift count starts afresh (R23), also when the offset equals the
one stored (DESIGN CHOICE, log 59). The caller raises
MOTOR_COUNT_OVERFLOW when the sum leaves the range (R9). A hold ends with any offset whose sum lies in range (DESIGN
CHOICE, log 45). -/
def applyOffset (delta : Int) (s : State) : State :=
  recomputeTheta
    { s with
      reck := { s.reck with
        count := clampCount (s.reck.count + delta)
        held := !countInRange (s.reck.count + delta)
        turnOffset := delta
        anchor := s.reck.anchor.map fun a => { a with count := a.count + delta }
        drift := 0 }
      gradeUnit := { s.gradeUnit with recoveryAnchor := shiftPoint delta s.gradeUnit.recoveryAnchor }
      claim := { s.claim with
        furthest := shiftPoint delta s.claim.furthest
        still := shiftPoint delta s.claim.still } }

end Sys2Proof.Machine
end

