-- ==== Sys2Proof/Machine/StoreOps.lean ====
section
/-! DEFINITION. The snapshot store's operations: the newest valid slot (R87), requests (R84, R88), the start of a write
(R89, R92), the REST trigger (R94). -/

namespace Sys2Proof.Machine

/-- Sequence a is newer than sequence b: (a − b) mod 65536 lies in 1 … 32767 (R87). -/
def newer (a b : BitVec 16) : Bool := decide (1 ≤ (a - b).toNat) && decide ((a - b).toNat ≤ 32767)

def imageRecord : SlotImage → Option SnapRecord
  | .valid r => some r
  | _ => none

/-- The newest valid slot of two images, with its record (R87). -/
def newestOf (a b : SlotImage) : Option (Slot × SnapRecord) :=
  match imageRecord a, imageRecord b with
  | some ra, some rb => if newer rb.seq ra.seq then some (.b, rb) else some (.a, ra)
  | some ra, none => some (.a, ra)
  | none, some rb => some (.b, rb)
  | none, none => none

def newest (s : State) : Option (Slot × SnapRecord) := newestOf s.store.imageA s.store.imageB

/-- The contents of a snapshot request made now (R88); SOUND only with a grade of RESOLVED or above (R84). -/
def snapContents (cause : SnapCause) (wanted : SnapState) (s : State) : SnapRequest where
  state := if gradeLe .resolved s.gradeUnit.grade then wanted else .void
  cause := cause
  grade := s.gradeUnit.grade
  atRest := s.reck.atRest
  count := s.reck.count
  theta := s.reck.theta
  lambda := if coupled s then some s.reck.lambda else none
  calSeq := s.store.calSeq
  markNumber := s.mark.number

/-- A pending REFERENCE request that a GRADE_LOSS or POWER_FAIL request replaces is recorded as REPLACED (R158); one that a
REST request replaces leaves the recorded outcome as it was (DESIGN CHOICE, log 75). -/
def replacesReference (s : State) (r : SnapRequest) : Bool :=
  decide (r.cause = .gradeLoss ∨ r.cause = .powerFail)
    && decide ((s.store.pendingSnap.map fun q => q.cause) = some .reference)

/-- A snapshot request placed in the list, replacing a pending one (R88). -/
def putSnapshot (r : SnapRequest) (s : State) : State :=
  { s with
    store := { s.store with pendingSnap := some r }
    search := { s.search with
      refSnapshot := if replacesReference s r then .replaced else s.search.refSnapshot } }

/-- A snapshot asked for; in DOWN it is discarded (R100). -/
def requestSnapshot (cause : SnapCause) (wanted : SnapState) (s : State) : State :=
  if s.phase = .down then s else putSnapshot (snapContents cause wanted s) s

/-- The sequence of the next snapshot write (R89). -/
def nextSeq (s : State) : BitVec 16 :=
  match newest s with
  | none => 0#16
  | some n => n.2.seq + 1#16

/-- The target of the next snapshot write: the slot that is not the newest valid one, slot A if there is none (R89). -/
def nextTarget (s : State) : Slot :=
  match newest s with
  | some (.a, _) => .b
  | some (.b, _) | none => .a

/-- The sequence of the next calibration write (R92). -/
def nextCalSeq (s : State) : BitVec 16 :=
  match s.store.calSeq with
  | some q => q + 1#16
  | none =>
    match (newest s).bind fun n => n.2.body.calSeq with
    | some q => q + 1#16
    | none => 0#16

def setImage (slot : Slot) (i : SlotImage) (st : Store) : Store :=
  match slot with
  | .a => { st with imageA := i }
  | .b => { st with imageB := i }

def setCells (slot : Slot) (cs : List Byte) (st : Store) : Store :=
  match slot with
  | .a => { st with cellsA := cs }
  | .b => { st with cellsB := cs }

/-- A free store starts a write if the list holds a request, the calibration request first (R89). -/
def startWrite (s : State) : State :=
  if s.store.scanDone && s.store.inFlight.isNone then
    match s.store.pendingCal, s.store.pendingSnap with
    | some c, _ =>
      { s with
        store := { s.store with
          pendingCal := none, imageCal := .writing, inFlight := some (.cal { seq := nextCalSeq s, body := c }) } }
    | none, some r =>
      { s with
        store := setImage (nextTarget s) .writing
          { s.store with
            pendingSnap := none, inFlight := some (.snap (nextTarget s) { seq := nextSeq s, body := r }) } }
    | none, none => s
  else s

/-- The reference record of the REST trigger: its grade and θ (R94). -/
def restReference (s : State) : Option (Grade × Option Int) :=
  match s.store.pendingSnap, s.store.inFlight with
  | some r, _ => some (r.grade, r.theta)
  | none, some (.snap _ r) => some (r.body.grade, r.body.theta)
  | none, _ => (newest s).map fun n => (n.2.body.grade, n.2.body.theta)

/-- The present state differs from the reference record (R94). -/
def restDiffers (s : State) : Bool :=
  match restReference s with
  | none => true
  | some (_, none) => true
  | some (g, some t) =>
    decide (g ≠ s.gradeUnit.grade)
      || (match s.reck.theta with
          | none => false
          | some a => decide (restTolAngle (setupOf s) < (dist a t : Int)))

/-- The conditions of the REST trigger (R94). -/
def restWanted (s : State) : Bool :=
  decide (s.phase = .ready) && gradeLe .resolved s.gradeUnit.grade && s.reck.atRest && leadAtRest s
    && !s.store.restRetry && restDiffers s

/-- The REST trigger (R94). -/
def restTrigger (s : State) : State := if restWanted s then requestSnapshot .rest .sound s else s

/-- The list and the write in flight are empty and the scan has ended (R96). -/
def storeQuiet (s : State) : Bool :=
  s.store.scanDone && s.store.inFlight.isNone && s.store.pendingCal.isNone && s.store.pendingSnap.isNone

/-- What a cut write leaves in its target's cells (R90): erased, torn, or the programmed record. Characters offered as
torn that would not be classified TORN count as erased. -/
def residueCells (n : Nat) (isTorn : List Byte → Bool) (record : List Byte) : CutResidue → List Byte
  | .erased => erasedCells n
  | .torn cs => if isTorn (fitCells n cs) then fitCells n cs else erasedCells n
  | .programmed => record

/-- The cells after a reset that falls now: a write in flight is cut (R101). -/
def cutWrite (cut : CutResidue) (st : Store) : Store :=
  match st.inFlight with
  | none => st
  | some (.snap slot r) =>
    setCells slot
      (residueCells snapLength (fun cs => decide (classifySnap cs = .torn)) (encodeSnap r) cut)
      { st with inFlight := none }
  | some (.cal r) =>
    { st with
      inFlight := none
      cellsCal := residueCells calLength (fun cs => decide (classifyCal cs = .torn)) (encodeCal r) cut }

end Sys2Proof.Machine
end

