-- ==== Sys2Proof/Machine/GradeOps.lean ====
section
/-! DEFINITION. Setting the grade and the angle basis (R102, R106), the falls of Table 6-2 (R105) and the ceiling
(R103, R104). -/

namespace Sys2Proof.Machine

/-- The basis set; a change of it recomputes θ and sets the drift count to 0 (R13, R23). -/
def setBasis (b : Basis) (s : State) : State :=
  if s.reck.basis = b then s
  else recomputeTheta { s with reck := { s.reck with basis := b, drift := 0 } }

/-- The basis of a grade that is set: a decision that gives LOST, a ceiling or a lead that lowers the grade to LOST, leave
basis NONE (R105, R106; at a search's completion DEDUCED, log 20). -/
def basisFor (g : Grade) (b : Basis) : Basis := if g = .lost then .none else b

/-- A change of the grade has the effects of R102: the GRADE attention cause, and the rest-retry block cleared. The
STATUS it queues and the REST trigger's test come at the end of the command. -/
def putGrade (g : Grade) (s : State) : State :=
  if s.gradeUnit.grade = g then s
  else
    setGradeAttention
      { s with
        gradeUnit := { s.gradeUnit with grade := g }
        store := { s.store with restRetry := false } }

/-- The grade and the basis set together; a fall from RESOLVED or above to below RESOLVED requests the VOID GRADE_LOSS
snapshot (R93, R102). -/
def setGradeBasis (g : Grade) (b : Basis) (s : State) : State :=
  let s' := putGrade g (setBasis b s)
  if gradeLe .resolved s.gradeUnit.grade && gradeLt g .resolved then requestSnapshot .gradeLoss .void s' else s'

/-- A grade set with the basis that it is given, and none with LOST (R106). -/
def setGrade (g : Grade) (b : Basis) (s : State) : State := setGradeBasis g (basisFor g b) s

/-- The row of Table 6-2 for a STOP cause: the grade it leaves at most, and the basis, none for "unchanged"; no row for
the causes that leave the grade as it is (Table 10-1). -/
def fallOf (s : State) : StopCause → Option (Grade × Option Basis)
  | .motorSensorFault | .motorJump =>
    if scaleValid s && !(setupOf s).scaleWraps then some (.coarse, some .scale) else some (.lost, some .none)
  | .motorCountOverflow => some (.lost, some .none)
  | .scaleFault => some (.resolved, none)
  | .scaleDrift => if (setupOf s).scaleWraps then some (.lost, some .none) else some (.coarse, some .scale)
  | .directiveUntaken | .wrongDirection | .unbiddenMotion | .linkTxFail | .duplicateStation => none

/-- The fall that a STOP cause makes: the lower of the present grade and the grade it names, with the basis of its row even
when the grade did not change (R105). A station at LOST then takes basis SCALE from a row that names it (DEDUCED, log 20). -/
def gradeFall (c : StopCause) (s : State) : State :=
  match fallOf s c with
  | none => s
  | some (g, b) => setGradeBasis (gradeMin s.gradeUnit.grade g) (b.getD s.reck.basis) s

/-- The fall of the grade to the ceiling when the ceiling lies below it, in any phase but CONFIG and DOWN; a fall caused
by the lead sets the capped-by-lead flag and records the lead grade (R103, R104). -/
def applyCeiling (s : State) : State :=
  if s.phase = .config ∨ s.phase = .down ∨ gradeLe s.gradeUnit.grade (ceiling s) = true then s
  else
    let byLead : Bool :=
      match leadGrade s with
      | none => false
      | some g => gradeLt g s.gradeUnit.grade
    let s1 : State :=
      if byLead then
        { s with gradeUnit := { s.gradeUnit with capped := true, recordedLead := leadGrade s } }
      else s
    setGrade (ceiling s) s.reck.basis s1

end Sys2Proof.Machine
end

