-- ==== Sys2Proof/Machine/ClaimOps.lean ====
section
/-! DEFINITION. The claim and directive unit's operations: posting a directive (R133, R135), the settling of a STOP's
record (R137), asking for and giving up a claim (R124, R127, R128). -/

namespace Sys2Proof.Machine

/-- The number after the last one used, 1 after 255 (R133). -/
def nextNumber (n : Nat) : Nat := if n < 255 then n + 1 else 1

/-- A directive posted: the record is replaced whole, the untaken period opens if it was closed, the checks of the
directive it replaces stop, and the DIRECTIVE attention cause is set (R133, R135). -/
def postDirective (k : DirKind) (speed : Nat) (target : Option Int) (s : State) : State :=
  let c := s.claim
  let n := nextNumber c.lastNumber
  setDirectiveAttention true
    { s with
      claim := { c with
        dirState := .posted
        dir :=
          { number := n, kind := some k, speed := some speed, target := target, postedTime := some s.ms
            taken := false }
        lastNumber := n
        untakenOpen := true
        untakenReported := c.untakenReported && c.untakenOpen
        untakenSince := if c.untakenOpen then c.untakenSince else some s.ms
        untakenTimer := if c.untakenOpen then c.untakenTimer else startTimer (setupOf s).directiveTimeout s
        allowance := .stopped
        furthest := none
        still := none
        takePoint := none
        allowanceStop := none } }

/-- A STOP posted even when a STOP is current (R140). Its speed level is not stated: a free value of 0 … 3 for each
directive number (DESIGN CHOICE, log 21). -/
def postStopAnew (s : State) : State :=
  postDirective .stop (Config.stopSpeed (nextNumber s.claim.lastNumber)).toNat none s

/-- A STOP posted; one that is current already stands with its number and its timers (R133). -/
def postStop (s : State) : State := if stopCurrent s then s else postStopAnew s

/-- A request to post a JOG or MOVE_TO is posted in claim state HELD only (R133). -/
def postMove (k : DirKind) (speed : Nat) (target : Option Int) (s : State) : State :=
  if s.claim.state = .held then postDirective k speed target s else s

/-- A claim asked for with its purpose (R124). -/
def requestClaim (p : Purpose) (s : State) : State :=
  let c : Claim := { s.claim with purpose := some p }
  match s.claim.state with
  | .none => { s with claim := { c with state := .waiting } }
  | .releasing => { s with claim := { c with wanted := true } }
  | .waiting | .queued | .held => { s with claim := c }

/-- R124: in WAITING, with no conflicting claim flag set and every ALIVE conflicting station at rest, a CLAIM is queued. -/
def tryClaim (s : State) : State :=
  if s.claim.state = .waiting ∧ blockingClaims s = 0#6 ∧ blockingMotion s = 0#6 then
    sendFrame (.claim (s.claim.purpose.getD .search)) { s with claim := { s.claim with state := .queued } }
  else s

/-- A RELEASE queued and the state RELEASING (R126, R128). In DOWN the RELEASE is discarded and the state is NONE
(R128, R131). -/
def beginRelease (wanted : Bool) (s : State) : State :=
  if s.phase = .down then { s with claim := { s.claim with state := .none, wanted := false } }
  else sendFrame .release { s with claim := { s.claim with state := .releasing, wanted := wanted } }

/-- The claim given up (R128): a current JOG or MOVE_TO is replaced by STOP before the flag is cleared. The purpose keeps its
last value until the next request or reset (R122; DESIGN CHOICE, log 67). -/
def releaseClaim (s : State) : State :=
  match s.claim.state with
  | .held => beginRelease false (if moving s then postStop s else s)
  | .queued => withdrawFrame .claim { s with claim := { s.claim with state := .none, wanted := false } }
  | .waiting => { s with claim := { s.claim with state := .none, wanted := false } }
  | .none | .releasing => { s with claim := { s.claim with wanted := false } }

/-- The purpose of a held claim changed to PARK and announced (R127). -/
def changePurpose (s : State) : State :=
  if s.claim.state = .held then
    sendFrame (.claim .park) { s with claim := { s.claim with purpose := some .park } }
  else s

/-- The still point set to M when the standing-still condition of R138 is entered. -/
def setStill (s : State) : State := { s with claim := { s.claim with still := some s.reck.count } }

/-- The condition of R138: in REFERENCE, no JOG or MOVE_TO current and no STOP posted or taken. -/
def stillExpected (s : State) : Bool := decide (s.phase = .reference) && !moving s && !stopCurrent s

end Sys2Proof.Machine
end

