-- ==== Sys2Proof/Machine/MarkOps.lean ====
section
/-! DEFINITION. The mark unit's operations: needs (R65), calls (R66), the own report (R72), release (R70), completion
(R75), lapse (R77), abandonment (R79). -/

namespace Sys2Proof.Machine

/-! ### Needs -/

def needsUnion (a b : Needs) : Needs where
  recovery := a.recovery || b.recovery
  reMark := a.reMark || b.reMark
  calibrate := a.calibrate || b.calibrate
  drive := a.drive || b.drive

def needsInter (a b : Needs) : Needs where
  recovery := a.recovery && b.recovery
  reMark := a.reMark && b.reMark
  calibrate := a.calibrate && b.calibrate
  drive := a.drive && b.drive

def needsMinus (a b : Needs) : Needs where
  recovery := a.recovery && !b.recovery
  reMark := a.reMark && !b.reMark
  calibrate := a.calibrate && !b.calibrate
  drive := a.drive && !b.drive

def onlyRecovery : Needs := { needsNone with recovery := true }
def onlyReMark : Needs := { needsNone with reMark := true }
def onlyCalibrate : Needs := { needsNone with calibrate := true }
def onlyDrive : Needs := { needsNone with drive := true }

/-- A need registered; a kind already held stays as it is (R65). -/
def register (n : Needs) (s : State) : State :=
  { s with mark := { s.mark with needs := needsUnion s.mark.needs n } }

/-- A need withdrawn by its owner (R65); it is then not served by an edge already taken. -/
def withdrawNeed (n : Needs) (s : State) : State :=
  { s with
    mark := { s.mark with
      needs := needsMinus s.mark.needs n, serving := needsMinus s.mark.serving n } }

/-! ### The call -/

/-- R66: mark state IDLE, no own MARK_CALL pending, and the calling condition of a registered need. -/
def callWanted (s : State) : Bool :=
  decide (s.mark.state = .idle) && !framePending s .markCall
    && (s.mark.needs.drive
      || ((s.mark.needs.reMark || s.mark.needs.calibrate) && s.levels.alhHigh)
      || (s.mark.needs.recovery && decide (s.phase = .recovery) && decide (s.mark.quiet = .expired)))

/-- A mark called: MARK_CALL with the arm mark number plus 1, modulo 256 (R66). -/
def tryCall (s : State) : State :=
  if callWanted s then sendFrame (.markCall (s.mark.number + 1#8)) s else s

/-! ### The own report (R30, R72) -/

/-- The own MARK_REPORT with a grade and an angle, from a capture. The scale valid flag of a report whose capture failed is
clear (DESIGN CHOICE, log 89). -/
def reportOf (s : State) (c : Capture) (g : Grade) (theta : Option Int) : MarkReport where
  number := s.mark.number
  grade := g
  captureGood := c.good
  scaleValid := c.good && c.scaleValid
  pM := if c.good then BitVec.ofNat 16 c.pM else 0#16
  sM := if c.good then BitVec.ofNat 16 (c.scaleCount.getD 0) else 0#16
  thetaM := if c.good then angleCarried g theta else none

/-- The own report queued; it then no longer waits for a decision. -/
def queueReport (c : Capture) (g : Grade) (theta : Option Int) (s : State) : State :=
  sendFrame (.markReport (reportOf s c g theta)) { s with mark := { s.mark with reportAwaiting := false } }

/-- A report that still waits for a decision queued with the own grade and θ_m as the capture holds them (R76, R79). -/
def flushReport (s : State) : State :=
  if s.mark.reportAwaiting then
    match s.mark.lastCapture with
    | some c => queueReport c s.gradeUnit.grade c.theta s
    | none => { s with mark := { s.mark with reportAwaiting := false } }
  else s

/-! ### Ends of a mark -/

/-- The outcome record (R75 to R79). -/
def recordOutcome (o : MarkOutcome) (missing : StationMask) (s : State) : State :=
  { s with mark := { s.mark with outcome := o, outcomeNumber := s.mark.number, missing := missing } }

def aliveStations (s : State) : StationMask := maskOf fun k => decide ((entry s k).presence = .alive)

/-- A mark that saw its edge ends: the collection timer stops, the outcome is recorded, the completed-mark flag and the
MARK attention cause are set, the state is IDLE (R75, R76). -/
def endCollection (o : MarkOutcome) (missing : StationMask) (s : State) : State :=
  setMarkAttention
    (recordOutcome o missing
      { s with
        mark := { s.mark with state := .idle, collection := .stopped, completedMark := true } })

/-- R75: in COLLECTING, complete when every ALIVE station has reported. -/
def tryComplete (s : State) : State :=
  if s.mark.state = .collecting ∧ aliveStations s &&& ~~~ s.mark.reported = 0#6 then
    endCollection .complete 0#6 s
  else s

/-- R70: in HOLDING, with HOLDOFF expired, the joint at rest and no JOG or MOVE_TO current, the hold is released. -/
def tryRelease (s : State) : State :=
  if s.mark.state = .holding ∧ s.mark.holdoff = .expired ∧ s.reck.atRest = true ∧ moving s = false then
    { s with mark := { s.mark with state := .awaitEdge } }
  else s

/-- R77: the mark lapses. -/
def lapse (s : State) : State :=
  let n := bump 255 s.mark.lapses
  let s1 := recordOutcome .lapsed 0#6
    { s with
      mark := { s.mark with state := .idle, holdoff := .stopped, timeout := .stopped, lapses := n } }
  let s2 := setMarkAttention s1
  if s.mark.completedMark then note .markLapse (s.mark.number.toNat : Int) (n : Int) s2 else s2

/-- A mark in HOLDING or AWAIT_EDGE abandoned (R79), with an empty missing set (DESIGN CHOICE, log 49). -/
def abandonHeld (s : State) : State :=
  if s.mark.state = .holding ∨ s.mark.state = .awaitEdge then
    recordOutcome .abandoned 0#6
      { s with mark := { s.mark with state := .idle, holdoff := .stopped, timeout := .stopped } }
  else s

/-- The needs emptied and a pending own MARK_CALL withdrawn (R65, R79). -/
def dropNeeds (s : State) : State :=
  withdrawFrame .markCall { s with mark := { s.mark with needs := needsNone, serving := needsNone } }

/-- The mark unit at entry to FAULTED: collection goes on, and a report that waits for a decision is queued (R79). -/
def markAtFault (s : State) : State := flushReport (dropNeeds (abandonHeld s))

/-- The mark unit at entry to DOWN: a mark in any state is abandoned and the unsent report discarded (R79); the return
from COLLECTING sets the MARK attention cause (R192). A capture request not yet answered is cancelled (DESIGN CHOICE,
log 50), and the outcome ABANDONED has an empty missing set (DESIGN CHOICE, log 49). -/
def markAtDown (s : State) : State :=
  let s1 := dropNeeds (abandonHeld s)
  let s2 : State :=
    { s1 with
      mark := { s1.mark with captureRequested := false, reportAwaiting := false, leadWait := .stopped } }
  if s2.mark.state = .collecting then
    setMarkAttention
      (recordOutcome .abandoned 0#6 { s2 with mark := { s2.mark with state := .idle, collection := .stopped } })
  else s2

end Sys2Proof.Machine
end

