-- ==== Sys2Proof/Machine/SearchOps.lean ====
section
/-! DEFINITION. The reference sequencer: waiting and claiming (R145, R146), moves (R148 to R151, R155), evaluation
(R153, R154), calibration (R156 to R158), parking and release (R159, R160), early ends (R161 to R163). -/

namespace Sys2Proof.Machine

/-! ### Phases -/

/-- A change of phase: the rest-retry block is cleared (R91), the muster timer stops when MUSTER is left (R62), and the
stop set is emptied when FAULTED is left (R182). -/
def setPhase (p : Phase) (s : State) : State :=
  { s with
    phase := p
    store := { s.store with restRetry := false }
    peers := { s.peers with musterTimer := if s.phase = .muster then .stopped else s.peers.musterTimer }
    fault := if s.phase = .faulted then faultReset s.fault.record else s.fault }

/-! ### The lead hold (R147) -/

/-- The hold ends: λ becomes the angle of the lead's entry if that is present, and is kept otherwise. -/
def endLeadHold (s : State) : State :=
  if s.search.leadHold then
    let s' : State := { s with search := { s.search with leadHold := false } }
    match (lead s).bind fun k => (entry s k).angle with
    | some a => setLambda a s'
    | none => recomputeTheta s'
  else s

/-- The lead passes the watch: its entry shows rest and it gives a lead grade of RESOLVED or above (R147). -/
def leadSettled (s : State) : Bool :=
  leadAtRest s && (match leadGrade s with | none => true | some g => gradeLe .resolved g)

/-! ### Ends of a search -/

/-- The sub-state back to NONE; the record's other fields, its timers among them, keep their values (R142). A timer left
running changes nothing when it expires (DEDUCED, log 71). -/
def clearSearch (o : SearchOutcome) (s : State) : State :=
  { s with
    search := { s.search with
      sub := .none, outcome := o, stage := .none, returning := false, awaitingWrite := false, parkLimit := none } }

/-- The CALIBRATE need and a pending calibration request withdrawn (R161, R163). -/
def withdrawCalibration (s : State) : State :=
  let s1 := withdrawNeed onlyCalibrate s
  { s1 with store := { s1.store with pendingCal := none } }

/-- What a failure and an abort do after their NOTE (R161, R162). -/
def endSearch (o : SearchOutcome) (s : State) : State :=
  setDoneAttention
    (setPhase .ready (clearSearch o (releaseClaim (endLeadHold (withdrawCalibration s)))))

def failCode : FailCause → Int
  | .prereqTimeout => 1 | .flagNotFound => 2 | .noConvergence => 3 | .interrupted => 4 | .leadUnsettled => 5

/-- A failure of the search (R161). -/
def failSearch (c : FailCause) (second : Int) (s : State) : State :=
  endSearch (.failed c) (note .referenceFail (failCode c) second s)

def abortCode : AbortReason → Int
  | .command => 1 | .halt => 2 | .claimConflict => 3

/-- An abort of the search, with the station concerned (R162). -/
def abortSearch (r : AbortReason) (st : Option Station) (s : State) : State :=
  endSearch (.aborted r)
    (raise (.note .referenceAborted) (abortCode r) (subCode s.search.sub : Int) st s)

/-- The end of a search by a STOP fault, but for the claim and the phase, which the STOP effects change (R163). -/
def endSearchByFault (s : State) : State :=
  if searching s then
    setDoneAttention (clearSearch .endedByFault (endLeadHold (withdrawCalibration s)))
  else s

/-- The end of a search by the entry into DOWN: nothing is withdrawn from the store (R163). -/
def endSearchByPower (s : State) : State :=
  if searching s then clearSearch .endedByPower (endLeadHold s) else s

/-! ### Moves (R148) -/

/-- A JOG in the search direction, or against it. -/
def jogKind (plus along : Bool) : DirKind := if plus == along then .jogPos else .jogNeg

/-- How far `m` lies past a point in a direction, negative when it has not reached it. -/
def pastBy (plus : Bool) (point m : Int) : Int := if plus then m - point else point - m

/-- The move in hand goes along the search direction; every other JOG goes against it. -/
def moveAlong (s : State) : Bool := decide (s.search.sub = .forward) && !s.search.returning

/-- A due move posted if ALH is sensed high; otherwise it waits for the next rise (R148). The move start point becomes M. A
search that has ended posts nothing (R142). -/
def tryMove (s : State) : State :=
  if searching s ∧ s.search.stage = .due ∧ s.levels.alhHigh = true ∧ s.claim.state = .held then
    let s1 : State :=
      match s.search.sub, (setupOf s).parkAngle with
      | .park, some target => postMove .moveTo 0 (some target) s
      | .park, none => s
      | _, _ => postMove (jogKind s.search.plus (moveAlong s)) s.search.level none s
    { s1 with search := { s1.search with moveStart := some s.reck.count, stage := .underway } }
  else s

/-- A sub-state's move becomes due. -/
def beginMove (s : State) : State := tryMove { s with search := { s.search with stage := .due } }

/-- The move in hand ended by a STOP; the sub-state waits for it to settle (R148). -/
def endMove (s : State) : State :=
  postStop { s with search := { s.search with stage := .stopping } }

/-- CLEAR entered: the clear point is none and the JOG is against the search direction (R149). -/
def enterClear (s : State) : State :=
  beginMove { s with search := { s.search with sub := .clear, clearPoint := none, returning := false } }

/-- FORWARD entered as a new pass (R150). -/
def enterForward (s : State) : State :=
  beginMove
    { s with
      search := { s.search with
        sub := .forward, e1 := none, e2 := none, e3 := none, e4 := none, chatter := 0
        passStart := some s.reck.count, returning := false } }

/-- FORWARD restarted: the pass start point is kept (R155). -/
def restartForward (s : State) : State :=
  beginMove
    { s with
      search := { s.search with
        sub := .forward, e1 := none, e2 := none, e3 := none, e4 := none, returning := false } }

/-- REVERSE entered (R151). -/
def enterReverse (s : State) : State :=
  beginMove { s with search := { s.search with sub := .reverse, returning := false } }

/-- SETTLE entered: its first interval lasts floor(SETTLE_TIME / 2) (R152). -/
def enterSettle (s : State) : State :=
  { s with
    search := { s.search with
      sub := .settle, stage := .none, settleSecond := .stopped
      settleFirst := startTimer ((setupOf s).settleTime / 2) s } }

/-- M lies past the pass start point in the search direction (R155). -/
def pastStart (s : State) : Bool :=
  match s.search.passStart with
  | none => false
  | some p => decide (0 < pastBy s.search.plus p s.reck.count)

/-- The restart after an interruption, once the STOP has settled and ALH is high (R155). The record that a search has
left when it ended is not touched (R142). -/
def tryRestart (s : State) : State :=
  if searching s ∧ s.search.restartPending ∧ s.claim.dirState = .settled ∧ s.levels.alhHigh then
    let s1 : State := { s with search := { s.search with restartPending := false } }
    match s.search.sub with
    | .clear => if s.sensor.flagLevel = some true then enterClear s1 else enterForward s1
    | .forward | .reverse =>
      if pastStart s then beginMove { s1 with search := { s1.search with returning := true } }
      else restartForward s1
    | .none | .waitPrereq | .claiming | .settle | .evaluate | .calibrate | .park | .release => s1
  else s

/-! ### Parking and release -/

/-- RELEASE, in one step (R160). -/
def completeSearch (s : State) : State :=
  setDoneAttention (setPhase .ready (clearSearch .completed (releaseClaim s)))

/-- PARK entered (R159). -/
def enterPark (s : State) : State :=
  beginMove (changePurpose { s with search := { s.search with sub := .park, returning := false } })

/-- A STOP of the search has settled: the search goes on (R149 to R151, R155, R159). -/
def advanceSearch (s : State) : State :=
  if searching s ∧ s.search.restartPending then tryRestart s
  else if s.search.stage = .stopping then
    match s.search.sub with
    | .clear => enterForward s
    | .forward => if s.search.returning then restartForward s else enterReverse s
    | .reverse => if s.search.returning then restartForward s else enterSettle s
    | .park => completeSearch s
    | .none | .waitPrereq | .claiming | .settle | .evaluate | .calibrate | .release => s
  else s

/-- A taken STOP settles when the joint is at rest (R137). In DOWN none settles: R140 stops the checks of 7.5 there and does
not say whether the settling is one (DESIGN CHOICE, log 93). -/
def trySettle (s : State) : State :=
  if s.phase ≠ .down ∧ s.claim.dirState = .taken ∧ s.claim.dir.kind = some .stop ∧ s.reck.atRest = true then
    let s1 : State :=
      { s with
        claim := { s.claim with
          dirState := .settled, allowance := .stopped, allowanceStop := none
          still := if s.phase = .reference then some s.reck.count else s.claim.still } }
    advanceSearch s1
  else s

/-! ### Edges and distances -/

/-- A flag edge taken by the sequencer (R149 to R152); `active` is the new level. -/
def takeEdge (active : Bool) (s : State) : State :=
  let m := s.reck.count
  let r := s.search
  let jog := decide (r.stage = .underway) && !r.returning
  match r.sub, active with
  | .clear, false => { s with search := { r with clearPoint := some m } }
  | .forward, true => if jog && r.e1.isNone then { s with search := { r with e1 := some m } } else s
  | .forward, false => if jog && r.e1.isSome then { s with search := { r with e2 := some m } } else s
  | .reverse, true => if jog && r.e3.isNone then { s with search := { r with e3 := some m } } else s
  | .reverse, false => if jog && r.e3.isSome then { s with search := { r with e4 := some m } } else s
  | .settle, _ =>
    if timerRunning r.settleSecond then { s with search := { r with chatter := bump 255 r.chatter } } else s
  | _, _ => s

/-- The flag is inactive and M lies past an edge by OVERRUN in a direction (R149 to R151). -/
def overrun (plus : Bool) (point : Option Int) (s : State) : Bool :=
  match point with
  | none => false
  | some p => decide (s.sensor.flagLevel = some false)
      && decide (((setupOf s).overrun : Int) ≤ pastBy plus p s.reck.count)

/-- The crossing of the present sub-state is done: STOP is due (R149, R150, R151, R155). -/
def crossingDone (s : State) : Bool :=
  let r := s.search
  match r.sub, r.returning with
  | .clear, _ => overrun (!r.plus) r.clearPoint s
  | .forward, false => overrun r.plus r.e2 s
  | .reverse, false => overrun (!r.plus) r.e4 s
  | .forward, true | .reverse, true => !pastStart s
  | _, _ => false

/-- The move's travel exceeds SEARCH_SPAN (R149, R150, R151, R155). -/
def travelExceeded (s : State) : Bool :=
  match s.search.moveStart with
  | none => false
  | some p => decide (((setupOf s).searchSpan : Int)
      < pastBy (s.search.plus == moveAlong s) p s.reck.count)

/-- A taken MOVE_TO has gone beyond its distance to the target plus SEARCH_SPAN (R159). -/
def parkOvertravel (s : State) : Bool :=
  match s.claim.dirState, s.claim.takePoint, s.search.parkLimit with
  | .taken, some p, some lim => decide (lim < dist s.reck.count p)
  | _, _, _ => false

/-- A taken MOVE_TO is complete: θ within REST_TOL seen at the joint of the target, at rest (R139). -/
def moveComplete (s : State) : Bool :=
  match s.claim.dirState, s.claim.dir.kind, s.claim.dir.target, s.reck.theta with
  | .taken, some .moveTo, some target, some a =>
    decide ((dist a target : Int) ≤ restTolAngle (setupOf s)) && s.reck.atRest
  | _, _, _, _ => false

/-- The sequencer's tests at a good motor sample (R148, R159): the end of the move first, then its travel. -/
def searchSample (s : State) : State :=
  if s.search.stage = .underway ∧ moving s = true then
    match s.search.sub with
    | .clear | .forward | .reverse =>
      if crossingDone s then endMove s
      else if travelExceeded s then failSearch .flagNotFound (subCode s.search.sub : Int) s
      else s
    | .park =>
      if moveComplete s then
        endMove { s with search := { s.search with parkOutcome := .reached } }
      else if parkOvertravel s then
        endMove { s with search := { s.search with parkOutcome := .overtravel } }
      else s
    | .none | .waitPrereq | .claiming | .settle | .evaluate | .calibrate | .release => s
  else s

/-- The inhibit notice of the mark unit (R80): an interruption of the pass (R155), or the end of the park move (R159). -/
def inhibitNotice (s : State) : State :=
  match s.search.sub with
  | .clear | .forward | .reverse =>
    if 4 ≤ s.search.interruptions then failSearch .interrupted 5 s
    else
      postStop
        { s with
          search := { s.search with
            interruptions := s.search.interruptions + 1
            e1 := none, e2 := none, e3 := none, e4 := none
            chatter := 0, restartPending := true, returning := false, stage := .stopping } }
  | .park => endMove { s with search := { s.search with parkOutcome := .interrupted } }
  | .none | .waitPrereq | .claiming | .settle | .evaluate | .calibrate | .release => postStop s

/-! ### Waiting and claiming -/

/-- A prerequisite station is settled: ALIVE, RESTORED or above, at rest (R145). -/
def prereqMet (e : PeerEntry) : Bool :=
  decide (e.presence = .alive) && gradeLe .restored e.grade && e.atRest

/-- The lead is settled for WAIT_PREREQ: ALIVE, at rest, lead grade RESOLVED or above (R145). -/
def leadMet (s : State) (k : Station) : Bool :=
  decide ((entry s k).presence = .alive) && (entry s k).atRest && gradeLe .resolved (gradeAsLead (entry s k))

/-- The stations that fail the condition of R145, the lead included. -/
def unsettled (s : State) : StationMask :=
  maskOf fun k =>
    (maskHas (prereqSet s) k && !prereqMet (entry s k)) || (decide (lead s = some k) && !leadMet s k)

/-- R145: in WAIT_PREREQ, with every station settled, the claim is asked for (R146). -/
def tryPrereq (s : State) : State :=
  if s.search.sub = .waitPrereq ∧ unsettled s = 0#6 then
    requestClaim .search
      { s with search := { s.search with sub := .claiming, prereqTimer := .stopped } }
  else s

/-- The grant reported to the sequencer (R146): the lead hold of a coupled station, then CLEAR or a new FORWARD. -/
def claimGranted (s : State) : State :=
  if s.search.sub = .claiming then
    let s1 : State :=
      if coupled s then
        { s with search := { s.search with heldLambda := some s.reck.lambda, leadHold := true } }
      else s
    if s.sensor.flagLevel = some true then enterClear s1 else enterForward s1
  else s

/-- The watch on the lead during the hold (R147). -/
def watchLead (s : State) : State :=
  if s.search.leadHold && searching s && !leadSettled s then
    failSearch .leadUnsettled (((lead s).map stationNumber).getD 0 : Int) s
  else s

/-! ### Evaluation and calibration -/

/-- A crossing's width lies within FLAG_WIDTH_MIN … FLAG_WIDTH_MAX (R153). -/
def widthOk (su : Setup) (a b : Int) : Bool :=
  decide (su.flagWidthMin ≤ dist a b) && decide (dist a b ≤ su.flagWidthMax)

/-- The centre of a valid pass, none for a pass that is not valid (R153). -/
def passCentre (su : Setup) (r : Search) : Option Int :=
  match r.e1, r.e2, r.e3, r.e4 with
  | some e1, some e2, some e3, some e4 =>
    if widthOk su e2 e1 && widthOk su e3 e4 && decide (r.chatter ≤ su.chatterMax) then
      some (rdiv (e1 + e2 + e3 + e4) 4)
    else none
  | _, _, _, _ => none

/-- c_lead of the search: from the held lead angle, 0 for an uncoupled station (R156). -/
def searchLeadTerm (s : State) : Int :=
  leadTerm (setupOf s) (coupled s) (s.search.heldLambda.getD 0)

/-- CALIBRATE entered from the agreed centre: the computed θ0, and the CALIBRATE need (R156). -/
def enterCalibrate (centre : Int) (delta : Nat) (s : State) : State :=
  register onlyCalibrate
    { s with
      search := { s.search with
        sub := .calibrate, stage := .none, centre := some centre, lastDelta := some delta
        theta0 := some ((setupOf s).homeAngle - seenAtJoint (setupOf s) (centre - searchLeadTerm s)) } }

/-- A counted pass that has not converged goes on (R154). -/
def nextPass (s : State) : State :=
  if s.search.passes < 3 then enterForward s
  else if s.search.level < 3 then
    enterForward
      { s with
        search := { s.search with level := s.search.level + 1, passes := 0, prevCentre := none } }
  else failSearch .noConvergence (s.search.total : Int) s

/-- EVALUATE: the pass is judged and counted (R153, R154). -/
def evaluatePass (s : State) : State :=
  let s1 : State :=
    { s with search := { s.search with passes := s.search.passes + 1, total := s.search.total + 1 } }
  match passCentre (setupOf s) s.search, s.search.prevCentre with
  | some c, some p =>
    if dist c p ≤ (setupOf s).agree then enterCalibrate (rdiv (p + c) 2) (dist c p) s1
    else nextPass { s1 with search := { s1.search with prevCentre := some c } }
  | some c, none => nextPass { s1 with search := { s1.search with prevCentre := some c } }
  | none, _ => nextPass { s1 with search := { s1.search with prevCentre := none } }

/-- A capture that serves the CALIBRATE need (R157): from a usable one the computed σ and the calibration request; after
another the need stays registered. -/
def searchCapture (c : Capture) (s : State) : State :=
  if s.search.sub = .calibrate then
    match c.good && c.scaleValid, c.scaleCount, s.search.theta0, s.search.centre with
    | true, some sm, some t0, some centre =>
      let thetaC := clampAngle (angleOfCount (setupOf s) t0 (searchLeadTerm s) c.count)
      let sigma := thetaC - (sm : Int) * 4096
      { s with
        search := { s.search with sigma := some sigma, awaitingWrite := true }
        store := { s.store with
          pendingCal := some
            { theta0 := t0, sigma := sigma, centre := centre, level := s.search.level
              passes := s.search.total, lastDelta := s.search.lastDelta.getD 0 } } }
    | _, _, _, _ => register onlyCalibrate s
  else s

/-- The completion of the search's own calibration write (R158); θ0 and σ have been taken already. The basis is set
first, so that the ceiling reads the saturation of the angle that the counts give. A lead grade below REFERENCED counts as
having lowered the result also where saturation holds the ceiling lower still (DESIGN CHOICE, log 74). The order is that of
R158's list (DEDUCED, log 81): the grade, then the REFERENCE request, which replaces a GRADE_LOSS request of that setting and
carries the held λ and its θ, then the end of the lead hold. -/
def calibrationDone (o : WriteOutcome) (s0 : State) : State :=
  let s := setBasis .counts s0
  let g := gradeMin .referenced (ceiling s)
  let byLead : Bool :=
    match leadGrade s with
    | none => false
    | some lg => gradeLt lg .referenced
  let s1 := setGrade g .counts s
  let s2 : State :=
    { s1 with gradeUnit := { s1.gradeUnit with capped := s1.gradeUnit.capped && byLead } }
  let s3 := requestSnapshot .reference .sound s2
  let s4 := endLeadHold s3
  let s5 : State := { s4 with search := { s4.search with calWrite := o, awaitingWrite := false } }
  match (setupOf s).parkAngle with
  | some _ => enterPark s5
  | none => completeSearch { s5 with search := { s5.search with parkOutcome := .notRequested } }

/-- REFERENCE_START accepted: the record is set up and the prerequisites are awaited (R144). -/
def startSearch (s : State) : State :=
  let s1 := setPhase .reference s
  setStill
    { s1 with
      search := { searchReset with
        sub := .waitPrereq
        plus := (effective s).plus
        level := (setupOf s).startLevel
        prereqTimer := startTimer ((setupOf s).prereqWait * 1000) s } }

end Sys2Proof.Machine
end

