-- ==== Sys2Proof/Machine/StopOps.lean ====
section
/-! DEFINITION. Raising a STOP fault with its effects (R178, R179), the conditions behind STOP causes (R182), and the
entry into DOWN (R98). -/

namespace Sys2Proof.Machine

/-- A recovery or re-mark decision in hand ended: the held capture is discarded and the sub-state is IDLE (R117). A
recovery read asked for and not yet answered is withdrawn with it (DESIGN CHOICE, log 53). -/
def endDecision (s : State) : State :=
  { s with
    gradeUnit := { s.gradeUnit with
      sub := .idle, readPending := false, held := none, leadReport := .awaited }
    mark := { s.mark with leadWait := .stopped } }

/-- The turn-confirm candidate list emptied (R112). -/
def emptyCandidates (s : State) : State :=
  { s with gradeUnit := { s.gradeUnit with candidates := [], candidateCapture := none } }

/-- A STOP cause joins the stop set, which holds each cause once (R182). -/
def joinStopSet (c : StopCause) (a : Int) (s : State) : State :=
  { s with
    fault := { s.fault with
      stopSet := if c ∈ s.fault.stopSet then s.fault.stopSet else s.fault.stopSet ++ [c]
      unbiddenStop := s.fault.unbiddenStop || (decide (c = .unbiddenMotion) && decide (a = 1))
      unbiddenStill := s.fault.unbiddenStill || (decide (c = .unbiddenMotion) && decide (a = 2)) } }

/-- The STOP effects of a fault raised in MUSTER, RECOVERY, READY or REFERENCE (R178). The grade falls before the report
that the entry to FAULTED queues takes the own grade (R79; DESIGN CHOICE, log 51). The fall and its GRADE_LOSS request come
before the end of the search and of its lead hold, so the record carries the held λ and its θ (R93; DESIGN CHOICE, log
83). -/
def stopEffects (c : StopCause) (a : Int) (s : State) : State :=
  let s1 := endSearchByFault (gradeFall c s)
  let s2 := postStop (releaseClaim s1)
  let s3 := emptyCandidates (endDecision (markAtFault s2))
  let s4 := joinStopSet c a (setPhase .faulted s3)
  sendFrame (.halt c) s4

/-- A STOP fault raised, with what its phase gives it (R177 to R179). -/
def raiseStop (c : StopCause) (a b : Int) (s : State) : State :=
  let s1 := raise (.stop c) a b (own s) s
  match s.phase with
  | .config | .down => s1
  | .faulted => gradeFall c (joinStopSet c a s1)
  | .muster | .recovery | .ready | .reference => stopEffects c a s1

/-- MOTOR_COUNT_OVERFLOW when a sum that M would become lies outside its range (R9). -/
def raiseIfOutside (sum : Int) (s : State) : State :=
  if countInRange sum then s else raiseStop .motorCountOverflow (limitCode sum) 0 s

/-- The condition behind a STOP cause of the stop set is present (Table 10-3). UNBIDDEN_MOTION taken with both first values
is present while the condition of either stands (DESIGN CHOICE, log 79). -/
def causePresent (s : State) : StopCause → Bool
  | .motorSensorFault => motorFailed s
  | .motorCountOverflow => s.reck.held
  | .scaleFault => scaleFailed s
  | .directiveUntaken => s.claim.untakenOpen && s.claim.untakenReported
  | .unbiddenMotion =>
    (s.fault.unbiddenStop && s.claim.allowanceStop.isSome) || (s.fault.unbiddenStill && !s.reck.atRest)
  | .linkTxFail => s.link.txFail
  | .duplicateStation =>
    match s.link.lastDuplicate with
    | none => false
    | some t => decide (elapsed s.ms t ≤ 8 * (setupOf s).plan.h)
  | .motorJump | .scaleDrift | .wrongDirection => false

/-- The first present cause of the stop set in code order (R183). -/
def firstPresent (s : State) : Option StopCause :=
  StopCause.all.find? fun c => decide (c ∈ s.fault.stopSet) && causePresent s c

/-- The directive and its checks at entry to DOWN: a current directive is replaced by a newly posted STOP, and the checks
and the untaken period end (R98, R140). -/
def directiveAtDown (s : State) : State :=
  let s1 := if moving s || stopCurrent s then postStopAnew s else s
  { s1 with
    claim := { s1.claim with
      untakenOpen := false, untakenReported := false, untakenSince := none, untakenTimer := .stopped
      allowance := .stopped, furthest := none, still := none, takePoint := none, allowanceStop := none } }

/-- Every slot but HALT and POWER_DOWN emptied (R35). -/
def keepDownFrames (s : State) : State :=
  { s with
    link := { s.link with
      queue := { s.link.queue with
        markCall := none, markReport := none, claim := none, release := none, status := none, hello := none } } }

/-- The entry into DOWN (R98). The POWER_FAIL request and the POWER_DOWN frame carry the own state at the assertion. The search
and its lead hold end before the phase changes, so a note of that end finds the phase before (DESIGN CHOICE, log 63), and
after the angle of the frame and of the request has been read: both carry the θ of the held lead angle (DESIGN CHOICE, log
73). -/
def enterDown (s : State) : State :=
  let snap := snapContents .powerFail .sound s
  let bye : PowerDownFrame :=
    { grade := s.gradeUnit.grade, theta := angleCarried s.gradeUnit.grade s.reck.theta }
  let s1 := directiveAtDown (endSearchByPower s)
  let s2 : State := { s1 with claim := { s1.claim with state := .none, wanted := false } }
  let s3 := emptyCandidates (endDecision (markAtDown s2))
  let s4 := sendFrame (.powerDown bye) (keepDownFrames (setPhase .down s3))
  putSnapshot snap { s4 with store := { s4.store with finalWrite := false } }

end Sys2Proof.Machine
end

