-- ==== Sys2Proof/Machine/Decide.lean ====
section
/-! DEFINITION. Turn resolution (R111 to R114), the decision at an arm mark and its courses (R110, R115, R118), the
taking of a capture by the grade unit (R109), the lead's report (R73), and the entry to RECOVERY (R107). -/

namespace Sys2Proof.Machine

/-! ### Turn resolution (R111, R112) -/

/-- τ_s, the SCALE_TOL as clamped at GO. -/
def scaleTau (s : State) : Int := s.port.tau.getD 0

/-- The motor count of turn count n at a captured single-turn value. -/
def turnCount (su : Setup) (pM : Nat) (n : Int) : Int := n * (cprOf su : Int) + (pM : Int)

/-- θ(n) with its joint turn floor(θ(n) / 2^24) (R111, R112). -/
def candidateOf (su : Setup) (theta0 cLead : Int) (pM : Nat) (n : Int) : Candidate :=
  let a := angleOfCount su theta0 cLead (turnCount su pM n)
  { n := n, theta := a, jointTurn := a / turn }

/-- m_s: a scale angle in motor counts (R111). -/
def scaleInCounts (su : Setup) (theta0 cLead target : Int) : Int := inCounts su (target - theta0) + cLead

/-- n_est: the estimated turn count (R111). -/
def turnEstimate (su : Setup) (theta0 cLead : Int) (pM : Nat) (target : Int) : Int :=
  rdiv (scaleInCounts su theta0 cLead target - (pM : Int)) (cprOf su : Int)

/-- The three tested counts about one scale angle (R111). -/
def testedCounts (su : Setup) (theta0 cLead : Int) (pM : Nat) (target : Int) : List Candidate :=
  let e := turnEstimate su theta0 cLead pM target
  [e - 1, e, e + 1].map (candidateOf su theta0 cLead pM)

/-- The first two tests of R111: the motor count in range and θ(n) within travel. -/
def withinTravel (su : Setup) (pM : Nat) (c : Candidate) : Bool :=
  countInRange (turnCount su pM c.n) && decide (su.travelLow ≤ c.theta) && decide (c.theta ≤ su.travelHigh)

/-- The three tests of R111 against one scale angle. -/
def countKept (su : Setup) (tau : Int) (pM : Nat) (target : Int) (c : Candidate) : Bool :=
  withinTravel su pM c && decide ((dist c.theta target : Int) ≤ tau)

/-- The scale angles that θ_scale stands for: itself, or with SCALE_WRAPS 1 each θ_scale + j · 2^24 within
TRAVEL_LOW − τ_s … TRAVEL_HIGH + τ_s (R112). -/
def scaleTargets (su : Setup) (tau thetaScale : Int) : List Int :=
  if su.scaleWraps then
    ([-10, -9, -8, -7, -6, -5, -4, -3, -2, -1, 0, 1, 2, 3, 4, 5, 6, 7, 8, 9, 10].map
        fun j : Int => thetaScale + j * turn).filter
      fun a => decide (su.travelLow - tau ≤ a) && decide (a ≤ su.travelHigh + tau)
  else [thetaScale]

/-- A candidate put into a list in ascending order of n; a count already there is kept once (R112). -/
def insertCandidate (c : Candidate) : List Candidate → List Candidate
  | [] => [c]
  | d :: ds => if c.n < d.n then c :: d :: ds else if c.n = d.n then d :: ds else d :: insertCandidate c ds

/-- The candidates of turn resolution (R111, R112). -/
def candidatesOf (su : Setup) (tau theta0 cLead thetaScale : Int) (pM : Nat) : List Candidate :=
  ((scaleTargets su tau thetaScale).flatMap fun a =>
    (testedCounts su theta0 cLead pM a).filter (countKept su tau pM a)).foldl (fun l c => insertCandidate c l) []

/-- The first value of SCALE_DISAGREE: the least distance among the tested counts within travel and range, 2^24 when
there is none or it is larger (R114). -/
def leastDistance (su : Setup) (tau theta0 cLead thetaScale : Int) (pM : Nat) : Nat :=
  ((scaleTargets su tau thetaScale).flatMap fun a =>
    ((testedCounts su theta0 cLead pM a).filter (withinTravel su pM)).map fun c => dist c.theta a).foldl min 16777216

/-! ### The snapshot test (R113) -/

/-- A snapshot ready for the test: its angle, its λ (0 uncoupled), and τ. -/
structure SnapTest where
  theta : Int
  lambda : Int
  tau : Nat
  deriving DecidableEq, Repr

/-- The chosen snapshot as the test uses it; a coupled station's without λ counts as none, and so does one without θ. -/
def snapTestOf (su : Setup) (isCoupled : Bool) (c : ChosenSnapshot) : Option SnapTest :=
  let tau := if c.r.body.atRest then su.slipTolRest else su.slipTolMoving
  match c.r.body.theta, isCoupled, c.r.body.lambda with
  | some t, false, _ => some { theta := t, lambda := 0, tau := tau }
  | some t, true, some l => some { theta := t, lambda := l, tau := tau }
  | _, _, _ => none

/-- The distance of the snapshot's angle from a candidate, reckoned with the snapshot's λ (R113). -/
def snapDistance (su : Setup) (isCoupled : Bool) (theta0 : Int) (pM : Nat) (t : SnapTest) (c : Candidate) : Nat :=
  if isCoupled then dist (candidateOf su theta0 (leadTerm su true t.lambda) pM c.n).theta t.theta
  else dist c.theta t.theta

def snapAgrees (su : Setup) (isCoupled : Bool) (theta0 : Int) (pM : Nat) (t : SnapTest) (c : Candidate) : Bool :=
  decide (snapDistance su isCoupled theta0 pM t c ≤ t.tau)

/-! ### The result of a course (R110, R114) -/

/-- What a course decides, before the ceiling. -/
structure Verdict where
  grade : Grade
  n : Option Candidate
  k : Nat
  agreed : Nat
  list : List Candidate
  slip : Option (Nat × Nat)
  disagree : Bool
  deriving DecidableEq, Repr

/-- A course that forms no candidates (DEDUCED, log 44). -/
def verdictOf (g : Grade) : Verdict :=
  { grade := g, n := none, k := 0, agreed := 0, list := [], slip := none, disagree := false }

/-- The decision table of R114. -/
def tableOf (su : Setup) (isCoupled : Bool) (theta0 : Int) (pM : Nat) (cands : List Candidate)
    (t : Option SnapTest) : Verdict :=
  let agreeing := match t with
    | none => []
    | some t => cands.filter (snapAgrees su isCoupled theta0 pM t)
  let v := { verdictOf .lost with k := cands.length, agreed := agreeing.length }
  match cands, agreeing with
  | [], _ => { v with disagree := true }
  | _, [c] => { v with grade := .restored, n := some c }
  | [c], _ =>
    match t with
    | none => { v with grade := .resolved, n := some c }
    | some t =>
      { v with grade := .resolved, n := some c, slip := some (snapDistance su isCoupled theta0 pM t c, t.tau) }
  | _, _ => if su.scaleWraps then { v with list := cands } else { v with grade := .coarse }

/-- What a decision needs, gathered from the state: the working calibration, the lead term, and θ_scale from S_m. -/
def decisionLeadTerm (s : State) : Int := leadTerm (setupOf s) (coupled s) s.reck.lambda

def captureScale (s : State) (c : Capture) : Int :=
  scaleAngle (setupOf s) s.reck.sigma (c.scaleCount.getD 0)

def decisionCandidates (s : State) (c : Capture) : List Candidate :=
  candidatesOf (setupOf s) (scaleTau s) s.reck.theta0 (decisionLeadTerm s) (captureScale s c) c.pM

/-- The course of a decision: the first line of R110 that applies. -/
def courseOf (s : State) : Course :=
  if !s.reck.calibrated then .noCalibration
  else if coupled s && (match s.gradeUnit.leadReport with
      | .present r => gradeLt r.grade .resolved
      | .awaited | .missing => true) then .noLead
  else .resolution

/-- The kind of the decision in hand, by the phase (R115, R118). -/
def kindOf (s : State) : DecisionKind := if s.phase = .recovery then .recovery else .reMark

/-- The snapshot a decision uses: the chosen one; at a re-mark only while the joint stands within REST_TOL of the
recovery anchor (R118). -/
def snapshotFor (s : State) (k : DecisionKind) (c : Capture) : Option ChosenSnapshot :=
  match k, s.gradeUnit.recoveryAnchor with
  | .recovery, _ => s.gradeUnit.chosen
  | _, some a => if dist c.count a ≤ (setupOf s).restTol then s.gradeUnit.chosen else none
  | _, none => none

/-- The verdict of a course on a capture, with λ as the decision has set it (R110, R114). -/
def judge (s : State) (course : Course) (k : DecisionKind) (c : Capture) : Verdict :=
  let su := setupOf s
  match course with
  | .noCalibration =>
    if su.scaleWraps then
      { verdictOf .lost with k := (decisionCandidates s c).length, list := decisionCandidates s c }
    else verdictOf .coarse
  | .noLead => if su.scaleWraps then verdictOf .lost else verdictOf .coarse
  | .resolution =>
    tableOf su (coupled s) s.reck.theta0 c.pM (decisionCandidates s c)
      ((snapshotFor s k c).bind (snapTestOf su (coupled s)))

/-! ### Applying a decision (R115) -/

/-- λ at a decision, whatever its course (DEDUCED, log 26): the θ_m of the lead's report where it carries one (R12, R110).
Where the report carries none λ is kept, in a resolution too, since a report without θ_m is no event of R12 (DEDUCED, log
13). -/
def takeLeadAngle (s : State) : State :=
  if coupled s then
    match s.gradeUnit.leadReport with
    | .present r =>
      match r.thetaM with
      | some a => setLambda a s
      | none => s
    | .awaited | .missing => s
  else s

/-- The turn offset of a candidate: n · CPR + p_m − M_m (R10). -/
def offsetOf (su : Setup) (c : Capture) (n : Int) : Int := turnCount su c.pM n - c.count

/-- The recovery anchor set, M_m plus the turn offset applied: by a decision in RECOVERY (R115) and by TURN_CONFIRM (R119). A
re-mark sets none, so the anchor stays where the joint recovered, and only a turn offset moves it (R115, R118; DEDUCED, log
24). -/
def setRecoveryAnchor (k : DecisionKind) (m : Int) (s : State) : State :=
  match k with
  | .recovery | .turnConfirm => { s with gradeUnit := { s.gradeUnit with recoveryAnchor := some m } }
  | .reMark => s

/-- The turn offset of a fixed n applied, with basis COUNTS, and the recovery anchor set (R106, R114, R115). -/
def fixTurn (k : DecisionKind) (c : Capture) (n : Option Candidate) (s : State) : State :=
  match n with
  | none => setRecoveryAnchor k c.count s
  | some x =>
    let d := offsetOf (setupOf s) c x.n
    setRecoveryAnchor k (c.count + d) (applyOffset d { s with reck := { s.reck with basis := .counts } })

/-- The basis that goes with a verdict (R106). -/
def basisOf (v : Verdict) : Basis :=
  match v.n, v.grade with
  | some _, _ => .counts
  | none, .lost => .none
  | none, _ => .scale

/-- The notes of R114. -/
def raiseVerdictNotes (c : Capture) (v : Verdict) (s : State) : State :=
  let s1 :=
    if v.disagree then
      note .scaleDisagree
        (leastDistance (setupOf s) (scaleTau s) s.reck.theta0 (decisionLeadTerm s) (captureScale s c) c.pM : Int)
        (scaleTau s) s
    else s
  match v.slip with
  | none => s1
  | some (d, t) => note .slipDetected (d : Int) (t : Int) s1

/-- The grade set from a verdict under the ceiling, with its basis (R103, R106). For COARSE from the scale the basis is
set first, so that the ceiling reads the saturation of the angle the verdict gives. -/
def gradeByVerdict (v : Verdict) (s : State) : State :=
  let s1 := setBasis (basisOf v) s
  setGrade (gradeMin v.grade (ceiling s1)) (basisOf v) s1

/-- The angle the decision gives for the captured instant (R115). -/
def verdictAngle (s : State) (c : Capture) (v : Verdict) : Option Int :=
  match v.n, v.grade with
  | some k, _ => some (clampAngle k.theta)
  | none, .lost => none
  | none, _ => some (clampAngle (captureScale s c))

/-- The capped-by-lead flag and the recorded lead grade after a decision (R104, R110). -/
def recordLead (course : Course) (v : Verdict) (s : State) : State :=
  match leadGrade s with
  | none => s
  | some lg =>
    { s with
      gradeUnit := { s.gradeUnit with
        capped := course = .noLead || (gradeLt lg v.grade && s.gradeUnit.capped)
        recordedLead := some lg } }

/-- The decision on the held capture, applied in one step (R110, R115, R118). The last decision shows the arm mark number as
it stands at the decision (DESIGN CHOICE, log 64), and a decision whose list is empty forms none and does not set the GRADE
attention cause on its account (R120; DESIGN CHOICE, log 65). One decision raises first the ANGLE_SATURATED that its λ causes
(R12, R15), then SCALE_DISAGREE or SLIP_DETECTED (R114), then the ANGLE_SATURATED that the turn offset or the basis causes
(DESIGN CHOICE, log 82). R115 applies the decision in one step; the model raises these notes before the phase becomes READY,
so the record of one that a decision in RECOVERY raises shows RECOVERY (DESIGN CHOICE, log 91), and MOTOR_COUNT_OVERFLOW after
it, so its record shows READY (DEDUCED, log 31). -/
def decideOn (c : Capture) (s : State) : State :=
  let k := kindOf s
  let course := courseOf s
  let s1 := takeLeadAngle s
  let v := judge s1 course k c
  let angle := verdictAngle s1 c v
  let sum := match v.n with
    | none => s1.reck.count
    | some n => s1.reck.count + offsetOf (setupOf s1) c n.n
  let s2 := recordLead course v (gradeByVerdict v (fixTurn k c v.n (raiseVerdictNotes c v s1)))
  let s3 := if s2.mark.reportAwaiting then queueReport c s2.gradeUnit.grade angle s2 else s2
  let s4 := endDecision s3
  let s5 : State :=
    { s4 with
      gradeUnit := { s4.gradeUnit with
        candidates := v.list
        candidateCapture := if v.list.isEmpty then none else some c
        lastDecision := some
          { kind := k, markNumber := s4.mark.number, course := some course, k := v.k, agreed := v.agreed
            result := s4.gradeUnit.grade, n := v.n.map fun x => x.n } } }
  let s6 := if v.list.isEmpty then s5 else setGradeAttention s5
  let s7 := if s6.phase = .recovery then setPhase .ready s6 else s6
  raiseIfOutside sum s7

/-- The decision made, when a capture is held. -/
def decideHeld (s : State) : State :=
  match s.gradeUnit.held with
  | none => s
  | some c => decideOn c s

/-! ### Captures and the lead's report (R73, R109) -/

/-- The decision waits for its lead's report. -/
def leadAwaited (s : State) : Bool := coupled s && decide (s.gradeUnit.leadReport = .awaited)

/-- A capture is held: the sub-state is LEAD_WAIT or READING, or the decision is made (R109). -/
def advanceDecision (s : State) : State :=
  if leadAwaited s then { s with gradeUnit := { s.gradeUnit with sub := .leadWait } }
  else if s.gradeUnit.readPending then { s with gradeUnit := { s.gradeUnit with sub := .reading } }
  else decideHeld s

/-- A capture that serves the RECOVERY or RE_MARK need (R109, R118): a usable one is held and its report waits; after
another the report goes at once and the need is registered again. -/
def gradeCapture (c : Capture) (served : Needs) (s : State) : State :=
  if c.good && c.scaleValid then
    advanceDecision
      { s with
        gradeUnit := { s.gradeUnit with held := some c }
        mark := { s.mark with reportAwaiting := true } }
  else
    queueReport c s.gradeUnit.grade c.theta
      (register { served with calibrate := false, drive := false } s)

/-- The capture answered (R24, R72). A report that no decision delays is queued here, with the grade from before a fall of the
ceiling that the same sample's saturation brings, which `finish` makes (DESIGN CHOICE, log 92). -/
def captureAnswered (c : Capture) (s : State) : State :=
  let served := needsInter s.mark.serving s.mark.needs
  let s1 : State :=
    { s with
      mark := { s.mark with
        lastCapture := some c, captureRequested := false, serving := needsNone
        needs := needsMinus s.mark.needs served } }
  let s2 :=
    if served.recovery || served.reMark then gradeCapture c served s1
    else queueReport c s1.gradeUnit.grade c.theta s1
  if served.calibrate then searchCapture c s2 else s2

/-- The lead's report is in, or declared missing: the wait ends, and a decision that waited for it goes on (R73, R109). -/
def leadResolved (l : LeadReport) (s : State) : State :=
  let s1 : State :=
    { s with
      gradeUnit := { s.gradeUnit with leadReport := l }
      mark := { s.mark with leadWait := .stopped } }
  if s1.gradeUnit.sub = .leadWait then advanceDecision s1 else s1

/-- The lead's report is still awaited by the wait that the edge started. -/
def leadWaiting (s : State) : Bool :=
  decide (s.gradeUnit.leadReport = .awaited) && timerRunning s.mark.leadWait

/-- The lead leaves ALIVE before its report arrives: the report is missing (R73). -/
def leadLost (s : State) : State :=
  match lead s with
  | none => s
  | some k =>
    if leadWaiting s && decide ((entry s k).presence ≠ .alive) then leadResolved .missing s else s

/-- The edge asks for the lead's report when a decision will need it (R73): one that has come since the adoption is
present, a lead that is not ALIVE is missing, and otherwise 2 · H are waited. -/
def leadAtEdge (s : State) : State :=
  match lead s with
  | none => s
  | some k =>
    if s.mark.serving.recovery || s.mark.serving.reMark then
      match maskHas s.mark.reported k, (entry s k).report with
      | true, some r => leadResolved (.present r) s
      | _, _ =>
        if (entry s k).presence = .alive then
          { s with
            gradeUnit := { s.gradeUnit with leadReport := .awaited }
            mark := { s.mark with leadWait := startTimer (2 * (setupOf s).plan.h) s } }
        else leadResolved .missing s
    else s

/-! ### RECOVERY (R107, R108) -/

/-- The quiet timer started from zero with the interval H (R67). -/
def startQuiet (s : State) : State :=
  { s with mark := { s.mark with quiet := startTimer (setupOf s).plan.h s } }

/-- The entry to RECOVERY (R107, R67). -/
def enterRecovery (s : State) : State :=
  let s1 := setPhase .recovery s
  let s2 : State :=
    { s1 with
      gradeUnit := { s1.gradeUnit with
        sub := .reading, readPending := true, held := none, leadReport := .awaited, chosen := none
        candidates := [], candidateCapture := none } }
  let s3 := register onlyRecovery s2
  if s3.levels.alhHigh then startQuiet s3 else s3

/-- STORE_TORN for each TORN slot (R96); slot A's is raised first (DESIGN CHOICE, log 54). -/
def noteTorn (s : State) : State :=
  let s1 := if s.store.imageA = .torn then note .storeTorn 1 0 s else s
  if s.store.imageB = .torn then note .storeTorn 2 0 s1 else s1

/-- The calibration taken at the read, or the defaults with CAL_ABSENT, which follows an ANGLE_SATURATED of the values taken
(R108; the order of the two notes is a DESIGN CHOICE, log 54). -/
def readCalibration (s : State) : State :=
  let absent (code : Int) :=
    note .calAbsent code 0 (takeCalibration 0 (setupOf s).scaleOffsetDefault false s)
  match s.store.imageCal with
  | .valid r => takeCalibration r.body.theta0 r.body.sigma true s
  | .empty => absent 1
  | .torn => absent 2
  | .unread | .writing => s

/-- The chosen snapshot: the newest valid slot, SOUND, of the calibration in force (R108). -/
def chooseSnapshot (s : State) : Option ChosenSnapshot :=
  match newest s, s.store.imageCal, s.store.calSeq with
  | some (slot, r), .valid _, some q =>
    if r.body.state = .sound ∧ r.body.calSeq = some q then some { slot := slot, r := r } else none
  | _, _, _ => none

/-- The store's answer to the recovery read (R96, R108, R109). STORE_TORN is raised first, then the ANGLE_SATURATED that the
calibration taken causes, then CAL_ABSENT (DESIGN CHOICE, log 54). -/
def answerRead (s : State) : State :=
  let s1 := readCalibration (noteTorn s)
  let s2 : State := { s1 with gradeUnit := { s1.gradeUnit with chosen := chooseSnapshot s1, readPending := false } }
  match s2.gradeUnit.held with
  | some _ => advanceDecision s2
  | none => { s2 with gradeUnit := { s2.gradeUnit with sub := .marking } }

end Sys2Proof.Machine
end

