-- ==== Sys2Proof/Machine/Settle.lean ====
section
/-! DEFINITION. What every command ends with: the conditions that the manual tests whenever one of their parts changes
(R61, R66, R70, R75, R89, R94, R103, R117, R124, R145, R147, R169), the STATUS that a change queues (R42), and the clock
tick and the RST_N gate that every command begins with (R186). -/

namespace Sys2Proof.Machine

/-- What a command answers. -/
abbrev Result := Host.Outcome State Fault Refusal

/-! ### Muster (R61, R62) -/

/-- A peer entry fails the muster condition (R61). -/
def musterFails (e : PeerEntry) : Bool :=
  !(decide (e.presence = .alive) && e.digestMatch && e.heardInMuster)

/-- The peer stations that fail the muster condition (R62). -/
def musterMissing (s : State) : StationMask := maskOf fun k => !isOwn s k && musterFails (entry s k)

/-- R61: MUSTER is left for RECOVERY when no peer entry fails. -/
def tryMuster (s : State) : State :=
  if s.phase = .muster ∧ musterMissing s = 0#6 then enterRecovery s else s

/-! ### Re-marks (R117) -/

/-- The lead grade is higher than the recorded one (R117). -/
def leadImproved (s : State) : Bool :=
  match leadGrade s, s.gradeUnit.recordedLead with
  | some g, some r => gradeLt r g
  | _, _ => false

/-- A coupled station in READY wants a re-mark (R117). -/
def wantsReMark (s : State) : Bool :=
  decide (s.phase = .ready) && coupled s && s.gradeUnit.capped && leadImproved s

/-- A part of the test of R117 has changed in this command. -/
def reMarkPartChanged (s0 s : State) : Bool :=
  decide (leadGrade s0 ≠ leadGrade s) || s0.reck.atRest != s.reck.atRest
    || s0.gradeUnit.capped != s.gradeUnit.capped || decide (s0.phase ≠ s.phase)

/-- R117: the RE_MARK need registered when wanted at rest, and withdrawn when the lead grade stands at or below the recorded
value. A need registered while a re-mark decision is in hand goes also when that decision records the lead grade as it
stands, and no lead grade has fallen (DESIGN CHOICE, log 84). -/
def reMarkTest (s0 s : State) : State :=
  if s.mark.needs.reMark then
    if leadImproved s then s else withdrawNeed onlyReMark s
  else if reMarkPartChanged s0 s && wantsReMark s && s.reck.atRest then register onlyReMark s
  else s

/-! ### Drift and dwell (R23, R169) -/

def driftTest (s : State) : State :=
  if driftActive s then s else { s with reck := { s.reck with drift := 0 } }

/-- The effective cap handed on to the dwell (Table of R169). -/
def dwellStep (cap : Speed) (s : State) : State :=
  let z := s.zone
  if speedCode cap ≤ speedCode z.capInForce then
    { s with zone := { capInForce := cap, pendingCap := none, dwell := .stopped } }
  else if z.pendingCap = some cap then s
  else if (setupOf s).zoneDwell = 0 then
    { s with zone := { capInForce := cap, pendingCap := none, dwell := .stopped } }
  else { s with zone := { z with pendingCap := some cap, dwell := startTimer (setupOf s).zoneDwell s } }

def dwellTest (s : State) : State := dwellStep (effective s).cap s

/-! ### STATUS (R42) -/

/-- An event of R42 other than a HELLO and a heartbeat has happened in this command. -/
def statusDue (s0 s : State) : Bool :=
  decide (s0.phase ≠ s.phase) || decide (s0.gradeUnit.grade ≠ s.gradeUnit.grade)
    || claimFlag s0 != claimFlag s || s0.reck.atRest != s.reck.atRest
    || s0.fault.record.locked != s.fault.record.locked

def statusTest (force : Bool) (s0 s : State) : State :=
  if force || statusDue s0 s then queueStatus s else s

/-! ### The end of a command -/

/-- The tests at the end of a command, in one order (DESIGN CHOICE, log 6). `s0` is the state the command began with
and `force` asks for a STATUS whatever has changed. -/
def finish (force : Bool) (s0 s : State) : State :=
  let s1 := tryMuster (tryClaim (tryPrereq (applyCeiling (watchLead (leadLost s)))))
  let s2 := tryCall (tryComplete (tryRelease (reMarkTest s0 s1)))
  let s3 := startWrite (restTrigger (driftTest s2))
  statusTest force s0 (dwellTest s3)

/-- The millisecond count and the PFAIL level at the instant of a command. The level rises only at the command
`pfailAsserted` or a reset's end (log 2). -/
def tick (now : Instant) (s : State) : State :=
  { s with ms := now.ms, levels := { s.levels with pfail := s.levels.pfail && now.pfail } }

/-- A command that changes the station: nothing while RST_N is low (R186); otherwise the tick, the effect, and the tests
at the end. -/
def running (now : Instant) (s : State) (effect : State → State) (force : Bool := false) : State :=
  if s.levels.rstLow then s else finish force (tick now s) (effect (tick now s))

/-- A command that only reads: nothing while RST_N is low. -/
def reading (now : Instant) (s : State) (effect : State → State) : State :=
  if s.levels.rstLow then s else effect (tick now s)

end Sys2Proof.Machine
end

