-- ==== Sys2Proof/Machine/PeerOps.lean ====
section
/-! DEFINITION. The Peer Table's operations: the fields a frame writes (R47), the restart test (R48), an arrival from a
peer and the own echo (R46, R50), the digest comparison (R59), the consistency tests (R49), silence (R51, R53) and the
emptying of an entry (R54). -/

namespace Sys2Proof.Machine

/-- An entry replaced. -/
def setEntry (k : Station) (e : PeerEntry) (s : State) : State :=
  { s with peers := { s.peers with entries := s.peers.entries.set k e } }

/-- The phases past MUSTER that a restarting station was last recorded in (R48). -/
def pastMuster : Phase → Bool
  | .recovery | .ready | .reference | .faulted | .down => true
  | .config | .muster => false

/-- The restart test, on the entry before the arrival (R48). -/
def isRestart (e : PeerEntry) (f : Frame) : Bool :=
  (decide (e.presence = .down) && decide (frameKind f ≠ .powerDown))
    || (match f with
        | .status c => decide (c.phase = .muster) && pastMuster e.phase
        | .hello _ => pastMuster e.phase
        | .halt _ | .powerDown _ | .markCall _ | .markReport _ | .claim _ | .release => false)

/-- What a restart clears in the entry (R48). After a restart shown by a frame without a grade, the entry's grade of before
is the lead grade until the restart's STATUS (R104; DESIGN CHOICE, log 66). -/
def clearForRestart (e : PeerEntry) : PeerEntry :=
  { e with claim := false, purpose := none, report := none, mismatchReported := false, gradeFromReport := false }

/-- The fields that a frame writes into its sender's entry (R47). -/
def writeFields (f : Frame) (e : PeerEntry) : PeerEntry :=
  match f with
  | .status c =>
    { e with
      phase := c.phase, grade := c.grade, atRest := c.atRest, claim := c.claim, fault := c.fault
      saturated := c.saturated, zone := c.zone, markNumber := c.markNumber, digest := some c.digest
      angle := c.theta, purpose := if c.claim then e.purpose else none, gradeFromReport := false }
  | .hello c => { e with digest := some c.digest }
  | .powerDown c => { e with phase := .down, grade := c.grade, angle := c.theta, gradeFromReport := false }
  | .claim p => { e with claim := true, purpose := some p }
  | .release => { e with claim := false, purpose := none }
  | .halt c => { e with fault := true, haltCause := some c }
  | .markReport r => { e with report := some r, gradeFromReport := true }
  | .markCall _ => e

/-- The kinds that write the plan digest. -/
def carriesDigest : Frame → Bool
  | .status _ | .hello _ => true
  | .halt _ | .powerDown _ | .markCall _ | .markReport _ | .claim _ | .release => false

/-- The digest-match flag of an entry evaluated against the own digest; clear before GO (R59). -/
def matchDigest (own : Option (BitVec 16)) (e : PeerEntry) : PeerEntry :=
  { e with digestMatch := decide (e.digest.isSome ∧ e.digest = own) }

/-- PLAN_MISMATCH for a peer whose digest is present and differs from the own digest, once (R59). -/
def mismatchTest (k : Station) (s : State) : State :=
  match (entry s k).digest, s.peers.digest with
  | some d, some o =>
    if d ≠ o ∧ (entry s k).mismatchReported = false then
      setEntry k { entry s k with mismatchReported := true }
        (noteOf k .planMismatch (d.toNat : Int) (o.toNat : Int) s)
    else s
  | _, _ => s

/-- The presence that a frame gives its sender's entry (R46). -/
def presenceBy (f : Frame) : Presence := if frameKind f = .powerDown then .down else .alive

/-- The heard flags and the last-heard time of an arrival (R46, R50). -/
def markHeard (t : Ms) (e : PeerEntry) : PeerEntry :=
  { e with silence := 0, heard := true, heardInMuster := true, lastHeard := some t }

/-- The entry after an arrival from a peer: restart, presence, fields, digest (R46). -/
def entryAfter (s : State) (k : Station) (f : Frame) : PeerEntry :=
  let e0 := entry s k
  let e1 := if isRestart e0 f then clearForRestart e0 else e0
  let e2 := writeFields f { markHeard s.ms e1 with presence := presenceBy f }
  if carriesDigest f then matchDigest s.peers.digest e2 else e2

/-- The two tests of R49, with the entry's phase before the arrival. -/
def inconsistent (before : Phase) : Frame → Bool
  | .claim _ => decide (before ≠ .ready ∧ before ≠ .reference)
  | .status c => c.claim && decide (c.phase ≠ .reference)
  | .halt _ | .powerDown _ | .markCall _ | .markReport _ | .release | .hello _ => false

/-- An arrival from a peer at the Peer Table (R46, R48, R49, R55, R59); a restart also takes the peer out of the set of
reported stations (R74). -/
def peerArrival (k : Station) (f : Frame) (s : State) : State :=
  let e0 := entry s k
  let s1 := setEntry k (entryAfter s k f) s
  let s2 : State :=
    if isRestart e0 f then
      addChangedPeer k { s1 with mark := { s1.mark with reported := maskDrop s1.mark.reported k } }
    else s1
  let s3 := if e0.presence = presenceBy f then s2 else addChangedPeer k s2
  let s4 := if carriesDigest f then mismatchTest k s3 else s3
  if inconsistent e0.phase f then noteOf k .peerInconsistent (frameClass (frameKind f) : Int) 0 s4 else s4

/-- The own echo at the own entry (R50). -/
def ownArrival (k : Station) (f : Frame) (s : State) : State :=
  let e := writeFields f (markHeard s.ms (entry s k))
  setEntry k (if carriesDigest f then matchDigest s.peers.digest e else e) s

/-- λ follows an angle that the lead reports, unless the lead hold stands (R12, R147). -/
def leadAngle (k : Station) (theta : Option Int) (s : State) : State :=
  match theta with
  | none => s
  | some a => if lead s = some k ∧ s.search.leadHold = false then setLambda a s else s

/-! ### Silence (R51, R53) -/

/-- An entry at a heartbeat expiry: an unheard ALIVE or STALE entry has its silence counted; the heard flag is then
cleared (R51). -/
def silenceStep (e : PeerEntry) : PeerEntry :=
  let n := e.silence + 1
  let e1 : PeerEntry :=
    if e.heard = false ∧ (e.presence = .alive ∨ e.presence = .stale) then
      { e with
        silence := n
        presence := if 8 ≤ n then .silent else if 3 ≤ n then .stale else e.presence }
    else e
  { e1 with heard := false }

/-- CLAIM_STALE for a station, with the purpose of its entry; a free value where the entry holds none (R53; DESIGN CHOICE,
log 38). -/
def raiseClaimStale (k : Station) (purpose : Option Purpose) (s : State) : State :=
  match purpose with
  | some p => noteOf k .claimStale (purposeCode p : Int) 8 s
  | none => noteOf k .claimStale ((Config.stalePurpose s.free).toNat : Int) 8 { s with free := s.free + 1 }

/-- One station's entry at a heartbeat expiry, with the changed-peer mask and CLAIM_STALE (R51, R53). -/
def silenceAt (s : State) (k : Station) : State :=
  let e := entry s k
  if isOwn s k then setEntry k { e with heard := false } s
  else
    let e1 := silenceStep e
    let s1 := setEntry k e1 s
    let s2 := if e1.presence = e.presence then s1 else addChangedPeer k s1
    if e1.presence = .silent ∧ e.presence ≠ .silent ∧ e.claim = true then
      raiseClaimStale k e.purpose s2
    else s2

/-- The entries examined at a heartbeat expiry, station 1 first (R53; the order is a DESIGN CHOICE, log 48). -/
def countSilence (s : State) : State := Station.all.foldl silenceAt s

/-! ### Forgetting (R54) -/

/-- An entry returned to its after-reset values, with its station in the changed-peer mask (R54, R55). -/
def forgetEntry (k : Station) (s : State) : State := addChangedPeer k (setEntry k entryReset s)

end Sys2Proof.Machine
end

