-- ==== Sys2Proof/Machine/Link.lean ====
section
/-! DEFINITION. The link family: the idle line (R27, R32), lost arbitration (R31), bit errors (R34), discarded frames
(R37, R39), and how a valid frame is told to be the own echo, a peer's, or a duplicate's (R33, R39, R40). -/

namespace Sys2Proof.Machine

/-- The line state set. -/
def setLine (l : LineState) (s : State) : State := { s with link := { s.link with line := l } }

/-- The pending frame of the lowest class (R32). -/
def lowestPending (q : PerKind (Option Frame)) : Option Frame :=
  (FrameKind.all.find? fun k => (q.get k).isSome).bind q.get

/-- The transmitter begins the pending frame of the lowest class, or the line is idle (R27, R32, R33). -/
def beginFrame (s : State) : State :=
  match lowestPending s.link.queue, own s with
  | some f, some k => setLine (.sending { frame := f, chars := encodeFrame k f, replaced := false }) s
  | _, _ => setLine .idle s

/-- LINK_IDLE (R32): during an own attempt the line is not idle, and nothing happens. -/
def idleEvent (s : State) : State :=
  match s.link.line with
  | .sending _ => s
  | .waitingForIdle | .idle | .receiving | .abandoned => beginFrame s

def execLinkIdle (now : Instant) (s : State) : Result := .next (running now s idleEvent)

/-! ### The own drive of ALD and its readback (R26, R31, R34) -/

/-- The bit that the station drives at bit `n` of its attempt: recessive where it sends nothing (R26, R31). -/
def drivenBit (n : Nat) (s : State) : LineBit :=
  match s.link.line with
  | .sending a => ((lineBits a.chars)[n]?).getD .recessive
  | .waitingForIdle | .idle | .receiving | .abandoned => .recessive

/-- The attempt in progress, when a mismatch read back at its bit `n` is of this kind (R31, R34). -/
def mismatchAt (kind : Readback) (n : Nat) (s : State) : Option Attempt :=
  match s.link.line with
  | .sending a =>
    if n < (lineBits a.chars).length ∧ compareBit n (drivenBit n s) (drivenBit n s).other = kind then some a else none
  | .waitingForIdle | .idle | .receiving | .abandoned => none

/-- ARBITRATION_LOST (R31): the line is released, the frame stays in its slot and the receiver takes the frame that goes
on. It happens at a recessive bit of the arbitration character; at any other bit it has no effect (log 4). -/
def loseArbitration (bit : Nat) (s : State) : State :=
  match mismatchAt .arbitrationLost bit s with
  | some _ => setLine .receiving s
  | none => s

def execArbitrationLost (at_ : BitInstant) (s : State) : Result :=
  .next (running at_.now s (loseArbitration at_.bit))

/-- The attempt abandoned and the error counts raised by a bit error of a kind (R34). -/
def countBitError (k : FrameKind) (s : State) : State :=
  { s with
    link := { s.link with
      line := .abandoned
      txErrors := bump 255 s.link.txErrors
      bitErrors := s.link.bitErrors.set k (s.link.bitErrors.get k + 1) } }

/-- The third consecutive bit error of a kind: its slot is emptied, its count returns to 0, and LINK_TX_FAIL is raised
(R34). -/
def failKind (k : FrameKind) (s : State) : State :=
  let s1 := withdrawFrame k s
  raiseStop .linkTxFail (frameClass k : Int) 3
    { s1 with link := { s1.link with bitErrors := s1.link.bitErrors.set k 0, txFail := true } }

/-- BIT_ERROR (R34): it happens at any dominant bit of the frame, and at a recessive bit after the arbitration character;
at any other bit it has no effect (log 4). -/
def bitErrorEvent (bit : Nat) (s : State) : State :=
  match mismatchAt .bitError bit s with
  | some a =>
    let k := frameKind a.frame
    let s1 := countBitError k s
    if 3 ≤ s1.link.bitErrors.get k then failKind k s1 else s1
  | none => s

def execBitError (at_ : BitInstant) (s : State) : Result := .next (running at_.now s (bitErrorEvent at_.bit))

/-- A discarded frame counted; the count's passing from 16 to 17 raises LINK_RX_ERRORS (R37). -/
def countDiscard (s : State) : State :=
  let s1 : State := { s with link := { s.link with rxErrors := bump 255 s.link.rxErrors, line := .waitingForIdle } }
  if s.link.rxErrors = 16 then note .linkRxErrors 17 0 s1 else s1

/-- A frame discarded (R37): the receiver has opened none while it waits for idle (R27), and the damaged frame of an
abandoned attempt is not counted (R39). -/
def discardFrame (s : State) : State :=
  match s.link.line with
  | .waitingForIdle => s
  | .abandoned => setLine .waitingForIdle s
  | .idle | .sending _ | .receiving => countDiscard s

/-- FRAME_DISCARD (R37, R39): characters that the receiver would accept are no discard. -/
def discardEvent (r : Received) (s : State) : State :=
  match r with
  | .framingFailure | .lengthAbove12 => discardFrame s
  | .chars cs => if (receiveFrame cs).isSome then s else discardFrame s

def execFrameDiscard (now : Instant) (received : Received) (s : State) : Result :=
  .next (running now s (discardEvent received))

/-! ### Arrivals -/

/-- The own attempt has completed without bit error (R33, R34). -/
def completeAttempt (a : Attempt) (s : State) : State :=
  let k := frameKind a.frame
  { s with
    link := { s.link with
      line := .waitingForIdle
      queue := if a.replaced then s.link.queue else s.link.queue.set k none
      bitErrors := s.link.bitErrors.set k 0
      txFail := false } }

/-- The attempt whose own echo a valid frame with the own number is (R39). -/
def echoOf (f : Frame) (s : State) : Option Attempt :=
  match s.link.line with
  | .sending a => if a.frame = f then some a else none
  | .waitingForIdle | .idle | .receiving | .abandoned => none

/-- A frame bearing the own number that is not the own echo (R40). -/
def duplicate (k : Station) (f : Frame) (s : State) : State :=
  raiseStop .duplicateStation (frameClass (frameKind f) : Int) (stationNumber k : Int)
    { s with link := { s.link with line := .waitingForIdle, lastDuplicate := some s.ms } }

/-- The receiver can open a frame: it has read an idle line since the last reset and the last frame (R27, R37). -/
def receiverOpen (s : State) : Bool := decide (s.link.line ≠ .waitingForIdle)

/-- A valid frame at the end of its check: the own echo, a duplicate's frame, or a peer's (R38 to R40). A frame whose
content R37 refuses is discarded, and none is taken before the line has been idle (R27). The Peer Table takes the arrival,
with its notes, before the other blocks (DESIGN CHOICE, log 60). -/
def arrive (sender : Station) (f : Frame) (onEcho onPeer : State → State) (s : State) : State :=
  if receiverOpen s = false then s
  else if frameContentOk f = false then discardFrame s
  else if isOwn s sender then
    match echoOf f s with
    | some a => onEcho (ownArrival sender f (completeAttempt a s))
    | none => duplicate sender f s
  else onPeer (peerArrival sender f (setLine .waitingForIdle s))

end Sys2Proof.Machine
end

