-- ==== Sys2Proof/Machine/Arrivals.lean ====
section
/-! DEFINITION. The arrival family: what each kind of frame does beyond the Peer Table, from a peer and as the own echo
(R38): HALT (R181), POWER_DOWN (R52), MARK_CALL (R67 to R69), MARK_REPORT (R73, R74), CLAIM (R125, R126, R129), RELEASE
(R128), STATUS (R12, R130), HELLO (R44). -/

namespace Sys2Proof.Machine

/-- A frame with no effect beyond the Peer Table. -/
def noMore (s : State) : State := s

/-! ### HALT and POWER_DOWN -/

/-- A peer's HALT aborts a search in progress (R162, R181). -/
def haltFromPeer (k : Station) (s : State) : State :=
  if searching s then abortSearch .halt (some k) s else s

def execHaltArrival (now : Instant) (sender : Station) (cause : StopCause) (s : State) : Result :=
  .next (running now s (arrive sender (.halt cause) noMore (haltFromPeer sender)))

def execPowerDownArrival (now : Instant) (sender : Station) (f : PowerDownFrame) (s : State) : Result :=
  .next (running now s (arrive sender (.powerDown f) noMore (leadAngle sender f.theta)))

/-! ### MARK_CALL -/

/-- A call adopted (R68). -/
def adoptCall (n : Byte) (s : State) : State :=
  withdrawFrame .markCall
    { s with
      mark := { s.mark with
        number := n, reported := 0#6, state := .holding
        holdoff := startTimer (setupOf s).plan.holdoff s
        timeout := startTimer (setupOf s).plan.markTimeout s } }

/-- The phases that take a call (R68). -/
def takesCalls : Phase → Bool
  | .recovery | .ready | .reference => true
  | .config | .muster | .faulted | .down => false

/-- A MARK_CALL heard while the line is high starts the quiet timer from zero (R67). -/
def callHeard (s : State) : State := if s.levels.alhHigh then startQuiet s else s

/-- A MARK_CALL, a peer's or the own echo: adopted (R68), merged, a clash, or ignored (R69). Each but a merged one, which
restarts no timer, counts as a call heard for the quiet timer (R67, R69; that a clashing and an ignored call are calls taken
in the sense of R67 is DEDUCED, log 70). -/
def takeCall (sender : Station) (n : Byte) (s : State) : State :=
  if takesCalls s.phase then
    if s.mark.state = .idle then adoptCall n (callHeard s)
    else if n = s.mark.number then s
    else noteOf sender .markClash (n.toNat : Int) (s.mark.number.toNat : Int) (callHeard s)
  else callHeard s

def execMarkCallArrival (now : Instant) (sender : Station) (number : Byte) (s : State) : Result :=
  .next (running now s (arrive sender (.markCall number) (takeCall sender number) (takeCall sender number)))

/-! ### MARK_REPORT -/

/-- The echo of the own report after its mark has ended PARTIAL takes the own station out of the missing set (R76). -/
def ownReportIn (sender : Station) (n : Byte) (s : State) : State :=
  if s.mark.outcome = .partialMark ∧ s.mark.outcomeNumber = n then
    { s with mark := { s.mark with missing := maskDrop s.mark.missing sender } }
  else s

/-- The set of reported stations at a MARK_REPORT (R74). -/
def countReport (sender : Station) (n : Byte) (s : State) : State :=
  if n ≠ s.mark.number then
    { s with mark := { s.mark with reported := maskDrop s.mark.reported sender } }
  else if s.mark.state = .idle then s
  else { s with mark := { s.mark with reported := maskAdd s.mark.reported sender } }

/-- The lead's report while it is awaited: present, or missing when it bears another number (R73). -/
def leadReports (sender : Station) (r : MarkReport) (s : State) : State :=
  if lead s = some sender ∧ leadWaiting s = true then
    if r.number = s.mark.number then leadResolved (.present r) s else leadResolved .missing s
  else s

def reportFromPeer (sender : Station) (r : MarkReport) (s : State) : State :=
  leadReports sender r (countReport sender r.number s)

/-- The own MARK_REPORT echoed (R74, R76). -/
def reportEcho (sender : Station) (n : Byte) (s : State) : State := countReport sender n (ownReportIn sender n s)

def execMarkReportArrival (now : Instant) (sender : Station) (r : MarkReport) (s : State) : Result :=
  .next (running now s (arrive sender (.markReport r) (reportEcho sender r.number) (reportFromPeer sender r)))

/-! ### CLAIM and RELEASE -/

/-- A conflicting station's CLAIM withdraws the own pending one (R125); in HELD it changes nothing (R129). -/
def claimFromPeer (sender : Station) (s : State) : State :=
  if maskHas (conflictSet s) sender && decide (s.claim.state = .queued) then
    withdrawFrame .claim { s with claim := { s.claim with state := .waiting } }
  else s

/-- The echo of the own CLAIM (R126, R127). -/
def claimEcho (s : State) : State :=
  match s.claim.state with
  | .held => s
  | .queued =>
    if blockingClaims s = 0#6 then claimGranted { s with claim := { s.claim with state := .held } }
    else beginRelease true s
  | .waiting => beginRelease true s
  | .none => beginRelease false s
  | .releasing => beginRelease s.claim.wanted s

def execClaimArrival (now : Instant) (sender : Station) (purpose : Purpose) (s : State) : Result :=
  .next (running now s (arrive sender (.claim purpose) claimEcho (claimFromPeer sender)))

/-- The echo of the own RELEASE ends RELEASING (R128). The wanted mark has then led to WAITING, and is cleared with it (DESIGN
CHOICE, log 87). -/
def releaseEcho (s : State) : State :=
  if s.claim.state = .releasing then
    { s with claim := { s.claim with state := if s.claim.wanted then .waiting else .none, wanted := false } }
  else s

def execReleaseArrival (now : Instant) (sender : Station) (s : State) : Result :=
  .next (running now s (arrive sender .release releaseEcho noMore))

/-! ### STATUS and HELLO -/

/-- CLAIM_CONFLICT, and the yielding of the higher number (R130). -/
def claimConflict (mine other : Station) (s : State) : State :=
  let s1 := noteOf other .claimConflict (stationNumber mine : Int) (stationNumber other : Int) s
  if stationNumber other < stationNumber mine then
    let s2 := releaseClaim (postStop s1)
    if searching s2 then abortSearch .claimConflict (some other) s2 else s2
  else s1

/-- A conflicting station's STATUS with its claim flag set, taken in HELD (R130). -/
def conflictTest (sender : Station) (f : StatusFrame) (s : State) : State :=
  match own s with
  | none => s
  | some k =>
    if s.claim.state = .held ∧ maskHas (conflictSet s) sender = true ∧ f.claim = true then
      claimConflict k sender s
    else s

/-- A peer's STATUS beyond the Peer Table, whose own notes come first: λ with its ANGLE_SATURATED, then CLAIM_CONFLICT (R12,
R130; the order of the takers of one arrival is a DESIGN CHOICE, log 60). -/
def statusFromPeer (sender : Station) (f : StatusFrame) (s : State) : State :=
  conflictTest sender f (leadAngle sender f.theta s)

def execStatusArrival (now : Instant) (sender : Station) (f : StatusFrame) (s : State) : Result :=
  .next (running now s (arrive sender (.status f) noMore (statusFromPeer sender f)))

/-- A HELLO taken from a peer, whose content passes R37. -/
def helloFromPeer (sender : Station) (f : HelloFrame) (s : State) : Bool :=
  receiverOpen s && frameContentOk (.hello f) && !isOwn s sender

/-- HELLO: a peer's makes the station queue a STATUS from MUSTER onward except in DOWN (R44). -/
def execHelloArrival (now : Instant) (sender : Station) (f : HelloFrame) (s : State) : Result :=
  .next (running now s (arrive sender (.hello f) noMore noMore) (helloFromPeer sender f s))

end Sys2Proof.Machine
end

