-- ==== Sys2Proof/Machine/Report.lean ====
section
/-! DEFINITION. The data that the drive port returns, as fields: the own status data part by part (R193 with R81, R97,
R120, R141, R164, R174), an entry (R55), the record with its stop set (R184), a stored image (R97), the directive
(R134). -/

namespace Sys2Proof.Machine

def stationPart (s : State) : StationPart where
  phase := s.phase
  station := ((own s).map stationNumber).getD 0
  lr := s.straps.lr
  lastReset := s.straps.lastReset
  ms := s.ms
  pfail := s.levels.pfail

def attentionPart (s : State) : AttentionPart where
  fault := s.port.attention.fault
  directive := s.port.attention.directive
  grade := s.port.attention.grade
  peer := peerAttention s
  mark := s.port.attention.mark
  referenceDone := s.port.attention.referenceDone
  changedPeers := s.port.changedPeers

/-- The reckoning part (R193). S is answered absent before the first good scale sample (DESIGN CHOICE, log 62), and M, whose
present flag is then clear, while the count is unstarted (DESIGN CHOICE, log 88). -/
def reckoningPart (s : State) : ReckoningPart where
  motor := s.sensor.latestMotor
  count := if s.reck.started then some s.reck.count else none
  held := s.reck.held
  motorFailed := motorFailed s
  scaleFailed := scaleFailed s
  scale := s.sensor.latestScale
  theta := s.reck.theta
  thetaScale := s.reck.thetaScale
  basis := s.reck.basis
  saturated := s.reck.saturated
  atRest := s.reck.atRest
  lambda := s.reck.lambda
  drift := s.reck.drift
  turnOffset := s.reck.turnOffset

def linkPart (s : State) : LinkPart where
  txErrors := s.link.txErrors
  rxErrors := s.link.rxErrors
  txFail := s.link.txFail

def faultPart (s : State) : FaultPart where
  locked := s.fault.record.locked
  lost := s.fault.record.lost
  cause := s.fault.record.cause

/-- The own last capture (R81); a failed one carries no values (R24; DESIGN CHOICE, log 62). -/
def capturePart (c : Capture) : CapturePart where
  good := c.good
  scaleValid := c.scaleValid
  pM := if c.good then some c.pM else none
  count := if c.good then some c.count else none
  scaleCount := c.scaleCount
  theta := c.theta

/-- R81. -/
def markPart (s : State) : MarkPart where
  state := s.mark.state
  ownPull := ownPull s
  alhHigh := s.levels.alhHigh
  number := s.mark.number
  lapses := s.mark.lapses
  completedMark := s.mark.completedMark
  needs := s.mark.needs
  outcome := s.mark.outcome
  outcomeNumber := s.mark.outcomeNumber
  missing := s.mark.missing
  edgeTime := s.mark.edgeTime
  lastCapture := s.mark.lastCapture.map capturePart

def storeActivity (s : State) : StoreActivity :=
  if s.store.scanDone then
    match s.store.inFlight with
    | none => .idle
    | some (.snap slot r) => .writingSnapshot slot r.body.cause
    | some (.cal _) => .writingCalibration
  else .scanning

/-- R97. -/
def storePart (s : State) : StorePart where
  activity := storeActivity s
  pendingCal := s.store.pendingCal.isSome
  pendingSnap := s.store.pendingSnap.map fun r => r.cause
  newest := (newest s).map fun n => n.1
  calSeq := s.store.calSeq
  restRetry := s.store.restRetry
  finalWrite := if s.phase = .down then some s.store.finalWrite else none

def chosenPart (c : ChosenSnapshot) : ChosenPart where
  slot := c.slot
  seq := c.r.seq
  theta := c.r.body.theta
  atRest := c.r.body.atRest

/-- R120. -/
def gradePart (s : State) : GradePart where
  grade := s.gradeUnit.grade
  ceiling := ceiling s
  capped := s.gradeUnit.capped
  basis := s.reck.basis
  leadGrade := ((leadGrade s).map gradeCode).getD 0
  sub := s.gradeUnit.sub
  chosen := s.gradeUnit.chosen.map chosenPart
  lastDecision := s.gradeUnit.lastDecision
  candidates := s.gradeUnit.candidates
  turnOffset := s.reck.turnOffset

/-- The obedience check in force with its anchor point (R136 to R139, R141); none in DOWN (R140). The anchor point of a
MOVE_TO's completion check is M at the take (DESIGN CHOICE, log 56). The allowance of a STOP is in force while the STOP is
TAKEN, also after its timer has expired (DESIGN CHOICE, log 69). -/
def checkInForce (s : State) : CheckInForce :=
  if s.phase = .down then .none
  else
    match s.claim.dirState, s.claim.dir.kind with
    | .taken, some .jogPos | .taken, some .jogNeg => .wrongDirection s.claim.furthest
    | .taken, some .moveTo => .moveTo s.claim.takePoint
    | .taken, some .stop => .stopAllowance s.claim.takePoint
    | _, _ => if stillExpected s then .stillness s.claim.still else .none

/-- R141. The time since the untaken period opened is answered as absent while the period is closed (DESIGN CHOICE, log
85). -/
def claimPart (s : State) : ClaimPart where
  state := s.claim.state
  wanted := s.claim.wanted
  flag := claimFlag s
  purpose := s.claim.purpose
  blockingClaims := blockingClaims s
  blockingMotion := blockingMotion s
  dir := s.claim.dir
  dirState := s.claim.dirState
  untakenOpen := s.claim.untakenOpen
  untakenReported := s.claim.untakenReported
  untakenFor := s.claim.untakenSince.map (elapsed s.ms)
  check := checkInForce s

/-- R164. The time remaining on PREREQ_WAIT is answered as absent while the timer is stopped (DESIGN CHOICE, log 85). -/
def searchPart (s : State) : SearchPart where
  sub := s.search.sub
  restartPending := s.search.restartPending
  plus := s.search.plus
  level := s.search.level
  passes := s.search.passes
  total := s.search.total
  interruptions := s.search.interruptions
  prevCentre := s.search.prevCentre
  e1 := s.search.e1
  e2 := s.search.e2
  e3 := s.search.e3
  e4 := s.search.e4
  chatter := s.search.chatter
  passStart := s.search.passStart
  clearPoint := s.search.clearPoint
  prereqRemaining := timerRemaining s.ms s.search.prereqTimer
  centre := s.search.centre
  lastDelta := s.search.lastDelta
  theta0 := s.search.theta0
  sigma := s.search.sigma
  heldLambda := s.search.heldLambda
  outcome := s.search.outcome
  calWrite := s.search.calWrite
  refSnapshot := s.search.refSnapshot
  parkOutcome := s.search.parkOutcome

/-- R174. The time remaining on the dwell timer is answered as absent while the timer is stopped (DESIGN CHOICE, log 85). -/
def zonePart (s : State) : ZonePart where
  index := (effective s).index
  members := (effective s).members
  cap := (effective s).cap
  homing := (effective s).homing
  plus := (effective s).plus
  capInForce := s.zone.capInForce
  pendingCap := s.zone.pendingCap
  dwellRemaining := timerRemaining s.ms s.zone.dwell
  concern := concernSet s
  armGrade := armGrade s
  atArmGrade := maskOf fun k => maskHas (concernSet s) k && decide (contribution s k = armGrade s)
  gradeCap := gradeCap (armGrade s)
  spd := spd s
  brkEn := brkEn s
  brakeBar := brakeBar s

/-- The own status data (R193). -/
def statusData (s : State) : StatusData where
  station := stationPart s
  attention := attentionPart s
  reckoning := reckoningPart s
  link := linkPart s
  fault := faultPart s
  mark := markPart s
  store := storePart s
  grade := gradePart s
  claim := claimPart s
  search := searchPart s
  zone := zonePart s

/-- The age of an entry: the time since it was heard, saturating at 65535, which also stands for never (R55). -/
def ageOf (now : Ms) : Option Ms → Nat
  | none => 65535
  | some t => min 65535 (elapsed now t)

/-- The report that PEER_READ returns for an entry without one: all 0 (R55). -/
def reportAbsent : MarkReport where
  number := 0#8
  grade := .lost
  captureGood := false
  scaleValid := false
  pM := 0#16
  sM := 0#16
  thetaM := none

/-- The data of PEER_READ (R55). -/
def peerData (k : Station) (s : State) : PeerData where
  station := k
  presence := (entry s k).presence
  silence := (entry s k).silence
  phase := (entry s k).phase
  grade := (entry s k).grade
  angle := (entry s k).angle
  atRest := (entry s k).atRest
  claim := (entry s k).claim
  fault := (entry s k).fault
  saturated := (entry s k).saturated
  digestMatch := (entry s k).digestMatch
  reportPresent := (entry s k).report.isSome
  purpose := ((entry s k).purpose.map purposeCode).getD 0
  haltCause := ((entry s k).haltCause.map stopCode).getD 0
  zone := (entry s k).zone
  markNumber := (entry s k).markNumber
  digest := (entry s k).digest
  report := (entry s k).report.getD reportAbsent
  age := ageOf s.ms (entry s k).lastHeard

/-- The stop set with each member marked present or not (R184). -/
def stopSetData (s : State) : List (StopCause × Bool) := s.fault.stopSet.map fun c => (c, causePresent s c)

/-- The data of FAULT_READ (R184, Table 10-2). -/
def faultData (s : State) : FaultData where
  cause := s.fault.record.cause
  phase := s.fault.record.phase
  station := (s.fault.record.station.map stationNumber).getD 0
  a := s.fault.record.a
  b := s.fault.record.b
  markNumber := s.fault.record.markNumber
  time := s.fault.record.time
  locked := s.fault.record.locked
  lost := s.fault.record.lost
  carried := s.fault.record.carried
  stopSet := stopSetData s

/-- The data of DIRECTIVE_TAKE, as the record stands before the take (R134). -/
def directiveData (s : State) : DirectiveData where
  number := s.claim.dir.number
  kind := s.claim.dir.kind
  speed := s.claim.dir.speed
  target := s.claim.dir.target
  postedTime := s.claim.dir.postedTime
  state := s.claim.dirState

/-- The class of a slot's image (R83, R97). -/
def slotClass : SlotImage → SlotClass
  | .unread => .unread
  | .writing => .writing
  | .empty => .empty
  | .torn => .torn
  | .valid r => match r.body.state with
    | .sound => .sound
    | .void => .void

/-- The class of the calibration record's image (R83, R97). -/
def calClass : CalImage → CalClass
  | .unread => .unread
  | .writing => .writing
  | .empty => .empty
  | .torn => .torn
  | .valid _ => .valid

/-- The class and the fields of a slot's image, with the check word of the record (R97, Table 5-1). -/
def slotFields (i : SlotImage) : SlotFields where
  cls := slotClass i
  fields := match imageRecord i with
    | some r => encodeSnap r
    | none => List.replicate snapLength 0#8

/-- The class and the fields of the calibration record's image (R97, Table 5-2). -/
def calFields (i : CalImage) : CalFields where
  cls := calClass i
  fields := match i with
    | .valid r => encodeCal r
    | .unread | .writing | .empty | .torn => List.replicate calLength 0#8

/-- The data of STORE_READ (R97). The answer for the calibration record holds no newest flag, which R97 speaks of for a slot
alone (DESIGN CHOICE, log 86). -/
def storeData (which : Option Slot) (s : State) : StoreData :=
  match which with
  | some .a => .slot .a (slotFields s.store.imageA) (decide ((newest s).map (fun n => n.1) = some .a))
  | some .b => .slot .b (slotFields s.store.imageB) (decide ((newest s).map (fun n => n.1) = some .b))
  | none => .calibration (calFields s.store.imageCal)

end Sys2Proof.Machine
end

