-- ==== Sys2Proof/Machine/Resets.lean ====
section
/-! DEFINITION. The three kinds of reset and the low of RST_N (R36, R101, R184 to R187). -/

namespace Sys2Proof.Machine

/-- Every block at its after-reset values, over the cells, straps, levels, fault record and drive port given (R186).
The queue of commands is not the station's and stays. -/
def resetBlocks (straps : Straps) (levels : Levels) (store : Store) (record : FaultRecord) (port : Port)
    (s : State) : State where
  phase := .config
  ms := 0#32
  straps := straps
  levels := levels
  sensor := sensorReset
  reck := reckoningReset
  link := linkReset
  peers := peersReset
  mark := markReset
  store := storeReset store.cellsA store.cellsB store.cellsCal
  gradeUnit := gradeReset
  claim := claimReset
  search := searchReset
  zone := zoneReset
  fault := faultReset record
  port := port
  free := s.free
  pending := s.pending

/-- What a reset leaves of the first-fault record (R184). -/
def recordAfter (kind : ResetKind) (r : FaultRecord) : FaultRecord :=
  match kind with
  | .por => recordReset
  | .pin | .command => { r with carried := r.locked }

/-- STRAP_INVALID at the end of a reset that latches 0 or 7 (R184, R185). -/
def strapTest (s : State) : State :=
  match own s with
  | some _ => s
  | none => raise .strapInvalid (s.straps.st.toNat : Int) 0 none s

/-- The end of a reset of a kind, with the pins it latches (R185 to R187). `shifted` is what the part last shifted out. -/
def endReset (kind : ResetKind) (pins : Pins) (cut : CutResidue) (shifted : ShiftedOut) (s : State) : State :=
  let record := recordAfter kind s.fault.record
  strapTest
    (resetBlocks { st := pins.st, lr := pins.lr, lastReset := kind }
      { pfail := pins.pfail, alhHigh := pins.alhHigh, rstLow := false, porInLow := false }
      (cutWrite cut s.store) record
      (portReset kind pins.st pins.lr record.locked shifted) s)

/-- POR (R186). While RST_N is low the station stays in reset, and the end of that low is then the end of a POR. -/
def execPor (pins : Pins) (cut : CutResidue) (s : State) : Result :=
  .next (if s.levels.rstLow then { s with levels := { s.levels with porInLow := true } }
    else endReset .por pins cut .nothing s)

/-- PIN_RESET: the rise of RST_N ends the pin reset (R186). -/
def execPinReset (pins : Pins) (cut : CutResidue) (s : State) : Result :=
  .next (endReset (if s.levels.porInLow then .por else .pin) pins cut s.port.shifted s)

/-- RST_N_LOW: what is in progress is cut, and the blocks stand at their after-reset values until the rise. The straps,
the response slot and the record stay as they are, and the own pull has ALH low (R186, log 10). -/
def execRstNLow (cut : CutResidue) (s : State) : Result :=
  .next (if s.levels.rstLow then s
    else
      resetBlocks s.straps { s.levels with alhHigh := false, rstLow := true, porInLow := false }
        (cutWrite cut s.store) s.fault.record
        { portReset s.straps.lastReset s.straps.st s.straps.lr s.port.attention.fault s.port.shifted with
          slot := s.port.slot } s)

end Sys2Proof.Machine
end

