-- ==== Sys2Proof/Machine/Characters.lean ====
section
/-! DEFINITION. The characters of the drive port: the codes of Table 10-1 and Table 11-2, the fixed form of a response
and what the part shifts out (R187, R188), and the command that a transaction's characters carry (Table 11-1). -/

namespace Sys2Proof.Machine

/-! ### Codes -/

/-- The classes of fault (R176). -/
inductive FaultClass where
  | stop | note | strap
  deriving DecidableEq, Repr

def faultClass : FaultCause → FaultClass
  | .stop _ => .stop
  | .note _ => .note
  | .strapInvalid => .strap

/-- The cause code of a fault (Table 10-1). -/
def faultCode : FaultCause → Nat
  | .stop c => stopCode c
  | .note c => noteCode c
  | .strapInvalid => strapCode

/-- The status codes of Table 11-2. -/
def statusCode : Status → Nat
  | .ok => 0 | .clamped => 1 | .wrongPhase => 2 | .refused => 3 | .badItem => 4 | .checkError => 5 | .unknown => 6

/-- The reason codes of Table 11-2, 0 for no reason. -/
def reasonCode : Reason → Nat
  | .none => 0 | .stillPresent => 1 | .markBusy => 2 | .noList => 3 | .busy => 4 | .lead => 5 | .candidate => 6
  | .grade => 7 | .zone => 8 | .present => 9 | .planCycle => 10 | .travel => 11 | .strap => 12

/-- The kind of reset in the reset response (R187). -/
def resetKindCode : ResetKind → Nat
  | .por => 1 | .pin => 2 | .command => 3

/-! ### Responses (R187, R188) -/

/-- The parts of the own status data in the order in which STATUS_READ gathers them (R193). -/
def statusSections (d : StatusData) : List StatusSection :=
  [.station d.station, .attention d.attention, .reckoning d.reckoning, .link d.link, .fault d.fault, .mark d.mark,
    .store d.store, .grade d.grade, .claim d.claim, .search d.search, .zone d.zone]

/-- The data characters of a response. The own status data are their parts one after another in R193's order, each with a
free layout (DESIGN CHOICE, log 9). Three short answers have their data in the order that their rules name, taken here with
one character for a code and four for a setup value (DEDUCED, log 58); an absent PARK_ANGLE is answered by its item and index
alone (DESIGN CHOICE, log 80). The layout of the others is free (DESIGN CHOICE, log 9). All lie within the 1023 characters of
R188. -/
def dataChars : ResponseData → List Byte
  | .none => []
  | .reset kind st lr => [byte (resetKindCode kind), byte st.toNat, byte lr.toNat]
  | .stillPresent c => [byte (stopCode c)]
  | .setup item index none => [byte item, byte index]
  | .setup item index (some v) => [byte item, byte index] ++ bytes32 v
  | .status d => ((statusSections d).flatMap Config.sectionLayout).take 1023
  | d => (Config.dataLayout d).take 1023

/-- The characters of a response before its check byte: status, echoed code, reason, two length characters with the high
one first, data (R188). -/
def responseBody (r : Response) : List Byte :=
  [byte (statusCode r.status), r.echo, byte (reasonCode r.reason)]
    ++ bytes16 (BitVec.ofNat 16 (dataChars r.data).length) ++ dataChars r.data

/-- The characters of a response, ended by the sum of those before (R188). -/
def responseChars (r : Response) : List Byte := responseBody r ++ [checkSum (responseBody r)]

/-- The character that the part shifts out at a place of a transaction, from 0: FFh throughout an ignored transaction,
and FFh after the response's check byte (R187). None before the first transaction. -/
def shiftedChar : ShiftedOut → Nat → Option Byte
  | .nothing, _ => none
  | .allOnes, _ => some 0xFF#8
  | .response r, n => some ((responseChars r)[n]?.getD 0xFF#8)

/-! ### Commands (R187, R188, Table 11-1) -/

/-- The command that the characters of a transaction not ignored carry: a fetch for a first character 00h, the command of
Table 11-1 that the code names, or an unknown command. `pins` and `cut` serve a RESET alone. -/
def commandOf (now : Instant) (pins : Pins) (cut : CutResidue) (chars : List Byte) : Instr :=
  match chars with
  | [] => .unknownCommand now []
  | code :: rest =>
    match code.toNat with
    | 0 => .fetch now
    | 1 => .statusRead now rest
    | 2 => .peerRead now rest
    | 3 => .faultRead now rest
    | 4 => .faultClear now rest
    | 5 => .directiveTake now rest
    | 6 => .storeRead now rest
    | 7 => .markRequest now rest
    | 8 => .referenceStart now rest
    | 9 => .referenceAbort now rest
    | 10 => .turnConfirm now rest
    | 11 => .peerForget now rest
    | 16 => .setup now rest
    | 17 => .go now rest
    | 31 => .reset now rest pins cut
    | _ => .unknownCommand now (code :: rest)

end Sys2Proof.Machine
end

