-- ==== Sys2Proof/Machine/Operands.lean ====
section
/-! DEFINITION. The operand forms of the drive port: a command's characters with its length and check (R188), the
parameter domains, the setup values (R190), and the response slot (R187). -/

namespace Sys2Proof.Machine

/-! ### Transactions (R187) -/

/-- A transaction not ignored: the slot is shifted out, and its end is kept. -/
def openTransaction (s : State) : State :=
  { s with port := { s.port with shifted := .response s.port.slot, lastEnd := some s.ms } }

/-- The response put in the slot. -/
def answer (code : Nat) (st : Status) (reason : Reason) (d : ResponseData) (s : State) : State :=
  { s with port := { s.port with slot := { status := st, echo := byte code, reason := reason, data := d } } }

def answerOk (code : Nat) (d : ResponseData) (s : State) : State := answer code .ok .none d s

def refuse (code : Nat) (reason : Reason) (s : State) : State := answer code .refused reason .none s

/-! ### Commands (R188) -/

/-- The command codes of Table 11-1. -/
def commandCodes : List Nat := [1, 2, 3, 4, 5, 6, 7, 8, 9, 10, 11, 16, 17, 31]

/-- The parameters of a command whose characters after the code are `rest`: none when the transaction ends before the
check byte or the check byte differs from the sum (the first two tests of R188). Characters after the check byte are
ignored. -/
def parameters (code : Nat) (rest : List Byte) : Option (List Byte) :=
  match rest with
  | [] => none
  | len :: more =>
    match more.drop len.toNat with
    | [] => none
    | check :: _ =>
      let ps := more.take len.toNat
      if check = checkSum (byte code :: len :: ps) then some ps else none

/-- A command as R188 tests it: framing and check, length, domain, phase; then its own rule. -/
def command (code : Nat) (rest : List Byte) (lengthOk domainOk : List Byte → Bool) (phaseOk : Phase → Bool)
    (act : List Byte → State → State) (s : State) : State :=
  let s1 := openTransaction s
  match parameters code rest with
  | none => answer code .checkError .none .none s1
  | some ps =>
    if lengthOk ps = false then answer code .checkError .none .none s1
    else if domainOk ps = false then answer code .badItem .none .none s1
    else if phaseOk s.phase = false then answer code .wrongPhase .none .none s1
    else act ps s1

def noParameters (ps : List Byte) : Bool := ps.isEmpty

def oneParameter (ps : List Byte) : Bool := decide (ps.length = 1)

def anyDomain (_ : List Byte) : Bool := true

def everyPhase (_ : Phase) : Bool := true

def readyOnly (p : Phase) : Bool := decide (p = .ready)

def referenceOnly (p : Phase) : Bool := decide (p = .reference)

def configOnly (p : Phase) : Bool := decide (p = .config)

/-- The station number that a parameter names. -/
def stationParameter : List Byte → Option Station
  | [n] => stationOf n.toNat
  | _ => none

def stationDomain (ps : List Byte) : Bool := (stationParameter ps).isSome

/-- The record that a parameter of STORE_READ names: slot A, slot B, or the calibration record as none. -/
def recordParameter : List Byte → Option (Option Slot)
  | [n] =>
    match n.toNat with
    | 1 => some (some .a)
    | 2 => some (some .b)
    | 3 => some none
    | _ => none
  | _ => none

def recordDomain (ps : List Byte) : Bool := (recordParameter ps).isSome

/-- The joint turn of TURN_CONFIRM, one character in two's complement. -/
def turnParameter : List Byte → Int
  | [k] => k.toInt
  | _ => 0

def turnDomain (ps : List Byte) : Bool := decide (-4 ≤ turnParameter ps) && decide (turnParameter ps ≤ 3)

/-! ### Setup values (R190) -/

/-- The item code, the index and the value, absent in the short form, of a SETUP. -/
def setupParameters : List Byte → Option (Nat × Nat × Option Int)
  | [i, x] => some (i.toNat, x.toNat, none)
  | [i, x, a, b, c, d] => some (i.toNat, x.toNat, some (int32 a b c d))
  | _ => none

/-- SETUP takes six parameter characters, and two for PARK_ANGLE (R190). -/
def setupLength (ps : List Byte) : Bool :=
  match ps with
  | [i, _] => decide (i.toNat = 24)
  | [_, _, _, _, _, _] => true
  | _ => false

/-- The indices that an item takes (Table 11-4); none for a code outside the table. -/
def indexOk (item index : Nat) : Bool :=
  if 1 ≤ item ∧ item ≤ 39 then
    if 28 ≤ item ∧ item ≤ 30 then decide (1 ≤ index ∧ index ≤ 4)
    else if 37 ≤ item then decide (1 ≤ index ∧ index ≤ 6)
    else decide (index = 0)
  else false

def setupDomain (ps : List Byte) : Bool :=
  match setupParameters ps with
  | none => false
  | some (item, index, _) => indexOk item index

/-- The range of a numeric item (Table 11-4); none for the mask and attribute items. -/
def numericRange : Nat → Option (Int × Int)
  | 1 => some (10, 16)
  | 2 => some (1, 65535)
  | 3 => some (1, 255)
  | 4 => some (-32768, 32767)
  | 5 => some (1, 255)
  | 6 => some (0, 1)
  | 7 => some (-8388608, 8388608)
  | 8 => some (4096, 4194304)
  | 9 => some (0, 1048576)
  | 10 => some (0, 1048576)
  | 11 => some (1, 4096)
  | 12 => some (20, 2000)
  | 13 => some (angleMin, angleMax)
  | 14 => some (angleMin, angleMax)
  | 15 => some (angleMin, angleMax)
  | 16 => some (1, 268435456)
  | 17 => some (1, 1048576)
  | 18 => some (1, 1048576)
  | 19 => some (1, 1048576)
  | 20 => some (1, 1024)
  | 21 => some (0, 15)
  | 22 => some (20, 2000)
  | 23 => some (0, 3)
  | 24 => some (angleMin, angleMax)
  | 25 => some (1, 255)
  | 26 => some (20, 500)
  | 27 => some (50, 2000)
  | 28 => some (-67108864, 67108864)
  | 29 => some (-67108864, 67108864)
  | 32 => some (0, 2000)
  | 34 => some (5, 50)
  | 35 => some (2, 20)
  | 36 => some (50, 2000)
  | 37 => some (0, 6)
  | _ => none

/-- The attribute that a value spells: cap in bits 7 … 0, homing in 15 … 8, direction in 23 … 16, bits 31 … 24 zero
(R190). -/
def attrOf (v : Int) : Option ZoneAttr :=
  let w := BitVec.ofInt 32 v
  let homing := (w.extractLsb' 8 8).toNat
  let dir := (w.extractLsb' 16 8).toNat
  match speedOf (w.extractLsb' 0 8).toNat with
  | none => none
  | some cap =>
    if homing ≤ 1 ∧ dir ≤ 1 ∧ (w.extractLsb' 24 8).toNat = 0 then
      some { cap := cap, homing := decide (homing = 1), plus := decide (dir = 0) }
    else none

/-- A value as stored, with whether it was changed: clamped to its range, or cut to bits 0 … 5 of a mask; none for an
attribute with a field outside its codes (R190). -/
def storedValue (item : Nat) (v : Int) : Option (Int × Bool) :=
  match numericRange item with
  | some (lo, hi) => some (clampInt lo hi v, decide (clampInt lo hi v ≠ v))
  | none =>
    if item = 30 ∨ item = 31 then (attrOf v).map fun _ => (v, false)
    else some (v % 64, decide (v < 0 ∨ 63 < v))

/-- A zone record of the setup changed. -/
def setZone (index : Nat) (f : ZoneRecord → ZoneRecord) (su : Setup) : Setup :=
  match index with
  | 1 => { su with zone1 := f su.zone1 }
  | 2 => { su with zone2 := f su.zone2 }
  | 3 => { su with zone3 := f su.zone3 }
  | 4 => { su with zone4 := f su.zone4 }
  | _ => su

def setPlan (f : Plan → Plan) (su : Setup) : Setup := { su with plan := f su.plan }

/-- A per-station item of the plan set. -/
def setAt {α : Type} (t : PerStation α) (index : Nat) (v : α) : PerStation α :=
  match stationOf index with
  | none => t
  | some k => t.set k v

/-- A stored value written to its item (Table 11-4). -/
def writeItem (item index : Nat) (v : Int) (su : Setup) : Setup :=
  match item with
  | 1 => { su with motorBits := v.toNat }
  | 2 => { su with gearNum := v.toNat }
  | 3 => { su with gearDen := v.toNat }
  | 4 => { su with coupleNum := v }
  | 5 => { su with coupleDen := v.toNat }
  | 6 => { su with scaleWraps := decide (v = 1) }
  | 7 => { su with scaleOffsetDefault := v }
  | 8 => { su with scaleTol := v.toNat }
  | 9 => { su with slipTolRest := v.toNat }
  | 10 => { su with slipTolMoving := v.toNat }
  | 11 => { su with restTol := v.toNat }
  | 12 => { su with restWindow := v.toNat }
  | 13 => { su with travelLow := v }
  | 14 => { su with travelHigh := v }
  | 15 => { su with homeAngle := v }
  | 16 => { su with searchSpan := v.toNat }
  | 17 => { su with flagWidthMin := v.toNat }
  | 18 => { su with flagWidthMax := v.toNat }
  | 19 => { su with overrun := v.toNat }
  | 20 => { su with agree := v.toNat }
  | 21 => { su with chatterMax := v.toNat }
  | 22 => { su with settleTime := v.toNat }
  | 23 => { su with startLevel := v.toNat }
  | 24 => { su with parkAngle := some v }
  | 25 => { su with prereqWait := v.toNat }
  | 26 => { su with directiveTimeout := v.toNat }
  | 27 => { su with stopAllowance := v.toNat }
  | 28 => setZone index (fun z => { z with low := v }) su
  | 29 => setZone index (fun z => { z with high := v }) su
  | 30 => setZone index (fun z => { z with attr := (attrOf v).getD z.attr }) su
  | 31 => { su with defaultZone := (attrOf v).getD su.defaultZone }
  | 32 => { su with zoneDwell := v.toNat }
  | 33 => { su with concernMask := BitVec.ofInt 6 v }
  | 34 => setPlan (fun p => { p with h := v.toNat }) su
  | 35 => setPlan (fun p => { p with holdoff := v.toNat }) su
  | 36 => setPlan (fun p => { p with markTimeout := v.toNat }) su
  | 37 => setPlan (fun p => { p with lead := setAt p.lead index (stationOf v.toNat) }) su
  | 38 => setPlan (fun p => { p with prereq := setAt p.prereq index (BitVec.ofInt 6 v) }) su
  | 39 => setPlan (fun p => { p with conflict := setAt p.conflict index (BitVec.ofInt 6 v) }) su
  | _ => su

end Sys2Proof.Machine
end

