-- ==== Sys2Proof/Machine/Start.lean ====
section
/-! DEFINITION. The start of a station: normalising the plan (R56), its tests (R57), the tests of GO (R191), the entry to
MUSTER (R60). -/

namespace Sys2Proof.Machine

/-! ### The plan (R56, R57) -/

/-- Station n removed from its own masks (R56 step 1). -/
def dropSelf (t : PerStation StationMask) : PerStation StationMask := t.map fun k m => maskDrop m k

/-- The conflict relation made symmetric (R56 step 3). -/
def symmetric (t : PerStation StationMask) : PerStation StationMask :=
  t.map fun n m => m ||| maskOf fun k => maskHas (t.get k) n

/-- The normalised plan (R56). -/
def normalise (p : Plan) : Plan :=
  { p with
    prereq := dropSelf p.prereq
    lead := p.lead.map fun k l => if l = some k then none else l
    conflict := symmetric (dropSelf p.conflict) }

/-- The stations of a set that have a link into the set. -/
def withLinks (links : Station → StationMask) (r : StationMask) : StationMask :=
  maskOf fun k => maskHas r k && decide (links k &&& r ≠ 0#6)

/-- A graph on the six stations has a cycle: some station still has a link after six removals of those without one
(R57). -/
def hasCycle (links : Station → StationMask) : Bool :=
  decide ((withLinks links (withLinks links (withLinks links (withLinks links (withLinks links
    (withLinks links 0x3F#6)))))) ≠ 0#6)

/-- The links of the lead graph. -/
def leadLinks (p : Plan) (k : Station) : StationMask :=
  match p.lead.get k with
  | none => 0#6
  | some l => stationBit l

/-- PLAN_CYCLE: a cycle in the lead or the prerequisite graph. A lead chain longer than five links arises only with a
cycle (R57). -/
def planCycle (p : Plan) : Bool := hasCycle (leadLinks p) || hasCycle p.prereq.get

/-! ### The tests of GO (R191) -/

/-- The TRAVEL test. -/
def travelBad (su : Setup) : Bool :=
  decide (su.travelHigh ≤ su.travelLow)
    || (!su.scaleWraps && decide (turn ≤ su.travelHigh - su.travelLow))
    || decide (su.homeAngle < su.travelLow ∨ su.travelHigh < su.homeAngle)
    || (match su.parkAngle with
        | none => false
        | some a => decide (a < su.travelLow ∨ su.travelHigh < a))

/-- The ZONE test of one record. -/
def zoneBad (su : Setup) (z : ZoneRecord) : Bool :=
  zoneEnabled z && decide (z.low < su.travelLow ∨ su.travelHigh + 1 < z.high)

/-- The first test of GO that fails (R191). -/
def goRefusal (s : State) : Option Reason :=
  let su := setupOf s
  if (own s).isNone then some .strap
  else if planCycle (normalise su.plan) then some .planCycle
  else if travelBad su then some .travel
  else if zoneBad su su.zone1 || zoneBad su su.zone2 || zoneBad su su.zone3 || zoneBad su su.zone4 then some .zone
  else none

/-- span: one motor turn seen at the joint, floor(2^24 · GD / GN) (R16). -/
def spanOf (su : Setup) : Int := (turn * (su.gearDen : Int)) / (su.gearNum : Int)

/-- τ_s: the lower of SCALE_TOL and span − 1 (R191). -/
def tauOf (su : Setup) : Int := min (su.scaleTol : Int) (spanOf su - 1)

/-! ### The entry to MUSTER (R59, R60, R44) -/

/-- The own entry at the acceptance of GO (R60). -/
def ownEntryAtGo (digest : BitVec 16) (e : PeerEntry) : PeerEntry :=
  { e with
    presence := .alive, phase := .muster, grade := .lost, angle := none, atRest := false, claim := false
    fault := false, saturated := false, digest := some digest, digestMatch := true }

/-- One entry at the entry to MUSTER: the heard flags cleared, a peer's digest compared (R60). -/
def entryAtGo (s : State) (digest : BitVec 16) (k : Station) (e : PeerEntry) : PeerEntry :=
  let e1 : PeerEntry := { e with heard := false, heardInMuster := false }
  if isOwn s k then ownEntryAtGo digest e1 else matchDigest (some digest) e1

/-- PLAN_MISMATCH for the peers heard in CONFIG with another digest (R59, R60). -/
def mismatchesAtGo (s : State) : State :=
  Station.all.foldl (fun s k => if isOwn s k then s else mismatchTest k s) s

/-- The entry to MUSTER (R60). The own entry's presence changes, so it joins the changed-peer mask (R55). A
PLAN_MISMATCH raised here finds the phase MUSTER (DESIGN CHOICE, log 47). -/
def enterMuster (s : State) : State :=
  let digest := planDigest (setupOf s).plan
  let s1 : State :=
    { s with
      peers :=
        { entries := s.peers.entries.map (entryAtGo s digest)
          musterTimer := startTimer (8 * (setupOf s).plan.h) s
          digest := some digest }
      link := { s.link with heartbeat := startTimer (setupOf s).plan.h s } }
  let s2 := match own s with
    | none => s1
    | some k => addChangedPeer k s1
  let s3 := mismatchesAtGo (setPhase .muster s2)
  sendFrame (.hello { digest := digest, interval := byte (setupOf s).plan.h }) s3

/-- The setup frozen with the normalised plan, τ_s and span (R189, R191). -/
def freezeSetup (s : State) : State :=
  let su := setupOf s
  { s with
    port := { s.port with
      setup := { su with plan := normalise su.plan }
      frozen := true
      tau := some (tauOf su)
      span := some (spanOf su) } }

/-- GO accepted: the setup frozen, MUSTER entered, and DOWN at once while PFAIL is asserted (R99, R191). -/
def start (s : State) : State :=
  let s1 := enterMuster (freezeSetup s)
  if s.levels.pfail then enterDown s1 else s1

end Sys2Proof.Machine
end

