-- ==== Sys2Proof/Machine/Port.lean ====
section
/-! DEFINITION. The drive port family: one meaning for each command of Table 11-1, the fetch, the ignored transaction and
the unknown command (R187 to R193 and the rules each command names). -/

namespace Sys2Proof.Machine

/-! ### Transactions without a command -/

/-- TRANSACTION_IGNORED: FFh throughout; the slot and the time of the last end stay (R187). -/
def execTransactionIgnored (now : Instant) (s : State) : Result :=
  .next (reading now s fun s => { s with port := { s.port with shifted := .allOnes } })

/-- FETCH: the slot is shifted out and left unchanged (R187). -/
def execFetch (now : Instant) (s : State) : Result := .next (reading now s openTransaction)

/-! ### Reading -/

/-- STATUS_READ clears GRADE, MARK and REFERENCE_DONE after the data is taken (R193). -/
def clearStatusCauses (s : State) : State :=
  { s with
    port := { s.port with
      attention := { s.port.attention with grade := false, mark := false, referenceDone := false } } }

def statusReadAct (s : State) : State := clearStatusCauses (answerOk 1 (.status (statusData s)) s)

def execStatusRead (now : Instant) (rest : List Byte) (s : State) : Result :=
  .next (reading now s (command 1 rest noParameters anyDomain everyPhase fun _ => statusReadAct))

/-- PEER_READ: the entry, and its station removed from the changed-peer mask (R55, R192). -/
def peerReadAct (ps : List Byte) (s : State) : State :=
  match stationParameter ps with
  | none => s
  | some k =>
    answerOk 2 (.peer (peerData k s))
      { s with port := { s.port with changedPeers := maskDrop s.port.changedPeers k } }

def execPeerRead (now : Instant) (rest : List Byte) (s : State) : Result :=
  .next (reading now s (command 2 rest oneParameter stationDomain everyPhase peerReadAct))

def clearFaultCause (s : State) : State :=
  { s with port := { s.port with attention := { s.port.attention with fault := false } } }

/-- FAULT_READ: the record with the stop set; the FAULT cause is cleared (R184). -/
def faultReadAct (s : State) : State := clearFaultCause (answerOk 3 (.fault (faultData s)) s)

def execFaultRead (now : Instant) (rest : List Byte) (s : State) : Result :=
  .next (reading now s (command 3 rest noParameters anyDomain everyPhase fun _ => faultReadAct))

/-- STORE_READ (R97). -/
def storeReadAct (ps : List Byte) (s : State) : State :=
  match recordParameter ps with
  | none => s
  | some which => answerOk 6 (.store (storeData which s)) s

def execStoreRead (now : Instant) (rest : List Byte) (s : State) : Result :=
  .next (reading now s (command 6 rest oneParameter recordDomain everyPhase storeReadAct))

/-! ### Faults -/

/-- The record cleared and unlocked, with the FAULT cause (R183, R192). -/
def clearRecord (s : State) : State := clearFaultCause { s with fault := { s.fault with record := recordReset } }

/-- FAULTED left by an accepted FAULT_CLEAR (R183). -/
def leaveFaulted (s : State) : State :=
  if gradeLe .resolved s.gradeUnit.grade then setPhase .ready s else enterRecovery s

/-- FAULT_CLEAR (R183). -/
def faultClearAct (s : State) : State :=
  if s.phase = .faulted then
    match firstPresent s with
    | some c => answer 4 .refused .stillPresent (.stillPresent c) s
    | none => leaveFaulted (clearRecord (answerOk 4 .none s))
  else clearRecord (answerOk 4 .none s)

def execFaultClear (now : Instant) (rest : List Byte) (s : State) : Result :=
  .next (running now s (command 4 rest noParameters anyDomain everyPhase fun _ => faultClearAct))

/-! ### Directives -/

/-- The checks of a taken directive begin (R136, R137, R139); the limit of a park move is fixed (R159), as a free value
while θ is absent (DESIGN CHOICE, log 14). -/
def beginChecks (s : State) : State :=
  match s.claim.dir.kind with
  | some .jogPos | some .jogNeg => { s with claim := { s.claim with furthest := some s.reck.count } }
  | some .stop => { s with claim := { s.claim with allowance := startTimer (setupOf s).stopAllowance s } }
  | some .moveTo =>
    match s.claim.dir.target, s.reck.theta with
    | some target, some a =>
      { s with
        search := { s.search with
          parkLimit := some ((inCounts (setupOf s) (dist target a : Int)).toNat + (setupOf s).searchSpan) } }
    | _, _ =>
      { s with
        free := s.free + 1
        search := { s.search with
          parkLimit := some (Config.parkDistance s.free + (setupOf s).searchSpan) } }
  | none => s

/-- A POSTED directive taken (R134, R135); no check follows in DOWN (R140). -/
def takePosted (s : State) : State :=
  let s1 : State :=
    { s with
      claim := { s.claim with
        dirState := .taken, dir := { s.claim.dir with taken := true }, takePoint := some s.reck.count
        untakenOpen := false, untakenReported := false, untakenSince := none, untakenTimer := .stopped } }
  if s.phase = .down then s1 else trySettle (beginChecks s1)

/-- DIRECTIVE_TAKE (R134). -/
def directiveTakeAct (s : State) : State :=
  let s1 := setDirectiveAttention false (answerOk 5 (.directive (directiveData s)) s)
  if s.claim.dirState = .posted then takePosted s1 else s1

def execDirectiveTake (now : Instant) (rest : List Byte) (s : State) : Result :=
  .next (running now s (command 5 rest noParameters anyDomain everyPhase fun _ => directiveTakeAct))

/-! ### Marks and the search -/

/-- MARK_REQUEST (R81); the call follows at the end of the command (R66). -/
def markRequestAct (s : State) : State :=
  if s.mark.state = .idle ∧ framePending s .markCall = false then
    register onlyDrive (answerOk 7 .none s)
  else refuse 7 .markBusy s

def execMarkRequest (now : Instant) (rest : List Byte) (s : State) : Result :=
  .next (running now s (command 7 rest noParameters anyDomain readyOnly fun _ => markRequestAct))

/-- The lines of R143 after the phase. -/
def searchRefusal (s : State) : Option Reason :=
  if gradeLt s.gradeUnit.grade .coarse then some .grade
  else if (effective s).homing = false then some .zone
  else
    match leadGrade s with
    | none => none
    | some g => if gradeLt g .resolved then some .lead else none

/-- REFERENCE_START (R143, R144): a re-mark decision in hand ends and the RE_MARK need is withdrawn (R117). R79 states
what becomes of a report that waits for its decision at entry to FAULTED and DOWN only; here it is queued, with the own
grade and θ_m as the capture holds them (DESIGN CHOICE, log 55). -/
def referenceStartAct (s : State) : State :=
  match searchRefusal s with
  | some r => refuse 8 r s
  | none => startSearch (endDecision (flushReport (withdrawNeed onlyReMark (answerOk 8 .none s))))

def execReferenceStart (now : Instant) (rest : List Byte) (s : State) : Result :=
  .next (running now s (command 8 rest noParameters anyDomain readyOnly fun _ => referenceStartAct))

/-- REFERENCE_ABORT (R162). -/
def referenceAbortAct (s : State) : State := abortSearch .command (own s) (answerOk 9 .none s)

def execReferenceAbort (now : Instant) (rest : List Byte) (s : State) : Result :=
  .next (running now s (command 9 rest noParameters anyDomain referenceOnly fun _ => referenceAbortAct))

/-! ### TURN_CONFIRM -/

/-- The candidates in a joint turn (R119). -/
def inTurn (s : State) (k : Int) : List Candidate := s.gradeUnit.candidates.filter fun c => c.jointTurn == k

/-- TURN_CONFIRM accepted with a candidate and the capture of the list (R10, R119). The mark number, the k and the agreed
number of the last decision it leaves are free values (DESIGN CHOICE, log 36). -/
def confirmTurn (c : Candidate) (cap : Capture) (s : State) : State :=
  let d := offsetOf (setupOf s) cap c.n
  let s1 := setGrade .coarse .counts (fixTurn .turnConfirm cap (some c) s)
  raiseIfOutside (s.reck.count + d)
    (emptyCandidates
      { s1 with
        free := s1.free + 1
        gradeUnit := { s1.gradeUnit with
          capped := false
          lastDecision := some
            { kind := .turnConfirm, markNumber := Config.confirmMark s1.free, course := none
              k := Config.confirmCount s1.free, agreed := Config.confirmAgreed s1.free, result := s1.gradeUnit.grade
              n := some c.n } } })

/-- TURN_CONFIRM, the first line of R119 that applies deciding. -/
def turnConfirmAct (ps : List Byte) (s : State) : State :=
  if (setupOf s).scaleWraps = false ∨ s.gradeUnit.grade ≠ .lost ∨ s.gradeUnit.candidates = [] then
    refuse 10 .noList s
  else if s.gradeUnit.sub ≠ .idle then refuse 10 .busy s
  else if gradeLt (ceiling s) .coarse then refuse 10 .lead s
  else
    match inTurn s (turnParameter ps), s.gradeUnit.candidateCapture with
    | [c], some cap => confirmTurn c cap (answerOk 10 .none s)
    | _, _ => refuse 10 .candidate s

def execTurnConfirm (now : Instant) (rest : List Byte) (s : State) : Result :=
  .next (running now s (command 10 rest oneParameter turnDomain readyOnly turnConfirmAct))

/-! ### PEER_FORGET -/

/-- PEER_FORGET (R54). -/
def peerForgetAct (ps : List Byte) (s : State) : State :=
  match stationParameter ps with
  | none => s
  | some k =>
    match (entry s k).presence with
    | .alive | .stale => refuse 11 .present s
    | .silent | .down => forgetEntry k (answerOk 11 .none s)
    | .absent => answerOk 11 .none s

def execPeerForget (now : Instant) (rest : List Byte) (s : State) : Result :=
  .next (running now s (command 11 rest oneParameter stationDomain everyPhase peerForgetAct))

/-! ### SETUP and GO -/

/-- What a setup item does at once beyond being stored (R6, R11, R189). -/
def setupEffect (item : Nat) (s : State) : State :=
  if item = 1 then unstartCount s
  else if item = 7 ∧ s.reck.calibrated = false then
    setSigma (setupOf s).scaleOffsetDefault s
  else s

/-- An item stored with its answer. -/
def storeItem (item index : Nat) (v : Int) (changed : Bool) (s : State) : State :=
  setupEffect item
    (answer 16 (if changed then .clamped else .ok) .none (.setup item index (some v))
      { s with port := { s.port with setup := writeItem item index v s.port.setup } })

/-- SETUP (R190). -/
def setupAct (ps : List Byte) (s : State) : State :=
  match setupParameters ps with
  | none => s
  | some (item, index, none) =>
    answerOk 16 (.setup item index none)
      { s with port := { s.port with setup := { s.port.setup with parkAngle := none } } }
  | some (item, index, some v) =>
    match storedValue item v with
    | none => answer 16 .badItem .none .none s
    | some (stored, changed) => storeItem item index stored changed s

def execSetup (now : Instant) (rest : List Byte) (s : State) : Result :=
  .next (running now s (command 16 rest setupLength setupDomain configOnly setupAct))

/-- GO (R191). -/
def goAct (s : State) : State :=
  match goRefusal s with
  | some r => refuse 17 r s
  | none =>
    let su := setupOf s
    let s1 := answer 17 (if tauOf su < (su.scaleTol : Int) then .clamped else .ok) .none
      (.go (tauOf su) (spanOf su) (planDigest (normalise su.plan))) s
    start s1

def execGo (now : Instant) (rest : List Byte) (s : State) : Result :=
  .next (running now s (command 17 rest noParameters anyDomain configOnly fun _ => goAct))

/-! ### RESET and unknown codes -/

/-- RESET: a command reset at its execution; no response of its own is formed (R186, R188). -/
def resetAct (pins : Pins) (cut : CutResidue) (s : State) : State := endReset .command pins cut s.port.shifted s

/-- RESET ends in the after-reset state, so the tests at the end of a command have nothing to do. -/
def execReset (now : Instant) (rest : List Byte) (pins : Pins) (cut : CutResidue) (s : State) : Result :=
  .next (reading now s (command 31 rest noParameters anyDomain everyPhase fun _ => resetAct pins cut))

/-- A transaction of no characters is answered CHECK_ERROR; the code it echoes is not stated (DESIGN CHOICE, log 15). -/
def emptyTransaction (s : State) : State :=
  answer (Config.emptyEcho s.free).toNat .checkError .none .none { s with free := s.free + 1 }

/-- A transaction whose code names no command: its framing and check are tested first (R188). -/
def unknownAct (chars : List Byte) (s : State) : State :=
  match chars with
  | [] => emptyTransaction s
  | code :: rest =>
    match parameters code.toNat rest with
    | none => answer code.toNat .checkError .none .none s
    | some _ => answer code.toNat .unknown .none .none s

/-- UNKNOWN_COMMAND (R188). -/
def execUnknownCommand (now : Instant) (chars : List Byte) (s : State) : Result :=
  .next (reading now s fun s => unknownAct chars (openTransaction s))

end Sys2Proof.Machine
end

