-- ==== Sys2Proof/Machine/Sensing.lean ====
section
/-! DEFINITION. The sensor family: the motor sample event with its unwrapping, rest, flag edge, capture and obedience
checks (R1 to R9, R20, R21, R24, R136 to R139), and the scale sample event with the drift check (R4, R17, R22). -/

namespace Sys2Proof.Machine

/-! ### The motor count (R6 to R9) -/

/-- The first good sample starts the count and sets the rest anchor (R6, R20). -/
def startCount (p : Nat) (s : State) : State :=
  recomputeTheta
    { s with
      reck := { s.reck with
        count := (p : Int), started := true, lastGood := some p
        anchor := some { count := (p : Int), time := s.ms }, atRest := false } }

/-- The step d of a good sample (R7). -/
def stepOf (s : State) (p : Nat) : Int := unwrapStep (cprOf (setupOf s)) p (s.reck.lastGood.getD p)

/-- M after a step: held at the limit while a step would carry it beyond, and no longer held at the first step that
moves it back inside (R7, R9). -/
def addStep (d : Int) (p : Nat) (s : State) : State :=
  recomputeTheta
    { s with
      reck := { s.reck with
        count := clampCount (s.reck.count + d)
        held := !countInRange (s.reck.count + d) || (s.reck.held && decide (d = 0))
        lastGood := some p } }

/-- The at-rest flag cleared, which also clears the rest-retry block (R91); a flag that is clear already lifts no block (DESIGN
CHOICE, log 90). -/
def clearRest (s : State) : State :=
  { s with
    reck := { s.reck with atRest := false }
    store := { s.store with restRetry := s.store.restRetry && !s.reck.atRest } }

/-- The rest anchor set to M at the present time. -/
def setAnchor (s : State) : State :=
  { s with reck := { s.reck with anchor := some { count := s.reck.count, time := s.ms } } }

/-- Rest evaluated at a good sample (R20); the first one after a failure sets the anchor afresh (R21). -/
def evaluateRest (afterFailure : Bool) (s : State) : State :=
  match s.reck.anchor with
  | none => setAnchor (clearRest s)
  | some a =>
    if afterFailure then setAnchor s
    else if (setupOf s).restTol < dist s.reck.count a.count then setAnchor (clearRest s)
    else if (setupOf s).restWindow ≤ elapsed s.ms a.time then { s with reck := { s.reck with atRest := true } }
    else s

/-- A good sample taken by the sensor front end (R2). -/
def takeGood (p : Nat) (s : State) : State :=
  { s with sensor := { s.sensor with latestMotor := some p, badMotor := 0 } }

/-- MOTOR_JUMP for a step above CPR/4 (R8). -/
def jumpTest (d : Int) (s : State) : State :=
  if (cprOf (setupOf s) : Int) < 4 * (d.natAbs : Int) then
    raiseStop .motorJump d ((cprOf (setupOf s) / 4 : Nat) : Int) s
  else s

/-- MOTOR_COUNT_OVERFLOW when a step carries M into the held condition; a step while M is held raises it no more (R9).
The jump fault of such a step is raised all the same (R8; DESIGN CHOICE, log 46). -/
def overflowTest (wasHeld : Bool) (sum : Int) (s : State) : State :=
  if wasHeld then s else raiseIfOutside sum s

/-- A good motor sample through the motor count (R6 to R9, R20). -/
def countGood (p : Nat) (s : State) : State :=
  if s.reck.started then
    let d := stepOf s p
    overflowTest s.reck.held (s.reck.count + d)
      (jumpTest d (evaluateRest (motorFailed s) (addStep d p (takeGood p s))))
  else startCount p (takeGood p s)

/-! ### The flag (R5) -/

/-- The flag sample compared with the previous one; an edge goes to the sequencer while the count is started (R5, R6). -/
def flagSample (level : Bool) (s : State) : State :=
  let s1 : State := { s with sensor := { s.sensor with flagLevel := some level } }
  match s.sensor.flagLevel with
  | none => s1
  | some old => if old != level && s.reck.started then takeEdge level s1 else s1

/-! ### Captures (R24) -/

/-- The capture that a good sample answers. -/
def goodCapture (p : Nat) (s : State) : Capture where
  good := true
  pM := p
  count := s.reck.count
  theta := s.reck.theta
  lambda := if coupled s then some s.reck.lambda else none
  scaleCount := s.sensor.latestScale
  scaleValid := scaleValid s
  atRest := s.reck.atRest

/-- The capture answered as failed; it carries no values. -/
def failedCapture : Capture where
  good := false
  pM := 0
  count := 0
  theta := none
  lambda := none
  scaleCount := none
  scaleValid := false
  atRest := false

def answerCapture (c : Capture) (s : State) : State := if s.mark.captureRequested then captureAnswered c s else s

/-! ### Obedience (R136, R138) -/

/-- The furthest point of a taken JOG, and WRONG_DIRECTION (R136). -/
def directionCheck (s : State) : State :=
  match s.claim.dirState, s.claim.dir.kind, s.claim.furthest with
  | .taken, some .jogPos, some f =>
    if (setupOf s).restTol < f - s.reck.count then
      raiseStop .wrongDirection (f - s.reck.count) (setupOf s).restTol s
    else { s with claim := { s.claim with furthest := some (max f s.reck.count) } }
  | .taken, some .jogNeg, some f =>
    if (setupOf s).restTol < s.reck.count - f then
      raiseStop .wrongDirection (s.reck.count - f) (setupOf s).restTol s
    else { s with claim := { s.claim with furthest := some (min f s.reck.count) } }
  | _, _, _ => s

/-- The stillness check (R138). -/
def stillnessCheck (s : State) : State :=
  match s.claim.still with
  | none => s
  | some p =>
    if stillExpected s && decide ((setupOf s).restTol < dist s.reck.count p) then
      raiseStop .unbiddenMotion 2 (dist s.reck.count p : Int) s
    else s

/-! ### The two commands -/

/-- A good motor sample (R2): the count, the flag, the capture, then the checks of the directive and of the search. -/
def goodMotorSample (p : Nat) (flag : Bool) (s : State) : State :=
  let s1 := flagSample flag (countGood p s)
  let s2 := answerCapture (goodCapture p s1) s1
  searchSample (stillnessCheck (trySettle (directionCheck s2)))

/-- A bad motor sample (R2): the third in a row fails the sensor (R3, R21, R24). The fault with its effects comes before
the failed capture's answer, so the report of that capture carries the grade as fallen (DESIGN CHOICE, log 52). -/
def badMotorSample (flag : Bool) (s : State) : State :=
  let s1 : State := { s with sensor := { s.sensor with badMotor := bump 3 s.sensor.badMotor } }
  let s2 :=
    if s.sensor.badMotor = 2 then
      answerCapture failedCapture (raiseStop .motorSensorFault 3 0 (clearRest s1))
    else s1
  flagSample flag s2

/-- MOTOR_SAMPLE (R1): the single-turn value is taken modulo CPR (log 8). -/
def execMotorSample (now : Instant) (reading : MotorReading) (flag : Bool) (s : State) : Result :=
  .next (running now s fun s =>
    match reading with
    | .good p => goodMotorSample (p.toNat % cprOf (setupOf s)) flag s
    | .bad => badMotorSample flag s)

/-- The drift check at a good scale sample (R22). -/
def driftCheck (s : State) : State :=
  match driftActive s, s.reck.theta, s.reck.thetaScale with
  | true, some a, some ts =>
    let d := scaleDistance (setupOf s) a ts
    if (d : Int) ≤ scaleTau s then { s with reck := { s.reck with drift := 0 } }
    else if s.reck.drift + 1 < 8 then { s with reck := { s.reck with drift := s.reck.drift + 1 } }
    else raiseStop .scaleDrift (d : Int) (scaleTau s) { s with reck := { s.reck with drift := 0 } }
  | _, _, _ => s

/-- A good scale sample (R4, R17, R22). -/
def goodScaleSample (v : Nat) (s : State) : State :=
  driftCheck (recomputeScale { s with sensor := { s.sensor with latestScale := some v, badScale := 0 } })

/-- A bad scale sample: the third in a row fails the scale (R4), and θ_scale is then absent; before it θ_scale stays as
the last good sample formed it (R17). -/
def badScaleSample (s : State) : State :=
  let s1 : State := { s with sensor := { s.sensor with badScale := bump 3 s.sensor.badScale } }
  let s2 := if scaleFailed s1 then recomputeScale s1 else s1
  if s.sensor.badScale = 2 then raiseStop .scaleFault 3 0 s2 else s2

/-- SCALE_SAMPLE (R4). -/
def execScaleSample (now : Instant) (reading : ScaleReading) (s : State) : Result :=
  .next (running now s fun s =>
    match reading with
    | .good v => goodScaleSample v.toNat s
    | .bad => badScaleSample s)

end Sys2Proof.Machine
end

