-- ==== Sys2Proof/Machine/StoreEvents.lean ====
section
/-! DEFINITION. The store family: the end of the start-up scan (R83, R92), a write's completion (R90 to R92, R95, R100,
R158, R162), the recovery read (R96), and the assertion of PFAIL (R98, R99). -/

namespace Sys2Proof.Machine

/-- The scan's answer: every image from its cells, and the calibration sequence in force (R83, R92). -/
def scanCells (st : Store) : Store :=
  let cal := classifyCal st.cellsCal
  { st with
    imageA := classifySnap st.cellsA
    imageB := classifySnap st.cellsB
    imageCal := cal
    scanDone := true
    calSeq := match cal with
      | .valid r => some r.seq
      | .unread | .writing | .empty | .torn => none }

def scanEvent (s : State) : State := if s.store.scanDone then s else { s with store := scanCells s.store }

def execStartupScanEnd (now : Instant) (s : State) : Result := .next (running now s scanEvent)

/-- The characters that the read-back found (R90). -/
def foundCells (n : Nat) (record : List Byte) : ReadBack → List Byte
  | .agrees => record
  | .differs cs => fitCells n cs

/-- The outcome of a read-back: VERIFIED when every character matches (R90). -/
def outcomeOf (found record : List Byte) : WriteOutcome := if found = record then .verified else .failed

/-- The final-write flag, when the last write in hand completes in DOWN (R100). -/
def finalWriteTest (s : State) : State :=
  if s.phase = .down ∧ s.store.pendingCal = none ∧ s.store.pendingSnap = none then
    { s with store := { s.store with finalWrite := true } }
  else s

def slotCode : Slot → Nat
  | .a => 1 | .b => 2

/-- A snapshot write completes (R90, R91, R158). -/
def snapDone (slot : Slot) (r : SnapRecord) (rb : ReadBack) (s : State) : State :=
  let found := foundCells snapLength (encodeSnap r) rb
  let o := outcomeOf found (encodeSnap r)
  let st := setCells slot found { s.store with inFlight := none }
  let s1 : State :=
    { s with
      search := { s.search with refSnapshot := if r.body.cause = .reference then o else s.search.refSnapshot } }
  if o = .verified then { s1 with store := setImage slot (.valid r) st }
  else
    note .storeVerify (slotCode slot : Int) (r.seq.toNat : Int)
      { s1 with
        store := { setImage slot .torn st with restRetry := st.restRetry || decide (r.body.cause = .rest) } }

/-- The write in flight is the search's own: it waits for a write and no request of it is pending (R158). -/
def ownCalibration (s : State) : Bool :=
  decide (s.search.sub = .calibrate) && s.search.awaitingWrite && s.store.pendingCal.isNone

/-- A calibration write completes: the sequence in force and the working values are taken on either outcome (R11, R92),
and the search goes on, or the outcome is recorded (R158, R162, R163). -/
def calDone (r : CalRecord) (rb : ReadBack) (s : State) : State :=
  let found := foundCells calLength (encodeCal r) rb
  let o := outcomeOf found (encodeCal r)
  let st : Store := { s.store with inFlight := none, cellsCal := found, calSeq := some r.seq }
  let s1 : State :=
    if o = .verified then { s with store := { st with imageCal := .valid r } }
    else note .storeVerify 3 (r.seq.toNat : Int) { s with store := { st with imageCal := .torn } }
  let s2 := takeCalibration r.body.theta0 r.body.sigma true s1
  if ownCalibration s then calibrationDone o s2
  else { s2 with search := { s2.search with calWrite := o } }

/-- WRITE_COMPLETION (R90). -/
def writeEvent (rb : ReadBack) (s : State) : State :=
  match s.store.inFlight with
  | none => s
  | some (.snap slot r) => finalWriteTest (snapDone slot r rb s)
  | some (.cal r) => finalWriteTest (calDone r rb s)

def execWriteCompletion (now : Instant) (readBack : ReadBack) (s : State) : Result :=
  .next (running now s (writeEvent readBack))

/-- RECOVERY_READ: the store answers a read that is asked for once it is quiet (R96). -/
def readEvent (s : State) : State := if s.gradeUnit.readPending && storeQuiet s then answerRead s else s

def execRecoveryRead (now : Instant) (s : State) : Result := .next (running now s readEvent)

/-- PFAIL asserted: the level, and from MUSTER onward the entry into DOWN (R98, R99). -/
def pfailEvent (s : State) : State :=
  let s1 : State := { s with levels := { s.levels with pfail := true } }
  match s.phase with
  | .config | .down => s1
  | .muster | .recovery | .ready | .reference | .faulted => enterDown s1

def execPfailAsserted (now : Instant) (s : State) : Result := .next (running now s pfailEvent)

end Sys2Proof.Machine
end

