-- ==== Sys2Proof/Machine/Timers.lean ====
section
/-! DEFINITION. The hold line family (R64, R71, R80) and the timer family: one expiry for each timer of the station. An
expiry acts when its timer runs and does nothing otherwise (log 4). -/

namespace Sys2Proof.Machine

/-! ### ALH -/

/-- A fall of the sensed ALH: the quiet timer stops (R67) and a current JOG or MOVE_TO gives the inhibit notice (R80). -/
def fallEvent (s : State) : State :=
  if s.levels.alhHigh then
    let s1 : State :=
      { s with
        levels := { s.levels with alhHigh := false }
        mark := { s.mark with quiet := .stopped } }
    if moving s1 then inhibitNotice s1 else s1
  else s

def execAlhFall (now : Instant) (s : State) : Result := .next (running now s fallEvent)

/-- The edge of a mark in AWAIT_EDGE (R71), with the needs it serves (R65), the own last capture no longer kept (R72), and
the wait for the lead's report (R73). -/
def markEdge (s : State) : State :=
  if s.mark.state = .awaitEdge then
    leadAtEdge
      { s with
        mark := { s.mark with
          state := .collecting, timeout := .stopped, edgeTime := some s.ms, lastCapture := none
          captureRequested := true
          serving := s.mark.needs, collection := startTimer (4 * (setupOf s).plan.h) s } }
  else s

/-- A rise of the sensed ALH: the quiet timer starts (R67), a mark takes its edge (R71), a due move is posted (R148) and
an interrupted pass restarts (R155). -/
def riseEvent (s : State) : State :=
  if s.levels.alhHigh then s
  else tryRestart (tryMove (markEdge (startQuiet { s with levels := { s.levels with alhHigh := true } })))

def execAlhRise (now : Instant) (s : State) : Result := .next (running now s riseEvent)

/-! ### Link and peer timers -/

/-- The heartbeat expiry: the timer restarts and silence is counted; the STATUS comes at the end (R41, R51). -/
def heartbeatEvent (s : State) : State :=
  if timerRunning s.link.heartbeat then
    countSilence { s with link := { s.link with heartbeat := startTimer (setupOf s).plan.h s } }
  else s

def execHeartbeatExpiry (now : Instant) (s : State) : Result :=
  .next (running now s heartbeatEvent (timerRunning s.link.heartbeat))

/-- The number of stations of a mask. -/
def maskCount (m : StationMask) : Nat := (Station.all.filter (maskHas m)).length

/-- The muster timer expires in MUSTER (R62). -/
def musterTimerEvent (s : State) : State :=
  if timerRunning s.peers.musterTimer then
    note .musterIncomplete (maskCount (musterMissing s) : Int) ((musterMissing s).toNat : Int)
      { s with peers := { s.peers with musterTimer := .stopped } }
  else s

def execMusterTimerExpiry (now : Instant) (s : State) : Result := .next (running now s musterTimerEvent)

/-! ### Mark timers -/

/-- The quiet condition holds from the expiry on (R67); the call it allows is tested at the end (R66). -/
def quietEvent (s : State) : State :=
  if timerRunning s.mark.quiet then { s with mark := { s.mark with quiet := .expired } } else s

def execQuietTimerExpiry (now : Instant) (s : State) : Result := .next (running now s quietEvent)

/-- HOLDOFF expires; the release it allows is tested at the end (R70). -/
def holdoffEvent (s : State) : State :=
  if timerRunning s.mark.holdoff then { s with mark := { s.mark with holdoff := .expired } } else s

def execHoldoffExpiry (now : Instant) (s : State) : Result := .next (running now s holdoffEvent)

/-- MARK_TIMEOUT expires: the mark lapses (R77). -/
def markTimeoutEvent (s : State) : State := if timerRunning s.mark.timeout then lapse s else s

def execMarkTimeoutExpiry (now : Instant) (s : State) : Result := .next (running now s markTimeoutEvent)

/-- The collection timer expires: the mark is partial, and an own report that still waits is queued (R76). -/
def collectionEvent (s : State) : State :=
  if timerRunning s.mark.collection then
    endCollection .partialMark (aliveStations s &&& ~~~ s.mark.reported) (flushReport s)
  else s

def execCollectionTimerExpiry (now : Instant) (s : State) : Result := .next (running now s collectionEvent)

/-- 2 · H have passed since the edge: the lead's report is missing (R73). -/
def leadWaitEvent (s : State) : State := if leadWaiting s then leadResolved .missing s else s

def execLeadReportWaitExpiry (now : Instant) (s : State) : Result := .next (running now s leadWaitEvent)

/-! ### Directive timers -/

/-- DIRECTIVE_TIMEOUT expires with the untaken period open (R135). -/
def untakenEvent (s : State) : State :=
  if timerRunning s.claim.untakenTimer && s.claim.untakenOpen then
    raiseStop .directiveUntaken (s.claim.dir.number : Int) ((setupOf s).directiveTimeout : Int)
      { s with claim := { s.claim with untakenTimer := .stopped, untakenReported := true } }
  else s

def execUntakenTimerExpiry (now : Instant) (s : State) : Result := .next (running now s untakenEvent)

/-- STOP_ALLOWANCE expires with the STOP not settled (R137). -/
def allowanceEvent (s : State) : State :=
  if timerRunning s.claim.allowance then
    if motorFailed s || !s.reck.started then { s with claim := { s.claim with allowance := .stopped } }
    else
      raiseStop .unbiddenMotion 1 (dist s.reck.count (s.claim.takePoint.getD s.reck.count) : Int)
        { s with
          claim := { s.claim with allowance := .stopped, allowanceStop := some s.claim.dir.number } }
  else s

def execAllowanceTimerExpiry (now : Instant) (s : State) : Result := .next (running now s allowanceEvent)

/-! ### Zone and search timers -/

/-- The dwell expires: the cap in force becomes the pending cap (R169). -/
def dwellEvent (s : State) : State :=
  if timerRunning s.zone.dwell then
    { s with
      zone := { capInForce := s.zone.pendingCap.getD s.zone.capInForce, pendingCap := none, dwell := .stopped } }
  else s

def execDwellTimerExpiry (now : Instant) (s : State) : Result := .next (running now s dwellEvent)

/-- PREREQ_WAIT expires in WAIT_PREREQ and has then stopped (R145, R161); left running by an earlier end of the search, its
expiry changes nothing (log 71). -/
def prereqEvent (s : State) : State :=
  if timerRunning s.search.prereqTimer && decide (s.search.sub = .waitPrereq) then
    failSearch .prereqTimeout ((unsettled s).toNat : Int)
      { s with search := { s.search with prereqTimer := .stopped } }
  else s

def execPrereqWaitExpiry (now : Instant) (s : State) : Result := .next (running now s prereqEvent)

/-- The first settle interval ends; the second, the remainder of SETTLE_TIME, starts (R152). -/
def settleFirstEvent (s : State) : State :=
  if timerRunning s.search.settleFirst && decide (s.search.sub = .settle) then
    { s with
      search := { s.search with
        settleFirst := .stopped
        settleSecond := startTimer ((setupOf s).settleTime - (setupOf s).settleTime / 2) s } }
  else s

def execSettleFirstIntervalEnd (now : Instant) (s : State) : Result := .next (running now s settleFirstEvent)

/-- The second settle interval ends: EVALUATE (R152 to R154). -/
def settleEndEvent (s : State) : State :=
  if timerRunning s.search.settleSecond && decide (s.search.sub = .settle) then
    evaluatePass { s with search := { s.search with sub := .evaluate, settleSecond := .stopped } }
  else s

def execSettleEnd (now : Instant) (s : State) : Result := .next (running now s settleEndEvent)

end Sys2Proof.Machine
end

