-- ==== Sys2Proof/Machine/Dispatch.lean ====
section
/-! DEFINITION. The dispatch: one arm for each command, in the order of spec/opcode_table.json. -/

namespace Sys2Proof.Machine

/-- A command's effect on everything but the queue of waiting commands. -/
def exec (i : Instr) (s : State) : Host.Outcome State Fault Refusal :=
  match i with
  | .motorSample now reading flag => Sys2Proof.Machine.execMotorSample now reading flag s
  | .scaleSample now reading => Sys2Proof.Machine.execScaleSample now reading s
  | .por pins cut => Sys2Proof.Machine.execPor pins cut s
  | .pinReset pins cut => Sys2Proof.Machine.execPinReset pins cut s
  | .startupScanEnd now => Sys2Proof.Machine.execStartupScanEnd now s
  | .writeCompletion now readBack => Sys2Proof.Machine.execWriteCompletion now readBack s
  | .recoveryRead now => Sys2Proof.Machine.execRecoveryRead now s
  | .pfailAsserted now => Sys2Proof.Machine.execPfailAsserted now s
  | .linkIdle now => Sys2Proof.Machine.execLinkIdle now s
  | .arbitrationLost at_ => Sys2Proof.Machine.execArbitrationLost at_ s
  | .bitError at_ => Sys2Proof.Machine.execBitError at_ s
  | .frameDiscard now received => Sys2Proof.Machine.execFrameDiscard now received s
  | .haltArrival now sender cause => Sys2Proof.Machine.execHaltArrival now sender cause s
  | .powerDownArrival now sender f => Sys2Proof.Machine.execPowerDownArrival now sender f s
  | .markCallArrival now sender number => Sys2Proof.Machine.execMarkCallArrival now sender number s
  | .markReportArrival now sender r => Sys2Proof.Machine.execMarkReportArrival now sender r s
  | .claimArrival now sender purpose => Sys2Proof.Machine.execClaimArrival now sender purpose s
  | .releaseArrival now sender => Sys2Proof.Machine.execReleaseArrival now sender s
  | .statusArrival now sender f => Sys2Proof.Machine.execStatusArrival now sender f s
  | .helloArrival now sender f => Sys2Proof.Machine.execHelloArrival now sender f s
  | .alhFall now => Sys2Proof.Machine.execAlhFall now s
  | .alhRise now => Sys2Proof.Machine.execAlhRise now s
  | .heartbeatExpiry now => Sys2Proof.Machine.execHeartbeatExpiry now s
  | .musterTimerExpiry now => Sys2Proof.Machine.execMusterTimerExpiry now s
  | .quietTimerExpiry now => Sys2Proof.Machine.execQuietTimerExpiry now s
  | .holdoffExpiry now => Sys2Proof.Machine.execHoldoffExpiry now s
  | .markTimeoutExpiry now => Sys2Proof.Machine.execMarkTimeoutExpiry now s
  | .collectionTimerExpiry now => Sys2Proof.Machine.execCollectionTimerExpiry now s
  | .leadReportWaitExpiry now => Sys2Proof.Machine.execLeadReportWaitExpiry now s
  | .untakenTimerExpiry now => Sys2Proof.Machine.execUntakenTimerExpiry now s
  | .allowanceTimerExpiry now => Sys2Proof.Machine.execAllowanceTimerExpiry now s
  | .dwellTimerExpiry now => Sys2Proof.Machine.execDwellTimerExpiry now s
  | .prereqWaitExpiry now => Sys2Proof.Machine.execPrereqWaitExpiry now s
  | .settleFirstIntervalEnd now => Sys2Proof.Machine.execSettleFirstIntervalEnd now s
  | .settleEnd now => Sys2Proof.Machine.execSettleEnd now s
  | .transactionIgnored now => Sys2Proof.Machine.execTransactionIgnored now s
  | .fetch now => Sys2Proof.Machine.execFetch now s
  | .statusRead now rest => Sys2Proof.Machine.execStatusRead now rest s
  | .peerRead now rest => Sys2Proof.Machine.execPeerRead now rest s
  | .faultRead now rest => Sys2Proof.Machine.execFaultRead now rest s
  | .faultClear now rest => Sys2Proof.Machine.execFaultClear now rest s
  | .directiveTake now rest => Sys2Proof.Machine.execDirectiveTake now rest s
  | .storeRead now rest => Sys2Proof.Machine.execStoreRead now rest s
  | .markRequest now rest => Sys2Proof.Machine.execMarkRequest now rest s
  | .referenceStart now rest => Sys2Proof.Machine.execReferenceStart now rest s
  | .referenceAbort now rest => Sys2Proof.Machine.execReferenceAbort now rest s
  | .turnConfirm now rest => Sys2Proof.Machine.execTurnConfirm now rest s
  | .peerForget now rest => Sys2Proof.Machine.execPeerForget now rest s
  | .setup now rest => Sys2Proof.Machine.execSetup now rest s
  | .go now rest => Sys2Proof.Machine.execGo now rest s
  | .reset now rest pins cut => Sys2Proof.Machine.execReset now rest pins cut s
  | .rstNLow cut => Sys2Proof.Machine.execRstNLow cut s
  | .unknownCommand now chars => Sys2Proof.Machine.execUnknownCommand now chars s

end Sys2Proof.Machine
end

