-- ==== Sys2Proof/Safety.lean ====
section
/-! DEFINITION. What holds of the station in every state that the invariants of the obligations speak about: the grade and
the angle, the motion permits, the store's images, the fault record, the ranges of the counts. -/

namespace Sys2Proof.Machine

/-- Without a basis the grade is LOST and the angle absent, and a grade of LOST does not stand on the counts: its basis is
NONE, or SCALE, which R105 gives with a cause of Table 6-2 even when the grade did not change (Table 6-1, R105, R106; log
20). -/
def GradeBacked (s : State) : Prop :=
  (s.reck.basis = .none → s.gradeUnit.grade = .lost ∧ s.reck.theta = none)
    ∧ (s.gradeUnit.grade = .lost → s.reck.basis ≠ .counts)

/-- A JOG or MOVE_TO is current only under a held claim; a claim is wanted, waiting, queued or held only in REFERENCE;
and REFERENCE is the phase of a search in progress (R122, R133, R142). -/
def MotionPermitted (s : State) : Prop :=
  (moving s = true → s.claim.state = .held)
    ∧ (s.claim.state = .waiting ∨ s.claim.state = .queued ∨ s.claim.state = .held ∨ s.claim.wanted = true →
        s.phase = .reference)
    ∧ (s.phase = .reference ↔ s.search.sub ≠ .none)

/-- An image is WRITING exactly while a write to its record is in flight, and none is in flight before the start-up scan
has ended (R83, R89). -/
def ImagesWriting (s : State) : Prop :=
  (s.store.imageA = .writing ↔ ∃ r, s.store.inFlight = some (.snap .a r))
    ∧ (s.store.imageB = .writing ↔ ∃ r, s.store.inFlight = some (.snap .b r))
    ∧ (s.store.imageCal = .writing ↔ ∃ r, s.store.inFlight = some (.cal r))
    ∧ (s.store.scanDone = false → s.store.inFlight = none)

/-- The lost count is 0 while the record is unlocked and never exceeds 255 (R177). -/
def LostBounded (s : State) : Prop :=
  (s.fault.record.locked = false → s.fault.record.lost = 0) ∧ s.fault.record.lost ≤ 255

/-- Angles and counts stay in their ranges: θ (R15), M (1.2), the drift count (R22), the bad sample counts (R2, R4). -/
def CountsBounded (s : State) : Prop :=
  (∀ a, s.reck.theta = some a → angleMin ≤ a ∧ a ≤ angleMax)
    ∧ (countMin ≤ s.reck.count ∧ s.reck.count ≤ countMax)
    ∧ s.reck.drift ≤ 7 ∧ s.sensor.badMotor ≤ 3 ∧ s.sensor.badScale ≤ 3

/-- The stop set holds causes only in FAULTED (R182). -/
def StopSetFaulted (s : State) : Prop := s.fault.stopSet ≠ [] → s.phase = .faulted

/-- The grade does not exceed the ceiling, in any phase but CONFIG and DOWN (R103). -/
def UnderCeiling (s : State) : Prop :=
  s.phase ≠ .config → s.phase ≠ .down → gradeCode s.gradeUnit.grade ≤ gradeCode (ceiling s)

/-- The cap in force never stands above the effective cap (R169, R172). -/
def CapUnderZone (s : State) : Prop := speedCode s.zone.capInForce ≤ speedCode (effective s).cap

/-- The entry of a peer that is DOWN does not take its grade as lead from a MARK_REPORT: its POWER_DOWN, the last frame that
it sent, has written its grade (R47, R52, R104). -/
def DownWithoutReport (s : State) : Prop :=
  ∀ k, own s ≠ some k → (entry s k).presence = .down → (entry s k).gradeFromReport = false

/-- The outgoing queue holds no frame in CONFIG, and none but HALT and POWER_DOWN in DOWN (R35). -/
def QueueByPhase (s : State) : Prop :=
  (s.phase = .config → ∀ k, s.link.queue.get k = none)
    ∧ (s.phase = .down → ∀ k, s.link.queue.get k ≠ none → k = .halt ∨ k = .powerDown)

/-- The images of the two slots at the moment at which a command may start a write: at the end of the start-up scan as it has
classified the cells (R83), at the completion of a snapshot write with its target as the read-back leaves it (R90, R91), and
otherwise as the command found them. -/
def imagesAtStart (c : Instr) (s : State) : SlotImage × SlotImage :=
  match c, s.store.inFlight with
  | .startupScanEnd _, _ =>
    if s.store.scanDone then (s.store.imageA, s.store.imageB)
    else (classifySnap s.store.cellsA, classifySnap s.store.cellsB)
  | .writeCompletion _ rb, some (.snap slot r) =>
    let written : SlotImage :=
      if foundCells snapLength (encodeSnap r) rb = encodeSnap r then .valid r else .torn
    match slot with
    | .a => (written, s.store.imageB)
    | .b => (s.store.imageA, written)
  | _, _ => (s.store.imageA, s.store.imageB)

/-! ### Groups of commands -/

/-- The commands that end a reset, or hold the station in one. -/
def isReset : Instr → Bool
  | .por _ _ | .pinReset _ _ | .reset _ _ _ _ | .rstNLow _ => true
  | _ => false

/-- The frame that an arrival carries, with its sender and its instant. -/
def arrivalOf : Instr → Option (Instant × Station × Frame)
  | .haltArrival now k c => some (now, k, .halt c)
  | .powerDownArrival now k f => some (now, k, .powerDown f)
  | .markCallArrival now k n => some (now, k, .markCall n)
  | .markReportArrival now k r => some (now, k, .markReport r)
  | .claimArrival now k p => some (now, k, .claim p)
  | .releaseArrival now k => some (now, k, .release)
  | .statusArrival now k f => some (now, k, .status f)
  | .helloArrival now k f => some (now, k, .hello f)
  | _ => none

/-- The events of the link: the idle line, lost arbitration, a bit error, a discarded frame, an arrival. -/
def isLinkEvent : Instr → Bool
  | .linkIdle _ | .arbitrationLost _ | .bitError _ | .frameDiscard _ _ => true
  | c => (arrivalOf c).isSome

/-- The commands of Table 11-1, each with its code and the characters after the code. -/
def portCommandOf : Instr → Option (Instant × Nat × List Byte)
  | .statusRead now r => some (now, 1, r)
  | .peerRead now r => some (now, 2, r)
  | .faultRead now r => some (now, 3, r)
  | .faultClear now r => some (now, 4, r)
  | .directiveTake now r => some (now, 5, r)
  | .storeRead now r => some (now, 6, r)
  | .markRequest now r => some (now, 7, r)
  | .referenceStart now r => some (now, 8, r)
  | .referenceAbort now r => some (now, 9, r)
  | .turnConfirm now r => some (now, 10, r)
  | .peerForget now r => some (now, 11, r)
  | .setup now r => some (now, 16, r)
  | .go now r => some (now, 17, r)
  | .reset now r _ _ => some (now, 31, r)
  | _ => none

/-- The commands that only read, and the transactions without a command: they change the drive port, the time and the PFAIL
level alone, and no test follows them (R187; logs 2, 40). -/
def readsOnly : Instr → Bool
  | .transactionIgnored _ | .fetch _ | .statusRead _ _ | .peerRead _ _ | .faultRead _ _ | .storeRead _ _
  | .unknownCommand _ _ => true
  | _ => false

/-- Every transaction of the drive port. -/
def isPortCommand : Instr → Bool
  | .transactionIgnored _ | .fetch _ | .unknownCommand _ _ => true
  | c => (portCommandOf c).isSome

/-- The parameter lengths of Table 11-1: none, one character, or what SETUP takes (R190). -/
def tableLength (code : Nat) (ps : List Byte) : Bool :=
  if code = 16 then setupLength ps
  else if code ∈ [2, 6, 10, 11] then decide (ps.length = 1)
  else ps.isEmpty

/-- The parameter domains of the fifth test of R188. -/
def tableDomain (code : Nat) (ps : List Byte) : Bool :=
  match code, ps with
  | 2, [n] | 11, [n] => decide (1 ≤ n.toNat ∧ n.toNat ≤ 6)
  | 6, [n] => decide (1 ≤ n.toNat ∧ n.toNat ≤ 3)
  | 10, [k] => decide (-4 ≤ k.toInt ∧ k.toInt ≤ 3)
  | 16, _ => setupDomain ps
  | _, _ => true

/-- The phases of Table 11-1 in which a command is accepted. -/
def tablePhase (code : Nat) (p : Phase) : Bool :=
  if code ∈ [7, 8, 10] then decide (p = .ready)
  else if code = 9 then decide (p = .reference)
  else if code = 16 ∨ code = 17 then decide (p = .config)
  else true

/-- The phases of R178, in which a STOP fault has its STOP effects. -/
def stopsIn : Phase → Bool
  | .muster | .recovery | .ready | .reference => true
  | .config | .faulted | .down => false

/-- The changes of phase that the tests at the end of a command and the faults can make. -/
def phaseDrift : Phase → Phase → Bool
  | .muster, .recovery | .recovery, .ready | .reference, .ready => true
  | p, .faulted => stopsIn p || decide (p = .faulted)
  | p, q => decide (p = q)

/-- The changes of phase that a command can make: GO leaves CONFIG (R60, R99), REFERENCE_START begins a search (R144),
FAULT_CLEAR leaves FAULTED (R183), PFAIL leads to DOWN (R98), a reset to CONFIG (R186). -/
def phaseMay (c : Instr) (p q : Phase) : Bool :=
  phaseDrift p q
    || (match c, p, q with
        | .go _ _, .config, .muster | .go _ _, .config, .down => true
        | .referenceStart _ _, .ready, .reference => true
        | .faultClear _ _, .faulted, .ready | .faultClear _ _, .faulted, .recovery => true
        | .pfailAsserted _, p, .down => decide (p ≠ .config)
        | c, _, .config => isReset c
        | _, _, _ => false)

/-- The lead is ALIVE while its report is awaited, so the wait does not end at the end of the command (R73). -/
def LeadHeard (s : State) : Prop :=
  ∀ k, lead s = some k → leadWaiting s = true → (entry s k).presence = .alive

/-- The station is out of RST_N, its lead is ALIVE while its report is awaited, and settled during a lead hold: the tests
at the end of a command then end no decision and no search (R73, R147). -/
def Steady (s : State) : Prop :=
  s.levels.rstLow = false ∧ LeadHeard s ∧ (s.search.leadHold = true → leadSettled s = true)

/-- An entry holds the fields that a frame writes, the digest-match flag judged against the own digest (R47, R59). -/
def EntryHolds (digest : Option (BitVec 16)) (e : PeerEntry) : Frame → Prop
  | .status x =>
    e.phase = x.phase ∧ e.grade = x.grade ∧ e.atRest = x.atRest ∧ e.claim = x.claim ∧ e.fault = x.fault
      ∧ e.saturated = x.saturated ∧ e.zone = x.zone ∧ e.markNumber = x.markNumber ∧ e.digest = some x.digest
      ∧ e.angle = x.theta ∧ (x.claim = false → e.purpose = none)
      ∧ e.digestMatch = decide (some x.digest = digest)
  | .hello x => e.digest = some x.digest ∧ e.digestMatch = decide (some x.digest = digest)
  | .powerDown x => e.phase = .down ∧ e.grade = x.grade ∧ e.angle = x.theta
  | .claim p => e.claim = true ∧ e.purpose = some p
  | .release => e.claim = false ∧ e.purpose = none
  | .halt x => e.fault = true ∧ e.haltCause = some x
  | .markReport r => e.report = some r
  | .markCall _ => True

end Sys2Proof.Machine
end

