-- ==== Sys2Proof/WellFormed.lean ====
section
/-! DEFINITION. Which commands can be given: the operands that the manual's own ranges allow. `exec` has a meaning for every
command, well formed or not. -/

namespace Sys2Proof

open Machine

/-- A frame arrival carries a frame that passes the content tests of R37. -/
def arrivalOk (f : Frame) : Bool := frameContentOk f

/-- A discarded frame is not one that the receiver accepts, and has at most the 16 characters that a frame can have. -/
def discardOk : Received → Bool
  | .framingFailure | .lengthAbove12 => true
  | .chars cs => (receiveFrame cs).isNone && decide (cs.length ≤ 16)

/-- The characters of a snapshot slot or of the calibration record. -/
def recordSized (cs : List Byte) : Bool := decide (cs.length = snapLength ∨ cs.length = calLength)

def residueOk : CutResidue → Bool
  | .erased | .programmed => true
  | .torn cs => recordSized cs

def readBackOk : ReadBack → Bool
  | .agrees => true
  | .differs cs => recordSized cs

/-- An unknown command does not open with 00h, a fetch, nor with a code of Table 11-1 (R187, R188). -/
def unknownOk : List Byte → Bool
  | [] => true
  | c :: _ => decide (c ≠ 0#8) && decide (c.toNat ∉ commandCodes)

/-- A well-formed command. -/
def wellFormed : Instr → Bool
  | .motorSample _ _ _ | .scaleSample _ _ => true
  | .por _ cut | .pinReset _ cut | .rstNLow cut => residueOk cut
  | .startupScanEnd _ | .recoveryRead _ | .pfailAsserted _ => true
  | .writeCompletion _ rb => readBackOk rb
  | .linkIdle _ | .arbitrationLost _ | .bitError _ => true
  | .frameDiscard _ r => discardOk r
  | .haltArrival _ _ c => arrivalOk (.halt c)
  | .powerDownArrival _ _ f => arrivalOk (.powerDown f)
  | .markCallArrival _ _ n => arrivalOk (.markCall n)
  | .markReportArrival _ _ r => arrivalOk (.markReport r)
  | .claimArrival _ _ p => arrivalOk (.claim p)
  | .releaseArrival _ _ => arrivalOk .release
  | .statusArrival _ _ f => arrivalOk (.status f)
  | .helloArrival _ _ f => arrivalOk (.hello f)
  | .alhFall _ | .alhRise _ | .heartbeatExpiry _ | .musterTimerExpiry _ | .quietTimerExpiry _ => true
  | .holdoffExpiry _ | .markTimeoutExpiry _ | .collectionTimerExpiry _ | .leadReportWaitExpiry _ => true
  | .untakenTimerExpiry _ | .allowanceTimerExpiry _ | .dwellTimerExpiry _ | .prereqWaitExpiry _ => true
  | .settleFirstIntervalEnd _ | .settleEnd _ | .transactionIgnored _ | .fetch _ => true
  | .statusRead _ _ | .peerRead _ _ | .faultRead _ _ | .faultClear _ _ | .directiveTake _ _ => true
  | .storeRead _ _ | .markRequest _ _ | .referenceStart _ _ | .referenceAbort _ _ | .turnConfirm _ _ => true
  | .peerForget _ _ | .setup _ _ | .go _ _ => true
  | .reset _ _ _ cut => residueOk cut
  | .unknownCommand _ cs => unknownOk cs

end Sys2Proof
end

