-- ==== Sys2Proof/Certificates/Slice0/Obligations.lean ====
section
/-! DEFINITION. The statements for the provers: the step, the frames of the commands, the invariants that every step keeps, the
codecs, the manual's tables, and for each command the state that it answers. -/

open Sys2Proof Sys2Proof.Machine

/-! ### The step and the whole machine -/

/-- A step takes the command at the front of the queue and executes it on the rest; on an empty queue the block idles
(the idling is the model's choice, log 5). -/
def Obligations.StepRunsFrontCommand : Prop :=
  (∀ (c : Instr) (rest : List Instr) (s : State), s.pending = c :: rest → step s = exec c (s.withPending rest))
    ∧ ∀ s : State, s.pending = [] → step s = .next s

/-- While RST_N is low the station stays as it is (R186; that every event is without effect then is the model's reading,
log 10): a POR in that time is remembered, and the rise of RST_N ends the reset, as a POR if there was one. -/
def Obligations.RstLowHoldsTheStation : Prop :=
  ∀ (c : Instr) (s : State), s.levels.rstLow = true →
    match c with
    | .por _ _ => exec c s = .next { s with levels := { s.levels with porInLow := true } }
    | .pinReset pins _ =>
      ∃ t, exec c s = .next t ∧ t.levels.rstLow = false ∧ t.phase = .config ∧ t.straps.st = pins.st
        ∧ t.straps.lr = pins.lr ∧ t.straps.lastReset = (if s.levels.porInLow then .por else .pin)
    | c => exec c s = .next s

/-- The changes of phase: what each command may do to the phase, while REFERENCE is the phase of a search in progress and the
counts lie in their ranges. In particular CONFIG is left by GO alone, FAULTED by FAULT_CLEAR, PFAIL and resets alone, and DOWN
by resets alone. -/
def Obligations.PhaseGraph : Prop :=
  ∀ (c : Instr) (s t : State), (s.phase = .reference ↔ s.search.sub ≠ .none) → CountsBounded s →
    exec c s = .next t → phaseMay c s.phase t.phase = true

/-! ### Frames -/

/-- No command touches the queue of waiting commands; and what leaves the sensor front end, the straps, the sensed levels
and the link's counts and timers as they are. -/
def Obligations.FrameFrontEndAndLink : Prop :=
  ∀ (c : Instr) (s t : State), exec c s = .next t →
    t.pending = s.pending ∧ (isReset c = false → t.straps = s.straps ∧ t.levels.rstLow = s.levels.rstLow
      ∧ ((∀ now r f, c ≠ .motorSample now r f) →
          t.sensor.latestMotor = s.sensor.latestMotor ∧ t.sensor.badMotor = s.sensor.badMotor
            ∧ t.sensor.flagLevel = s.sensor.flagLevel)
      ∧ ((∀ now r, c ≠ .scaleSample now r) →
          t.sensor.latestScale = s.sensor.latestScale ∧ t.sensor.badScale = s.sensor.badScale)
      ∧ ((∀ now, c ≠ .alhFall now) → (∀ now, c ≠ .alhRise now) → t.levels.alhHigh = s.levels.alhHigh)
      ∧ (isLinkEvent c = false →
          t.link.txErrors = s.link.txErrors ∧ t.link.rxErrors = s.link.rxErrors
            ∧ t.link.bitErrors = s.link.bitErrors ∧ t.link.txFail = s.link.txFail
            ∧ t.link.lastDuplicate = s.link.lastDuplicate)
      ∧ ((∀ now, c ≠ .heartbeatExpiry now) → (∀ now r, c ≠ .go now r) → t.link.heartbeat = s.link.heartbeat))

/-- The non-volatile cells change at write completions and resets alone (that they do not change between a write's start and
its completion, where R90 erases and programs them, is the model's choice, log 43); the working calibration at write
completions, at the recovery read, at SETUP and at resets; the calibration sequence in force at write completions, at the
scan's end and at resets (R11, R83, R92, R101). -/
def Obligations.FrameStoreAndCalibration : Prop :=
  ∀ (c : Instr) (s t : State), exec c s = .next t → isReset c = false → (∀ now rb, c ≠ .writeCompletion now rb) →
    t.store.cellsA = s.store.cellsA ∧ t.store.cellsB = s.store.cellsB ∧ t.store.cellsCal = s.store.cellsCal
      ∧ ((∀ now, c ≠ .startupScanEnd now) → t.store.calSeq = s.store.calSeq)
      ∧ ((∀ now, c ≠ .recoveryRead now) → (∀ now r, c ≠ .setup now r) →
          t.reck.theta0 = s.reck.theta0 ∧ t.reck.sigma = s.reck.sigma ∧ t.reck.calibrated = s.reck.calibrated)

/-- What changes the Peer Table and the drive port. The Peer Table: arrivals, heartbeat expiries, PEER_FORGET, GO and resets
alone, and an arrival changes its sender's entry alone (R45 to R54). The setup, with τ_s and span: SETUP, GO and resets
alone; the response slot: drive port transactions and resets alone (R187, R189). -/
def Obligations.FrameTableAndPort : Prop :=
  ∀ (c : Instr) (s t : State), exec c s = .next t → isReset c = false →
    ((∀ now r, c ≠ .go now r) →
      t.peers.digest = s.peers.digest
        ∧ match arrivalOf c, c with
          | some (_, k, _), _ => ∀ j, j ≠ k → entry t j = entry s j
          | none, .heartbeatExpiry _ => True
          | none, .peerForget _ r => ∀ j, parameters 11 r ≠ some [byte (stationNumber j)] → entry t j = entry s j
          | none, _ => t.peers.entries = s.peers.entries)
      ∧ ((∀ now r, c ≠ .setup now r) → (∀ now r, c ≠ .go now r) →
          t.port.setup = s.port.setup ∧ t.port.frozen = s.port.frozen ∧ t.port.tau = s.port.tau
            ∧ t.port.span = s.port.span)
      ∧ (isPortCommand c = false →
          t.port.slot = s.port.slot ∧ t.port.shifted = s.port.shifted ∧ t.port.lastEnd = s.port.lastEnd)

/-- A locked first-fault record stands until a FAULT_CLEAR or a POR: its fields stay, and its lost count only rises
(R177, R184), and its carried-over-reset flag is set by resets alone (R184). The arm mark number changes at an arriving
MARK_CALL and at resets alone (R68). The search record keeps its fields after a search has ended, restart pending, the park
outcome, the lead hold and its timers among them, until the next REFERENCE_START or reset; the outcome of the calibration
write changes at a write's completion alone, and that of the REFERENCE snapshot is free here (R142; that a timer left running
stays so after its interval is the model's reading, log 71). -/
def Obligations.RecordsStand : Prop :=
  ∀ (c : Instr) (s t : State), exec c s = .next t →
    (s.fault.record.locked = true → s.fault.record.lost ≤ 255 → s.levels.porInLow = false →
        (∀ now r, c ≠ .faultClear now r) → (∀ pins cut, c ≠ .por pins cut) →
          t.fault.record = { s.fault.record with lost := t.fault.record.lost, carried := t.fault.record.carried }
            ∧ s.fault.record.lost ≤ t.fault.record.lost ∧ t.fault.record.lost ≤ 255
            ∧ (isReset c = false → t.fault.record.carried = s.fault.record.carried))
      ∧ (isReset c = false → (∀ now k n, c ≠ .markCallArrival now k n) → t.mark.number = s.mark.number)
      ∧ (isReset c = false → (∀ now r, c ≠ .referenceStart now r) →
        s.search.sub = .none → s.phase ≠ .reference →
        t.search.sub = .none ∧ t.search.outcome = s.search.outcome ∧ t.search.plus = s.search.plus
          ∧ t.search.level = s.search.level ∧ t.search.passes = s.search.passes ∧ t.search.total = s.search.total
          ∧ t.search.interruptions = s.search.interruptions ∧ t.search.prevCentre = s.search.prevCentre
          ∧ t.search.e1 = s.search.e1 ∧ t.search.e2 = s.search.e2 ∧ t.search.e3 = s.search.e3
          ∧ t.search.e4 = s.search.e4 ∧ t.search.chatter = s.search.chatter
          ∧ t.search.passStart = s.search.passStart ∧ t.search.moveStart = s.search.moveStart
          ∧ t.search.clearPoint = s.search.clearPoint ∧ t.search.restartPending = s.search.restartPending
          ∧ t.search.centre = s.search.centre ∧ t.search.lastDelta = s.search.lastDelta
          ∧ t.search.theta0 = s.search.theta0 ∧ t.search.sigma = s.search.sigma
          ∧ t.search.heldLambda = s.search.heldLambda ∧ t.search.prereqTimer = s.search.prereqTimer
          ∧ t.search.settleFirst = s.search.settleFirst ∧ t.search.settleSecond = s.search.settleSecond
          ∧ t.search.parkOutcome = s.search.parkOutcome ∧ t.search.leadHold = s.search.leadHold
          ∧ ((∀ now rb, c ≠ .writeCompletion now rb) → t.search.calWrite = s.search.calWrite))

/-- Without a held capture no decision is made: but for the motor sample, the completion of a search's own calibration
write, TURN_CONFIRM and SETUP, no command raises the grade or moves M (R102); the completion of a snapshot write and of a
calibration write that no search waits for raise it no more than the others. REFERENCED comes from the completion of a
search's calibration write alone (R105). -/
def Obligations.RaisesHaveTheirCauses : Prop :=
  ∀ (c : Instr) (s t : State), exec c s = .next t →
    ((∃ now rb, c = .writeCompletion now rb) → (∃ r, s.store.inFlight = some (.cal r)) → ownCalibration s = false) →
    (t.gradeUnit.grade = .referenced → s.gradeUnit.grade = .referenced)
      ∧ (s.gradeUnit.held = none → (∀ now r f, c ≠ .motorSample now r f) → (∀ now r, c ≠ .turnConfirm now r) →
          (∀ now r, c ≠ .setup now r) → isReset c = false →
            gradeCode t.gradeUnit.grade ≤ gradeCode s.gradeUnit.grade ∧ t.reck.count = s.reck.count
              ∧ t.reck.started = s.reck.started ∧ t.reck.turnOffset = s.reck.turnOffset)

/-- A change of the phase, the grade, the claim flag, the at-rest flag or the fault flag queues a STATUS, from MUSTER onward
except in DOWN (R42); its content is that of the end of the command (the model's choice, log 6). -/
def Obligations.ChangesQueueStatus : Prop :=
  ∀ (c : Instr) (s t : State), exec c s = .next t → t.phase ≠ .config → t.phase ≠ .down →
    (s.phase ≠ t.phase ∨ s.gradeUnit.grade ≠ t.gradeUnit.grade ∨ claimFlag s ≠ claimFlag t
        ∨ s.reck.atRest ≠ t.reck.atRest ∨ s.fault.record.locked ≠ t.fault.record.locked) →
      t.link.queue.status = some (.status (statusContent t))

/-- A write that starts goes to a slot that is not the newest valid one of the images as they stood at its start, with the
sequence after the newest's, and to slot A with sequence 0 when no slot was valid (R89). At its start the images stand as
the scan has just classified them, as the write that has just completed has left its own target, and otherwise as the
command found them (R83, R90, R91). The target's image is then WRITING and the other one as it stood. -/
def Obligations.WritesSpareTheNewest : Prop :=
  ∀ (c : Instr) (s t : State) (slot : Slot) (r : SnapRecord), exec c s = .next t →
    s.store.inFlight = none ∨ (∃ now rb, c = .writeCompletion now rb) ∧ s.levels.rstLow = false →
    t.store.inFlight = some (.snap slot r) →
      let images := imagesAtStart c s
      (match newestOf images.1 images.2 with
        | none => slot = .a ∧ r.seq = 0#16
        | some (other, n) => slot ≠ other ∧ r.seq = n.seq + 1#16)
      ∧ (match slot with
        | .a => t.store.imageA = .writing ∧ t.store.imageB = images.2
        | .b => t.store.imageB = .writing ∧ t.store.imageA = images.1)

/-! ### Invariants -/

/-- Every step keeps: without a basis the grade is LOST and the angle absent, and LOST never stands on the counts: its basis
is NONE, or SCALE, which R105 gives with a cause of Table 6-2 even when the grade did not change (R105, R106; that this row
of the table holds at LOST, and that every other LOST is without a basis, is the model's reading, log 20). -/
def Obligations.GradeBackedKept : Prop :=
  ∀ s t : State, GradeBacked s → step s = .next t → GradeBacked t

/-- Every step keeps: a JOG or MOVE_TO is current only under a held claim, a claim is wanted, waited for, queued or held
only in REFERENCE, and REFERENCE is the phase of a search in progress (R122, R133, R142). -/
def Obligations.MotionPermittedKept : Prop :=
  ∀ s t : State, MotionPermitted s → step s = .next t → MotionPermitted t

/-- Every step keeps: an image is WRITING exactly while a write to its record is in flight (R83, R89). -/
def Obligations.ImagesWritingKept : Prop :=
  ∀ s t : State, ImagesWriting s → step s = .next t → ImagesWriting t

/-- Every step keeps: the lost count is 0 while the record is unlocked and at most 255 (R177), and the stop set is empty
outside FAULTED (R182). -/
def Obligations.FaultCaptureKept : Prop :=
  ∀ s t : State, LostBounded s → StopSetFaulted s → step s = .next t → LostBounded t ∧ StopSetFaulted t

/-- Every step keeps: the angle, the motor count, the drift count and the bad sample counts stay in their ranges (R2, R4,
R9, R15, R22). -/
def Obligations.CountsBoundedKept : Prop :=
  ∀ s t : State, CountsBounded s → step s = .next t → CountsBounded t

/-- Every step keeps: the grade does not exceed the ceiling, outside CONFIG and DOWN (R103). -/
def Obligations.UnderCeilingKept : Prop :=
  ∀ s t : State, UnderCeiling s → step s = .next t → UnderCeiling t

/-- Every step keeps: the cap in force never stands above the effective cap (R172). -/
def Obligations.CapUnderZoneKept : Prop :=
  ∀ s t : State, CapUnderZone s → step s = .next t → CapUnderZone t

/-- Every step keeps: the outgoing queue is empty in CONFIG, and holds HALT and POWER_DOWN alone in DOWN (R35). -/
def Obligations.QueueByPhaseKept : Prop :=
  ∀ s t : State, QueueByPhase s → step s = .next t → QueueByPhase t

/-- The invariants hold of the state right after reset. -/
def Obligations.InvariantsAtReset : Prop :=
  GradeBacked State.reset ∧ MotionPermitted State.reset ∧ ImagesWriting State.reset ∧ LostBounded State.reset
    ∧ StopSetFaulted State.reset ∧ CountsBounded State.reset ∧ UnderCeiling State.reset
    ∧ CapUnderZone State.reset ∧ QueueByPhase State.reset

/-! ### Byte layouts -/

/-- The receiver reads from the characters of a frame its sender and the frame, for every frame that passes the content
tests of R37; the frame is its arbitration character, its length character, its payload and two check characters (2.2); and
the receiver reads from the bits of characters sent back to back the characters, ten bits each, a start bit dominant, the
data bits most significant first and dominant for 0, a stop bit recessive, and nothing when a start or a stop bit is not as
sent (R26, R28, R37). The two check characters are the CRC-16 of R29 over the characters before them, high half first, and the
receiver takes no frame whose last two characters are not: the register starts at FFFFh, each character enters it most
significant bit first, the generator is x^16 + x^12 + x^5 + 1, and over 31h to 39h the result is 29B1h (R29). -/
def Obligations.FramesRoundTrip : Prop :=
  (∀ (k : Station) (f : Frame), frameContentOk f = true → receiveFrame (encodeFrame k f) = some (k, f))
    ∧ (∀ (k : Station) (f : Frame), (encodeFrame k f).length = (payload f).length + 4
        ∧ (encodeFrame k f).map BitVec.toNat
            = (32 * frameClass (frameKind f) + 4 * stationNumber k + 3) :: (payload f).length
                :: ((payload f).map BitVec.toNat ++ ((encodeFrame k f).drop ((payload f).length + 2)).map BitVec.toNat))
    ∧ (∀ (k : Station) (f : Frame),
        (encodeFrame k f).drop ((payload f).length + 2)
          = bytes16 (crc16 ((encodeFrame k f).take ((payload f).length + 2))))
    ∧ (∀ (cs : List Byte) (k : Station) (f : Frame), receiveFrame cs = some (k, f) →
        ∃ body, cs = body ++ bytes16 (crc16 body))
    ∧ (∀ w : BitVec 16, (bytes16 w).map BitVec.toNat = [w.toNat / 256, w.toNat % 256])
    ∧ crc16 [] = 0xFFFF#16
    ∧ (∀ (cs : List Byte) (c : Byte), crc16 (cs ++ [c]) =
        [7, 6, 5, 4, 3, 2, 1, 0].foldl
          (fun (r : BitVec 16) (i : Nat) => (r <<< 1) ^^^ (if r.getLsbD 15 = c.getLsbD i then 0#16 else 0x1021#16))
          (crc16 cs))
    ∧ crc16 [0x31#8, 0x32#8, 0x33#8, 0x34#8, 0x35#8, 0x36#8, 0x37#8, 0x38#8, 0x39#8] = 0x29B1#16
    ∧ (∀ cs : List Byte, readBits (lineBits cs) = some cs ∧ (lineBits cs).length = 10 * cs.length)
    ∧ (∀ (c : Byte) (i : Nat), i < 8 →
        (characterBits c)[i + 1]? = some (if c.getLsbD (7 - i) then .recessive else .dominant))
    ∧ (∀ c : Byte, (characterBits c)[0]? = some .dominant ∧ (characterBits c)[9]? = some .recessive)
    ∧ ∀ (cs : List Byte) (i : Nat), i < cs.length →
        readBits ((lineBits cs).set (10 * i) .recessive) = none
          ∧ readBits ((lineBits cs).set (10 * i + 9) .dominant) = none

/-- The classification reads a written snapshot or calibration record back as valid with its contents, when its integers
are signed 32-bit values and its small fields fit their characters (R84 to R86). -/
def Obligations.RecordsRoundTrip : Prop :=
  (∀ r : SnapRecord, countInRange r.body.count = true → (r.body.theta.all countInRange) = true →
      (r.body.lambda.all countInRange) = true → classifySnap (encodeSnap r) = .valid r)
    ∧ ∀ r : CalRecord, countInRange r.body.theta0 = true → countInRange r.body.sigma = true →
        countInRange r.body.centre = true → r.body.level ≤ 3 → r.body.passes ≤ 12 → r.body.lastDelta ≤ 1024 →
          classifyCal (encodeCal r) = .valid r

/-! ### The manual's tables -/

/-- The judgement of a pass: valid when both flag widths, taken as magnitudes, and the chatter count are within their
bounds, with the centre at the nearest integer to the mean of the four edges, halves toward plus infinity; and the pass is
counted (R153). -/
def Obligations.PassIsJudged : Prop :=
  (∀ (su : Setup) (r : Search) (c : Int),
      passCentre su r = some c ↔
        ∃ e1 e2 e3 e4 : Int, r.e1 = some e1 ∧ r.e2 = some e2 ∧ r.e3 = some e3 ∧ r.e4 = some e4
          ∧ su.flagWidthMin ≤ (e2 - e1).natAbs ∧ (e2 - e1).natAbs ≤ su.flagWidthMax
          ∧ su.flagWidthMin ≤ (e3 - e4).natAbs ∧ (e3 - e4).natAbs ≤ su.flagWidthMax
          ∧ r.chatter ≤ su.chatterMax
          ∧ e1 + e2 + e3 + e4 - 2 < 4 * c ∧ 4 * c ≤ e1 + e2 + e3 + e4 + 2)
    ∧ (∀ s : State, (evaluatePass s).search.total = s.search.total + 1)
    ∧ setupDefault.flagWidthMin = 64 ∧ setupDefault.flagWidthMax = 65536 ∧ setupDefault.chatterMax = 1
    ∧ numericRange 21 = some (0, 15)

/-- The newest valid slot: sequences compared modulo 65536, the table of R87, an UNREAD or WRITING image not valid, and the
choice made from the images as they stand; and the recovery choice is the newest slot's or none, never a VOID one's. -/
def Obligations.NewestSlot : Prop :=
  (∀ a b : BitVec 16, newer a b = true ↔
      1 ≤ (a.toNat + (65536 - b.toNat)) % 65536 ∧ (a.toNat + (65536 - b.toNat)) % 65536 ≤ 32767)
    ∧ (∀ ra rb : SnapRecord, newestOf (.valid ra) (.valid rb) =
        if newer rb.seq ra.seq then some (.b, rb) else some (.a, ra))
    ∧ (∀ (ra : SnapRecord) (i : SlotImage), (∀ r, i ≠ .valid r) → newestOf (.valid ra) i = some (.a, ra))
    ∧ (∀ (rb : SnapRecord) (i : SlotImage), (∀ r, i ≠ .valid r) → newestOf i (.valid rb) = some (.b, rb))
    ∧ (∀ i j : SlotImage, (∀ r, i ≠ .valid r) → (∀ r, j ≠ .valid r) → newestOf i j = none)
    ∧ (∀ (slot : Slot) (st : Store) (n : Slot × SnapRecord),
        newestOf (setImage slot .writing st).imageA (setImage slot .writing st).imageB = some n → n.1 ≠ slot)
    ∧ (∀ s : State, newest s = newestOf s.store.imageA s.store.imageB)
    ∧ ∀ (s : State) (c : ChosenSnapshot), chooseSnapshot s = some c →
        newest s = some (c.slot, c.r) ∧ c.r.body.state = .sound

/-- BRK_EN is asserted exactly in READY or REFERENCE with the own grade at COARSE or above and PFAIL not asserted; nothing
else bears on it, and it is deasserted after a reset (R173). SPD: NONE outside READY and REFERENCE, else the lowest of the
cap in force, the cap of the arm grade and, in REFERENCE, REDUCED, on the lines of Table 9-3 (R172). The arm grade is the
lowest contribution of the concern set's members, which are those of CONCERN_MASK and the own station, the mask being read as
it stands (R170, R171; in CONFIG, where SPD is NONE, that is the model's choice, and an empty set is left out, log 76). -/
def Obligations.BrakeAndSpeedPermits : Prop :=
  (∀ s : State, brkEn s = true ↔
      (s.phase = .ready ∨ s.phase = .reference)
        ∧ gradeCode .coarse ≤ gradeCode s.gradeUnit.grade ∧ s.levels.pfail = false)
    ∧ (∀ s t : State, s.phase = t.phase → s.gradeUnit.grade = t.gradeUnit.grade → s.levels.pfail = t.levels.pfail →
        brkEn s = brkEn t)
    ∧ brkEn State.reset = false
    ∧ (∀ s : State, s.phase ≠ .ready → s.phase ≠ .reference → spd s = .none)
    ∧ (∀ s : State, s.phase = .ready →
        speedCode (spd s) = min (speedCode s.zone.capInForce) (speedCode (gradeCap (armGrade s))))
    ∧ (∀ s : State, s.phase = .reference →
        speedCode (spd s) =
          min (min (speedCode s.zone.capInForce) (speedCode (gradeCap (armGrade s)))) (speedCode .reduced))
    ∧ (∀ s : State, spdLines s = { spd1 := decide (2 ≤ speedCode (spd s)), spd0 := decide (speedCode (spd s) % 2 = 1) })
    ∧ (∀ (s : State) (k : Station), maskHas (concernSet s) k =
        (maskHas (setupOf s).concernMask k || decide (own s = some k)))
    ∧ (∀ (s : State) (k : Station), maskHas (concernSet s) k = true →
        gradeCode (armGrade s) ≤ gradeCode (contribution s k))
    ∧ (∀ s : State, concernSet s ≠ 0#6 →
        ∃ k, maskHas (concernSet s) k = true ∧ armGrade s = contribution s k)
    ∧ (∀ (s : State) (k : Station), own s = some k →
        contribution s k = gradeMin s.gradeUnit.grade (entry s k).grade)
    ∧ (∀ (s : State) (k : Station), own s ≠ some k →
        contribution s k =
          if (entry s k).presence = .alive ∨ (entry s k).presence = .down then (entry s k).grade else .lost)
    ∧ gradeCap .referenced = .full ∧ gradeCap .restored = .full ∧ gradeCap .resolved = .reduced
    ∧ gradeCap .coarse = .creep ∧ gradeCap .lost = .none

/-- The effective zone attributes. Without a position: cap NONE, no homing, direction +, index 15 (R166). With RESOLVED or
above: those of the lowest-numbered zone that contains the angle, or of the default zone, which a saturated angle has
whatever the zones (R165, R166). With COARSE: the
members are the enabled zones that hold an angle of θ − τ_s … θ + τ_s, and the default zone when some angle of it lies in no
zone; one member gives its attributes, two or more the lowest cap, homing when every member allows it in one direction, the
common direction or +, and index 14; and a cap of NONE forbids homing in every case (R167). -/
def Obligations.ZoneAttributes : Prop :=
  let holds (z : ZoneRecord) (x : Int) : Prop := z.low ≤ x ∧ x < z.high
  let exactly (e : Effective) (i : ZoneIndex) (a : ZoneAttr) : Prop :=
    e.index = i ∧ e.cap = a.cap ∧ e.plus = a.plus ∧ (e.homing = true ↔ a.homing = true ∧ a.cap ≠ .none)
  (∀ s : State, s.gradeUnit.grade = .lost ∨ s.reck.theta = none →
      (effective s).cap = .none ∧ (effective s).homing = false ∧ (effective s).plus = true
        ∧ (effective s).index = .noZone)
    ∧ (∀ (s : State) (x : Int), gradeCode .resolved ≤ gradeCode s.gradeUnit.grade → s.reck.theta = some x →
        (∀ before z after, s.reck.saturated = false → zonesOf (setupOf s) = before ++ z :: after → holds z.2.2 x →
            (∀ y ∈ before, ¬ holds y.2.2 x) → exactly (effective s) z.1 z.2.2.attr)
          ∧ (s.reck.saturated = true ∨ (∀ y ∈ zonesOf (setupOf s), ¬ holds y.2.2 x) →
            exactly (effective s) .default (setupOf s).defaultZone))
    ∧ (∀ (su : Setup) (lo hi : Int), lo ≤ hi →
        (∀ z ∈ zonesOf su, (z.1, z.2.1, z.2.2.attr) ∈ membersOf su lo hi ↔ ∃ x, lo ≤ x ∧ x ≤ hi ∧ holds z.2.2 x)
          ∧ ((ZoneIndex.default, (1#5 : MemberMask), su.defaultZone) ∈ membersOf su lo hi ↔
              ∃ x, lo ≤ x ∧ x ≤ hi ∧ ∀ z ∈ zonesOf su, ¬ holds z.2.2 x)
          ∧ membersOf su lo hi ≠ [])
    ∧ ∀ (s : State) (x : Int), s.gradeUnit.grade = .coarse → s.reck.theta = some x →
        let tau := s.port.tau.getD 0
        let ms := membersOf (setupOf s) (x - tau) (x + tau)
        let e := effective s
        0 ≤ tau →
          (∀ m, ms = [m] → exactly e m.1 m.2.2)
            ∧ (2 ≤ ms.length → e.index = .combined)
            ∧ (∀ m ∈ ms, speedCode e.cap ≤ speedCode m.2.2.cap) ∧ (∃ m ∈ ms, e.cap = m.2.2.cap)
            ∧ (e.homing = true ↔
                (∀ m ∈ ms, m.2.2.homing = true ∧ m.2.2.plus = e.plus) ∧ e.cap ≠ .none)
            ∧ (∀ b : Bool, (∀ m ∈ ms, m.2.2.plus = b) → e.plus = b)
            ∧ ((∃ m ∈ ms, ∃ n ∈ ms, m.2.2.plus ≠ n.2.2.plus) → e.plus = true)

/-- The candidates of turn resolution are the tested counts that pass the three tests, and each of those is one: for an angle
θ_scale + j · 2^24 that the scale stands for, of the three counts about the estimate, those within the motor count's range
and within travel whose angle lies within τ_s of it. They are in ascending order of n, at most two without wrapping and at
most eighteen with it, their joint turns in −4 … 3 (R111, R112). -/
def Obligations.TurnCandidates : Prop :=
  ∀ (su : Setup) (tau theta0 cLead thetaScale : Int) (pM : Nat),
    0 < su.gearNum → 0 < su.gearDen → tau ≤ spanOf su - 1 → tau ≤ 4194304 →
    angleMin ≤ su.travelLow → su.travelHigh ≤ angleMax →
    travelMid su - 8388608 ≤ thetaScale → thetaScale < travelMid su + 8388608 →
      let l := candidatesOf su tau theta0 cLead thetaScale pM
      let angle (n : Int) : Int := angleOfCount su theta0 cLead (n * (cprOf su : Int) + (pM : Int))
      let kept (j n : Int) : Prop :=
        let target := thetaScale + j * turn
        let estimate := rdiv (inCounts su (target - theta0) + cLead - (pM : Int)) (cprOf su : Int)
        (su.scaleWraps = false → j = 0)
          ∧ (su.scaleWraps = true → su.travelLow - tau ≤ target ∧ target ≤ su.travelHigh + tau)
          ∧ (n = estimate - 1 ∨ n = estimate ∨ n = estimate + 1)
          ∧ countMin ≤ n * (cprOf su : Int) + (pM : Int) ∧ n * (cprOf su : Int) + (pM : Int) ≤ countMax
          ∧ su.travelLow ≤ angle n ∧ angle n ≤ su.travelHigh
          ∧ (Machine.dist (angle n) target : Int) ≤ tau
      (su.scaleWraps = false → l.length ≤ 2) ∧ l.length ≤ 18
        ∧ l.Pairwise (fun a b => a.n < b.n)
        ∧ (∀ c ∈ l, c.theta = angle c.n ∧ (∃ j, kept j c.n)
          ∧ c.jointTurn * turn ≤ c.theta ∧ c.theta < (c.jointTurn + 1) * turn
          ∧ -4 ≤ c.jointTurn ∧ c.jointTurn ≤ 3)
        ∧ ∀ j n : Int, kept j n → ∃ c ∈ l, c.n = n

/-- The result of turn resolution by the number of candidates and the snapshot test, with its notes, SLIP_DETECTED of one
candidate alone (R114). The snapshot test: τ by the snapshot's at-rest flag; the candidate's own angle for an uncoupled
station, and for a coupled one the angle of its motor count reckoned afresh with the snapshot's λ; the absolute difference to
the snapshot's angle at most τ; a coupled station's snapshot without λ is none (R113), and so is one without θ (the model's
reading, log 28). The distance of an angle from θ_scale: the absolute difference, or with SCALE_WRAPS the magnitude of the
difference reduced modulo 2^24 into [−2^23, 2^23) (R18). -/
def Obligations.ResolutionTable : Prop :=
  (∀ (su : Setup) (c : ChosenSnapshot) (lam : Option Int),
      let tau := if c.r.body.atRest = true then su.slipTolRest else su.slipTolMoving
      (c.r.body.theta = none → ∀ b, snapTestOf su b c = none)
        ∧ (c.r.body.lambda = none → snapTestOf su true c = none)
        ∧ ∀ x, c.r.body.theta = some x → c.r.body.lambda = lam →
            snapTestOf su false c = some { theta := x, lambda := 0, tau := tau }
              ∧ ∀ l, lam = some l → snapTestOf su true c = some { theta := x, lambda := l, tau := tau })
    ∧ (∀ (su : Setup) (theta0 : Int) (pM : Nat) (t : SnapTest) (c : Candidate),
        let cpr : Int := 2 ^ su.motorBits
        let term := rdiv (su.coupleNum * t.lambda * cpr) ((su.coupleDen : Int) * 16777216)
        let afresh := theta0
          + rdiv ((c.n * cpr + (pM : Int) - term) * (su.gearDen : Int) * 16777216) ((su.gearNum : Int) * cpr)
        (snapDistance su false theta0 pM t c : Int) = |c.theta - t.theta|
          ∧ (snapDistance su true theta0 pM t c : Int) = |afresh - t.theta|
          ∧ (snapAgrees su false theta0 pM t c = true ↔ |c.theta - t.theta| ≤ (t.tau : Int))
          ∧ (snapAgrees su true theta0 pM t c = true ↔ |afresh - t.theta| ≤ (t.tau : Int)))
    ∧ (∀ (su : Setup) (a thetaScale : Int),
        (su.scaleWraps = false → (scaleDistance su a thetaScale : Int) = |a - thetaScale|)
          ∧ (su.scaleWraps = true → scaleDistance su a thetaScale ≤ 8388608
              ∧ ∃ r : Int, -8388608 ≤ r ∧ r < 8388608 ∧ (16777216 : Int) ∣ a - thetaScale - r
                ∧ (scaleDistance su a thetaScale : Int) = |r|))
    ∧ ∀ (su : Setup) (coupledStation : Bool) (theta0 : Int) (pM : Nat) (cands : List Candidate)
      (snap : Option SnapTest),
    let v := tableOf su coupledStation theta0 pM cands snap
    let agreeing := match snap with
      | none => []
      | some t => cands.filter (snapAgrees su coupledStation theta0 pM t)
    v.k = cands.length ∧ v.agreed = agreeing.length
      ∧ (cands = [] → v.grade = .lost ∧ v.n = none ∧ v.list = [] ∧ v.disagree = true)
      ∧ (cands ≠ [] → v.disagree = false)
      ∧ (∀ c, agreeing = [c] → v.grade = .restored ∧ v.n = some c ∧ v.list = [] ∧ v.slip = none)
      ∧ (∀ c, cands = [c] → snap = none → v.grade = .resolved ∧ v.n = some c ∧ v.slip = none)
      ∧ (∀ c t, cands = [c] → snap = some t → agreeing = [] →
          v.grade = .resolved ∧ v.n = some c
            ∧ v.slip = some (snapDistance su coupledStation theta0 pM t c, t.tau))
      ∧ ((cands = [] ∨ 2 ≤ cands.length) → v.slip = none)
      ∧ (2 ≤ cands.length → agreeing.length ≠ 1 →
          v.n = none ∧ (su.scaleWraps = false → v.grade = .coarse ∧ v.list = [])
            ∧ (su.scaleWraps = true → v.grade = .lost ∧ v.list = cands))

/-- The plan at GO. The normalised plan: no station in its own masks, no station its own lead, the conflict relation
symmetric, and the rest as written (R56). PLAN_CYCLE: the test finds exactly the plans in whose lead graph or prerequisite
graph following links from some station leads back to it (R57). -/
def Obligations.PlanNormalisedAndCycleFree : Prop :=
  (∀ p : Plan,
    (normalise p).h = p.h ∧ (normalise p).holdoff = p.holdoff ∧ (normalise p).markTimeout = p.markTimeout
      ∧ (∀ n m : Station, maskHas ((normalise p).prereq.get n) m = (maskHas (p.prereq.get n) m && decide (m ≠ n)))
      ∧ (∀ n : Station, (normalise p).lead.get n = if p.lead.get n = some n then none else p.lead.get n)
      ∧ (∀ n m : Station, maskHas ((normalise p).conflict.get n) m =
          ((maskHas (p.conflict.get n) m || maskHas (p.conflict.get m) n) && decide (m ≠ n))))
    ∧ ∀ p : Plan, planCycle p = true ↔
      (∃ k, Relation.TransGen (fun a b : Station => p.lead.get a = some b) k k)
        ∨ ∃ k, Relation.TransGen (fun a b : Station => maskHas (p.prereq.get a) b = true) k k

/-! ### STOP faults -/

/-- A STOP fault raised in MUSTER, RECOVERY, READY or REFERENCE: the record, the stop set, the search, the claim, the STOP,
the mark unit, the decision in hand, the phase, the permits and the HALT; a locked record stands, its lost count risen by 1
for this fault, and by no more where neither the fall of the grade nor the end of a lead hold recomputes the angle, whose
ANGLE_SATURATED would count as well (R177, R178). In CONFIG and DOWN a STOP fault is recorded or counted as lost, and nothing
else changes; in FAULTED it also joins the stop set and makes its fall of the grade, with the VOID GRADE_LOSS request where
the fall passes below RESOLVED, and nothing else changes, so that no HALT is queued and the phase stays (R93, R105, R179). The
fall is written out row by row (Table 6-2): MOTOR_SENSOR_FAULT and MOTOR_JUMP leave at most COARSE on the scale while the scale
is valid and SCALE_WRAPS is 0, and LOST with basis NONE otherwise; MOTOR_COUNT_OVERFLOW leaves LOST with basis NONE;
SCALE_FAULT at most RESOLVED with the basis as it was; SCALE_DRIFT at most COARSE on the scale, and LOST with basis NONE where
the scale wraps; the other causes leave the grade and the basis. In MUSTER, RECOVERY, READY, REFERENCE and FAULTED the grade is
the lower of the grade before and the row's, with the row's basis also where the grade was LOST already (R105; that the row
holds at LOST is the model's reading, log 20). And the falls to the ceiling, in every phase but CONFIG and DOWN: COARSE while
SATURATED, RESOLVED while the scale is failed, the lead grade of a coupled station, whichever is lowest; the basis stays, and is
NONE with LOST; a lead grade below the own grade sets the capped-by-lead flag and is recorded (R103, R104, R105). -/
def Obligations.StopEffects : Prop :=
  let row (s : State) (c : StopCause) : Option (Grade × Option Basis) :=
    match c with
    | .motorSensorFault | .motorJump =>
      if s.sensor.latestScale.isSome = true ∧ s.sensor.badScale < 3 ∧ (setupOf s).scaleWraps = false then
        some (.coarse, some .scale)
      else some (.lost, some .none)
    | .motorCountOverflow => some (.lost, some .none)
    | .scaleFault => some (.resolved, none)
    | .scaleDrift =>
      if (setupOf s).scaleWraps = true then some (.lost, some .none) else some (.coarse, some .scale)
    | .directiveUntaken | .wrongDirection | .unbiddenMotion | .linkTxFail | .duplicateStation => none
  (∀ (c : StopCause) (a b : Int) (s : State), stopsIn s.phase = true →
    let t := raiseStop c a b s
    t.phase = .faulted ∧ c ∈ t.fault.stopSet
      ∧ t.port.attention.fault = true ∧ t.fault.record.locked = true
      ∧ (s.fault.record.locked = false →
          t.fault.record.cause = some (.stop c) ∧ t.fault.record.phase = some s.phase
            ∧ t.fault.record.station = own s ∧ t.fault.record.a = faultValue a ∧ t.fault.record.b = faultValue b
            ∧ t.fault.record.markNumber = s.mark.number ∧ t.fault.record.time = s.ms)
      ∧ (s.fault.record.locked = true →
          t.fault.record = { s.fault.record with lost := t.fault.record.lost }
            ∧ min 255 (s.fault.record.lost + 1) ≤ t.fault.record.lost
            ∧ (row s c = none → s.search.leadHold = false →
                t.fault.record.lost = min 255 (s.fault.record.lost + 1)))
      ∧ t.search.sub = .none ∧ (searching s = true → t.search.outcome = .endedByFault)
      ∧ claimFlag t = false ∧ t.claim.wanted = false ∧ (t.claim.state = .none ∨ t.claim.state = .releasing)
      ∧ moving t = false ∧ stopCurrent t = true
      ∧ (stopCurrent s = true → t.claim.dir = s.claim.dir ∧ t.claim.dirState = s.claim.dirState)
      ∧ t.mark.needs = needsNone ∧ t.mark.state ≠ .holding ∧ t.mark.state ≠ .awaitEdge
      ∧ t.link.queue.markCall = none
      ∧ t.gradeUnit.sub = .idle ∧ t.gradeUnit.held = none ∧ t.gradeUnit.candidates = []
      ∧ (row s c = none →
          t.gradeUnit.grade = s.gradeUnit.grade ∧ t.reck.basis = s.reck.basis
            ∧ t.store.pendingSnap = s.store.pendingSnap)
      ∧ (∀ r, row s c = some r →
          t.gradeUnit.grade = gradeMin s.gradeUnit.grade r.1 ∧ t.reck.basis = r.2.getD s.reck.basis
            ∧ (gradeCode .resolved ≤ gradeCode s.gradeUnit.grade → gradeCode r.1 < gradeCode .resolved →
                ∃ q, t.store.pendingSnap = some q ∧ q.cause = .gradeLoss ∧ q.state = .void
                  ∧ q.grade = t.gradeUnit.grade ∧ q.count = s.reck.count ∧ q.atRest = s.reck.atRest
                  ∧ q.calSeq = s.store.calSeq ∧ q.markNumber = s.mark.number)
            ∧ (gradeCode s.gradeUnit.grade < gradeCode .resolved ∨ gradeCode .resolved ≤ gradeCode r.1 →
                t.store.pendingSnap = s.store.pendingSnap))
      ∧ t.link.queue.halt = some (.halt c)
      ∧ ownPull t = true ∧ brkEn t = false ∧ spd t = .none)
    ∧ (∀ (c : StopCause) (a b : Int) (s : State), stopsIn s.phase = false →
        let t := raiseStop c a b s
        t.phase = s.phase ∧ t.port = { s.port with attention := t.port.attention }
          ∧ t.port.attention.fault = true ∧ t.fault.record.locked = true
          ∧ (s.fault.record.locked = false →
              t.fault.record.cause = some (.stop c) ∧ t.fault.record.phase = some s.phase
                ∧ t.fault.record.station = own s ∧ t.fault.record.a = faultValue a ∧ t.fault.record.b = faultValue b
                ∧ t.fault.record.markNumber = s.mark.number ∧ t.fault.record.time = s.ms)
          ∧ (s.fault.record.locked = true →
              t.fault.record = { s.fault.record with lost := t.fault.record.lost }
                ∧ min 255 (s.fault.record.lost + 1) ≤ t.fault.record.lost
                ∧ (s.phase ≠ .faulted ∨ row s c = none →
                    t.fault.record.lost = min 255 (s.fault.record.lost + 1)))
          ∧ t.mark = s.mark ∧ t.claim = s.claim ∧ t.link = s.link ∧ t.peers = s.peers ∧ t.zone = s.zone
          ∧ t.search = { s.search with refSnapshot := t.search.refSnapshot }
          ∧ (s.phase ≠ .faulted ∨ row s c = none →
              t.reck = s.reck ∧ t.gradeUnit = s.gradeUnit ∧ t.store = s.store ∧ t.search = s.search)
          ∧ (s.phase ≠ .faulted →
              t.fault.stopSet = s.fault.stopSet
                ∧ t.port.attention = { s.port.attention with fault := true })
          ∧ (s.phase = .faulted →
              c ∈ t.fault.stopSet ∧ (∀ x ∈ t.fault.stopSet, x = c ∨ x ∈ s.fault.stopSet)
                ∧ (∀ x ∈ s.fault.stopSet, x ∈ t.fault.stopSet))
          ∧ ∀ r, row s c = some r → s.phase = .faulted →
              t.gradeUnit = { s.gradeUnit with grade := gradeMin s.gradeUnit.grade r.1 }
                ∧ t.reck.basis = r.2.getD s.reck.basis ∧ t.reck.count = s.reck.count
                ∧ (gradeCode .resolved ≤ gradeCode s.gradeUnit.grade → gradeCode r.1 < gradeCode .resolved →
                    t.store.pendingSnap = some (snapContents .gradeLoss .void t))
                ∧ (gradeCode s.gradeUnit.grade < gradeCode .resolved ∨ gradeCode .resolved ≤ gradeCode r.1 →
                    t.store.pendingSnap = s.store.pendingSnap))
    ∧ ∀ s : State, s.phase ≠ .config → s.phase ≠ .down →
        let t := applyCeiling s
        let limit := min (min (if s.reck.saturated = true then gradeCode .coarse else gradeCode .referenced)
            (if 3 ≤ s.sensor.badScale then gradeCode .resolved else gradeCode .referenced))
          (gradeCode ((leadGrade s).getD .referenced))
        gradeCode t.gradeUnit.grade = min (gradeCode s.gradeUnit.grade) limit
          ∧ (gradeCode s.gradeUnit.grade ≤ limit → t = s)
          ∧ (limit < gradeCode s.gradeUnit.grade →
              t.reck.basis = (if t.gradeUnit.grade = .lost then .none else s.reck.basis)
                ∧ (if gradeCode ((leadGrade s).getD .referenced) < gradeCode s.gradeUnit.grade then
                    t.gradeUnit.capped = true ∧ t.gradeUnit.recordedLead = leadGrade s
                  else
                    t.gradeUnit.capped = s.gradeUnit.capped
                      ∧ t.gradeUnit.recordedLead = s.gradeUnit.recordedLead))

/-! ### Sensing -/

/-- A good motor sample, its value taken modulo CPR (log 8): the value and the flag level taken; the first one starts the count
with M equal to p and a rest anchor; every later one is unwrapped by the step in (−CPR/2, CPR/2] and moves M within its limits;
rest is judged against the anchor (R1, R2, R6, R7, R20); a step above CPR/4 raises MOTOR_JUMP, while M is held too (R8; log
46), and a step that carries M out of its range holds it and raises MOTOR_COUNT_OVERFLOW (R9); an unlocked record then holds
the fault, unless θ enters saturation at the sample, whose ANGLE_SATURATED is raised before it (R15; the order is the model's,
log 19). A jump takes the grade to at most COARSE on the scale while the scale is valid and SCALE_WRAPS is 0, and to LOST with
basis NONE otherwise or with an overflow, and under a lead grade of LOST to LOST (R8, R9, R103, R105; at a grade of LOST the
row's basis is the model's reading, log 20). The sample that takes a requested capture answers it with p, M, θ, the λ in use of
a coupled station, the scale and rest after the sample, and queues the own report when no decision needs the capture, with the
own grade, as a jump or an overflow of the sample leaves it (the order is the model's, log 19) and before the ceiling's fall
that an entry into saturation at the sample brings (the model's choice, log 92), and that θ, absent with LOST (R24, R30, R72).
A bad sample leaves M and the anchor; the third in a row fails the sensor, clears the at-rest flag, fails a requested capture,
whose report carries no values and the grade as fallen (that the fault comes before the report is the model's choice, log 52),
and takes the grade and the basis as a jump does (R2, R3, R21, R24, R72, R105). The first good sample after a failure sets the
anchor to the new M, with the at-rest flag left as it is (R21). In basis COUNTS the angle after a good sample is θ0 plus the
two stages of R14, each rounded to the nearest integer with halves upward, limited to −2^26 … 2^26 − 1, with the λ that the
sample leaves, and the SATURATED flag whether the value formed lay outside; the entry into saturation raises ANGLE_SATURATED
with 1 above and 2 below, which an unlocked record holds (R14, R15). The capture that serves the CALIBRATE need of a search:
with the scale valid the computed σ, the need served and the calibration write requested with its fields, and started when the
store is free; with the scale not valid the need stays registered (R157). -/
def Obligations.MotorSampleTaken : Prop :=
  let onScale (s : State) : Bool :=
    s.sensor.latestScale.isSome && decide (s.sensor.badScale < 3) && !(setupOf s).scaleWraps
  let fallen (s : State) : Grade := gradeMin s.gradeUnit.grade (if onScale s then .coarse else .lost)
  (∀ (cpr new old : Nat), 0 < cpr →
      -(cpr : Int) < 2 * unwrapStep cpr new old ∧ 2 * unwrapStep cpr new old ≤ (cpr : Int)
        ∧ (cpr : Int) ∣ unwrapStep cpr new old - ((new : Int) - (old : Int)))
    ∧ (∀ (now : Instant) (p : BitVec 16) (flag : Bool) (s : State), s.levels.rstLow = false → LeadHeard s →
        s.mark.captureRequested = false →
          let v := p.toNat % cprOf (setupOf s)
          let d := unwrapStep (cprOf (setupOf s)) v (s.reck.lastGood.getD v)
          let sum := s.reck.count + d
          let noEntry : Prop := s.reck.saturated = true
            ∨ ∀ x, formedAngle { s with reck := { s.reck with count := clampInt countMin countMax sum } } = some x →
                angleInRange x = true
          ∃ t, exec (.motorSample now (.good p) flag) s = .next t ∧ t.ms = now.ms
            ∧ t.sensor = { s.sensor with latestMotor := some v, badMotor := 0, flagLevel := some flag }
            ∧ t.reck.started = true ∧ t.reck.lastGood = some v
            ∧ (s.reck.started = false →
                t.reck.count = (v : Int) ∧ t.reck.atRest = false
                  ∧ t.reck.anchor = some { count := (v : Int), time := now.ms })
            ∧ (s.reck.started = true → t.reck.count = clampInt countMin countMax sum)
            ∧ (∀ a, s.reck.anchor = some a → s.reck.started = true → s.sensor.badMotor < 3 →
                if (setupOf s).restTol < Machine.dist t.reck.count a.count then
                  t.reck.atRest = false ∧ t.reck.anchor = some { count := t.reck.count, time := now.ms }
                else
                  t.reck.anchor = some a
                    ∧ t.reck.atRest = (decide ((setupOf s).restWindow ≤ elapsed now.ms a.time) || s.reck.atRest))
            ∧ (s.reck.started = true → s.reck.anchor ≠ none → 3 ≤ s.sensor.badMotor →
                t.reck.anchor = some { count := t.reck.count, time := now.ms } ∧ t.reck.atRest = s.reck.atRest)
            ∧ (s.reck.started = true → cprOf (setupOf s) < 4 * d.natAbs → stopsIn s.phase = true →
                t.phase = .faulted ∧ .motorJump ∈ t.fault.stopSet
                  ∧ (s.reck.held = true ∨ countInRange sum = true → leadGrade s ≠ some .lost →
                      t.gradeUnit.grade = fallen s ∧ t.reck.basis = (if onScale s then .scale else .none))
                  ∧ (leadGrade s = some .lost → t.gradeUnit.grade = .lost)
                  ∧ (s.fault.record.locked = false → noEntry →
                      t.fault.record.cause = some (.stop .motorJump) ∧ t.fault.record.a = faultValue d
                        ∧ t.fault.record.b = faultValue ((cprOf (setupOf s) / 4 : Nat) : Int)))
            ∧ (s.reck.started = true →
                t.reck.held = (!countInRange sum || (s.reck.held && decide (d = 0))))
            ∧ (s.reck.started = true → s.reck.held = false → countInRange sum = false → stopsIn s.phase = true →
                t.phase = .faulted ∧ .motorCountOverflow ∈ t.fault.stopSet ∧ t.gradeUnit.grade = .lost
                  ∧ t.reck.basis = .none
                  ∧ (s.fault.record.locked = false → noEntry → 4 * d.natAbs ≤ cprOf (setupOf s) →
                      t.fault.record.cause = some (.stop .motorCountOverflow)
                        ∧ t.fault.record.a = (if sum < countMin then 2 else 1) ∧ t.fault.record.b = 0)))
    ∧ (∀ (now : Instant) (p : BitVec 16) (flag : Bool) (s : State), s.levels.rstLow = false →
        s.mark.captureRequested = true →
          let su := setupOf s
          let cpr : Int := 2 ^ su.motorBits
          let v := p.toNat % cprOf su
          let d := unwrapStep (cprOf su) v (s.reck.lastGood.getD v)
          let m := if s.reck.started = true then clampInt countMin countMax (s.reck.count + d) else (v : Int)
          let term :=
            if coupled s = true then rdiv (su.coupleNum * s.reck.lambda * cpr) ((su.coupleDen : Int) * 16777216)
            else 0
          let formed := s.reck.theta0 + rdiv ((m - term) * (su.gearDen : Int) * 16777216) ((su.gearNum : Int) * cpr)
          let jumps : Bool := s.reck.started && decide (cprOf su < 4 * d.natAbs)
          let overflows : Bool := s.reck.started && !s.reck.held && !countInRange (s.reck.count + d)
          let own : Grade := if overflows then .lost else if jumps then fallen s else s.gradeUnit.grade
          ∃ t c, exec (.motorSample now (.good p) flag) s = .next t ∧ t.mark.lastCapture = some c
            ∧ t.mark.captureRequested = false ∧ c.good = true ∧ c.pM = v ∧ c.count = m
            ∧ c.scaleCount = s.sensor.latestScale ∧ c.scaleValid = scaleValid s ∧ c.atRest = t.reck.atRest
            ∧ (jumps = false → overflows = false →
                c.lambda = (if coupled s = true then some s.reck.lambda else none)
                  ∧ c.theta =
                      (match s.reck.basis with
                        | .none => none
                        | .counts => some (clampInt angleMin angleMax formed)
                        | .scale => s.reck.thetaScale.map (clampInt angleMin angleMax)))
            ∧ (s.phase ≠ .config → s.phase ≠ .down → s.mark.serving.recovery = false →
                s.mark.serving.reMark = false → LeadHeard s →
                  t.link.queue.markReport =
                    some (.markReport
                      { number := s.mark.number, grade := own, captureGood := true, scaleValid := scaleValid s
                        pM := BitVec.ofNat 16 v, sM := BitVec.ofNat 16 (s.sensor.latestScale.getD 0)
                        thetaM := if own = .lost then none else c.theta })))
    ∧ (∀ a b : Int, 0 < b → 2 * (b * rdiv a b) ≤ 2 * a + b ∧ 2 * a + b < 2 * (b * rdiv a b) + 2 * b)
    ∧ (∀ (now : Instant) (p : BitVec 16) (flag : Bool) (s : State), s.levels.rstLow = false →
        let su := setupOf s
        let cpr : Int := 2 ^ su.motorBits
        let formed (lambda m : Int) : Int :=
          let term :=
            if coupled s = true then rdiv (su.coupleNum * lambda * cpr) ((su.coupleDen : Int) * 16777216) else 0
          s.reck.theta0 + rdiv ((m - term) * (su.gearDen : Int) * 16777216) ((su.gearNum : Int) * cpr)
        let outside (x : Int) : Prop := x < angleMin ∨ angleMax < x
        let v := p.toNat % cprOf su
        let d := unwrapStep (cprOf su) v (s.reck.lastGood.getD v)
        let sum := s.reck.count + d
        let x := formed s.reck.lambda (if s.reck.started = true then clampInt countMin countMax sum else (v : Int))
        ∃ t, exec (.motorSample now (.good p) flag) s = .next t
          ∧ (t.reck.basis = .counts →
              t.reck.theta = some (clampInt angleMin angleMax (formed t.reck.lambda t.reck.count))
                ∧ (t.reck.saturated = true ↔ outside (formed t.reck.lambda t.reck.count)))
          ∧ (s.reck.basis = .counts → s.mark.captureRequested = false → Steady s → UnderCeiling s →
              (s.reck.started = true → 4 * d.natAbs ≤ cprOf su ∧ countInRange sum = true) → t.reck.basis = .counts)
          ∧ (s.search.leadHold = false → s.mark.captureRequested = false → LeadHeard s →
              t.reck.lambda = s.reck.lambda)
          ∧ (s.reck.basis = .counts → s.reck.saturated = false → outside x →
              t.port.attention.fault = true
                ∧ (s.fault.record.locked = false →
                    t.fault.record.cause = some (.note .angleSaturated)
                      ∧ t.fault.record.a = (if angleMax < x then 1 else 2) ∧ t.fault.record.b = 0)))
    ∧ (∀ (now : Instant) (p : BitVec 16) (flag : Bool) (s : State) (theta0 centre lam : Int), Steady s →
        s.phase = .reference → s.search.sub = .calibrate → s.mark.captureRequested = true →
        s.mark.serving.calibrate = true → s.mark.needs.calibrate = true → s.mark.serving.recovery = false →
        s.mark.serving.reMark = false → s.search.theta0 = some theta0 → s.search.centre = some centre →
        coupled s = false ∨ s.search.heldLambda = some lam → s.reck.started = true →
          let su := setupOf s
          let cpr : Int := 2 ^ su.motorBits
          let v := p.toNat % cprOf su
          let d := unwrapStep (cprOf su) v (s.reck.lastGood.getD v)
          let m := s.reck.count + d
          let term :=
            if coupled s = true then rdiv (su.coupleNum * lam * cpr) ((su.coupleDen : Int) * 16777216) else 0
          let angle := clampInt angleMin angleMax
            (theta0 + rdiv ((m - term) * (su.gearDen : Int) * 16777216) ((su.gearNum : Int) * cpr))
          4 * d.natAbs ≤ cprOf su → countInRange m = true →
            ∃ t, exec (.motorSample now (.good p) flag) s = .next t ∧ t.mark.captureRequested = false
              ∧ (t.phase ≠ .faulted →
                  t.search.sub = .calibrate ∧ t.search.theta0 = some theta0
                    ∧ (∀ sm, scaleValid s = true → s.sensor.latestScale = some sm →
                        let request : CalRequest :=
                          { theta0 := theta0, sigma := angle - (sm : Int) * 4096, centre := centre
                            level := s.search.level, passes := s.search.total
                            lastDelta := s.search.lastDelta.getD 0 }
                        t.search.sigma = some request.sigma ∧ t.search.awaitingWrite = true
                          ∧ t.mark.needs.calibrate = false
                          ∧ (s.store.scanDone = true → s.store.inFlight = none →
                              t.store.pendingCal = none
                                ∧ t.store.inFlight = some (.cal { seq := nextCalSeq s, body := request }))
                          ∧ (s.store.scanDone = false ∨ s.store.inFlight ≠ none →
                              t.store.pendingCal = some request ∧ t.store.inFlight = s.store.inFlight))
                    ∧ (scaleValid s = false →
                        t.mark.needs.calibrate = true ∧ t.search.sigma = s.search.sigma
                          ∧ t.search.awaitingWrite = s.search.awaitingWrite
                          ∧ (s.store.pendingCal = none → t.store.pendingCal = none))))
    ∧ ∀ (now : Instant) (flag : Bool) (s : State), s.levels.rstLow = false →
        ∃ t, exec (.motorSample now .bad flag) s = .next t ∧ t.sensor.badMotor = min 3 (s.sensor.badMotor + 1)
          ∧ t.sensor.latestMotor = s.sensor.latestMotor ∧ t.sensor.flagLevel = some flag
          ∧ (LeadHeard s → t.reck.count = s.reck.count ∧ t.reck.lastGood = s.reck.lastGood
              ∧ t.reck.started = s.reck.started ∧ t.reck.held = s.reck.held ∧ t.reck.anchor = s.reck.anchor
              ∧ (s.sensor.badMotor ≠ 2 → t.reck.atRest = s.reck.atRest))
          ∧ (s.sensor.badMotor = 2 → t.reck.atRest = false)
          ∧ (s.sensor.badMotor = 2 → s.mark.captureRequested = true →
              t.mark.captureRequested = false ∧ (∃ c, t.mark.lastCapture = some c ∧ c.good = false)
                ∧ (s.phase ≠ .config → s.phase ≠ .down →
                    ∃ r, t.link.queue.markReport = some (.markReport r) ∧ r.number = s.mark.number
                      ∧ r.captureGood = false ∧ r.grade = fallen s ∧ r.pM = 0#16 ∧ r.sM = 0#16 ∧ r.thetaM = none))
          ∧ (s.sensor.badMotor = 2 → stopsIn s.phase = true →
              t.phase = .faulted ∧ .motorSensorFault ∈ t.fault.stopSet
                ∧ (s.fault.record.locked = false →
                    t.fault.record.cause = some (.stop .motorSensorFault) ∧ t.fault.record.a = 3
                      ∧ t.fault.record.b = 0)
                ∧ (leadGrade s ≠ some .lost →
                    t.gradeUnit.grade = fallen s ∧ t.reck.basis = (if onScale s then .scale else .none))
                ∧ (leadGrade s = some .lost → t.gradeUnit.grade = .lost))

/-- A scale sample: a good one gives θ_scale as the value congruent to S · 4096 + σ in the window about the middle of travel; a
bad one leaves θ_scale, until the third in a row fails the scale, with θ_scale absent, and raises SCALE_FAULT in a phase of
R178, which takes the grade to at most RESOLVED and leaves the basis (R4, R17, R105). The drift check: while it is active a
distance above τ_s raises the drift count, one within τ_s returns it to 0, and the eighth in a row raises SCALE_DRIFT, which
leaves COARSE on the scale, and LOST with basis NONE where the scale wraps (R105); a bad sample leaves the count; and the count
is 0 while the check is not active (R22, R23). In basis SCALE a good sample makes θ the new θ_scale limited to −2^26 … 2^26 −
1, and the SATURATED flag whether it lay outside; the entry into saturation raises ANGLE_SATURATED with 1 above and 2 below,
which an unlocked record holds; and with the scale failed θ is absent (R13, R15; that θ is θ_scale also while the motor count
is unstarted is the model's reading of R13 against R6, log 72, and LOST can stand with basis SCALE by log 20). -/
def Obligations.ScaleSampleTaken : Prop :=
  let active (s : State) : Prop :=
    (s.phase = .ready ∨ s.phase = .reference) ∧ gradeCode .resolved ≤ gradeCode s.gradeUnit.grade
      ∧ s.reck.basis = .counts ∧ s.reck.theta ≠ none ∧ leadAtRest s = true
  (∀ (now : Instant) (v : BitVec 12) (s : State), s.levels.rstLow = false →
      ∃ t, exec (.scaleSample now (.good v)) s = .next t ∧ t.ms = now.ms
        ∧ t.sensor = { s.sensor with latestScale := some v.toNat, badScale := 0 }
        ∧ ∃ a, t.reck.thetaScale = some a
          ∧ travelMid (setupOf s) - 8388608 ≤ a ∧ a < travelMid (setupOf s) + 8388608
          ∧ turn ∣ a - ((v.toNat : Int) * 4096 + s.reck.sigma)
          ∧ (∀ x, s.reck.theta = some x → active s → Steady s → UnderCeiling s →
              let d := scaleDistance (setupOf s) x a
              let tau := s.port.tau.getD 0
              ((d : Int) ≤ tau → t.reck.drift = 0 ∧ t.phase = s.phase)
                ∧ (tau < (d : Int) → s.reck.drift < 7 → t.reck.drift = s.reck.drift + 1 ∧ t.phase = s.phase)
                ∧ (tau < (d : Int) → 7 ≤ s.reck.drift →
                    t.reck.drift = 0 ∧ t.phase = .faulted ∧ .scaleDrift ∈ t.fault.stopSet
                      ∧ t.gradeUnit.grade = (if (setupOf s).scaleWraps = true then .lost else .coarse)
                      ∧ t.reck.basis = (if (setupOf s).scaleWraps = true then .none else .scale)
                      ∧ (s.fault.record.locked = false →
                          t.fault.record.cause = some (.stop .scaleDrift) ∧ t.fault.record.a = faultValue d
                            ∧ t.fault.record.b = faultValue tau)))
          ∧ (¬ active s → Steady s → t.reck.drift = 0)
          ∧ (t.reck.basis = .scale →
              t.reck.theta = some (clampInt angleMin angleMax a)
                ∧ t.reck.saturated = decide (a < angleMin ∨ angleMax < a))
          ∧ (s.reck.basis = .scale → Steady s → UnderCeiling s → t.reck.basis = .scale)
          ∧ (s.reck.basis = .scale → s.reck.saturated = false → a < angleMin ∨ angleMax < a →
              t.port.attention.fault = true
                ∧ (s.fault.record.locked = false →
                    t.fault.record.cause = some (.note .angleSaturated)
                      ∧ t.fault.record.a = (if angleMax < a then 1 else 2) ∧ t.fault.record.b = 0)))
    ∧ ∀ (now : Instant) (s : State), s.levels.rstLow = false →
        ∃ t, exec (.scaleSample now .bad) s = .next t
          ∧ t.sensor = { s.sensor with badScale := min 3 (s.sensor.badScale + 1) }
          ∧ (2 ≤ s.sensor.badScale → t.reck.thetaScale = none)
          ∧ (2 ≤ s.sensor.badScale → t.reck.basis = .scale → t.reck.theta = none)
          ∧ (s.sensor.badScale < 2 → LeadHeard s → t.reck.thetaScale = s.reck.thetaScale)
          ∧ (s.sensor.badScale < 2 → s.sensor.latestScale ≠ none → active s → Steady s → UnderCeiling s →
              t.reck.drift = s.reck.drift)
          ∧ (s.sensor.badScale = 2 → stopsIn s.phase = true →
              t.phase = .faulted ∧ .scaleFault ∈ t.fault.stopSet)
          ∧ (s.sensor.badScale = 2 → stopsIn s.phase = true → gradeCode t.gradeUnit.grade ≤ gradeCode .resolved)
          ∧ (s.sensor.badScale = 2 → stopsIn s.phase = true → UnderCeiling s → s.search.leadHold = false →
              t.gradeUnit.grade = gradeMin s.gradeUnit.grade .resolved ∧ t.reck.basis = s.reck.basis)

/-- The obedience checks at a good motor sample, in a phase of R178. A taken JOG: M more than REST_TOL back from the furthest
point raises WRONG_DIRECTION, and otherwise the furthest point follows M in the bidden direction (R136). In REFERENCE with
nothing current: M more than REST_TOL from the still point raises UNBIDDEN_MOTION with 2 as its first value, and otherwise the
point stays (R138). A taken MOVE_TO of a search that parks: with θ within REST_TOL seen at the joint of the target and the
joint at rest the move has reached its target and is ended by STOP, and otherwise M further from the take point than the limit
of the move ends it by STOP with OVERTRAVEL, and no further lets it run on (R139, R159). The limit of a MOVE_TO at its take is
|target − θ| in motor counts, by the inverse of the factor of R16, plus SEARCH_SPAN, and the take point is M (R159). A taken
STOP, in any phase but DOWN and outside a search, settles at the sample that shows the joint at rest, its allowance then
stopped, and stays taken at another (R137). An unlocked record holds the STOP fault, unless the sample's own θ enters
saturation, whose ANGLE_SATURATED is raised before it (R15, R177; the order is the model's, log 19); the value is taken modulo
CPR (log 8). -/
def Obligations.ObedienceChecks : Prop :=
  let stepped (p : BitVec 16) (s : State) (m : Int) : Prop :=
    let v := p.toNat % cprOf (setupOf s)
    let d := unwrapStep (cprOf (setupOf s)) v (s.reck.lastGood.getD v)
    Steady s ∧ s.mark.captureRequested = false ∧ s.reck.started = true
      ∧ 4 * d.natAbs ≤ cprOf (setupOf s) ∧ m = s.reck.count + d ∧ countInRange m = true
  let sampled (p : BitVec 16) (s : State) (m : Int) : Prop := stepped p s m ∧ stopsIn s.phase = true
  let noEntry (s : State) (m : Int) : Prop :=
    s.reck.saturated = true
      ∨ ∀ x, formedAngle { s with reck := { s.reck with count := m } } = some x → angleInRange x = true
  (∀ (now : Instant) (p : BitVec 16) (flag : Bool) (s : State) (m f : Int) (plus : Bool), sampled p s m →
      s.claim.dirState = .taken → s.claim.dir.kind = some (if plus then .jogPos else .jogNeg) →
      s.claim.furthest = some f →
        let back := if plus then f - m else m - f
        ∃ t, exec (.motorSample now (.good p) flag) s = .next t ∧ t.reck.count = m
          ∧ (((setupOf s).restTol : Int) < back →
              t.phase = .faulted ∧ .wrongDirection ∈ t.fault.stopSet ∧ stopCurrent t = true
                ∧ (s.fault.record.locked = false → noEntry s m →
                    t.fault.record.cause = some (.stop .wrongDirection) ∧ t.fault.record.a = faultValue back
                      ∧ t.fault.record.b = faultValue (setupOf s).restTol))
          ∧ (back ≤ ((setupOf s).restTol : Int) →
              t.phase ≠ .faulted
                ∧ (t.claim.dir = s.claim.dir →
                    t.claim.furthest = some (if plus then max f m else min f m))))
    ∧ (∀ (now : Instant) (p : BitVec 16) (flag : Bool) (s : State) (m q : Int), sampled p s m →
        s.phase = .reference → moving s = false → stopCurrent s = false → s.claim.still = some q →
          ∃ t, exec (.motorSample now (.good p) flag) s = .next t ∧ t.reck.count = m
            ∧ (((setupOf s).restTol : Int) < |m - q| →
                t.phase = .faulted ∧ .unbiddenMotion ∈ t.fault.stopSet ∧ stopCurrent t = true
                  ∧ causePresent t .unbiddenMotion = !t.reck.atRest
                  ∧ (s.fault.record.locked = false → noEntry s m →
                      t.fault.record.cause = some (.stop .unbiddenMotion) ∧ t.fault.record.a = 2
                        ∧ t.fault.record.b = faultValue |m - q|))
            ∧ (|m - q| ≤ ((setupOf s).restTol : Int) →
                t.phase ≠ .faulted ∧ (t.claim.dir = s.claim.dir → t.claim.still = some q)))
    ∧ (∀ (now : Instant) (p : BitVec 16) (flag : Bool) (s : State) (m : Int), stepped p s m → s.phase ≠ .down →
        s.search.sub = .none → s.claim.dirState = .taken → s.claim.dir.kind = some .stop →
          ∃ t, exec (.motorSample now (.good p) flag) s = .next t ∧ t.claim.dir = s.claim.dir
            ∧ (t.reck.atRest = true →
                t.claim.dirState = .settled ∧ t.claim.allowance = .stopped ∧ t.claim.allowanceStop = none)
            ∧ (t.reck.atRest = false →
                t.claim.dirState = .taken ∧ t.claim.allowance = s.claim.allowance
                  ∧ t.claim.allowanceStop = s.claim.allowanceStop))
    ∧ (∀ (now : Instant) (rest : List Byte) (s : State) (target a : Int), Steady s → parameters 5 rest = some [] →
        s.phase ≠ .down → s.claim.dirState = .posted → s.claim.dir.kind = some .moveTo →
        s.claim.dir.target = some target → s.reck.theta = some a →
          let su := setupOf s
          ∃ t, exec (.directiveTake now rest) s = .next t ∧ t.claim.takePoint = some s.reck.count
            ∧ t.search.parkLimit =
                some ((rdiv (|target - a| * (su.gearNum : Int) * 2 ^ su.motorBits)
                  ((su.gearDen : Int) * 16777216)).toNat + su.searchSpan))
    ∧ ∀ (now : Instant) (p : BitVec 16) (flag : Bool) (s : State) (m target : Int), sampled p s m → UnderCeiling s →
        s.phase = .reference → s.search.sub = .park → s.search.stage = .underway → s.claim.dirState = .taken →
        s.claim.dir.kind = some .moveTo → s.claim.dir.target = some target →
          ∃ t, exec (.motorSample now (.good p) flag) s = .next t ∧ t.reck.count = m ∧ t.phase = .reference
            ∧ t.search.sub = .park
            ∧ (∀ a, t.reck.theta = some a → |a - target| ≤ restTolAngle (setupOf s) → t.reck.atRest = true →
                t.search.parkOutcome = .reached ∧ t.search.stage = .stopping ∧ stopCurrent t = true)
            ∧ ((∀ a, t.reck.theta = some a → t.reck.atRest = true → restTolAngle (setupOf s) < |a - target|) →
                let beyond : Prop :=
                  ∃ q lim, s.claim.takePoint = some q ∧ s.search.parkLimit = some lim ∧ (lim : Int) < |m - q|
                (beyond → t.search.parkOutcome = .overtravel ∧ t.search.stage = .stopping ∧ stopCurrent t = true)
                  ∧ (¬ beyond → t.search.parkOutcome = s.search.parkOutcome ∧ t.search.stage = .underway
                      ∧ t.claim.dir = s.claim.dir ∧ t.claim.dirState = .taken))

/-- The decision of an uncoupled station in RECOVERY at the capture of its mark, whatever it stood at before, the value taken
modulo CPR (log 8); the phase becomes READY. Where turn resolution fixes a count, M becomes the count's turns plus the present
single-turn value, the basis is COUNTS, and the grade the result's under the ceiling (R10, R109, R114, R115). Where it fixes
none, and where the calibration is absent, M and the turn offset stay: without wrapping the result is COARSE on the scale, with
it LOST without a basis, its candidates listed for TURN_CONFIRM; a result of no candidate raises SCALE_DISAGREE, and a snapshot
that disagrees with a single candidate SLIP_DETECTED (R106, R110, R112, R114). The decision of a coupled station whose capture
waits for its lead's report, at that report: λ becomes its angle where it carries one; with a calibration and a report of
RESOLVED or above turn resolution decides, with a lower report the result is COARSE on the scale, or LOST where it wraps, and
the capped-by-lead flag is set; without a calibration as for an uncoupled station; the grade is held at the lead's, which is
recorded (R104, R106, R110, R115). A capture that serves a need of recovery or of a re-mark and is not used at its sample:
where the scale is not valid no decision is made, the need stays registered, and the own report goes at once with the grade and
the angle of the capture; a usable one is held in LEAD_WAIT while the lead's report is awaited, in READING while the reading of
the snapshots is pending, and the own report waits (R24, R72, R109, R118). And every decision, in RECOVERY and at a re-mark, by
its course, under the ceiling that it leaves: the grade and the basis, M, λ, the turn offset, the recovery anchor, the list,
the last decision (R10, R103, R106, R110, R112, R114, R115; at a re-mark the snapshot counts within REST_TOL of the recovery
anchor). In each of them the own report that waited is queued with the grade set and the angle that the decision gives for the
captured instant, θ(n) or θ_scale from S_m, limited to the range of θ (log 35), and none with LOST (R72, R115). (In the order
of the sample's tests that the model reads, log 19; a chosen snapshot without θ counts as none, log 28; θ is θ_scale in basis
SCALE also while the count is unstarted, log 72; a report without θ_m leaves λ, and λ is taken whatever the course, logs 13,
26; the capped-by-lead flag is cleared as log 25 reads it, and the recovery anchor set as log 24 does; the mark number that the
last decision shows is the arm mark number at the decision, log 64; the numbers of a course without candidates and without
calibration are log 44, and a list without candidates is none, log 65.) -/
def Obligations.RecoveryDecision : Prop :=
  (∀ (now : Instant) (p : BitVec 16) (flag : Bool) (s : State) (sm : Nat),
    s.levels.rstLow = false → s.phase = .recovery → s.search.sub = .none → lead s = none →
    s.mark.captureRequested = true → s.mark.serving.recovery = true → s.mark.needs.recovery = true →
    s.gradeUnit.readPending = false → s.sensor.latestScale = some sm → s.sensor.badScale < 3 → moving s = false →
      let su := setupOf s
      let v := p.toNat % cprOf su
      let d := unwrapStep (cprOf su) v (s.reck.lastGood.getD v)
      let m := if s.reck.started = true then s.reck.count + d else (v : Int)
      let scaleTheta := scaleAngle su s.reck.sigma sm
      let cands := candidatesOf su (s.port.tau.getD 0) s.reck.theta0 0 scaleTheta v
      let table := tableOf su false s.reck.theta0 v cands (s.gradeUnit.chosen.bind (snapTestOf su false))
      let steady : Prop := s.reck.basis ≠ .counts ∧ ∀ a, s.reck.thetaScale = some a → angleInRange a = true
      let report (g : Grade) (theta : Int) : Option Frame :=
        some (.markReport
          { number := s.mark.number, grade := g, captureGood := true, scaleValid := true, pM := BitVec.ofNat 16 v
            sM := BitVec.ofNat 16 sm
            thetaM := if g = .lost then none else some (clampInt angleMin angleMax theta) })
      let unfixed (course : Course) (g : Grade) (k agreed : Nat) (list : List Candidate) : Prop :=
        ∃ t, exec (.motorSample now (.good p) flag) s = .next t ∧ t.phase = .ready
          ∧ t.reck.count = m ∧ t.reck.turnOffset = s.reck.turnOffset
          ∧ t.reck.basis = (if g = .lost then .none else .scale) ∧ t.gradeUnit.grade = g
          ∧ (g = .lost → t.reck.theta = none)
          ∧ (g ≠ .lost → ∀ a, s.reck.thetaScale = some a → t.reck.theta = some (clampAngle a))
          ∧ t.gradeUnit.sub = .idle ∧ t.gradeUnit.held = none ∧ t.gradeUnit.candidates = list
          ∧ (list ≠ [] → t.port.attention.grade = true
              ∧ ∃ c, t.gradeUnit.candidateCapture = some c ∧ c.pM = v ∧ c.count = m)
          ∧ t.gradeUnit.recoveryAnchor = some m
          ∧ t.gradeUnit.lastDecision =
              some { kind := .recovery, markNumber := s.mark.number, course := some course, k := k
                     agreed := agreed, result := g, n := none }
          ∧ t.link.queue.markReport = report g scaleTheta
          ∧ (course = .resolution → cands = [] → t.port.attention.fault = true
              ∧ (s.fault.record.locked = false → steady →
                  t.fault.record.cause = some (.note .scaleDisagree)
                    ∧ t.fault.record.b = faultValue (s.port.tau.getD 0)))
      (s.reck.started = true → 4 * d.natAbs ≤ cprOf su ∧ countInRange (s.reck.count + d) = true) →
        (∀ k, table.n = some k → s.reck.calibrated = true →
          countInRange (k.n * (cprOf su : Int) + (v : Int)) = true → angleInRange k.theta = true →
            ∃ t, exec (.motorSample now (.good p) flag) s = .next t ∧ t.phase = .ready
              ∧ t.reck.count = k.n * (cprOf su : Int) + (v : Int) ∧ t.reck.basis = .counts
              ∧ t.reck.turnOffset = k.n * (cprOf su : Int) + (v : Int) - m
              ∧ t.reck.theta = some k.theta ∧ t.gradeUnit.grade = table.grade ∧ t.gradeUnit.sub = .idle
              ∧ t.gradeUnit.held = none ∧ t.gradeUnit.candidates = []
              ∧ t.gradeUnit.recoveryAnchor = some (k.n * (cprOf su : Int) + (v : Int))
              ∧ t.gradeUnit.lastDecision =
                  some { kind := .recovery, markNumber := s.mark.number, course := some .resolution, k := table.k
                         agreed := table.agreed, result := table.grade, n := some k.n }
              ∧ t.link.queue.markReport = report table.grade k.theta
              ∧ (∀ x, table.slip = some x → t.port.attention.fault = true
                  ∧ (s.fault.record.locked = false → steady →
                      t.fault.record.cause = some (.note .slipDetected) ∧ t.fault.record.a = faultValue x.1
                        ∧ t.fault.record.b = faultValue x.2)))
          ∧ (s.reck.calibrated = true → table.n = none →
              unfixed .resolution table.grade table.k table.agreed table.list)
          ∧ (s.reck.calibrated = false → su.scaleWraps = false → unfixed .noCalibration .coarse 0 0 [])
          ∧ (s.reck.calibrated = false → su.scaleWraps = true →
              unfixed .noCalibration .lost cands.length 0 cands))
    ∧ (∀ (now : Instant) (m : Station) (r : MarkReport) (c : Capture) (s : State),
        s.levels.rstLow = false → own s ≠ some m → lead s = some m → s.link.line ≠ .waitingForIdle →
        frameContentOk (.markReport r) = true → leadWaiting s = true → r.number = s.mark.number →
        s.phase = .recovery → s.search.sub = .none → s.gradeUnit.sub = .leadWait → s.gradeUnit.held = some c →
        s.gradeUnit.readPending = false →
          let su := setupOf s
          let lambda := r.thetaM.getD s.reck.lambda
          let term := leadTerm su true lambda
          let scaleTheta := scaleAngle su s.reck.sigma (c.scaleCount.getD 0)
          let cands := candidatesOf su (s.port.tau.getD 0) s.reck.theta0 term scaleTheta c.pM
          let table := tableOf su true s.reck.theta0 c.pM cands (s.gradeUnit.chosen.bind (snapTestOf su true))
          let reports (t : State) (g : Grade) (theta : Int) : Prop :=
            s.mark.reportAwaiting = true → c.good = true →
              t.link.queue.markReport =
                some (.markReport
                  { number := s.mark.number, grade := g, captureGood := true, scaleValid := c.scaleValid
                    pM := BitVec.ofNat 16 c.pM, sM := BitVec.ofNat 16 (c.scaleCount.getD 0)
                    thetaM := if g = .lost then none else some (clampInt angleMin angleMax theta) })
          let unfixed (course : Course) (g : Grade) (k agreed : Nat) (list : List Candidate) (capped : Bool) : Prop :=
            countInRange s.reck.count = true →
              let held := gradeMin g r.grade
              ∃ t, exec (.markReportArrival now m r) s = .next t ∧ t.phase = .ready
                ∧ t.reck.lambda = lambda ∧ t.reck.count = s.reck.count ∧ t.reck.turnOffset = s.reck.turnOffset
                ∧ t.reck.basis = (if held = .lost then .none else .scale) ∧ t.gradeUnit.grade = held
                ∧ (held = .lost → s.reck.basis ≠ .none ∨ s.reck.theta = none → t.reck.theta = none)
                ∧ (held ≠ .lost → s.reck.basis ≠ .scale ∨ r.thetaM ≠ none →
                    t.reck.theta = s.reck.thetaScale.map clampAngle)
                ∧ t.gradeUnit.recordedLead = some r.grade ∧ t.gradeUnit.capped = capped
                ∧ t.gradeUnit.sub = .idle ∧ t.gradeUnit.held = none ∧ t.gradeUnit.candidates = list
                ∧ t.gradeUnit.candidateCapture = (if list = [] then none else some c)
                ∧ t.gradeUnit.recoveryAnchor = some c.count
                ∧ t.gradeUnit.lastDecision =
                    some { kind := .recovery, markNumber := s.mark.number, course := some course, k := k
                           agreed := agreed, result := held, n := none }
                ∧ reports t held scaleTheta
          (∀ k, table.n = some k → s.reck.calibrated = true → gradeCode .resolved ≤ gradeCode r.grade →
              s.reck.started = true → s.sensor.badScale < 3 →
              let d := k.n * (cprOf su : Int) + (c.pM : Int) - c.count
              let theta := angleOfCount su s.reck.theta0 term (s.reck.count + d)
              countInRange (s.reck.count + d) = true → angleInRange theta = true →
                ∃ t, exec (.markReportArrival now m r) s = .next t ∧ t.phase = .ready
                  ∧ t.reck.lambda = lambda ∧ t.reck.count = s.reck.count + d ∧ t.reck.turnOffset = d
                  ∧ t.reck.basis = .counts ∧ t.reck.theta = some theta
                  ∧ t.gradeUnit.grade = gradeMin table.grade r.grade ∧ t.gradeUnit.recordedLead = some r.grade
                  ∧ t.gradeUnit.capped = (s.gradeUnit.capped && decide (gradeCode r.grade < gradeCode table.grade))
                  ∧ t.gradeUnit.sub = .idle ∧ t.gradeUnit.held = none ∧ t.gradeUnit.candidates = []
                  ∧ t.gradeUnit.recoveryAnchor = some (c.count + d)
                  ∧ t.gradeUnit.lastDecision =
                      some { kind := .recovery, markNumber := s.mark.number, course := some .resolution, k := table.k
                             agreed := table.agreed, result := gradeMin table.grade r.grade, n := some k.n }
                  ∧ reports t (gradeMin table.grade r.grade) k.theta)
            ∧ (s.reck.calibrated = true → gradeCode .resolved ≤ gradeCode r.grade → table.n = none →
                unfixed .resolution table.grade table.k table.agreed table.list false)
            ∧ (s.reck.calibrated = true → gradeCode r.grade < gradeCode .resolved →
                unfixed .noLead (if su.scaleWraps = true then .lost else .coarse) 0 0 [] true)
            ∧ (s.reck.calibrated = false → su.scaleWraps = false →
                unfixed .noCalibration .coarse 0 0 [] (s.gradeUnit.capped && decide (r.grade = .lost)))
            ∧ (s.reck.calibrated = false → su.scaleWraps = true →
                unfixed .noCalibration .lost cands.length 0 cands false))
    ∧ (∀ (now : Instant) (p : BitVec 16) (flag : Bool) (s : State), s.levels.rstLow = false → LeadHeard s →
        s.phase = .recovery ∨ s.phase = .ready → s.search.sub = .none → moving s = false →
        s.mark.captureRequested = true →
        s.mark.serving.recovery = true ∧ s.mark.needs.recovery = true
          ∨ s.mark.serving.reMark = true ∧ s.mark.needs.reMark = true →
          let su := setupOf s
          let v := p.toNat % cprOf su
          let d := unwrapStep (cprOf su) v (s.reck.lastGood.getD v)
          let awaited := coupled s && decide (s.gradeUnit.leadReport = .awaited)
          (s.reck.started = true → 4 * d.natAbs ≤ cprOf su ∧ countInRange (s.reck.count + d) = true) →
            ∃ t c, exec (.motorSample now (.good p) flag) s = .next t ∧ t.mark.lastCapture = some c
              ∧ t.mark.captureRequested = false
              ∧ (scaleValid s = false →
                  t.phase = s.phase ∧ t.gradeUnit.sub = s.gradeUnit.sub ∧ t.gradeUnit.held = s.gradeUnit.held
                    ∧ t.gradeUnit.lastDecision = s.gradeUnit.lastDecision
                    ∧ t.mark.needs.recovery = s.mark.needs.recovery
                    ∧ (s.mark.needs.reMark = true → UnderCeiling s →
                        (leadGrade s).any
                            (fun g => s.gradeUnit.recordedLead.any fun x => decide (gradeCode x < gradeCode g)) = true →
                          t.mark.needs.reMark = true)
                    ∧ t.link.queue.markReport =
                        some (.markReport
                          { number := s.mark.number, grade := s.gradeUnit.grade, captureGood := true
                            scaleValid := false, pM := BitVec.ofNat 16 v
                            sM := BitVec.ofNat 16 (s.sensor.latestScale.getD 0)
                            thetaM := if s.gradeUnit.grade = .lost then none else c.theta }))
              ∧ (scaleValid s = true → awaited = true ∨ s.gradeUnit.readPending = true →
                  t.phase = s.phase ∧ t.gradeUnit.sub = (if awaited then .leadWait else .reading)
                    ∧ t.gradeUnit.held = some c ∧ t.gradeUnit.lastDecision = s.gradeUnit.lastDecision
                    ∧ t.mark.reportAwaiting = true ∧ t.link.queue.markReport = s.link.queue.markReport))
    ∧ ∀ (c : Capture) (s : State), s.phase = .recovery ∨ s.phase = .ready →
        let su := setupOf s
        let led := coupled s
        let reported : Option MarkReport :=
          match s.gradeUnit.leadReport with
          | .present r => if led = true then some r else none
          | .awaited | .missing => none
        let leadHigh := reported.any fun r => decide (gradeCode .resolved ≤ gradeCode r.grade)
        let lambda := (reported.bind fun r => r.thetaM).getD s.reck.lambda
        let scaleTheta := scaleAngle su s.reck.sigma (c.scaleCount.getD 0)
        let cands := candidatesOf su (s.port.tau.getD 0) s.reck.theta0 (leadTerm su led lambda) scaleTheta c.pM
        let kind : DecisionKind := if s.phase = .recovery then .recovery else .reMark
        let near := decide (s.phase = .recovery)
          || s.gradeUnit.recoveryAnchor.any fun a => decide (Machine.dist c.count a ≤ su.restTol)
        let table := tableOf su led s.reck.theta0 c.pM cands
          (if near = true then s.gradeUnit.chosen.bind (snapTestOf su led) else none)
        let t := decideOn c s
        let decided (course : Course) (g : Grade) (n : Option Candidate) (k agreed : Nat) (list : List Candidate) : Prop :=
          let d : Int := (n.map fun x => x.n * (cprOf su : Int) + (c.pM : Int) - c.count).getD 0
          let result := gradeMin g (ceiling t)
          countInRange (s.reck.count + d) = true →
            t.phase = .ready ∧ t.gradeUnit.grade = result ∧ t.reck.count = s.reck.count + d ∧ t.reck.lambda = lambda
              ∧ t.reck.turnOffset = (if n = none then s.reck.turnOffset else d)
              ∧ t.reck.basis = (if result = .lost then .none else if n = none then .scale else .counts)
              ∧ (result = .lost → s.reck.basis ≠ .none ∨ s.reck.theta = none → t.reck.theta = none)
              ∧ (result ≠ .lost → n ≠ none → s.reck.started = true →
                  t.reck.theta = some (clampInt angleMin angleMax
                    (angleOfCount su s.reck.theta0 (leadTerm su led lambda) (s.reck.count + d))))
              ∧ t.gradeUnit.sub = .idle ∧ t.gradeUnit.held = none ∧ t.gradeUnit.readPending = false
              ∧ t.gradeUnit.candidates = list ∧ t.gradeUnit.candidateCapture = (if list = [] then none else some c)
              ∧ t.gradeUnit.lastDecision =
                  some { kind := kind, markNumber := s.mark.number, course := some course, k := k, agreed := agreed
                         result := result, n := n.map fun x => x.n }
              ∧ t.gradeUnit.recordedLead = (if led = true then leadGrade s else s.gradeUnit.recordedLead)
              ∧ (led = true → t.gradeUnit.capped =
                  (decide (course = .noLead)
                    || (s.gradeUnit.capped && (leadGrade s).any fun x => decide (gradeCode x < gradeCode g))))
              ∧ (led = false → t.gradeUnit.capped = s.gradeUnit.capped)
              ∧ t.gradeUnit.recoveryAnchor =
                  (if s.phase = .recovery then some (c.count + d) else s.gradeUnit.recoveryAnchor.map fun q => q + d)
              ∧ t.mark.reportAwaiting = false
              ∧ (s.mark.reportAwaiting = false → t.link.queue.markReport = s.link.queue.markReport)
              ∧ (s.mark.reportAwaiting = true → c.good = true →
                  t.link.queue.markReport =
                    some (.markReport
                      { number := s.mark.number, grade := result, captureGood := true, scaleValid := c.scaleValid
                        pM := BitVec.ofNat 16 c.pM, sM := BitVec.ofNat 16 (c.scaleCount.getD 0)
                        thetaM :=
                          if result = .lost then none
                          else some (clampInt angleMin angleMax ((n.map fun x => x.theta).getD scaleTheta)) }))
        (s.reck.calibrated = false → su.scaleWraps = false → decided .noCalibration .coarse none 0 0 [])
          ∧ (s.reck.calibrated = false → su.scaleWraps = true → decided .noCalibration .lost none cands.length 0 cands)
          ∧ (s.reck.calibrated = true → led = true → leadHigh = false →
              decided .noLead (if su.scaleWraps = true then .lost else .coarse) none 0 0 [])
          ∧ (s.reck.calibrated = true → led = false ∨ leadHigh = true →
              decided .resolution table.grade table.n table.k table.agreed table.list)

/-- Re-marks. The RE_MARK need stands only while the lead grade is above the recorded one; and a change of the lead grade, the
at-rest flag, the capped-by-lead flag or the phase that leaves a coupled station in READY capped, at rest and with its lead
improved registers it (R117). The lead's report of the mark, taken while a re-mark decision waits for it, makes the decision:
by turn resolution where the station is calibrated and the report carries RESOLVED or above, and at most COARSE with the
capped-by-lead flag set where it carries less; the lead grade is recorded and the phase stays READY but for an overflow of M
(R110, R118). The snapshot is the one chosen at recovery, at a re-mark only while the joint stands within REST_TOL of the
recovery anchor (R118). The decision takes λ from a report that carries an angle and keeps it otherwise, and moves the recovery
anchor by the turn offset that it applies, if any; the own report that waited for it is queued with the grade decided and the
angle that the decision gives for the captured instant, θ(n) or θ_scale, held to the range of θ (log 35), and none with LOST
(R12, R72, R115; that it keeps λ, takes λ without a calibration and with a report below RESOLVED too, and sets no new anchor,
is the model's reading, logs 13, 26 and 24). The mark number that the last decision shows is the arm mark number at the
decision (the model's choice, log 64), and a need meets its end also where a decision raises the recorded grade to the lead's
(the model's choice, log 84). -/
def Obligations.ReMark : Prop :=
  let improved (s : State) : Prop :=
    ∃ g r, leadGrade s = some g ∧ s.gradeUnit.recordedLead = some r ∧ gradeCode r < gradeCode g
  (∀ (c : Instr) (s t : State), (s.mark.needs.reMark = true → improved s) → exec c s = .next t →
      t.mark.needs.reMark = true → improved t)
    ∧ (∀ (c : Instr) (s t : State), exec c s = .next t → isReset c = false →
        t.phase = .ready → coupled t = true → t.gradeUnit.capped = true → improved t → t.reck.atRest = true →
        leadGrade s ≠ leadGrade t ∨ s.reck.atRest ≠ t.reck.atRest ∨ s.gradeUnit.capped ≠ t.gradeUnit.capped
          ∨ s.phase ≠ t.phase →
            t.mark.needs.reMark = true)
    ∧ (∀ (now : Instant) (k : Station) (r : MarkReport) (c : Capture) (s : State), s.levels.rstLow = false →
        own s ≠ some k → lead s = some k → s.link.line ≠ .waitingForIdle → frameContentOk (.markReport r) = true →
        leadWaiting s = true → r.number = s.mark.number → s.phase = .ready → s.search.sub = .none →
        s.gradeUnit.sub = .leadWait → s.gradeUnit.held = some c → s.gradeUnit.readPending = false →
          let su := setupOf s
          ∃ t d, exec (.markReportArrival now k r) s = .next t ∧ t.gradeUnit.lastDecision = some d
            ∧ t.gradeUnit.sub = .idle ∧ t.gradeUnit.held = none
            ∧ (t.phase = .ready ∨ t.phase = .faulted ∧ .motorCountOverflow ∈ t.fault.stopSet)
            ∧ d.kind = .reMark ∧ d.markNumber = s.mark.number
            ∧ (s.mark.reportAwaiting = true → c.good = true →
                t.link.queue.markReport =
                  some (.markReport
                    { number := s.mark.number, grade := d.result, captureGood := true, scaleValid := c.scaleValid
                      pM := BitVec.ofNat 16 c.pM, sM := BitVec.ofNat 16 (c.scaleCount.getD 0)
                      thetaM :=
                        if d.result = .lost then none
                        else
                          some (clampInt angleMin angleMax
                            (match d.n with
                              | some n =>
                                angleOfCount su s.reck.theta0 (leadTerm su true t.reck.lambda)
                                  (n * (cprOf su : Int) + (c.pM : Int))
                              | none => scaleAngle su s.reck.sigma (c.scaleCount.getD 0))) }))
            ∧ (t.phase = .ready → t.gradeUnit.grade = d.result)
            ∧ t.gradeUnit.recordedLead = some r.grade ∧ leadGrade t = some r.grade
            ∧ gradeCode t.gradeUnit.grade ≤ gradeCode r.grade
            ∧ (s.reck.calibrated = true → gradeCode .resolved ≤ gradeCode r.grade → d.course = some .resolution)
            ∧ (s.reck.calibrated = true → gradeCode r.grade < gradeCode .resolved →
                d.course = some .noLead ∧ t.gradeUnit.capped = true
                  ∧ gradeCode t.gradeUnit.grade ≤ gradeCode .coarse)
            ∧ (s.reck.calibrated = false → d.course = some .noCalibration)
            ∧ (∀ a, r.thetaM = some a → t.reck.lambda = a) ∧ (r.thetaM = none → t.reck.lambda = s.reck.lambda)
            ∧ t.gradeUnit.recoveryAnchor = s.gradeUnit.recoveryAnchor.map fun q => match d.n with
                | none => q
                | some n => q + (n * (cprOf (setupOf s) : Int) + (c.pM : Int) - c.count))
    ∧ ∀ (s : State) (c : Capture),
        snapshotFor s .recovery c = s.gradeUnit.chosen
          ∧ (∀ a, s.gradeUnit.recoveryAnchor = some a →
              snapshotFor s .reMark c =
                if (c.count - a).natAbs ≤ (setupOf s).restTol then s.gradeUnit.chosen else none)
          ∧ (s.gradeUnit.recoveryAnchor = none → snapshotFor s .reMark c = none)

/-! ### Resets -/

/-- The resets, and the low of RST_N: every block at its after-reset values over the cells as they stand, the attention causes
but FAULT clear, the straps relatched, the reset response in the slot, the first-fault record cleared by a POR and carried by
the others (R184 to R187, R192, R194); an invalid strap raises STRAP_INVALID, which a locked record counts (R177, R185); a
write in flight leaves its target erased, torn or programmed, and every other record as it was (R90, R101; cells offered as
torn that would not be classified TORN are erased, the model's choice, log 29). A POR while RST_N is low makes its rise the
end of a POR. What stands while RST_N is low is the model's reading
(log 10), that the calibration sequence in force is none until the scan ends is read from R92 by inference (log 1), and that
mark number 0 and an empty missing set go with the outcome NONE is its choice (log 61). -/
def Obligations.ResetsEndInConfig : Prop :=
  let blocks (t : State) : Prop :=
    t.phase = .config ∧ t.sensor = sensorReset ∧ t.reck = reckoningReset ∧ t.link = linkReset ∧ t.peers = peersReset
      ∧ t.mark = markReset ∧ t.gradeUnit = gradeReset ∧ t.claim = claimReset ∧ t.search = searchReset
      ∧ t.zone = zoneReset ∧ t.store = storeReset t.store.cellsA t.store.cellsB t.store.cellsCal
      ∧ t.port.setup = setupDefault ∧ t.port.frozen = false ∧ t.port.tau = none ∧ t.port.span = none
      ∧ t.port.changedPeers = 0#6 ∧ t.port.lastEnd = none ∧ t.port.transaction = none
      ∧ t.port.attention.directive = false ∧ t.port.attention.grade = false ∧ t.port.attention.mark = false
      ∧ t.port.attention.referenceDone = false ∧ t.fault.stopSet = []
      ∧ brkEn t = false ∧ spd t = .none ∧ ownPull t = true
  let latched (kind : ResetKind) (pins : Pins) (t : State) : Prop :=
    t.ms = 0#32 ∧ t.straps = { st := pins.st, lr := pins.lr, lastReset := kind } ∧ t.levels.pfail = pins.pfail
      ∧ t.levels.alhHigh = pins.alhHigh ∧ t.levels.rstLow = false ∧ t.levels.porInLow = false
      ∧ t.port.slot = { status := .ok, echo := 0x1F#8, reason := .none, data := .reset kind pins.st pins.lr }
  let strapInvalid (pins : Pins) (t : State) : Prop :=
    t.fault.record.cause = some .strapInvalid ∧ t.fault.record.a = (pins.st.toNat : Int) ∧ t.fault.record.b = 0
      ∧ t.fault.record.station = none ∧ t.fault.record.phase = some .config ∧ t.fault.record.locked = true
      ∧ t.fault.record.lost = 0 ∧ t.fault.record.carried = false ∧ t.port.attention.fault = true
  let cleared (pins : Pins) (t : State) : Prop :=
    (stationOf pins.st.toNat ≠ none → t.fault.record = recordReset ∧ t.port.attention.fault = false)
      ∧ (stationOf pins.st.toNat = none → strapInvalid pins t)
  let kept (pins : Pins) (s t : State) : Prop :=
    (s.fault.record.locked = true →
        t.port.attention.fault = true
          ∧ t.fault.record =
              { s.fault.record with
                carried := true
                lost :=
                  if stationOf pins.st.toNat = none then min 255 (s.fault.record.lost + 1) else s.fault.record.lost })
      ∧ (s.fault.record.locked = false → stationOf pins.st.toNat ≠ none →
        t.fault.record = { s.fault.record with carried := false } ∧ t.port.attention.fault = false)
      ∧ (s.fault.record.locked = false → stationOf pins.st.toNat = none → strapInvalid pins t)
  let cells (cut : CutResidue) (s t : State) : Prop :=
    let snapLeft (r : SnapRecord) : List Byte :=
      match cut with
      | .erased => erasedCells snapLength
      | .torn cs =>
        if classifySnap (fitCells snapLength cs) = .torn then fitCells snapLength cs else erasedCells snapLength
      | .programmed => encodeSnap r
    let calLeft (r : CalRecord) : List Byte :=
      match cut with
      | .erased => erasedCells calLength
      | .torn cs => if classifyCal (fitCells calLength cs) = .torn then fitCells calLength cs else erasedCells calLength
      | .programmed => encodeCal r
    ((∀ r, s.store.inFlight ≠ some (.snap .a r)) → t.store.cellsA = s.store.cellsA)
      ∧ ((∀ r, s.store.inFlight ≠ some (.snap .b r)) → t.store.cellsB = s.store.cellsB)
      ∧ ((∀ r, s.store.inFlight ≠ some (.cal r)) → t.store.cellsCal = s.store.cellsCal)
      ∧ (∀ r, s.store.inFlight = some (.snap .a r) → t.store.cellsA = snapLeft r)
      ∧ (∀ r, s.store.inFlight = some (.snap .b r) → t.store.cellsB = snapLeft r)
      ∧ (∀ r, s.store.inFlight = some (.cal r) → t.store.cellsCal = calLeft r)
  (∀ (pins : Pins) (cut : CutResidue) (s : State), s.levels.rstLow = false →
      ∃ t, exec (.por pins cut) s = .next t ∧ blocks t ∧ latched .por pins t ∧ cells cut s t ∧ cleared pins t)
    ∧ (∀ (pins : Pins) (cut : CutResidue) (s : State), s.levels.rstLow = true →
        exec (.por pins cut) s = .next { s with levels := { s.levels with porInLow := true } })
    ∧ (∀ (pins : Pins) (cut : CutResidue) (s : State), s.levels.porInLow = true →
        ∃ t, exec (.pinReset pins cut) s = .next t ∧ blocks t ∧ latched .por pins t ∧ cells cut s t ∧ cleared pins t)
    ∧ (∀ (pins : Pins) (cut : CutResidue) (s : State), s.levels.porInLow = false →
        ∃ t, exec (.pinReset pins cut) s = .next t ∧ blocks t ∧ latched .pin pins t ∧ cells cut s t
          ∧ kept pins s t)
    ∧ (∀ (now : Instant) (pins : Pins) (cut : CutResidue) (s : State), s.levels.rstLow = false →
        ∃ t, exec (.reset now [0#8, 31#8] pins cut) s = .next t ∧ blocks t ∧ latched .command pins t ∧ cells cut s t
          ∧ kept pins s t)
    ∧ ∀ (cut : CutResidue) (s : State), s.levels.rstLow = false →
        ∃ t, exec (.rstNLow cut) s = .next t ∧ blocks t ∧ t.levels.rstLow = true ∧ t.straps = s.straps
          ∧ t.fault.record = s.fault.record ∧ t.port.attention.fault = s.port.attention.fault
          ∧ t.port.slot = s.port.slot ∧ cells cut s t

/-! ### The store -/

/-- The end of the start-up scan sets every image from its cells, and the calibration sequence in force (R83, R92). A snapshot
write's completion, in every phase, leaves in the target's cells what the read-back found; its image becomes the record when
every character matches and TORN otherwise, unless the next write starts to the same slot at once; a mismatch raises
STORE_VERIFY with the record's code and the sequence that was written; the other slot's image stays but for a next write to it;
and in DOWN, with nothing more to write, the final-write flag is set (R89, R90, R91, R100). The rest-retry block is set by a
REST write that fails, and by no other (R91). The write of a REFERENCE snapshot records VERIFIED or FAILED in the search record
as it then stands (log 39), and no other write touches that outcome while the grade stands under the ceiling (R158; that a REST
request which replaces a pending REFERENCE request leaves it is the model's choice, log 75). A request holds the state as it
stands, and a GRADE_LOSS or POWER_FAIL request that replaces a REFERENCE request makes its outcome REPLACED (R88, R158); in
DOWN none is taken (R100). A fall of the grade from RESOLVED or above to below leaves a VOID GRADE_LOSS request pending or in
flight (R93), or the VOID REFERENCE request that replaces it where the completion of a search lowers the grade (the model's
order, log 81). After every command a joint at rest in READY with the conditions of the REST trigger and the block clear has a
reference record of its own grade, at most REST_TOL away (R94). -/
def Obligations.ScanAndSnapshotWrite : Prop :=
  (∀ (now : Instant) (s : State), s.levels.rstLow = false → LeadHeard s →
      s.phase = .config → s.search.sub = .none → s.store.scanDone = false → s.store.pendingCal = none →
      s.store.pendingSnap = none →
        ∃ t, exec (.startupScanEnd now) s = .next t
          ∧ t.store = { s.store with
              scanDone := true, imageA := classifySnap s.store.cellsA, imageB := classifySnap s.store.cellsB
              imageCal := classifyCal s.store.cellsCal
              calSeq := match classifyCal s.store.cellsCal with
                | .valid r => some r.seq
                | _ => none })
    ∧ (∀ (now : Instant) (rb : ReadBack) (slot : Slot) (r : SnapRecord) (s : State), s.levels.rstLow = false →
        s.store.inFlight = some (.snap slot r) →
          let found := match rb with
            | .agrees => encodeSnap r
            | .differs cs => fitCells snapLength cs
          ∃ t, exec (.writeCompletion now rb) s = .next t ∧ t.store.cellsCal = s.store.cellsCal
            ∧ t.store.cellsA = (if slot = .a then found else s.store.cellsA)
            ∧ t.store.cellsB = (if slot = .b then found else s.store.cellsB)
            ∧ (let image (u : State) (x : Slot) : SlotImage :=
                match x with
                | .a => u.store.imageA
                | .b => u.store.imageB
              ∀ x : Slot,
                ((∃ q, t.store.inFlight = some (.snap x q)) → image t x = .writing)
                  ∧ ((∀ q, t.store.inFlight ≠ some (.snap x q)) →
                    image t x =
                      if x = slot then (if found = encodeSnap r then .valid r else .torn) else image s x))
            ∧ (Steady s → t.phase = s.phase → t.gradeUnit.grade = s.gradeUnit.grade →
                t.store.restRetry =
                  (s.store.restRetry || decide (found ≠ encodeSnap r ∧ r.body.cause = .rest)))
            ∧ (Steady s → UnderCeiling s →
                t.search.refSnapshot =
                  (if r.body.cause = .reference then (if found = encodeSnap r then .verified else .failed)
                  else s.search.refSnapshot))
            ∧ (found ≠ encodeSnap r → t.port.attention.fault = true)
            ∧ (found ≠ encodeSnap r → s.fault.record.locked = false →
                t.fault.record.cause = some (.note .storeVerify)
                  ∧ t.fault.record.a = (match slot with | .a => 1 | .b => 2)
                  ∧ t.fault.record.b = (r.seq.toNat : Int))
            ∧ (s.phase = .down → s.search.sub = .none → LeadHeard s →
                s.store.pendingCal = none → s.store.pendingSnap = none →
                  t.store.inFlight = none ∧ t.store.finalWrite = true))
    ∧ (∀ (cause : SnapCause) (wanted : SnapState) (s : State),
        (s.phase = .down → requestSnapshot cause wanted s = s)
          ∧ (s.phase ≠ .down →
              (requestSnapshot cause wanted s).store.pendingSnap =
                some
                  { state := if gradeCode .resolved ≤ gradeCode s.gradeUnit.grade then wanted else .void
                    cause := cause, grade := s.gradeUnit.grade, atRest := s.reck.atRest, count := s.reck.count
                    theta := s.reck.theta, lambda := if coupled s = true then some s.reck.lambda else none
                    calSeq := s.store.calSeq, markNumber := s.mark.number }
              ∧ (∀ q, s.store.pendingSnap = some q → q.cause = .reference → cause = .gradeLoss ∨ cause = .powerFail →
                  (requestSnapshot cause wanted s).search.refSnapshot = .replaced)))
    ∧ (∀ (c : Instr) (s t : State), exec c s = .next t → isReset c = false →
        s.phase ≠ .down → gradeCode .resolved ≤ gradeCode s.gradeUnit.grade →
        gradeCode t.gradeUnit.grade < gradeCode .resolved →
          ∃ q : SnapRequest, (q.cause = .gradeLoss ∨ q.cause = .reference ∧ ∃ now rb, c = .writeCompletion now rb)
            ∧ q.state = .void
            ∧ gradeCode q.grade < gradeCode .resolved
            ∧ (t.store.pendingSnap = some q
                ∨ ∃ slot seq, t.store.inFlight = some (.snap slot { seq := seq, body := q })))
    ∧ (let wanted (s : State) : Prop :=
        s.phase = .ready ∧ gradeCode .resolved ≤ gradeCode s.gradeUnit.grade ∧ s.reck.atRest = true
          ∧ (∀ k, lead s = some k → (entry s k).atRest = true) ∧ s.store.restRetry = false
      let recorded (s : State) : Prop :=
        ∀ a, s.reck.theta = some a → ∃ q : SnapRequest, q.grade = s.gradeUnit.grade
          ∧ (∃ b, q.theta = some b ∧ (Machine.dist a b : Int) ≤ restTolAngle (setupOf s))
          ∧ (s.store.pendingSnap = some q
              ∨ s.store.pendingSnap = none ∧ (∃ slot seq, s.store.inFlight = some (.snap slot { seq := seq, body := q }))
              ∨ s.store.pendingSnap = none ∧ (∀ slot r, s.store.inFlight ≠ some (.snap slot r))
                ∧ ∃ slot seq, newest s = some (slot, { seq := seq, body := q }))
      ∀ (c : Instr) (s t : State), (wanted s → recorded s) → exec c s = .next t → wanted t → recorded t)

/-- The completion of any calibration write, on either outcome: the cells as the read-back found them, θ0, σ and the sequence
taken, the record's image VALID, or TORN with STORE_VERIFY of code 3 and the sequence where the read-back differs, unless its
next write has started at once, and the outcome in the search record as it then stands (R11, R90, R91, R92; log 39). Where no
search waits for it the grade is not raised, M stays, and no REFERENCE snapshot is asked for; a pending one may start; a search
that has ended stays so; and in DOWN the grade stays, and the last write in hand sets the final-write flag (R100, R162, R163).
The completion of a search's own calibration write, on either outcome: θ0, σ and the sequence taken, the basis COUNTS unless
the lead grade is LOST, and the grade REFERENCED under the ceiling, which for a station whose scale has not failed and whose
angle is within range is the lead grade of a coupled station and REFERENCED of another; the lead hold ends (R11, R92, R103,
R158). At the same completion the REFERENCE snapshot is requested, SOUND with a grade of RESOLVED or above and VOID otherwise,
with the grade just set, the state as the new calibration reckons it and the sequence just written, in place of a pending one,
and starts at once, the scan having ended; until its write completes the recorded outcome of the snapshot stays, but that a
pending REFERENCE request of an earlier search is REPLACED where the completion lowers the grade below RESOLVED, whose
GRADE_LOSS takes its place first (R84, R93, R95, R158; the order is log 81). (That holds where the end of the lead hold leaves
λ as it is; where it changes λ the tests at the end of the command can put a REST request in its place, or a GRADE_LOSS request
with the outcome REPLACED, logs 6 and 81.) Without a park angle the search is completed and the phase READY (R160). With one,
PARK is entered: the purpose becomes PARK and its CLAIM is queued, and MOVE_TO the park angle, at speed level 0, is posted
while ALH is high, the move start point at M, and due while it is low (R127, R148, R159). -/
def Obligations.CalibrationCompletes : Prop :=
  (∀ (now : Instant) (rb : ReadBack) (r : CalRecord) (s : State), s.levels.rstLow = false →
    s.store.inFlight = some (.cal r) →
      let found := match rb with
        | .agrees => encodeCal r
        | .differs cs => fitCells calLength cs
      ∃ t, exec (.writeCompletion now rb) s = .next t
        ∧ t.store.cellsCal = found ∧ t.store.cellsA = s.store.cellsA ∧ t.store.cellsB = s.store.cellsB
        ∧ t.store.calSeq = some r.seq
        ∧ t.reck.theta0 = r.body.theta0 ∧ t.reck.sigma = r.body.sigma ∧ t.reck.calibrated = true
        ∧ ((∃ q, t.store.inFlight = some (.cal q)) → t.store.imageCal = .writing)
        ∧ ((∀ q, t.store.inFlight ≠ some (.cal q)) →
            t.store.imageCal = if found = encodeCal r then .valid r else .torn)
        ∧ t.search.calWrite = (if found = encodeCal r then .verified else .failed)
        ∧ (found ≠ encodeCal r → t.port.attention.fault = true)
        ∧ (found ≠ encodeCal r → s.fault.record.locked = false →
            t.fault.record.cause = some (.note .storeVerify) ∧ t.fault.record.a = 3
              ∧ t.fault.record.b = (r.seq.toNat : Int))
        ∧ (s.search.sub ≠ .calibrate ∨ s.search.awaitingWrite = false ∨ s.store.pendingCal ≠ none →
            (LeadHeard s →
                gradeCode t.gradeUnit.grade ≤ gradeCode s.gradeUnit.grade ∧ t.reck.count = s.reck.count)
              ∧ (∀ q, t.store.pendingSnap = some q → q.cause = .reference → s.store.pendingSnap = some q)
              ∧ (∀ slot q, t.store.inFlight = some (.snap slot q) → q.body.cause = .reference →
                  s.store.pendingSnap = some q.body)
              ∧ (s.search.sub = .none → t.search.sub = .none ∧ t.search.outcome = s.search.outcome)
              ∧ (s.phase = .down → s.search.sub = .none → LeadHeard s →
                  t.gradeUnit.grade = s.gradeUnit.grade
                    ∧ (s.store.pendingCal = none → s.store.pendingSnap = none →
                        t.store.inFlight = none ∧ t.store.finalWrite = true))))
  ∧ ∀ (now : Instant) (rb : ReadBack) (r : CalRecord) (s : State), Steady s →
    s.store.inFlight = some (.cal r) → s.phase = .reference → s.search.sub = .calibrate →
    s.search.awaitingWrite = true → s.store.pendingCal = none → s.sensor.badScale < 3 →
      let su := setupOf s
      let cap := (leadGrade s).getD .referenced
      ∃ t, exec (.writeCompletion now rb) s = .next t
        ∧ t.reck.theta0 = r.body.theta0 ∧ t.reck.sigma = r.body.sigma ∧ t.reck.calibrated = true
        ∧ t.store.calSeq = some r.seq
        ∧ t.store.cellsCal = (match rb with | .agrees => encodeCal r | .differs cs => fitCells calLength cs)
        ∧ (cap ≠ .lost → t.reck.basis = .counts) ∧ gradeCode t.gradeUnit.grade ≤ gradeCode cap
        ∧ ((s.reck.started = true →
              angleInRange
                (angleOfCount su r.body.theta0 (leadTerm su (coupled s) s.reck.lambda) s.reck.count) = true) →
            t.reck.saturated = false → t.gradeUnit.grade = cap)
        ∧ t.search.leadHold = false
        ∧ t.search.calWrite = (if rb = .agrees ∨ t.store.cellsCal = encodeCal r then .verified else .failed)
        ∧ (s.store.scanDone = true → ∃ slot q, t.store.inFlight = some (.snap slot q) ∧ t.store.pendingSnap = none
            ∧ (q.body.cause = .reference ∨ q.body.cause = .rest
                ∨ q.body.cause = .gradeLoss ∧ t.search.refSnapshot = .replaced))
        ∧ (s.reck.started = true →
            (∀ k a, lead s = some k → s.search.leadHold = true → (entry s k).angle = some a → a = s.reck.lambda) →
              let sound : Prop := gradeCode .resolved ≤ gradeCode t.gradeUnit.grade
              let request : SnapRequest :=
                { state := if gradeCode .resolved ≤ gradeCode t.gradeUnit.grade then .sound else .void
                  cause := .reference, grade := t.gradeUnit.grade, atRest := s.reck.atRest, count := s.reck.count
                  theta :=
                    if t.gradeUnit.grade = .lost then none
                    else
                      some (clampInt angleMin angleMax
                        (angleOfCount su r.body.theta0 (leadTerm su (coupled s) s.reck.lambda) s.reck.count))
                  lambda := if coupled s = true then some s.reck.lambda else none
                  calSeq := some r.seq, markNumber := s.mark.number }
              (s.store.scanDone = true → ∃ slot seq,
                  t.store.inFlight = some (.snap slot { seq := seq, body := request }) ∧ t.store.pendingSnap = none)
                ∧ (s.store.scanDone = false → t.store.inFlight = none ∧ t.store.pendingSnap = some request)
                ∧ (∀ q, s.store.pendingSnap = some q → q.cause = .reference →
                    gradeCode .resolved ≤ gradeCode s.gradeUnit.grade → ¬ sound → t.search.refSnapshot = .replaced)
                ∧ ((∀ q, s.store.pendingSnap = some q → q.cause = .reference →
                    gradeCode s.gradeUnit.grade < gradeCode .resolved ∨ sound) →
                    t.search.refSnapshot = s.search.refSnapshot))
        ∧ (su.parkAngle = none →
            t.phase = .ready ∧ t.search.sub = .none ∧ t.search.outcome = .completed
              ∧ t.search.parkOutcome = .notRequested ∧ t.port.attention.referenceDone = true
              ∧ claimFlag t = false)
        ∧ ∀ a, su.parkAngle = some a → s.claim.state = .held →
            t.phase = .reference ∧ t.search.sub = .park ∧ t.claim.state = .held
              ∧ t.claim.purpose = some .park ∧ t.link.queue.claim = some (.claim .park)
              ∧ (s.levels.alhHigh = true →
                  t.claim.dirState = .posted ∧ t.claim.dir.kind = some .moveTo ∧ t.claim.dir.speed = some 0
                    ∧ t.claim.dir.target = some a ∧ t.search.moveStart = some t.reck.count
                    ∧ t.search.stage = .underway)
              ∧ (s.levels.alhHigh = false →
                  t.claim.dirState = s.claim.dirState ∧ t.claim.dir = s.claim.dir ∧ t.search.stage = .due)

/-- The store's answer to the recovery read: the calibration taken, or the defaults with CAL_ABSENT and the record's class,
and the snapshot chosen: the newest valid slot when it is SOUND and of the calibration in force (R96, R108). STORE_TORN is
raised for each TORN slot, slot A's first and before CAL_ABSENT (the model's choice, log 54), so that an unlocked record holds
the first of them; an ANGLE_SATURATED that the new calibration causes comes before CAL_ABSENT. Without a held capture the
sub-state becomes MARKING. With one the decision is made at the answer, unless the lead's report is still awaited: then the
capture stays held in LEAD_WAIT (R109, R110). -/
def Obligations.RecoveryReadAnswered : Prop :=
  ∀ (now : Instant) (s : State), s.levels.rstLow = false → LeadHeard s →
    s.phase = .recovery → s.search.sub = .none → s.gradeUnit.readPending = true → storeQuiet s = true →
      let awaited : Prop := coupled s = true ∧ s.gradeUnit.leadReport = .awaited
      let absent : Prop := s.store.imageCal = .empty ∨ s.store.imageCal = .torn
      ∃ t, exec (.recoveryRead now) s = .next t ∧ t.gradeUnit.readPending = false
        ∧ (s.gradeUnit.held = none → t.gradeUnit.sub = .marking)
        ∧ (∀ r, s.store.imageCal = .valid r →
            t.reck.theta0 = r.body.theta0 ∧ t.reck.sigma = r.body.sigma ∧ t.reck.calibrated = true)
        ∧ (absent →
            t.reck.theta0 = 0 ∧ t.reck.sigma = (setupOf s).scaleOffsetDefault ∧ t.reck.calibrated = false
              ∧ t.port.attention.fault = true)
        ∧ (s.fault.record.locked = false → s.store.imageA = .torn ∨ s.store.imageB = .torn →
            t.fault.record.cause = some (.note .storeTorn)
              ∧ t.fault.record.a = (if s.store.imageA = .torn then 1 else 2) ∧ t.fault.record.b = 0)
        ∧ (s.fault.record.locked = false → s.store.imageA ≠ .torn → s.store.imageB ≠ .torn → absent →
            s.reck.basis = .none ∨ s.reck.saturated = true ∨ s.gradeUnit.held = none ∧ t.reck.saturated = false →
              t.fault.record.cause = some (.note .calAbsent)
                ∧ t.fault.record.a = (if s.store.imageCal = .empty then 1 else 2) ∧ t.fault.record.b = 0
                ∧ t.fault.record.station = own s)
        ∧ (∀ ch, t.gradeUnit.chosen = some ch ↔
            newest s = some (ch.slot, ch.r) ∧ ch.r.body.state = .sound ∧ (∃ r, s.store.imageCal = .valid r)
              ∧ ∃ q, s.store.calSeq = some q ∧ ch.r.body.calSeq = some q)
        ∧ (∀ c, s.gradeUnit.held = some c → awaited →
            t.phase = .recovery ∧ t.gradeUnit.sub = .leadWait ∧ t.gradeUnit.held = some c)
        ∧ (∀ c, s.gradeUnit.held = some c → ¬ awaited →
            t.gradeUnit.sub = .idle ∧ t.gradeUnit.held = none
              ∧ (t.phase = .ready ∨ t.phase = .faulted ∧ .motorCountOverflow ∈ t.fault.stopSet)
              ∧ ∃ d, t.gradeUnit.lastDecision = some d ∧ d.kind = .recovery
                ∧ (absent → d.course = some .noCalibration ∧ gradeCode t.gradeUnit.grade ≤ gradeCode .coarse)
                ∧ ((∃ r, s.store.imageCal = .valid r) → coupled s = false → d.course = some .resolution)
                ∧ ((∃ r, s.store.imageCal = .valid r) → coupled s = true →
                    d.course =
                      some (match s.gradeUnit.leadReport with
                        | .present r => if gradeCode r.grade < gradeCode .resolved then .noLead else .resolution
                        | .awaited | .missing => .noLead)))

/-- The assertion of PFAIL from MUSTER onward: DOWN, the permits withdrawn, ALH held, POWER_DOWN queued with the own grade
and angle and every other frame but HALT dropped, the claim gone, a current directive replaced by STOP, the mark and the
search ended, and the POWER_FAIL snapshot asked for (R98, R140); a mark in hand is ABANDONED (R79), and the return from
COLLECTING alone sets the MARK attention cause (R192). In CONFIG and DOWN the phase stays (R99). That both angles are those
before the end of a lead hold is the model's choice, log 73. -/
def Obligations.PowerFailure : Prop :=
  (∀ (now : Instant) (s : State), s.levels.rstLow = false → s.phase ≠ .config → s.phase ≠ .down →
      ∃ t, exec (.pfailAsserted now) s = .next t ∧ t.phase = .down ∧ t.levels.pfail = true
        ∧ brkEn t = false ∧ spd t = .none ∧ ownPull t = true
        ∧ t.link.queue = { PerKind.all none with
            halt := s.link.queue.halt
            powerDown := some (.powerDown
              { grade := s.gradeUnit.grade
                theta := if s.gradeUnit.grade = .lost then none else s.reck.theta }) }
        ∧ t.claim.state = .none ∧ t.claim.wanted = false ∧ moving t = false
        ∧ (moving s = true ∨ stopCurrent s = true →
            t.claim.dirState = .posted ∧ t.claim.dir.kind = some .stop
              ∧ t.claim.dir.number = nextNumber s.claim.lastNumber)
        ∧ t.mark.state = .idle ∧ t.mark.needs = needsNone ∧ t.search.sub = .none
        ∧ (s.mark.state ≠ .idle →
            t.mark.outcome = .abandoned ∧ t.mark.outcomeNumber = s.mark.number
              ∧ t.port.attention.mark = (s.port.attention.mark || decide (s.mark.state = .collecting)))
        ∧ t.gradeUnit.grade = s.gradeUnit.grade ∧ t.reck.theta0 = s.reck.theta0 ∧ t.reck.sigma = s.reck.sigma
        ∧ ∃ q : SnapRequest, q.cause = .powerFail ∧ q.grade = s.gradeUnit.grade
            ∧ q.state = (if gradeLe .resolved s.gradeUnit.grade then .sound else .void)
            ∧ q.count = s.reck.count ∧ q.theta = s.reck.theta ∧ q.atRest = s.reck.atRest
            ∧ (t.store.pendingSnap = some q
                ∨ ∃ slot seq, t.store.inFlight = some (.snap slot { seq := seq, body := q })))
    ∧ ∀ (now : Instant) (s : State), s.levels.rstLow = false → s.search.sub = .none →
        s.phase = .config ∨ s.phase = .down →
          ∃ t, exec (.pfailAsserted now) s = .next t ∧ t.phase = s.phase ∧ t.levels.pfail = true

/-! ### The link -/

/-- The events of the line. An idle line begins the pending frame of the lowest class (R27, R32). Lost arbitration, a recessive
bit of the arbitration character read dominant, leaves every frame in its slot, but for the kinds that the tests at the end
of a command may queue anew, and counts nothing (R31, R33). A bit error, a dominant bit read recessive or a later recessive
bit read dominant, counts, and the third of a kind raises LINK_TX_FAIL (R34). A discarded frame counts, but for the damaged
one of an abandoned attempt (R37, R39), and the passing from 16 to 17 raises LINK_RX_ERRORS; while the receiver waits for
idle nothing is opened or counted (R27). A discard during an attempt ends it with its slot kept (the model's reading, log 17),
and leaves the other slots so too. The frame of a bit error stays in its slot for the next idle; the third of a kind empties
that slot, which only the STOP effects fill anew: HALT, STATUS, a RELEASE of a held claim, a report that waited for its
decision (R33, R34, R178). -/
def Obligations.LinkEvents : Prop :=
  let slotsKept (s t : State) : Prop :=
    (∀ k, k ≠ .markCall → k ≠ .claim → k ≠ .status → t.link.queue.get k = s.link.queue.get k)
      ∧ (∀ k f, s.link.queue.get k = some f → ∃ g, t.link.queue.get k = some g)
      ∧ (statusDue s t = false → t.link.queue.status = s.link.queue.status)
  (∀ (now : Instant) (s : State) (st : Station) (k : FrameKind) (f : Frame), s.levels.rstLow = false →
      (∀ a, s.link.line ≠ .sending a) → own s = some st → s.link.queue.get k = some f →
      (∀ j, frameClass j < frameClass k → s.link.queue.get j = none) →
        ∃ t r, exec (.linkIdle now) s = .next t
          ∧ t.link.line = .sending { frame := f, chars := encodeFrame st f, replaced := r })
    ∧ (∀ (now : Instant) (s : State), s.levels.rstLow = false → (∀ a, s.link.line ≠ .sending a) →
        s.link.queue = PerKind.all none → ∃ t, exec (.linkIdle now) s = .next t ∧ t.link.line = .idle)
    ∧ (∀ (now : Instant) (n : Nat) (s : State) (a : Attempt), Steady s → s.link.line = .sending a →
        n < 10 → (lineBits a.chars)[n]? = some .recessive →
          ∃ t, exec (.arbitrationLost ⟨now, n⟩) s = .next t ∧ t.link.line = .receiving
            ∧ t.link.txErrors = s.link.txErrors ∧ t.link.bitErrors = s.link.bitErrors ∧ slotsKept s t)
    ∧ (∀ (now : Instant) (n : Nat) (s : State) (a : Attempt), s.levels.rstLow = false → s.link.line = .sending a →
        (lineBits a.chars)[n]? = some .dominant ∨ (10 ≤ n ∧ (lineBits a.chars)[n]? = some .recessive) →
          let k := frameKind a.frame
          ∃ t, exec (.bitError ⟨now, n⟩) s = .next t ∧ t.link.line = .abandoned
            ∧ t.link.txErrors = min 255 (s.link.txErrors + 1)
            ∧ (s.link.bitErrors.get k + 1 < 3 → t.link.bitErrors.get k = s.link.bitErrors.get k + 1)
            ∧ (s.link.bitErrors.get k + 1 < 3 → Steady s → slotsKept s t)
            ∧ (3 ≤ s.link.bitErrors.get k + 1 → t.link.bitErrors.get k = 0 ∧ t.link.txFail = true
                ∧ (stopsIn s.phase = true →
                    t.phase = .faulted ∧ .linkTxFail ∈ t.fault.stopSet
                      ∧ t.link.queue.halt = some (.halt .linkTxFail)
                      ∧ t.link.queue.status = some (.status (statusContent t))
                      ∧ (k ≠ .halt → k ≠ .status → (k = .release → s.claim.state ≠ .held) →
                          (k = .markReport → s.mark.reportAwaiting = false) → t.link.queue.get k = none))
                ∧ (stopsIn s.phase = false → Steady s → k ≠ .markCall → k ≠ .claim → k ≠ .status →
                    t.link.queue.get k = none)))
    ∧ ∀ (now : Instant) (r : Received) (s : State), s.levels.rstLow = false → discardOk r = true →
        ∃ t, exec (.frameDiscard now r) s = .next t ∧ t.link.line = .waitingForIdle
          ∧ t.link.bitErrors = s.link.bitErrors ∧ t.link.txErrors = s.link.txErrors ∧ (Steady s → slotsKept s t)
          ∧ (s.link.line = .waitingForIdle ∨ s.link.line = .abandoned → t.link.rxErrors = s.link.rxErrors)
          ∧ (s.link.line ≠ .waitingForIdle → s.link.line ≠ .abandoned →
              t.link.rxErrors = min 255 (s.link.rxErrors + 1)
                ∧ (s.link.rxErrors = 16 → s.fault.record.locked = false →
                    t.fault.record.cause = some (.note .linkRxErrors) ∧ t.fault.record.a = 17))

/-- An arrival. From a peer it reaches the sender's entry: DOWN for a POWER_DOWN and ALIVE for every other kind, the silence
count 0, the heard flags set, the time kept, and the fields of the kind written (R46, R47, R55); a lead's angle becomes λ
outside a lead hold (R12); a HELLO queues a STATUS (R44), with the content of the end of the command (the model's choice, log
6); and in MUSTER the muster is complete exactly when no peer entry fails its condition (R61). A restart of the sender clears
its claim flag, its purpose, its report and its mismatch mark, before the frame writes its fields, and takes it out of the
reported stations (R48, R74); a change of presence and a restart put the sender, and nothing else, into the changed-peer mask
(R55). A STATUS or HELLO with a digest other than the own one raises PLAN_MISMATCH, with the station and the two digests, once
until a restart; no other arrival raises it (R59). A CLAIM from a station not last shown in READY or REFERENCE, and a STATUS
with the claim flag outside REFERENCE, raise PEER_INCONSISTENT (R49), which an unlocked record holds unless a PLAN_MISMATCH of
the same arrival came first (the model's order, log 60). The own echo reaches the own entry, with its presence kept (R50); the
attempt has then completed: its kind's bit error count is 0, the LINK_TX_FAIL condition is absent, and the slot is empty, or
keeps the frame that replaced the one sent (R33, R34), but for a STATUS or a MARK_CALL that the command queues anew and a newer
MARK_CALL that the adoption of the one sent withdraws (R42, R66, R68). A frame with the own number that is no echo is a
duplicate's: it is not handed on and raises DUPLICATE_STATION (R40). Nothing arrives while the receiver waits for idle (R27).
-/
def Obligations.ArrivalReachesTheEntry : Prop :=
  let past (p : Phase) : Prop := p = .recovery ∨ p = .ready ∨ p = .reference ∨ p = .faulted ∨ p = .down
  let restart (e : PeerEntry) (f : Frame) : Prop :=
    e.presence = .down ∧ frameKind f ≠ .powerDown
      ∨ (∃ x, f = .status x ∧ x.phase = .muster ∧ past e.phase)
      ∨ (∃ x, f = .hello x ∧ past e.phase)
  let writesClaim (f : Frame) : Prop := frameKind f = .claim ∨ frameKind f = .release ∨ frameKind f = .status
  let inconsistent (s : State) (k : Station) (f : Frame) (t : State) : Prop :=
    t.port.attention.fault = true
      ∧ (s.fault.record.locked = false →
          t.fault.record.cause = some (.note .peerInconsistent) ∧ t.fault.record.station = some k
            ∧ t.fault.record.a = (frameClass (frameKind f) : Int) ∧ t.fault.record.b = 0)
  let digestOf (f : Frame) : Option (BitVec 16) :=
    match f with
    | .status x => some x.digest
    | .hello x => some x.digest
    | .halt _ | .powerDown _ | .markCall _ | .markReport _ | .claim _ | .release => none
  ∀ (c : Instr) (now : Instant) (k : Station) (f : Frame) (s : State), arrivalOf c = some (now, k, f) →
    s.levels.rstLow = false → frameContentOk f = true →
      (s.link.line ≠ .waitingForIdle → own s ≠ some k →
        ∃ t, exec c s = .next t
          ∧ (entry t k).presence = (if frameKind f = .powerDown then .down else .alive)
          ∧ (entry t k).silence = 0 ∧ (entry t k).heard = true ∧ (entry t k).heardInMuster = true
          ∧ (entry t k).lastHeard = some now.ms ∧ EntryHolds s.peers.digest (entry t k) f
          ∧ (restart (entry s k) f →
              t.port.changedPeers = maskAdd s.port.changedPeers k
                ∧ (¬ writesClaim f → (entry t k).claim = false) ∧ (frameKind f ≠ .claim → (entry t k).purpose = none)
                ∧ (frameKind f ≠ .markReport → (entry t k).report = none ∧ maskHas t.mark.reported k = false)
                ∧ ((entry t k).mismatchReported = true ↔
                    (frameKind f = .status ∨ frameKind f = .hello)
                      ∧ ∃ o, s.peers.digest = some o ∧ (entry t k).digest ≠ some o))
          ∧ (¬ restart (entry s k) f →
              t.port.changedPeers =
                  (if (entry t k).presence = (entry s k).presence then s.port.changedPeers
                  else maskAdd s.port.changedPeers k)
                ∧ (¬ writesClaim f →
                    (entry t k).claim = (entry s k).claim ∧ (entry t k).purpose = (entry s k).purpose)
                ∧ (frameKind f ≠ .markReport → (entry t k).report = (entry s k).report))
          ∧ (∀ d o, digestOf f = some d → s.peers.digest = some o → d ≠ o →
              restart (entry s k) f ∨ (entry s k).mismatchReported = false →
                t.port.attention.fault = true ∧ (entry t k).mismatchReported = true
                  ∧ (s.fault.record.locked = false →
                      t.fault.record.cause = some (.note .planMismatch) ∧ t.fault.record.station = some k
                        ∧ t.fault.record.a = (d.toNat : Int) ∧ t.fault.record.b = (o.toNat : Int)))
          ∧ ((∀ d o, digestOf f = some d → s.peers.digest = some o → d ≠ o →
                ¬ restart (entry s k) f ∧ (entry s k).mismatchReported = true) →
              (¬ restart (entry s k) f → (entry t k).mismatchReported = (entry s k).mismatchReported)
                ∧ (s.fault.record.cause ≠ some (.note .planMismatch) →
                    t.fault.record.cause ≠ some (.note .planMismatch)))
          ∧ (∀ p, f = .claim p → (entry s k).phase ≠ .ready → (entry s k).phase ≠ .reference →
              inconsistent s k f t)
          ∧ (∀ x, f = .status x → x.claim = true → x.phase ≠ .reference →
              (∀ o, s.peers.digest = some o → o = x.digest) → inconsistent s k f t)
          ∧ (∀ x, f = .hello x → t.phase ≠ .config → t.phase ≠ .down →
              t.link.queue.status = some (.status (statusContent t)))
          ∧ (∀ x a, f = .status x → x.theta = some a → lead s = some k → s.search.leadHold = false →
              t.reck.lambda = a)
          ∧ (∀ x a, f = .powerDown x → x.theta = some a → lead s = some k → s.search.leadHold = false →
              t.reck.lambda = a)
          ∧ (s.phase = .muster → s.gradeUnit.sub = .idle → s.search.sub = .none →
              (musterMissing t = 0#6 →
                t.phase = .recovery ∧ t.peers.musterTimer = .stopped ∧ t.gradeUnit.sub = .reading
                  ∧ t.gradeUnit.readPending = true ∧ t.mark.needs.recovery = true)
              ∧ (musterMissing t ≠ 0#6 → t.phase = .muster)))
        ∧ (∀ a, own s = some k → s.link.line = .sending a → a.frame = f →
            ∃ t, exec c s = .next t ∧ t.link.line = .waitingForIdle
              ∧ (entry t k).presence = (entry s k).presence ∧ (entry t k).silence = 0 ∧ (entry t k).heard = true
              ∧ (entry t k).heardInMuster = true ∧ (entry t k).lastHeard = some now.ms
              ∧ EntryHolds s.peers.digest (entry t k) f ∧ t.link.bitErrors.get (frameKind f) = 0
              ∧ t.link.txFail = false ∧ causePresent t .linkTxFail = false
              ∧ (Steady s → lead s ≠ some k →
                  let kept := if a.replaced = true then s.link.queue.get (frameKind f) else none
                  let slot := t.link.queue.get (frameKind f)
                  (frameKind f ≠ .markCall → frameKind f ≠ .status → slot = kept)
                    ∧ (frameKind f = .status → slot = kept ∨ slot = some (.status (statusContent t)))
                    ∧ (frameKind f = .markCall →
                        slot = kept ∨ slot = none ∨ slot = some (.markCall (t.mark.number + 1#8)))))
        ∧ (own s = some k → s.link.line ≠ .waitingForIdle → (∀ a, s.link.line = .sending a → a.frame ≠ f) →
            ∃ t, exec c s = .next t ∧ t.peers.entries = s.peers.entries ∧ t.link.line = .waitingForIdle
              ∧ t.link.lastDuplicate = some now.ms
              ∧ (stopsIn s.phase = true →
                  t.phase = .faulted ∧ .duplicateStation ∈ t.fault.stopSet
                    ∧ causePresent t .duplicateStation = true
                    ∧ (s.fault.record.locked = false →
                        t.fault.record.cause = some (.stop .duplicateStation)
                          ∧ t.fault.record.a = (frameClass (frameKind f) : Int)
                          ∧ t.fault.record.b = (stationNumber k : Int))))
        ∧ (s.link.line = .waitingForIdle →
            ∃ t, exec c s = .next t ∧ t.peers.entries = s.peers.entries ∧ t.link.line = .waitingForIdle)

/-- An arriving MARK_CALL, a peer's or the own echo: adopted in IDLE in RECOVERY, READY or REFERENCE, merged or a MARK_CLASH
while a mark is in hand, ignored in the other phases (R68, R69). Each but a merged one starts the quiet timer from zero while
ALH is high (R67; that a clashing and an ignored call do so too is the model's reading, log 70), a merged one restarts no timer
(R69), and none but an adopted one touches the mark's other timers, but for a collection that its arrival ends (R75). An
arriving MARK_REPORT, the own echo included, counts its sender while the mark it names is in hand, and takes it out of the set
when it names another (R74). In COLLECTING the report of the last ALIVE station completes the mark: COMPLETE with its number
and an empty missing set, the completed-mark flag, the collection timer stopped, IDLE and the MARK cause; before that the mark
is collected on (R75). The own echo takes the own station out of the missing set of a mark that has ended PARTIAL: R76 says so
of a report queued at the expiry, and of one queued before it this is the model's reading, log 57. -/
def Obligations.MarkFramesTaken : Prop :=
  let taken (s : State) (k : Station) (f : Frame) : Prop :=
    s.levels.rstLow = false ∧ s.link.line ≠ .waitingForIdle
      ∧ (own s = some k → ∃ a, s.link.line = .sending a ∧ a.frame = f)
  (∀ (now : Instant) (k : Station) (n : Byte) (s : State), taken s k (.markCall n) → LeadHeard s →
      ∃ t, exec (.markCallArrival now k n) s = .next t
        ∧ (takesCalls s.phase = true → s.mark.state = .idle →
            t.mark.number = n ∧ t.mark.state = .holding ∧ t.mark.reported = 0#6 ∧ ownPull t = true
              ∧ t.mark.holdoff = .running now.ms (setupOf s).plan.holdoff
              ∧ t.mark.timeout = .running now.ms (setupOf s).plan.markTimeout
              ∧ t.link.queue.markCall = none)
        ∧ t.mark.quiet =
            (if takesCalls s.phase = true ∧ s.mark.state ≠ .idle ∧ n = s.mark.number then s.mark.quiet
              else if s.levels.alhHigh = true then .running now.ms (setupOf s).plan.h
              else s.mark.quiet)
        ∧ (takesCalls s.phase = false ∨ s.mark.state ≠ .idle →
            t.mark.number = s.mark.number ∧ t.mark.timeout = s.mark.timeout ∧ t.mark.holdoff = s.mark.holdoff
              ∧ (s.mark.state ≠ .collecting ∨ t.mark.state = .collecting →
                  t.mark.collection = s.mark.collection))
        ∧ (takesCalls s.phase = true → s.mark.state ≠ .idle → n ≠ s.mark.number →
            s.fault.record.locked = false →
              t.fault.record.cause = some (.note .markClash) ∧ t.fault.record.station = some k
                ∧ t.fault.record.a = (n.toNat : Int) ∧ t.fault.record.b = (s.mark.number.toNat : Int)))
    ∧ ∀ (now : Instant) (k : Station) (r : MarkReport) (s : State), taken s k (.markReport r) →
        frameContentOk (.markReport r) = true →
          ∃ t, exec (.markReportArrival now k r) s = .next t
            ∧ (r.number = s.mark.number → s.mark.state ≠ .idle → maskHas t.mark.reported k = true)
            ∧ (r.number ≠ s.mark.number → maskHas t.mark.reported k = false)
            ∧ (own s = some k → s.mark.outcome = .partialMark → s.mark.outcomeNumber = r.number →
                maskHas t.mark.missing k = false)
            ∧ (s.mark.state = .collecting → r.number = s.mark.number →
                let whole : Prop := ∀ j, j ≠ k → (entry s j).presence = .alive → maskHas s.mark.reported j = true
                (whole →
                    t.mark.state = .idle ∧ t.mark.outcome = .complete ∧ t.mark.outcomeNumber = s.mark.number
                      ∧ t.mark.missing = 0#6 ∧ t.mark.completedMark = true ∧ t.mark.collection = .stopped
                      ∧ t.port.attention.mark = true)
                  ∧ (¬ whole →
                    t.mark.state = .collecting ∧ t.mark.outcome = s.mark.outcome
                      ∧ t.mark.completedMark = s.mark.completedMark ∧ t.mark.collection = s.mark.collection))

/-! ### Claims -/

/-- Claims. WAITING queues the CLAIM as soon as no conflicting claim flag is set and no conflicting ALIVE station moves, here
at a peer's RELEASE (R124). The echo of the own CLAIM in QUEUED is the grant when no conflicting claim flag is set, with the
lead hold of a coupled station whose lead is settled, and a RELEASE otherwise (R126, R147); a search that waits for the grant
enters CLEAR with the flag active, and FORWARD as a new pass with it inactive, and its JOG is posted at once while ALH is high
and due while it is low (R146, R148, R149, R150). A conflicting CLAIM takes a pending own one back, and changes nothing in HELD
(R125, R129). A conflicting STATUS with its claim flag set in HELD raises CLAIM_CONFLICT, and the higher number yields: STOP,
the search aborted, the claim released (R130). The echo of the own RELEASE ends RELEASING: a wanted claim is waited for, and
queued at once when nothing blocks it, and otherwise the state is NONE (R124, R128); the wanted mark is cleared with it (the
model's choice, log 87). The entry of a peer that is DOWN holds no grade of a MARK_REPORT, which every command keeps: its
POWER_DOWN has written its grade (R47, R52, R104). -/
def Obligations.ClaimsDecided : Prop :=
  (∀ (c : Instr) (s t : State), DownWithoutReport s → exec c s = .next t → DownWithoutReport t)
    ∧ (∀ (now : Instant) (k : Station) (s : State), Steady s → DownWithoutReport s → own s ≠ some k →
      s.link.line ≠ .waitingForIdle →
      s.phase = .reference → s.claim.state = .waiting →
        ∃ t, exec (.releaseArrival now k) s = .next t
          ∧ (blockingClaims t = 0#6 → blockingMotion t = 0#6 →
              t.claim.state = .queued
                ∧ t.link.queue.claim = some (.claim (t.claim.purpose.getD .search)))
          ∧ (blockingClaims t ≠ 0#6 ∨ blockingMotion t ≠ 0#6 → t.claim.state = .waiting))
    ∧ (∀ (now : Instant) (k : Station) (p : Purpose) (a : Attempt) (s : State), Steady s →
        own s = some k → s.link.line = .sending a → a.frame = .claim p → leadSettled s = true →
        s.claim.state = .queued → maskHas (conflictSet s) k = false →
          ∃ t, exec (.claimArrival now k p) s = .next t ∧ t.link.line = .waitingForIdle
            ∧ (blockingClaims s = 0#6 → t.claim.state = .held ∧ claimFlag t = true
                ∧ (s.search.sub = .claiming → coupled s = true →
                    t.search.leadHold = true ∧ t.search.heldLambda = some s.reck.lambda)
                ∧ (s.search.sub = .claiming → s.phase = .reference →
                    let along := decide (s.sensor.flagLevel ≠ some true)
                    t.phase = .reference ∧ t.search.restartPending = s.search.restartPending
                      ∧ (along = false → t.search.sub = .clear ∧ t.search.clearPoint = none)
                      ∧ (along = true →
                          t.search.sub = .forward ∧ t.search.passStart = some s.reck.count
                            ∧ t.search.e1 = none ∧ t.search.e2 = none ∧ t.search.e3 = none ∧ t.search.e4 = none
                            ∧ t.search.chatter = 0)
                      ∧ (s.levels.alhHigh = true →
                          t.claim.dirState = .posted ∧ t.search.stage = .underway
                            ∧ t.claim.dir.kind = some (if s.search.plus = along then .jogPos else .jogNeg)
                            ∧ t.claim.dir.speed = some s.search.level
                            ∧ t.search.moveStart = some s.reck.count)
                      ∧ (s.levels.alhHigh = false →
                          t.claim.dirState = s.claim.dirState ∧ t.claim.dir = s.claim.dir
                            ∧ t.search.stage = .due)))
            ∧ (blockingClaims s ≠ 0#6 → s.phase = .reference →
                t.claim.state = .releasing ∧ t.claim.wanted = true ∧ t.link.queue.release = some .release))
    ∧ (∀ (now : Instant) (k : Station) (p : Purpose) (s : State), Steady s → DownWithoutReport s →
        own s ≠ some k → s.link.line ≠ .waitingForIdle → maskHas (conflictSet s) k = true → s.claim.state = .queued →
          ∃ t, exec (.claimArrival now k p) s = .next t ∧ t.claim.state = .waiting ∧ t.link.queue.claim = none)
    ∧ (∀ (now : Instant) (k : Station) (p : Purpose) (s : State), Steady s → DownWithoutReport s →
        own s ≠ some k → s.link.line ≠ .waitingForIdle → s.claim.state = .held →
          ∃ t, exec (.claimArrival now k p) s = .next t ∧ t.claim.state = .held ∧ t.claim.dir = s.claim.dir)
    ∧ (∀ (now : Instant) (j k : Station) (x : StatusFrame) (s : State), Steady s → own s = some j → j ≠ k →
        s.link.line ≠ .waitingForIdle → frameContentOk (.status x) = true → lead s ≠ some k →
        s.phase = .reference → s.claim.state = .held → maskHas (conflictSet s) k = true → x.claim = true →
          ∃ t, exec (.statusArrival now k x) s = .next t ∧ t.port.attention.fault = true
            ∧ (s.fault.record.locked = false → x.phase = .reference → some x.digest = s.peers.digest →
                t.fault.record.cause = some (.note .claimConflict) ∧ t.fault.record.station = some k
                  ∧ t.fault.record.a = (stationNumber j : Int) ∧ t.fault.record.b = (stationNumber k : Int))
            ∧ (stationNumber j < stationNumber k →
                t.claim.state = .held ∧ (s.search.sub ≠ .waitPrereq → t.search.sub = s.search.sub))
            ∧ (stationNumber k < stationNumber j →
                t.claim.state = .releasing ∧ t.claim.wanted = false ∧ claimFlag t = false ∧ stopCurrent t = true
                  ∧ t.link.queue.release = some .release
                  ∧ (s.search.sub ≠ .none →
                      t.search.sub = .none ∧ t.search.outcome = .aborted .claimConflict ∧ t.phase = .ready)))
    ∧ ∀ (now : Instant) (k : Station) (a : Attempt) (s : State), Steady s → own s = some k →
        s.link.line = .sending a → a.frame = .release → s.claim.state = .releasing →
          ∃ t, exec (.releaseArrival now k) s = .next t ∧ t.claim.wanted = false
            ∧ (s.claim.wanted = false → s.search.sub = .none → t.claim.state = .none)
            ∧ (s.claim.wanted = true → s.phase = .reference →
                (blockingClaims t = 0#6 → blockingMotion t = 0#6 →
                  t.claim.state = .queued
                    ∧ t.link.queue.claim = some (.claim (t.claim.purpose.getD .search)))
                ∧ (blockingClaims t ≠ 0#6 ∨ blockingMotion t ≠ 0#6 → t.claim.state = .waiting))

/-! ### The hold line -/

/-- A fall of ALH asserts MOT_INH, stops the quiet timer and interrupts a pass that moves, which is not counted, or fails it
after four interruptions; a park that moves is ended by STOP with the outcome INTERRUPTED (R64, R67, R80, R155, R159). A rise
deasserts MOT_INH, is the edge of a mark in AWAIT_EDGE, which completes at once where every ALIVE station has reported (R75),
posts a move that is due, the move start point at M, and restarts an interrupted pass whose STOP has settled: CLEAR by the
flag, FORWARD with its pass start point kept, or first the return move to that point (R71, R148, R155, R159). -/
def Obligations.HoldLineMoves : Prop :=
  let jog (plus along : Bool) : DirKind := if plus = along then .jogPos else .jogNeg
  let past (plus : Bool) (point m : Int) : Int := if plus then m - point else point - m
  let posted (k : DirKind) (speed : Nat) (target : Option Int) (s t : State) : Prop :=
    t.claim.dirState = .posted ∧ t.claim.dir.kind = some k ∧ t.claim.dir.speed = some speed
      ∧ t.claim.dir.target = target ∧ t.search.moveStart = some s.reck.count ∧ t.search.stage = .underway
  let edgesGone (t : State) : Prop :=
    t.search.e1 = none ∧ t.search.e2 = none ∧ t.search.e3 = none ∧ t.search.e4 = none
  (∀ (now : Instant) (s : State), Steady s → s.levels.alhHigh = true →
      ∃ t, exec (.alhFall now) s = .next t ∧ motInh t = true ∧ t.mark.quiet = .stopped
        ∧ (moving s = true →
            s.search.sub = .clear ∨ s.search.sub = .forward ∨ s.search.sub = .reverse →
              (s.search.interruptions < 4 →
                t.search.interruptions = s.search.interruptions + 1 ∧ t.search.restartPending = true
                  ∧ t.search.sub = s.search.sub ∧ edgesGone t ∧ t.search.chatter = 0
                  ∧ t.search.passes = s.search.passes ∧ t.search.total = s.search.total
                  ∧ t.search.prevCentre = s.search.prevCentre ∧ stopCurrent t = true)
              ∧ (4 ≤ s.search.interruptions →
                t.search.outcome = .failed .interrupted ∧ t.search.sub = .none ∧ t.phase = .ready
                  ∧ t.search.interruptions = s.search.interruptions))
        ∧ (moving s = true → s.search.sub = .park →
            t.search.sub = .park ∧ t.search.parkOutcome = .interrupted ∧ t.search.stage = .stopping
              ∧ stopCurrent t = true ∧ t.search.interruptions = s.search.interruptions))
    ∧ (∀ (now : Instant) (s : State), s.levels.rstLow = false → s.levels.alhHigh = false →
        ∃ t, exec (.alhRise now) s = .next t ∧ motInh t = false
          ∧ (s.mark.state = .awaitEdge → aliveStations s &&& ~~~ s.mark.reported ≠ 0#6 →
              t.mark.state = .collecting ∧ t.mark.edgeTime = some now.ms ∧ t.mark.captureRequested = true
                ∧ t.mark.timeout = .stopped
                ∧ t.mark.collection = .running now.ms (4 * (setupOf s).plan.h))
          ∧ (s.mark.state = .awaitEdge → aliveStations s &&& ~~~ s.mark.reported = 0#6 →
              t.mark.state = .idle ∧ t.mark.outcome = .complete ∧ t.mark.edgeTime = some now.ms
                ∧ t.mark.captureRequested = true ∧ t.mark.timeout = .stopped ∧ t.mark.collection = .stopped))
    ∧ ∀ (now : Instant) (s : State), Steady s → s.levels.alhHigh = false → s.phase = .reference →
        s.gradeUnit.sub = .idle → s.claim.state = .held →
          ∃ t, exec (.alhRise now) s = .next t ∧ t.phase = .reference ∧ t.claim.state = .held
            ∧ (s.search.stage = .due → s.search.restartPending = false →
                (s.search.sub ≠ .waitPrereq → t.search.sub = s.search.sub)
                  ∧ (s.search.sub = .clear → posted (jog s.search.plus false) s.search.level none s t)
                  ∧ (s.search.sub = .forward →
                      posted (jog s.search.plus !s.search.returning) s.search.level none s t)
                  ∧ (s.search.sub = .reverse → posted (jog s.search.plus false) s.search.level none s t)
                  ∧ ∀ a, s.search.sub = .park → (setupOf s).parkAngle = some a →
                      posted .moveTo 0 (some a) s t)
            ∧ (s.search.restartPending = true → s.search.stage ≠ .due → s.claim.dirState = .settled →
                (s.search.sub = .clear ∨ s.search.sub = .forward ∨ s.search.sub = .reverse →
                    t.search.restartPending = false)
                  ∧ (s.search.sub = .clear → s.sensor.flagLevel = some true →
                      t.search.sub = .clear ∧ t.search.clearPoint = none
                        ∧ posted (jog s.search.plus false) s.search.level none s t)
                  ∧ (s.search.sub = .clear → s.sensor.flagLevel ≠ some true →
                      t.search.sub = .forward ∧ edgesGone t ∧ t.search.chatter = 0
                        ∧ t.search.passStart = some s.reck.count
                        ∧ posted (jog s.search.plus true) s.search.level none s t)
                  ∧ ∀ p, s.search.sub = .forward ∨ s.search.sub = .reverse → s.search.passStart = some p →
                      t.search.passStart = some p
                        ∧ (0 < past s.search.plus p s.reck.count →
                            t.search.sub = s.search.sub ∧ t.search.returning = true
                              ∧ posted (jog s.search.plus false) s.search.level none s t)
                        ∧ (past s.search.plus p s.reck.count ≤ 0 →
                            t.search.sub = .forward ∧ t.search.returning = false ∧ edgesGone t
                              ∧ posted (jog s.search.plus true) s.search.level none s t))

/-! ### Timers -/

/-- The heartbeat expiry counts silence: an unheard ALIVE or STALE peer entry rises by 1 and becomes STALE at 3 and SILENT
at 8, every heard flag is cleared, the timer restarts, and a STATUS is queued outside CONFIG and DOWN (R41, R51), with the
content of the end of the command (the model's choice, log 6); and in MUSTER the muster is complete exactly when no peer
entry fails its condition (R61). A station
whose entry becomes SILENT with its claim flag set raises CLAIM_STALE with its purpose and 8, the first of them taken into an
unlocked record (in the order of their numbers, the model's choice, log 48); a DOWN entry, and one without the flag, raises
none (R53). The muster timer's expiry raises MUSTER_INCOMPLETE with the number of the stations that fail
the condition and their set (R62). -/
def Obligations.HeartbeatAndMuster : Prop :=
  (∀ (now : Instant) (s : State) (k : Station), s.levels.rstLow = false → timerRunning s.link.heartbeat = true →
      ∃ t, exec (.heartbeatExpiry now) s = .next t
        ∧ t.link.heartbeat = .running now.ms (setupOf s).plan.h
        ∧ (t.phase ≠ .config → t.phase ≠ .down → t.link.queue.status = some (.status (statusContent t)))
        ∧ entry t k =
            (if own s ≠ some k ∧ (entry s k).heard = false
                ∧ ((entry s k).presence = .alive ∨ (entry s k).presence = .stale) then
              { entry s k with
                silence := (entry s k).silence + 1
                presence :=
                  if 8 ≤ (entry s k).silence + 1 then .silent
                  else if 3 ≤ (entry s k).silence + 1 then .stale
                  else (entry s k).presence }
            else { entry s k with heard := false })
        ∧ (s.phase = .muster → s.gradeUnit.sub = .idle → s.search.sub = .none →
            (musterMissing t = 0#6 → t.phase = .recovery ∧ t.peers.musterTimer = .stopped)
              ∧ (musterMissing t ≠ 0#6 → t.phase = .muster)))
    ∧ (let passes (s : State) (k : Station) : Prop :=
        own s ≠ some k ∧ (entry s k).heard = false
          ∧ ((entry s k).presence = .alive ∨ (entry s k).presence = .stale) ∧ 8 ≤ (entry s k).silence + 1
          ∧ (entry s k).claim = true
      ∀ (now : Instant) (s : State), s.levels.rstLow = false → timerRunning s.link.heartbeat = true →
        ∃ t, exec (.heartbeatExpiry now) s = .next t
          ∧ (∀ k, passes s k → (entry t k).presence = .silent ∧ t.port.attention.fault = true)
          ∧ (∀ k p, passes s k → (∀ j, passes s j → stationNumber k ≤ stationNumber j) →
              (entry s k).purpose = some p → s.fault.record.locked = false →
                t.fault.record.cause = some (.note .claimStale) ∧ t.fault.record.station = some k
                  ∧ t.fault.record.a = (purposeCode p : Int) ∧ t.fault.record.b = 8)
          ∧ ((∀ k, ¬ passes s k) → s.fault.record.cause ≠ some (.note .claimStale) →
              t.fault.record.cause ≠ some (.note .claimStale)))
    ∧ (∀ s : State, musterMissing s = 0#6 ↔
        ∀ k, own s ≠ some k →
          (entry s k).presence = .alive ∧ (entry s k).digestMatch = true ∧ (entry s k).heardInMuster = true)
    ∧ ∀ (now : Instant) (s : State), s.levels.rstLow = false → timerRunning s.peers.musterTimer = true →
        ∃ t, exec (.musterTimerExpiry now) s = .next t ∧ t.peers.musterTimer = .stopped
          ∧ t.port.attention.fault = true
          ∧ (s.fault.record.locked = false →
              t.fault.record.cause = some (.note .musterIncomplete)
                ∧ t.fault.record.a = ((Station.all.filter fun k => maskHas (musterMissing s) k).length : Int)
                ∧ t.fault.record.b = ((musterMissing s).toNat : Int))

/-- The mark unit's timers: the quiet condition lets a station in RECOVERY call, HOLDOFF lets a joint at rest release,
MARK_TIMEOUT lapses the mark, with the NOTE MARK_LAPSE once a mark has been completed since reset, and the collection timer
closes it as partial, the own report that still awaited a decision queued then with the own grade and the angle that the
capture holds, absent with LOST (R66, R67, R70, R72, R76, R77). And the call itself, at the end of every command but a reset
and those that only read: in the mark state IDLE an own MARK_CALL is pending wherever a DRIVE need stands, a RE_MARK or
CALIBRATE need while ALH is sensed high, or a RECOVERY need under the quiet condition; one that the command has called carries
the arm mark number plus 1, and where none of these holds none is called (R66). The own pull: ALH is held exactly in CONFIG,
MUSTER, FAULTED and DOWN, in HOLDING, and with an invalid strap (R63). HOLDING is left for AWAIT_EDGE once HOLDOFF has expired
with the joint at rest and no JOG or MOVE_TO current, and no command leaves a station holding then (R70). COLLECTING ends once
every ALIVE station has reported, with the outcome COMPLETE and no station missing, and no command leaves it open then (R75).
(That these tests stand at the end of a command is log 6.) -/
def Obligations.MarkTimers : Prop :=
  let held (p : Phase) : Prop := p = .config ∨ p = .muster ∨ p = .faulted ∨ p = .down
  let whole (s : State) : Prop := ∀ k, (entry s k).presence = .alive → maskHas s.mark.reported k = true
  let ready (s : State) : Prop := s.mark.holdoff = .expired ∧ s.reck.atRest = true ∧ moving s = false
  (∀ s : State, ownPull s = true ↔ held s.phase ∨ s.mark.state = .holding ∨ own s = none)
    ∧ (∀ (c : Instr) (s t : State), exec c s = .next t → s.levels.rstLow = false → isReset c = false →
        readsOnly c = false →
          (t.mark.state = .holding → ¬ ready t)
            ∧ (s.mark.state = .holding → t.mark.state ≠ .holding → t.phase ≠ .faulted → t.phase ≠ .down →
                (∀ now, c ≠ .markTimeoutExpiry now ∧ c ≠ .collectionTimerExpiry now) →
                  t.mark.state = .awaitEdge ∧ ready t)
            ∧ (t.mark.state = .collecting → ¬ whole t)
            ∧ (s.mark.state = .collecting → t.mark.state ≠ .collecting → t.phase ≠ .down →
                (∀ now, c ≠ .markTimeoutExpiry now ∧ c ≠ .collectionTimerExpiry now) →
                  whole t ∧ t.mark.state = .idle ∧ t.mark.outcome = .complete
                    ∧ t.mark.outcomeNumber = s.mark.number ∧ t.mark.missing = 0#6 ∧ t.mark.completedMark = true
                    ∧ t.mark.collection = .stopped ∧ t.port.attention.mark = true))
    ∧ (∀ (c : Instr) (s t : State), exec c s = .next t → s.levels.rstLow = false → isReset c = false →
      readsOnly c = false → t.phase ≠ .config → t.phase ≠ .down → t.mark.state = .idle →
        let due : Prop :=
          t.mark.needs.drive = true
            ∨ ((t.mark.needs.reMark = true ∨ t.mark.needs.calibrate = true) ∧ t.levels.alhHigh = true)
            ∨ (t.mark.needs.recovery = true ∧ t.phase = .recovery ∧ t.mark.quiet = .expired)
        (due → t.link.queue.markCall ≠ none)
          ∧ (s.link.queue.markCall = none → due →
              t.link.queue.markCall = some (.markCall (t.mark.number + 1#8)))
          ∧ (s.link.queue.markCall = none → ¬ due → t.link.queue.markCall = none))
    ∧ (∀ (now : Instant) (s : State), Steady s → timerRunning s.mark.quiet = true →
      ∃ t, exec (.quietTimerExpiry now) s = .next t
        ∧ (s.phase ≠ .muster ∨ musterMissing s ≠ 0#6 → t.mark.quiet = .expired)
        ∧ (s.phase = .recovery → s.mark.state = .idle → s.mark.needs.recovery = true →
            s.link.queue.markCall = none →
              t.link.queue.markCall = some (.markCall (s.mark.number + 1#8)) ∧ t.mark.state = .idle))
    ∧ (∀ (now : Instant) (s : State), s.levels.rstLow = false → LeadHeard s → timerRunning s.mark.holdoff = true →
          ∃ t, exec (.holdoffExpiry now) s = .next t ∧ t.mark.holdoff = .expired
            ∧ (s.mark.state = .holding → s.search.sub = .none → moving s = false →
                t.mark.state = (if s.reck.atRest then .awaitEdge else .holding)
                  ∧ (¬ held s.phase → own s ≠ none → ownPull t = !s.reck.atRest)))
    ∧ (∀ (now : Instant) (s : State), s.levels.rstLow = false → timerRunning s.mark.timeout = true →
        ∃ t, exec (.markTimeoutExpiry now) s = .next t ∧ t.mark.state = .idle ∧ t.mark.outcome = .lapsed
          ∧ t.mark.outcomeNumber = s.mark.number ∧ t.mark.number = s.mark.number ∧ t.mark.missing = 0#6
          ∧ t.mark.lapses = min 255 (s.mark.lapses + 1) ∧ t.mark.timeout = .stopped ∧ t.mark.holdoff = .stopped
          ∧ (¬ held t.phase → own s ≠ none → ownPull t = false)
          ∧ t.port.attention.mark = true
          ∧ (s.mark.completedMark = true → t.port.attention.fault = true
              ∧ (s.fault.record.locked = false →
                  t.fault.record.cause = some (.note .markLapse)
                    ∧ t.fault.record.a = (s.mark.number.toNat : Int)
                    ∧ t.fault.record.b = (min 255 (s.mark.lapses + 1) : Nat)))
          ∧ (s.mark.completedMark = false → Steady s → t.fault.record = s.fault.record))
    ∧ ∀ (now : Instant) (s : State), s.levels.rstLow = false → timerRunning s.mark.collection = true →
        ∃ t, exec (.collectionTimerExpiry now) s = .next t ∧ t.mark.state = .idle
          ∧ t.mark.outcome = .partialMark ∧ t.mark.outcomeNumber = s.mark.number
          ∧ t.mark.missing = aliveStations s &&& ~~~ s.mark.reported ∧ t.mark.completedMark = true
          ∧ t.mark.collection = .stopped ∧ t.mark.reportAwaiting = false ∧ t.port.attention.mark = true
          ∧ (s.mark.reportAwaiting = false → t.link.queue.markReport = s.link.queue.markReport)
          ∧ (s.mark.reportAwaiting = true → s.phase ≠ .config → s.phase ≠ .down →
              ∀ c, s.mark.lastCapture = some c → c.good = true →
                t.link.queue.markReport =
                  some (.markReport
                    { number := s.mark.number, grade := s.gradeUnit.grade, captureGood := true
                      scaleValid := c.scaleValid, pM := BitVec.ofNat 16 c.pM
                      sM := BitVec.ofNat 16 (c.scaleCount.getD 0)
                      thetaM := if s.gradeUnit.grade = .lost then none else c.theta }))

/-- 2 · H after the edge the lead's report is missing. A calibrated station in RECOVERY or READY that has its capture then
decides without it: COARSE on the scale, LOST where the scale wraps, under the lead grade, which is recorded, with the
capped-by-lead flag set and M and λ as they were; its own report goes with that grade and with θ_scale of the captured
instant, held to the range of θ (log 35), absent with LOST (R72, R73, R106, R109, R110, R115). -/
def Obligations.LeadReportMissing : Prop :=
  ∀ (now : Instant) (s : State), s.levels.rstLow = false → leadWaiting s = true →
    ∃ t, exec (.leadReportWaitExpiry now) s = .next t ∧ timerRunning t.mark.leadWait = false
      ∧ (s.gradeUnit.sub ≠ .leadWait → s.phase ≠ .muster → t.gradeUnit.leadReport = .missing)
      ∧ (∀ c, s.gradeUnit.held = some c → s.gradeUnit.sub = .leadWait → s.gradeUnit.readPending = false →
          s.phase = .recovery ∨ s.phase = .ready → s.search.sub = .none → s.reck.calibrated = true → coupled s = true →
          countInRange s.reck.count = true →
            let result := gradeMin (if (setupOf s).scaleWraps = true then .lost else .coarse)
              ((leadGrade s).getD .referenced)
            t.phase = .ready ∧ t.gradeUnit.sub = .idle ∧ t.gradeUnit.held = none ∧ t.gradeUnit.capped = true
              ∧ t.gradeUnit.lastDecision.map (fun d => d.course) = some (some .noLead)
              ∧ t.gradeUnit.grade = result ∧ t.reck.basis = (if result = .lost then .none else .scale)
              ∧ t.gradeUnit.recordedLead = leadGrade s
              ∧ t.reck.count = s.reck.count ∧ t.reck.lambda = s.reck.lambda
              ∧ (s.mark.reportAwaiting = true → c.good = true →
                  t.link.queue.markReport =
                    some (.markReport
                      { number := s.mark.number, grade := result, captureGood := true, scaleValid := c.scaleValid
                        pM := BitVec.ofNat 16 c.pM, sM := BitVec.ofNat 16 (c.scaleCount.getD 0)
                        thetaM :=
                          if result = .lost then none
                          else
                            some (clampInt angleMin angleMax
                              (scaleAngle (setupOf s) s.reck.sigma (c.scaleCount.getD 0))) })))

/-- The directive timers: an untaken directive raises DIRECTIVE_UNTAKEN with its number and the timeout, and a STOP that
does not settle raises UNBIDDEN_MOTION unless the motor sensor is failed or the count unstarted (R135, R137). The dwell
timer's expiry takes the pending cap (R169). And the dwell at the effective cap that every command but a reset and those that
only read leaves, judged against the cap in force that it found, or that a dwell expiry has made: a lower cap is taken at
once, an equal one stops the timer and ends the pending cap, a higher one already pending lets the timer run on, and another
higher one becomes the pending cap with the timer started from zero, or with ZONE_DWELL 0 the cap in force (R169; that the
cap is judged at the end of a command is log 6). -/
def Obligations.DirectiveAndDwellTimers : Prop :=
  (∀ (now : Instant) (s : State), s.levels.rstLow = false → timerRunning s.claim.untakenTimer = true →
      s.claim.untakenOpen = true → stopsIn s.phase = true →
        ∃ t, exec (.untakenTimerExpiry now) s = .next t ∧ t.phase = .faulted
          ∧ t.claim.untakenOpen = true ∧ t.claim.untakenReported = true
          ∧ causePresent t .directiveUntaken = true ∧ t.link.queue.halt = some (.halt .directiveUntaken)
          ∧ (s.fault.record.locked = false → s.claim.dir.number ≤ 255 → (setupOf s).directiveTimeout ≤ 500 →
              t.fault.record.cause = some (.stop .directiveUntaken)
                ∧ t.fault.record.a = (s.claim.dir.number : Int)
                ∧ t.fault.record.b = ((setupOf s).directiveTimeout : Int)))
    ∧ (∀ (now : Instant) (s : State), s.levels.rstLow = false → timerRunning s.claim.allowance = true →
        s.sensor.badMotor < 3 → s.reck.started = true → stopsIn s.phase = true →
          ∃ t, exec (.allowanceTimerExpiry now) s = .next t ∧ t.phase = .faulted
            ∧ .unbiddenMotion ∈ t.fault.stopSet ∧ stopCurrent t = true
            ∧ (s.fault.record.locked = false →
                t.fault.record.cause = some (.stop .unbiddenMotion) ∧ t.fault.record.a = 1))
    ∧ (∀ (now : Instant) (s : State), Steady s → timerRunning s.claim.allowance = true →
        3 ≤ s.sensor.badMotor ∨ s.reck.started = false → s.phase ≠ .muster →
          ∃ t, exec (.allowanceTimerExpiry now) s = .next t ∧ t.phase = s.phase
            ∧ t.fault.record = s.fault.record ∧ t.claim.allowance = .stopped)
    ∧ (∀ (now : Instant) (s : State) (p : Speed), Steady s → timerRunning s.zone.dwell = true →
        s.zone.pendingCap = some p → (effective s).cap = p →
        gradeCode s.gradeUnit.grade ≤ gradeCode (ceiling s) →
          ∃ t, exec (.dwellTimerExpiry now) s = .next t
            ∧ t.zone = { capInForce := p, pendingCap := none, dwell := .stopped })
    ∧ ∀ (c : Instr) (s t : State), exec c s = .next t → s.levels.rstLow = false → isReset c = false →
        readsOnly c = false →
          let before : Zone := match c with
            | .dwellTimerExpiry _ =>
              if timerRunning s.zone.dwell = true then
                { capInForce := s.zone.pendingCap.getD s.zone.capInForce, pendingCap := none, dwell := .stopped }
              else s.zone
            | _ => s.zone
          let cap := (effective t).cap
          (speedCode cap < speedCode before.capInForce →
              t.zone = { capInForce := cap, pendingCap := none, dwell := .stopped })
            ∧ (cap = before.capInForce →
                t.zone = { capInForce := before.capInForce, pendingCap := none, dwell := .stopped })
            ∧ (speedCode before.capInForce < speedCode cap → before.pendingCap = some cap → t.zone = before)
            ∧ (speedCode before.capInForce < speedCode cap → before.pendingCap ≠ some cap →
                t.zone =
                  if (setupOf t).zoneDwell = 0 then { capInForce := cap, pendingCap := none, dwell := .stopped }
                  else
                    { capInForce := before.capInForce, pendingCap := some cap
                      dwell := .running t.ms (setupOf t).zoneDwell })

/-- The sequencer's timers: PREREQ_WAIT, then stopped, fails the search with the unsettled stations, the first settle interval
starts the second, and the second ends in the evaluation, which converges, goes on at the level, steps the level, or fails
(R145, R152 to R154, R161; that the settle timers stay as they are at that failure is the model's reading, log 71). On
converging, the computed θ0 places HOME_ANGLE at the centre, with the lead term of the held lead angle, and the CALIBRATE need
is registered (R156). -/
def Obligations.SearchTimers : Prop :=
  (∀ (now : Instant) (s : State), Steady s →
      timerRunning s.search.prereqTimer = true → s.search.sub = .waitPrereq →
        ∃ t, exec (.prereqWaitExpiry now) s = .next t ∧ t.phase = .ready ∧ t.search.sub = .none
          ∧ t.search.outcome = .failed .prereqTimeout ∧ t.port.attention.referenceDone = true
          ∧ t.search.prereqTimer = .stopped ∧ t.search.settleFirst = s.search.settleFirst
          ∧ t.search.settleSecond = s.search.settleSecond
          ∧ (s.fault.record.locked = false →
              t.fault.record.cause = some (.note .referenceFail) ∧ t.fault.record.a = 1
                ∧ t.fault.record.b = ((unsettled s).toNat : Int)))
    ∧ (∀ (now : Instant) (s : State), Steady s → timerRunning s.search.settleFirst = true →
        s.search.sub = .settle →
          ∃ t, exec (.settleFirstIntervalEnd now) s = .next t ∧ t.search.sub = .settle
            ∧ t.search.settleFirst = .stopped
            ∧ t.search.settleSecond
                = .running now.ms ((setupOf s).settleTime - (setupOf s).settleTime / 2))
    ∧ ∀ (now : Instant) (s : State), Steady s → timerRunning s.search.settleSecond = true →
        s.search.sub = .settle →
          ∃ t, exec (.settleEnd now) s = .next t ∧ t.search.total = s.search.total + 1
            ∧ (∀ c p, passCentre (setupOf s) s.search = some c → s.search.prevCentre = some p →
                Machine.dist c p ≤ (setupOf s).agree →
                  t.search.sub = .calibrate ∧ t.search.centre = some (rdiv (p + c) 2)
                    ∧ t.search.lastDelta = some (Machine.dist c p) ∧ t.search.passes = s.search.passes + 1
                    ∧ t.mark.needs.calibrate = true
                    ∧ ∀ lam, coupled s = false ∨ s.search.heldLambda = some lam →
                        let su := setupOf s
                        let cpr : Int := 2 ^ su.motorBits
                        let term :=
                          if coupled s = true then
                            rdiv (su.coupleNum * lam * cpr) ((su.coupleDen : Int) * 16777216)
                          else 0
                        t.search.theta0 =
                          some (su.homeAngle
                            - rdiv ((rdiv (p + c) 2 - term) * (su.gearDen : Int) * 16777216)
                                ((su.gearNum : Int) * cpr)))
            ∧ ((∀ c p, passCentre (setupOf s) s.search = some c → s.search.prevCentre = some p →
                  (setupOf s).agree < Machine.dist c p) →
                if s.search.passes + 1 < 3 then
                  t.search.sub = .forward ∧ t.search.level = s.search.level
                    ∧ t.search.passes = s.search.passes + 1
                    ∧ t.search.prevCentre = passCentre (setupOf s) s.search
                    ∧ t.search.passStart = some s.reck.count
                else if s.search.level < 3 then
                  t.search.sub = .forward ∧ t.search.level = s.search.level + 1 ∧ t.search.passes = 0
                    ∧ t.search.prevCentre = none ∧ t.search.passStart = some s.reck.count
                else
                  t.search.sub = .none ∧ t.search.outcome = .failed .noConvergence ∧ t.phase = .ready)

/-! ### The drive port -/

/-- The commands that only read, and the transactions without a command: the slot shifted out, the answer in the slot, the
attention causes and the changed-peer mask they clear, and nothing else but the time and the PFAIL level, which falls where the
instant shows it deasserted (the model's choice, log 2) (R55, R97, R184, R187, R192, R193). STORE_READ answers the class of an
image and, for a SOUND, VOID or VALID one, the characters of its fields, and all zero otherwise, with the newest flag for a
slot (R97; that the calibration record's answer has no such flag is the model's choice, log 86). PEER_READ answers a code 0 for
a purpose or a HALT cause that is absent, and a report of all 0 when there is none (R55); FAULT_READ a station 0 for none
(R184). The fields of a record end in its check word, the more significant character first (the model's choice, log 78). And
ATN is asserted exactly while an attention cause is pending, PEER among them while any station is in the changed-peer mask
(R192). -/
def Obligations.ReadingCommands : Prop :=
  let same (now : Instant) (s t : State) : Prop :=
    { t with port := s.port }
      = { s with ms := now.ms, levels := { s.levels with pfail := s.levels.pfail && now.pfail } }
  let opened (now : Instant) (s : State) : Port := { s.port with shifted := .response s.port.slot, lastEnd := some now.ms }
  (∀ s : State, atn s = true ↔
      s.port.attention.fault = true ∨ s.port.attention.directive = true ∨ s.port.attention.grade = true
        ∨ s.port.attention.mark = true ∨ s.port.attention.referenceDone = true
        ∨ ∃ k, maskHas s.port.changedPeers k = true)
    ∧ (∀ r : SnapRecord, slotFields (.valid r) =
        { cls := match r.body.state with | .sound => .sound | .void => .void
          fields := snapBody r ++ bytes16 (crc16 (snapBody r)) })
    ∧ (∀ r : CalRecord, calFields (.valid r) =
        { cls := .valid, fields := calBody r ++ bytes16 (crc16 (calBody r)) })
    ∧ (∀ x ∈ [(SlotImage.unread, SlotClass.unread), (.writing, .writing), (.empty, .empty), (.torn, .torn)],
        slotFields x.1 = { cls := x.2, fields := List.replicate snapLength 0#8 })
    ∧ (∀ x ∈ [(CalImage.unread, CalClass.unread), (.writing, .writing), (.empty, .empty), (.torn, .torn)],
        calFields x.1 = { cls := x.2, fields := List.replicate calLength 0#8 })
    ∧ (∀ (now : Instant) (s : State), s.levels.rstLow = false →
      ∃ t, exec (.transactionIgnored now) s = .next t ∧ same now s t
        ∧ t.port = { s.port with shifted := .allOnes })
    ∧ (∀ (now : Instant) (s : State), s.levels.rstLow = false →
        ∃ t, exec (.fetch now) s = .next t ∧ same now s t ∧ t.port = opened now s)
    ∧ (∀ (now : Instant) (rest : List Byte) (s : State), s.levels.rstLow = false → parameters 1 rest = some [] →
        ∃ t d, exec (.statusRead now rest) s = .next t ∧ same now s t
          ∧ t.port = { opened now s with
              slot := { status := .ok, echo := 1#8, reason := .none, data := .status d }
              attention := { s.port.attention with grade := false, mark := false, referenceDone := false } }
          ∧ d.station.phase = s.phase ∧ d.station.ms = now.ms ∧ d.attention.grade = s.port.attention.grade
          ∧ d.attention.mark = s.port.attention.mark
          ∧ d.attention.referenceDone = s.port.attention.referenceDone
          ∧ d.attention.changedPeers = s.port.changedPeers ∧ d.reckoning.theta = s.reck.theta
          ∧ d.grade.grade = s.gradeUnit.grade ∧ d.grade.ceiling = ceiling s ∧ d.mark.state = s.mark.state
          ∧ d.grade.leadGrade = (match leadGrade s with | none => 0 | some g => gradeCode g)
          ∧ d.claim.state = s.claim.state ∧ d.search.sub = s.search.sub ∧ d.zone.armGrade = armGrade s
          ∧ d.zone.spd = spd s)
    ∧ (∀ (now : Instant) (rest : List Byte) (k : Station) (s : State), s.levels.rstLow = false →
        parameters 2 rest = some [byte (stationNumber k)] →
          ∃ t d, exec (.peerRead now rest) s = .next t ∧ same now s t
            ∧ t.port = { opened now s with
                slot := { status := .ok, echo := 2#8, reason := .none, data := .peer d }
                changedPeers := maskDrop s.port.changedPeers k }
            ∧ d.station = k ∧ d.presence = (entry s k).presence ∧ d.phase = (entry s k).phase
            ∧ d.grade = (entry s k).grade ∧ d.angle = (entry s k).angle
            ∧ d.purpose = (match (entry s k).purpose with | none => 0 | some p => purposeCode p)
            ∧ d.haltCause = (match (entry s k).haltCause with | none => 0 | some h => stopCode h)
            ∧ d.reportPresent = (entry s k).report.isSome
            ∧ (∀ r, (entry s k).report = some r → d.report = r)
            ∧ ((entry s k).report = none →
                d.report.number = 0#8 ∧ gradeCode d.report.grade = 0 ∧ d.report.captureGood = false
                  ∧ d.report.scaleValid = false ∧ d.report.pM = 0#16 ∧ d.report.sM = 0#16 ∧ d.report.thetaM = none)
            ∧ d.age = (match (entry s k).lastHeard with
                | none => 65535
                | some h => min 65535 (now.ms - h).toNat))
    ∧ (∀ (now : Instant) (rest : List Byte) (s : State), s.levels.rstLow = false → parameters 3 rest = some [] →
        ∃ t d, exec (.faultRead now rest) s = .next t ∧ same now s t
          ∧ t.port = { opened now s with
              slot := { status := .ok, echo := 3#8, reason := .none, data := .fault d }
              attention := { s.port.attention with fault := false } }
          ∧ d.cause = s.fault.record.cause ∧ d.phase = s.fault.record.phase
          ∧ d.station = (match s.fault.record.station with | none => 0 | some k => stationNumber k)
          ∧ d.a = s.fault.record.a ∧ d.b = s.fault.record.b ∧ d.markNumber = s.fault.record.markNumber
          ∧ d.time = s.fault.record.time ∧ d.locked = s.fault.record.locked ∧ d.lost = s.fault.record.lost
          ∧ d.carried = s.fault.record.carried
          ∧ d.stopSet = s.fault.stopSet.map fun c => (c, causePresent { s with ms := now.ms } c))
    ∧ ∀ (now : Instant) (rest : List Byte) (n : Nat) (s : State), s.levels.rstLow = false → 1 ≤ n → n ≤ 3 →
        parameters 6 rest = some [byte n] →
          ∃ t, exec (.storeRead now rest) s = .next t ∧ same now s t
            ∧ t.port = { opened now s with
                slot :=
                  { status := .ok, echo := 6#8, reason := .none
                    data := .store
                      (if n = 1 then .slot .a (slotFields s.store.imageA) ((newest s).any fun x => x.1 == .a)
                      else if n = 2 then .slot .b (slotFields s.store.imageB) ((newest s).any fun x => x.1 == .b)
                      else .calibration (calFields s.store.imageCal)) } }

/-- Which command the characters of a transaction carry: a fetch at 00h, the command of Table 11-1 that the code names, an
unknown one at any other code (R187). The tests of R188 in their order, for every command of Table 11-1: framing and check,
length, domain, phase, each with its status and nothing else in the slot; and UNKNOWN for a code outside the table, with
nothing else changed but the time and the PFAIL level, which falls where the instant shows it deasserted (the model's
choices, logs 2 and 40). The fixed form of a response: status code, echoed code, reason code, the number of data characters,
0 … 1023, in two characters, the data, and the sum of the characters before (R188); the data of STATUS_READ as their parts in
R193's order, each with a layout of its own that is left free (log 9); and FFh shifted out after it, and
throughout an ignored transaction (R187). -/
def Obligations.CommandTests : Prop :=
  (∀ (c : Instr) (now : Instant) (code : Nat) (rest : List Byte) (s : State),
      portCommandOf c = some (now, code, rest) → s.levels.rstLow = false →
        let answers (st : Status) : Prop :=
          ∃ t, exec c s = .next t
            ∧ t.port.slot = { status := st, echo := byte code, reason := .none, data := .none }
        (parameters code rest = none → answers .checkError)
          ∧ (∀ ps, parameters code rest = some ps →
              (tableLength code ps = false → answers .checkError)
                ∧ (tableLength code ps = true → tableDomain code ps = false → answers .badItem)
                ∧ (tableLength code ps = true → tableDomain code ps = true →
                    tablePhase code s.phase = false → answers .wrongPhase)))
    ∧ (∀ (now : Instant) (code : Byte) (rest : List Byte) (s : State), s.levels.rstLow = false →
        unknownOk (code :: rest) = true →
        ∃ t, exec (.unknownCommand now (code :: rest)) s = .next t
          ∧ { t with port := s.port }
              = { s with ms := now.ms, levels := { s.levels with pfail := s.levels.pfail && now.pfail } }
          ∧ t.port = { s.port with
              shifted := .response s.port.slot, lastEnd := some now.ms
              slot :=
                { status := if (parameters code.toNat rest).isSome then .unknown else .checkError
                  echo := code, reason := .none, data := .none } })
    ∧ (∀ (now : Instant) (s : State), s.levels.rstLow = false →
        ∃ t, exec (.unknownCommand now []) s = .next t ∧ t.port.slot.status = .checkError)
    ∧ (∀ (now : Instant) (pins : Pins) (cut : CutResidue) (code : Byte) (rest : List Byte),
        (code.toNat ∈ commandCodes → portCommandOf (commandOf now pins cut (code :: rest)) = some (now, code.toNat, rest))
          ∧ (code = 0#8 → commandOf now pins cut (code :: rest) = .fetch now)
          ∧ (unknownOk (code :: rest) = true →
              commandOf now pins cut (code :: rest) = .unknownCommand now (code :: rest)))
    ∧ (∀ r : Response,
        let n := (dataChars r.data).length
        let before := [byte (statusCode r.status), r.echo, byte (reasonCode r.reason), byte (n / 256), byte (n % 256)]
          ++ dataChars r.data
        responseChars r = before ++ [byte ((before.map BitVec.toNat).sum % 256)]
          ∧ n ≤ 1023 ∧ statusCode r.status ≤ 6 ∧ reasonCode r.reason ≤ 12)
    ∧ (∀ d : StatusData,
        dataChars (.status d) =
          (Config.sectionLayout (.station d.station) ++ Config.sectionLayout (.attention d.attention)
            ++ Config.sectionLayout (.reckoning d.reckoning) ++ Config.sectionLayout (.link d.link)
            ++ Config.sectionLayout (.fault d.fault) ++ Config.sectionLayout (.mark d.mark)
            ++ Config.sectionLayout (.store d.store) ++ Config.sectionLayout (.grade d.grade)
            ++ Config.sectionLayout (.claim d.claim) ++ Config.sectionLayout (.search d.search)
            ++ Config.sectionLayout (.zone d.zone)).take 1023)
    ∧ ∀ i : Nat, shiftedChar .allOnes i = some 0xFF#8
        ∧ ∀ r : Response, shiftedChar (.response r) i
            = some (if h : i < (responseChars r).length then (responseChars r)[i] else 0xFF#8)

/-- FAULT_CLEAR: refused with the first present cause of the stop set in code order, else the record cleared and FAULTED
left for READY or RECOVERY by the grade; in every other phase the record is cleared and the phase unchanged, but that MUSTER is
left for RECOVERY where no peer fails the muster condition, which is tested at the end of every command (R61, R183; log 6). That
UNBIDDEN_MOTION taken with both first values is present while either condition stands is the model's choice, log 79. -/
def Obligations.FaultClear : Prop :=
  ∀ (now : Instant) (rest : List Byte) (s : State), Steady s → parameters 4 rest = some [] →
    ∃ t, exec (.faultClear now rest) s = .next t
      ∧ (s.phase = .faulted → ∀ c, c ∈ s.fault.stopSet → causePresent { s with ms := now.ms } c = true →
          (∀ d, d ∈ s.fault.stopSet → causePresent { s with ms := now.ms } d = true → stopCode c ≤ stopCode d) →
            t.phase = .faulted ∧ t.fault = s.fault
              ∧ t.port.slot =
                  { status := .refused, echo := 4#8, reason := .stillPresent, data := .stillPresent c })
      ∧ (s.phase = .faulted → (∀ c, c ∈ s.fault.stopSet → causePresent { s with ms := now.ms } c = false) →
          t.fault.record = recordReset ∧ t.fault.stopSet = [] ∧ t.port.attention.fault = false
            ∧ t.port.slot = { status := .ok, echo := 4#8, reason := .none, data := .none }
            ∧ t.phase = (if gradeLe .resolved s.gradeUnit.grade then .ready else .recovery)
            ∧ (gradeLt s.gradeUnit.grade .resolved = true →
                t.gradeUnit.sub = .reading ∧ t.gradeUnit.readPending = true ∧ t.gradeUnit.chosen = none
                  ∧ t.mark.needs.recovery = true))
      ∧ (s.phase ≠ .faulted →
          t.fault.record = recordReset
            ∧ t.phase = (if s.phase = .muster ∧ musterMissing s = 0#6 then .recovery else s.phase)
            ∧ t.port.attention.fault = false
            ∧ t.port.slot = { status := .ok, echo := 4#8, reason := .none, data := .none })

/-- DIRECTIVE_TAKE: the record as it stands is returned; a POSTED directive becomes TAKEN, the untaken period closes, and its
check begins; in every other state the record and the state stay and the attention cause is cleared (R134, R136, R137). In DOWN
a POSTED directive becomes TAKEN and its untaken period closes; no check begins: the allowance, the furthest point and the
still point stay as they are (R140), and a STOP taken at rest does not settle (the model's choice, log 93). -/
def Obligations.DirectiveTake : Prop :=
  ∀ (now : Instant) (rest : List Byte) (s : State), Steady s → parameters 5 rest = some [] →
    ∃ t, exec (.directiveTake now rest) s = .next t
      ∧ t.port.slot =
          { status := .ok, echo := 5#8, reason := .none
            data := .directive
              { number := s.claim.dir.number, kind := s.claim.dir.kind, speed := s.claim.dir.speed
                target := s.claim.dir.target, postedTime := s.claim.dir.postedTime, state := s.claim.dirState } }
      ∧ (s.claim.dirState ≠ .posted → t.port.attention.directive = false
          ∧ t.claim.dirState = s.claim.dirState ∧ t.claim.dir = s.claim.dir)
      ∧ (s.claim.dirState = .posted → s.claim.dir.kind ≠ some .stop →
          t.claim.dirState = .taken ∧ t.claim.dir = { s.claim.dir with taken := true }
            ∧ t.claim.untakenOpen = false ∧ timerRunning t.claim.untakenTimer = false
            ∧ t.port.attention.directive = false
            ∧ (s.phase ≠ .down → s.claim.dir.kind = some .jogPos ∨ s.claim.dir.kind = some .jogNeg →
                t.claim.furthest = some s.reck.count))
      ∧ (s.claim.dirState = .posted → s.claim.dir.kind = some .stop → s.phase ≠ .down → s.reck.atRest = false →
          t.claim.dirState = .taken ∧ t.claim.allowance = .running now.ms (setupOf s).stopAllowance
            ∧ t.claim.untakenOpen = false)
      ∧ (s.claim.dirState = .posted → s.claim.dir.kind = some .stop → s.phase ≠ .down → s.reck.atRest = true →
          s.search.sub = .none →
            t.claim.dirState = .settled ∧ timerRunning t.claim.allowance = false ∧ t.claim.untakenOpen = false)
      ∧ (s.claim.dirState = .posted → s.phase = .down →
          t.phase = .down ∧ t.claim.dirState = .taken ∧ t.claim.dir = { s.claim.dir with taken := true }
            ∧ t.claim.untakenOpen = false ∧ t.claim.untakenReported = false ∧ t.claim.untakenSince = none
            ∧ t.claim.untakenTimer = .stopped ∧ t.claim.allowance = s.claim.allowance
            ∧ t.claim.furthest = s.claim.furthest ∧ t.claim.still = s.claim.still
            ∧ t.port.attention.directive = false)

/-- MARK_REQUEST in READY: OK with the DRIVE need and the call while the mark unit is idle, MARK_BUSY otherwise (R66, R81).
PEER_FORGET: refused for an ALIVE or STALE entry, else accepted; a SILENT or DOWN entry returns to its after-reset values and
joins the changed-peer mask (R54, R55). -/
def Obligations.MarkRequestAndPeerForget : Prop :=
  (∀ (now : Instant) (rest : List Byte) (s : State), Steady s → parameters 7 rest = some [] → s.phase = .ready →
    ∃ t, exec (.markRequest now rest) s = .next t
      ∧ (s.mark.state = .idle → s.link.queue.markCall = none →
          t.port.slot = { status := .ok, echo := 7#8, reason := .none, data := .none }
            ∧ t.mark.needs.drive = true ∧ t.mark.state = .idle
            ∧ t.link.queue.markCall = some (.markCall (s.mark.number + 1#8)))
      ∧ (s.mark.state ≠ .idle ∨ s.link.queue.markCall ≠ none →
          t.port.slot = { status := .refused, echo := 7#8, reason := .markBusy, data := .none }
            ∧ t.mark.needs.drive = s.mark.needs.drive))
    ∧ ∀ (now : Instant) (rest : List Byte) (k : Station) (s : State), s.levels.rstLow = false →
      parameters 11 rest = some [byte (stationNumber k)] →
        ∃ t, exec (.peerForget now rest) s = .next t
          ∧ ((entry s k).presence = .alive ∨ (entry s k).presence = .stale →
              entry t k = entry s k ∧ t.port.changedPeers = s.port.changedPeers
                ∧ t.port.slot = { status := .refused, echo := 11#8, reason := .present, data := .none })
          ∧ ((entry s k).presence = .silent ∨ (entry s k).presence = .down →
              entry t k = entryReset ∧ maskHas t.port.changedPeers k = true
                ∧ t.port.slot = { status := .ok, echo := 11#8, reason := .none, data := .none })
          ∧ ((entry s k).presence = .absent →
              entry t k = entry s k ∧ t.port.changedPeers = s.port.changedPeers
                ∧ t.port.slot = { status := .ok, echo := 11#8, reason := .none, data := .none })

/-- REFERENCE_START: the first line that applies decides; an accepted one enters REFERENCE with the search record set up
afresh, the outcome of the REFERENCE snapshot none with the others while the grade stands under the ceiling (R143, R144; above
it a GRADE_LOSS request at the end of the command can replace the pending snapshot of an earlier search, log 6). With every
prerequisite and the lead settled the search is in CLAIMING at once and the claim asked for with the purpose SEARCH: from NONE
its CLAIM is queued where no conflicting station claims or moves, and is waited with otherwise; while an earlier claim is being
released it is wanted. With one unsettled the claim stays as it was (R124, R145, R146). -/
def Obligations.ReferenceStart : Prop :=
  ∀ (now : Instant) (rest : List Byte) (s : State), s.levels.rstLow = false → MotionPermitted s →
    parameters 8 rest = some [] →
    let refusedFor (r : Reason) : Prop :=
      ∃ t, exec (.referenceStart now rest) s = .next t
        ∧ t.port.slot = { status := .refused, echo := 8#8, reason := r, data := .none }
    let homes : Prop := (effective s).homing = true
    (s.phase ≠ .ready →
        ∃ t, exec (.referenceStart now rest) s = .next t
          ∧ t.port.slot = { status := .wrongPhase, echo := 8#8, reason := .none, data := .none })
      ∧ (s.phase = .ready → s.gradeUnit.grade = .lost → refusedFor .grade)
      ∧ (s.phase = .ready → s.gradeUnit.grade ≠ .lost → ¬ homes → refusedFor .zone)
      ∧ (s.phase = .ready → s.gradeUnit.grade ≠ .lost → homes →
          (∃ g, leadGrade s = some g ∧ gradeCode g < gradeCode .resolved) → refusedFor .lead)
      ∧ (s.phase = .ready → s.gradeUnit.grade ≠ .lost → homes →
          (∀ g, leadGrade s = some g → gradeCode .resolved ≤ gradeCode g) →
            ∃ t, exec (.referenceStart now rest) s = .next t
              ∧ t.port.slot = { status := .ok, echo := 8#8, reason := .none, data := .none }
              ∧ t.phase = .reference
              ∧ t.search = { searchReset with
                  plus := (effective s).plus
                  level := (setupOf s).startLevel
                  sub := if unsettled s = 0#6 then .claiming else .waitPrereq
                  refSnapshot := t.search.refSnapshot
                  prereqTimer :=
                    if unsettled s = 0#6 then .stopped else .running now.ms ((setupOf s).prereqWait * 1000) }
              ∧ (UnderCeiling s → t.search.refSnapshot = .none)
              ∧ t.claim.still = some s.reck.count ∧ t.mark.needs.reMark = false
              ∧ t.gradeUnit.sub = .idle ∧ t.gradeUnit.held = none
              ∧ (unsettled s ≠ 0#6 → t.claim.state = s.claim.state ∧ t.claim.wanted = s.claim.wanted)
              ∧ (unsettled s = 0#6 → t.claim.purpose = some .search
                  ∧ (s.claim.state = .releasing → t.claim.state = .releasing ∧ t.claim.wanted = true)
                  ∧ (s.claim.state = .none →
                      if blockingClaims s = 0#6 ∧ blockingMotion s = 0#6 then
                        t.claim.state = .queued ∧ t.link.queue.claim = some (.claim .search)
                      else t.claim.state = .waiting ∧ t.link.queue.claim = s.link.queue.claim)))

/-- A search aborted by REFERENCE_ABORT or by a peer's HALT: REFERENCE_ABORTED with the reason and the sub-state, the claim and
the lead hold given up, READY and REFERENCE_DONE (R162, R181); the record's other fields, its timers among them, keep their
values, but for a REFERENCE snapshot that a fall of the grade replaces (R142, R158; that a timer left running stays so in the
record is the model's reading, log 71). -/
def Obligations.SearchAborted : Prop :=
  let ended (reason : AbortReason) (code : Int) (st : Option Station) (s t : State) : Prop :=
    t.phase = .ready ∧ t.search.sub = .none ∧ t.search.outcome = .aborted reason ∧ t.search.leadHold = false
      ∧ t.port.attention.referenceDone = true ∧ claimFlag t = false ∧ moving t = false
      ∧ t.mark.needs.calibrate = false ∧ t.store.pendingCal = none
      ∧ t.search =
          { s.search with
            sub := .none, outcome := .aborted reason, leadHold := false, refSnapshot := t.search.refSnapshot
            stage := .none, returning := false, awaitingWrite := false, parkLimit := none }
      ∧ (t.search.refSnapshot = s.search.refSnapshot ∨ t.search.refSnapshot = .replaced)
      ∧ (s.fault.record.locked = false →
          t.fault.record.cause = some (.note .referenceAborted) ∧ t.fault.record.a = code
            ∧ t.fault.record.b = (subCode s.search.sub : Int) ∧ t.fault.record.station = st)
  (∀ (now : Instant) (rest : List Byte) (s : State), s.levels.rstLow = false → LeadHeard s →
      parameters 9 rest = some [] → s.phase = .reference →
      s.claim.state ≠ .held → moving s = false →
        ∃ t, exec (.referenceAbort now rest) s = .next t ∧ ended .command 1 (own s) s t
          ∧ t.port.slot = { status := .ok, echo := 9#8, reason := .none, data := .none })
    ∧ (∀ (now : Instant) (rest : List Byte) (s : State), s.levels.rstLow = false → LeadHeard s →
        parameters 9 rest = some [] → s.phase = .reference →
        s.claim.state = .held →
          ∃ t, exec (.referenceAbort now rest) s = .next t ∧ ended .command 1 (own s) s t
            ∧ t.claim.state = .releasing ∧ t.link.queue.release = some .release
            ∧ (moving s = true → stopCurrent t = true))
    ∧ ∀ (now : Instant) (k : Station) (c : StopCause) (s : State), s.levels.rstLow = false → LeadHeard s →
        own s ≠ some k → s.link.line ≠ .waitingForIdle → s.phase = .reference → s.search.sub ≠ .none →
        (moving s = true → s.claim.state = .held) →
          ∃ t, exec (.haltArrival now k c) s = .next t ∧ ended .halt 2 (some k) s t

/-- TURN_CONFIRM: the first line that applies decides; an accepted one applies the turn offset of the one candidate in the
joint turn, with COARSE on the counts (R10, R119). -/
def Obligations.TurnConfirm : Prop :=
  ∀ (now : Instant) (rest : List Byte) (k : Byte) (s : State), Steady s → parameters 10 rest = some [k] →
    -4 ≤ k.toInt → k.toInt ≤ 3 → s.phase = .ready →
    let refusedFor (r : Reason) : Prop :=
      ∃ t, exec (.turnConfirm now rest) s = .next t
        ∧ t.port.slot = { status := .refused, echo := 10#8, reason := r, data := .none }
        ∧ t.reck.turnOffset = s.reck.turnOffset ∧ t.gradeUnit.candidates = s.gradeUnit.candidates
    let listed : Prop :=
      (setupOf s).scaleWraps = true ∧ s.gradeUnit.grade = .lost ∧ s.gradeUnit.candidates ≠ []
    let chosen := s.gradeUnit.candidates.filter fun c => c.jointTurn == k.toInt
    (¬ listed → refusedFor .noList)
      ∧ (listed → s.gradeUnit.sub ≠ .idle → refusedFor .busy)
      ∧ (listed → s.gradeUnit.sub = .idle → ceiling s = .lost → refusedFor .lead)
      ∧ (listed → s.gradeUnit.sub = .idle → ceiling s ≠ .lost → chosen.length ≠ 1 → refusedFor .candidate)
      ∧ ∀ c cap, listed → s.gradeUnit.sub = .idle → ceiling s ≠ .lost → chosen = [c] →
          s.gradeUnit.candidateCapture = some cap →
            let d := c.n * (cprOf (setupOf s) : Int) + (cap.pM : Int) - cap.count
            countInRange (s.reck.count + d) = true →
              ∃ t, exec (.turnConfirm now rest) s = .next t
                ∧ t.port.slot = { status := .ok, echo := 10#8, reason := .none, data := .none }
                ∧ t.reck.count = s.reck.count + d ∧ t.reck.turnOffset = d ∧ t.reck.basis = .counts
                ∧ t.gradeUnit.grade = .coarse ∧ t.gradeUnit.candidates = [] ∧ t.gradeUnit.capped = false
                ∧ t.gradeUnit.recoveryAnchor = some (cap.count + d)

/-- SETUP in CONFIG: a numeric value at the nearer end of its range when outside it, a mask cut to six bits, an attribute
refused when a field lies outside its codes; the answer reads CLAMPED when the value was changed and carries what is stored
(R190). A new MOTOR_BITS unstarts the count (R6). -/
def Obligations.SetupStores : Prop :=
  ∀ (now : Instant) (rest : List Byte) (i x : Byte) (s : State), s.levels.rstLow = false → s.phase = .config →
    indexOk i.toNat x.toNat = true →
      (∀ (a b c d : Byte) (lo hi : Int), parameters 16 rest = some [i, x, a, b, c, d] →
          numericRange i.toNat = some (lo, hi) →
            let v := int32 a b c d
            let stored := max lo (min hi v)
            ∃ t, exec (.setup now rest) s = .next t ∧ t.port.setup = writeItem i.toNat x.toNat stored s.port.setup
              ∧ t.port.slot =
                  { status := if lo ≤ v ∧ v ≤ hi then .ok else .clamped, echo := 16#8, reason := .none
                    data := .setup i.toNat x.toNat (some stored) }
              ∧ (i = 1#8 → LeadHeard s → t.reck.started = false ∧ t.reck.count = 0))
        ∧ (∀ a b c d : Byte, parameters 16 rest = some [i, x, a, b, c, d] →
            i = 33#8 ∨ i = 38#8 ∨ i = 39#8 →
              let v := int32 a b c d
              ∃ t, exec (.setup now rest) s = .next t
                ∧ t.port.setup = writeItem i.toNat x.toNat (v % 64) s.port.setup
                ∧ t.port.slot =
                    { status := if 0 ≤ v ∧ v ≤ 63 then .ok else .clamped, echo := 16#8, reason := .none
                      data := .setup i.toNat x.toNat (some (v % 64)) })
        ∧ (∀ a b c d : Byte, parameters 16 rest = some [i, x, a, b, c, d] → i = 30#8 ∨ i = 31#8 →
            let fits : Prop := a = 0#8 ∧ b.toNat ≤ 1 ∧ c.toNat ≤ 1 ∧ d.toNat ≤ 3
            ∃ t, exec (.setup now rest) s = .next t
              ∧ (¬ fits → t.port.setup = s.port.setup
                  ∧ t.port.slot = { status := .badItem, echo := 16#8, reason := .none, data := .none })
              ∧ (fits → t.port.setup = writeItem i.toNat x.toNat (int32 a b c d) s.port.setup
                  ∧ t.port.slot =
                      { status := .ok, echo := 16#8, reason := .none
                        data := .setup i.toNat x.toNat (some (int32 a b c d)) }))
        ∧ (parameters 16 rest = some [i, x] → i = 24#8 →
            ∃ t, exec (.setup now rest) s = .next t ∧ t.port.setup = { s.port.setup with parkAngle := none })

/-- GO in CONFIG: the tests in their order, STRAP, PLAN_CYCLE, TRAVEL and ZONE; and an accepted GO: the plan normalised and its
digest formed as the CRC-16 over the 22 characters of Table 3-2, the setup frozen with τ_s and span, MUSTER entered with the
own entry ALIVE and HELLO queued, each peer's digest compared and every first difference raised as PLAN_MISMATCH (R59; the
station of least number first, the model's choice, log 48), or DOWN at once while PFAIL is asserted, its level that of the
instant (R56, R58, R60, R99, R191; that the instant lowers the level is the model's choice, log 2, and that the queued STATUS
has the content of the end of the command is log 6). -/
def Obligations.GoStarts : Prop :=
  ∀ (now : Instant) (rest : List Byte) (s : State), Steady s → CountsBounded s → s.search.sub = .none →
    parameters 17 rest = some [] → s.phase = .config →
      (∀ r, goRefusal s = some r →
          ∃ t, exec (.go now rest) s = .next t ∧ t.phase = .config ∧ t.port.setup = s.port.setup
            ∧ t.port.frozen = s.port.frozen
            ∧ t.port.slot = { status := .refused, echo := 17#8, reason := r, data := .none })
        ∧ (own s = none → goRefusal s = some .strap)
        ∧ (own s ≠ none → planCycle (normalise (setupOf s).plan) = true → goRefusal s = some .planCycle)
        ∧ (own s ≠ none → planCycle (normalise (setupOf s).plan) = false → travelBad (setupOf s) = true →
            goRefusal s = some .travel)
        ∧ (own s ≠ none → planCycle (normalise (setupOf s).plan) = false → travelBad (setupOf s) = false →
            let su := setupOf s
            (goRefusal s = some .zone ↔ ∃ z ∈ [su.zone1, su.zone2, su.zone3, su.zone4],
                zoneEnabled z = true ∧ (z.low < su.travelLow ∨ su.travelHigh + 1 < z.high))
              ∧ (goRefusal s = some .zone ∨ goRefusal s = none))
        ∧ (∀ su : Setup, travelBad su = true ↔
            su.travelHigh ≤ su.travelLow
              ∨ su.scaleWraps = false ∧ 16777216 ≤ su.travelHigh - su.travelLow
              ∨ su.homeAngle < su.travelLow ∨ su.travelHigh < su.homeAngle
              ∨ ∃ a, su.parkAngle = some a ∧ (a < su.travelLow ∨ su.travelHigh < a))
        ∧ ∀ k, own s = some k → goRefusal s = none →
            let su := setupOf s
            let span := (16777216 * (su.gearDen : Int)) / (su.gearNum : Int)
            let tau := min (su.scaleTol : Int) (span - 1)
            let plan := normalise su.plan
            let stations : List Station := [.j1, .j2, .j3, .j4, .j5, .j6]
            let digest := crc16
              ([byte plan.h, byte plan.holdoff, byte (plan.markTimeout / 256), byte plan.markTimeout]
                ++ (stations.map fun j => match plan.lead.get j with
                    | none => 0#8
                    | some m => byte (stationNumber m))
                ++ (stations.map fun j => byte (plan.prereq.get j).toNat)
                ++ (stations.map fun j => byte (plan.conflict.get j).toNat))
            ∃ t, exec (.go now rest) s = .next t
              ∧ t.port.setup = { su with plan := plan } ∧ t.port.frozen = true
              ∧ t.port.tau = some tau ∧ t.port.span = some span ∧ t.peers.digest = some digest
              ∧ t.port.slot =
                  { status := if tau < (su.scaleTol : Int) then .clamped else .ok, echo := 17#8, reason := .none
                    data := .go tau span digest }
              ∧ (entry t k).presence = .alive ∧ (entry t k).phase = .muster ∧ (entry t k).grade = .lost
              ∧ (entry t k).digest = some digest ∧ (entry t k).digestMatch = true
              ∧ (∀ j, j ≠ k → ((entry t j).digestMatch = true ↔ (entry s j).digest = some digest))
              ∧ (let differs (j : Station) (d : BitVec 16) : Prop :=
                  j ≠ k ∧ (entry s j).digest = some d ∧ d ≠ digest ∧ (entry s j).mismatchReported = false
                ∀ j d, differs j d →
                  t.port.attention.fault = true ∧ (entry t j).mismatchReported = true
                    ∧ ((∀ i e, differs i e → stationNumber j ≤ stationNumber i) → s.fault.record.locked = false →
                        t.fault.record.cause = some (.note .planMismatch) ∧ t.fault.record.station = some j
                          ∧ t.fault.record.a = (d.toNat : Int) ∧ t.fault.record.b = (digest.toNat : Int)))
              ∧ (∀ j, (entry t j).heard = false ∧ (entry t j).heardInMuster = false)
              ∧ t.link.heartbeat = .running now.ms su.plan.h
              ∧ (s.levels.pfail = true → now.pfail = true → t.phase = .down)
              ∧ (s.levels.pfail = false ∨ now.pfail = false →
                  t.phase = .muster ∧ t.peers.musterTimer = .running now.ms (8 * su.plan.h)
                    ∧ t.link.queue.hello = some (.hello { digest := digest, interval := byte su.plan.h })
                    ∧ t.link.queue.status = some (.status (statusContent t)))

/-! ### Searches -/

/-- The moves of a search. The STOP that ends one settles at a DIRECTIVE_TAKE at rest: CLEAR goes on to FORWARD as a new
pass, FORWARD to REVERSE, each with its JOG at the level of the record, along the search direction or against it, posted
at once while ALH is high and due while it is low, the move start point at M; REVERSE to SETTLE; and PARK through RELEASE
to the end of the search: the claim released, the outcome COMPLETED, the phase READY, REFERENCE_DONE (R148 to R152, R159,
R160). A taken STOP settles in the same way at the motor sample that shows the joint at rest, M after the step (R137; its
value taken modulo CPR, log 8), that of FORWARD with no last edge of the way back taken, which every command keeps (R150);
that of a return move restarts FORWARD with its pass start point kept; and with a restart pending the search restarts
there while ALH is high, CLEAR by the flag, FORWARD from its pass start point or first the return move to it, and waits
while ALH is low (R155). A return move takes no edge; it is ended by STOP once M is no longer past the pass start point,
and a travel above SEARCH_SPAN before that fails the search with FLAG_NOT_FOUND and the sub-state's code, unless a fault
has ended it (R155, R161; that a sample which meets both tests is ended by STOP, here and in a crossing, is the model's
order, log 19). At a good motor sample under a JOG the flag's edges are taken as R149 to R151 give, after the step; then
the crossing that lies OVERRUN past its edge with the flag inactive is ended by STOP, and a travel above SEARCH_SPAN
before that fails the search with FLAG_NOT_FOUND (R149 to R151, R161), unless a fault has ended it. -/
def Obligations.SearchMoves : Prop :=
  let jog (plus along : Bool) : DirKind := if plus = along then .jogPos else .jogNeg
  let past (plus : Bool) (point m : Int) : Int := if plus then m - point else point - m
  (∀ (c : Instr) (s t : State), (s.search.sub = .forward → s.search.e4 = none) → exec c s = .next t →
      t.search.sub = .forward → t.search.e4 = none)
    ∧ (∀ (now : Instant) (rest : List Byte) (s : State), Steady s → parameters 5 rest = some [] →
      s.phase = .reference → s.claim.state = .held → s.claim.dirState = .posted → s.claim.dir.kind = some .stop →
      s.reck.atRest = true → s.search.restartPending = false → s.search.returning = false →
      s.search.stage = .stopping →
        let posted (t : State) (along : Bool) : Prop :=
          if s.levels.alhHigh = true then
            t.claim.dirState = .posted ∧ t.claim.dir.kind = some (jog s.search.plus along)
              ∧ t.claim.dir.speed = some s.search.level ∧ t.search.moveStart = some s.reck.count
              ∧ t.search.stage = .underway
          else t.claim.dirState = .settled ∧ t.search.stage = .due
        ∃ t, exec (.directiveTake now rest) s = .next t
          ∧ (s.search.sub = .clear → t.search.sub = .forward ∧ posted t true ∧ t.search.e1 = none
              ∧ t.search.e2 = none ∧ t.search.e3 = none ∧ t.search.e4 = none ∧ t.search.chatter = 0
              ∧ t.search.passStart = some s.reck.count)
          ∧ (s.search.sub = .forward → t.search.sub = .reverse ∧ posted t false ∧ t.search.e1 = s.search.e1
              ∧ t.search.e2 = s.search.e2)
          ∧ (s.search.sub = .reverse → t.search.sub = .settle ∧ t.claim.dirState = .settled
              ∧ t.search.settleFirst = .running now.ms ((setupOf s).settleTime / 2))
          ∧ (s.search.sub = .park →
              t.phase = .ready ∧ t.search.sub = .none ∧ t.search.outcome = .completed
                ∧ t.search.parkOutcome = s.search.parkOutcome ∧ t.claim.state = .releasing
                ∧ t.claim.wanted = false ∧ claimFlag t = false ∧ t.link.queue.release = some .release
                ∧ t.port.attention.referenceDone = true))
    ∧ (∀ (now : Instant) (p : BitVec 16) (flag : Bool) (s : State), Steady s → s.phase = .reference →
        s.mark.captureRequested = false → s.reck.started = true → s.claim.state = .held →
        s.claim.dirState = .taken → s.claim.dir.kind = some .stop → s.search.stage = .stopping →
          let v := p.toNat % cprOf (setupOf s)
          let d := unwrapStep (cprOf (setupOf s)) v (s.reck.lastGood.getD v)
          let m := s.reck.count + d
          let edgesGone (t : State) : Prop :=
            t.search.e1 = none ∧ t.search.e2 = none ∧ t.search.e3 = none ∧ t.search.e4 = none
          let posted (t : State) (along : Bool) : Prop :=
            if s.levels.alhHigh = true then
              t.claim.dirState = .posted ∧ t.claim.dir.kind = some (jog s.search.plus along)
                ∧ t.claim.dir.speed = some s.search.level ∧ t.search.moveStart = some m
                ∧ t.search.stage = .underway
            else t.claim.dirState = .settled ∧ t.search.stage = .due
          let newPass (t : State) : Prop :=
            t.search.sub = .forward ∧ posted t true ∧ edgesGone t ∧ t.search.chatter = 0
              ∧ t.search.passStart = some m
          let restarted (t : State) : Prop :=
            t.search.sub = .forward ∧ t.search.returning = false ∧ posted t true ∧ edgesGone t
              ∧ t.search.passStart = s.search.passStart
          let crossing : Prop := s.search.sub = .forward ∨ s.search.sub = .reverse
          4 * d.natAbs ≤ cprOf (setupOf s) → countInRange m = true →
            ∃ t, exec (.motorSample now (.good p) flag) s = .next t ∧ t.reck.count = m
              ∧ (t.reck.atRest = false →
                  t.claim.dirState = .taken ∧ t.claim.dir = s.claim.dir ∧ t.search.stage = .stopping
                    ∧ (s.search.sub ≠ .waitPrereq → t.search.sub = s.search.sub))
              ∧ (t.reck.atRest = true → s.search.restartPending = false →
                  (s.search.sub = .clear → newPass t)
                    ∧ (s.search.sub = .forward → s.search.returning = false →
                        t.search.sub = .reverse ∧ t.search.e1 = s.search.e1 ∧ t.search.e2 = s.search.e2
                          ∧ (s.search.e4 = none → posted t false))
                    ∧ (s.search.sub = .reverse → s.search.returning = false →
                        t.search.sub = .settle ∧ t.claim.dirState = .settled
                          ∧ t.search.settleFirst = .running now.ms ((setupOf s).settleTime / 2))
                    ∧ (crossing → s.search.returning = true → restarted t)
                    ∧ (s.search.sub = .park →
                        t.phase = .ready ∧ t.search.sub = .none ∧ t.search.outcome = .completed
                          ∧ t.search.parkOutcome = s.search.parkOutcome ∧ t.claim.state = .releasing
                          ∧ t.link.queue.release = some .release ∧ t.port.attention.referenceDone = true))
              ∧ (t.reck.atRest = true → s.search.restartPending = true → s.levels.alhHigh = true →
                  (s.search.sub = .clear →
                      if flag = true then t.search.sub = .clear ∧ posted t false ∧ t.search.clearPoint = none
                      else newPass t)
                    ∧ ∀ q, crossing → s.search.passStart = some q →
                        t.search.restartPending = false
                          ∧ if 0 < past s.search.plus q m then
                              t.search.sub = s.search.sub ∧ t.search.returning = true ∧ posted t false
                                ∧ t.search.passStart = some q
                            else restarted t)
              ∧ (t.reck.atRest = true → s.search.restartPending = true → s.levels.alhHigh = false →
                  t.search.restartPending = true ∧ t.claim.dirState = .settled
                    ∧ (s.search.sub ≠ .waitPrereq → t.search.sub = s.search.sub)))
    ∧ (∀ (now : Instant) (p : BitVec 16) (flag : Bool) (s : State) (q : Int), Steady s → s.phase = .reference →
        s.mark.captureRequested = false → s.reck.started = true → s.search.stage = .underway →
        s.search.returning = true → moving s = true → s.search.sub = .forward ∨ s.search.sub = .reverse →
        s.search.passStart = some q →
          let v := p.toNat % cprOf (setupOf s)
          let d := unwrapStep (cprOf (setupOf s)) v (s.reck.lastGood.getD v)
          let m := s.reck.count + d
          let back : Prop := past s.search.plus q m ≤ 0
          let far : Prop :=
            ∃ r, s.search.moveStart = some r ∧ ((setupOf s).searchSpan : Int) < past (!s.search.plus) r m
          let noEntry : Prop := s.reck.saturated = true
            ∨ ∀ x, formedAngle { s with reck := { s.reck with count := m } } = some x → angleInRange x = true
          4 * d.natAbs ≤ cprOf (setupOf s) → countInRange m = true →
            ∃ t, exec (.motorSample now (.good p) flag) s = .next t ∧ t.reck.count = m
              ∧ t.search.e1 = s.search.e1 ∧ t.search.e2 = s.search.e2 ∧ t.search.e3 = s.search.e3
              ∧ t.search.e4 = s.search.e4 ∧ t.search.passStart = some q
              ∧ (t.phase ≠ .faulted →
                  (back → t.search.sub = s.search.sub ∧ t.search.returning = true ∧ t.search.stage = .stopping
                      ∧ stopCurrent t = true)
                    ∧ (¬ back → far →
                        t.search.sub = .none ∧ t.search.outcome = .failed .flagNotFound ∧ t.phase = .ready
                          ∧ (s.fault.record.locked = false → noEntry →
                              t.fault.record.cause = some (.note .referenceFail) ∧ t.fault.record.a = 2
                                ∧ t.fault.record.b = (subCode s.search.sub : Int)))
                    ∧ (¬ back → ¬ far →
                        t.search.sub = s.search.sub ∧ t.search.returning = true ∧ t.search.stage = .underway
                          ∧ moving t = true)))
    ∧ ∀ (now : Instant) (p : BitVec 16) (flag : Bool) (s : State), Steady s → s.phase = .reference →
        p.toNat < cprOf (setupOf s) → s.mark.captureRequested = false → s.reck.started = true →
        s.search.stage = .underway → s.search.returning = false → moving s = true →
          let d := unwrapStep (cprOf (setupOf s)) p.toNat (s.reck.lastGood.getD p.toNat)
          let m := s.reck.count + d
          let rose : Bool := decide (s.sensor.flagLevel = some false) && flag
          let fell : Bool := decide (s.sensor.flagLevel = some true) && !flag
          let plus := s.search.plus
          let first (e : Option Int) : Option Int := if rose ∧ e = none then some m else e
          let last (e f : Option Int) : Option Int := if fell ∧ e ≠ none then some m else f
          4 * d.natAbs ≤ cprOf (setupOf s) → countInRange m = true →
            ∃ t, exec (.motorSample now (.good p) flag) s = .next t ∧ t.reck.count = m
              ∧ (let judged (along : Bool) (edge : Option Int) : Prop :=
                  let done : Prop :=
                    ∃ q, edge = some q ∧ flag = false ∧ ((setupOf s).overrun : Int) ≤ past (plus == along) q m
                  let far : Prop :=
                    ∃ q, s.search.moveStart = some q ∧ ((setupOf s).searchSpan : Int) < past (plus == along) q m
                  t.phase ≠ .faulted →
                    (done → t.search.sub = s.search.sub ∧ t.search.stage = .stopping ∧ stopCurrent t = true)
                      ∧ (¬ done → far →
                        t.search.sub = .none ∧ t.search.outcome = .failed .flagNotFound ∧ t.phase = .ready)
                      ∧ (¬ done → ¬ far →
                        t.search.sub = s.search.sub ∧ t.search.stage = .underway ∧ moving t = true)
                (s.search.sub = .clear →
                    t.search.clearPoint = (if fell then some m else s.search.clearPoint)
                      ∧ judged false t.search.clearPoint)
                  ∧ (s.search.sub = .forward →
                    t.search.e1 = first s.search.e1 ∧ t.search.e2 = last s.search.e1 s.search.e2
                      ∧ judged true t.search.e2)
                  ∧ (s.search.sub = .reverse →
                    t.search.e3 = first s.search.e3 ∧ t.search.e4 = last s.search.e3 s.search.e4
                      ∧ judged false t.search.e4))
end

