-- ==== Sys2Proof/Laws/State.lean ====
section
/-! SUPPORT. The queue of commands and the tables that are read and written by station or frame kind: what a read gives
after a write. -/

namespace Sys2Proof.Machine

/-! ### The queue of waiting commands -/

@[simp] theorem withPending_frame (s : State) (q : List Instr) :
    (s.withPending q).phase = s.phase ∧ (s.withPending q).ms = s.ms ∧ (s.withPending q).straps = s.straps
      ∧ (s.withPending q).levels = s.levels ∧ (s.withPending q).sensor = s.sensor ∧ (s.withPending q).reck = s.reck
      ∧ (s.withPending q).link = s.link ∧ (s.withPending q).peers = s.peers ∧ (s.withPending q).mark = s.mark
      ∧ (s.withPending q).store = s.store ∧ (s.withPending q).gradeUnit = s.gradeUnit
      ∧ (s.withPending q).claim = s.claim ∧ (s.withPending q).search = s.search ∧ (s.withPending q).zone = s.zone
      ∧ (s.withPending q).fault = s.fault ∧ (s.withPending q).port = s.port ∧ (s.withPending q).free = s.free :=
  ⟨rfl, rfl, rfl, rfl, rfl, rfl, rfl, rfl, rfl, rfl, rfl, rfl, rfl, rfl, rfl, rfl, rfl⟩

@[simp] theorem withPending_pending (s : State) (q : List Instr) : (s.withPending q).pending = q := rfl

@[simp] theorem withPending_withPending (s : State) (q r : List Instr) :
    (s.withPending q).withPending r = s.withPending r := rfl

@[simp] theorem withFetchWord_eq (s : State) (nbits w : Nat) : s.withFetchWord nbits w = s := rfl

/-! ### Tables by station -/

@[simp] theorem get_set_self {α : Type} (t : PerStation α) (k : Station) (a : α) : (t.set k a).get k = a := by
  cases k <;> rfl

theorem get_set_ne {α : Type} (t : PerStation α) (k j : Station) (a : α) (h : j ≠ k) :
    (t.set k a).get j = t.get j := by
  cases k <;> cases j <;> first | rfl | exact absurd rfl h

@[simp] theorem entry_setEntry_self (k : Station) (e : PeerEntry) (s : State) : entry (setEntry k e s) k = e :=
  get_set_self s.peers.entries k e

theorem entry_setEntry_ne (k j : Station) (e : PeerEntry) (s : State) (h : j ≠ k) :
    entry (setEntry k e s) j = entry s j := get_set_ne s.peers.entries k j e h

/-! ### The outgoing queue -/

@[simp] theorem queue_get_set_self {α : Type} (q : PerKind α) (k : FrameKind) (f : α) : (q.set k f).get k = f := by
  cases k <;> rfl

theorem queue_get_set_ne {α : Type} (q : PerKind α) (k j : FrameKind) (f : α) (h : j ≠ k) :
    (q.set k f).get j = q.get j := by
  cases k <;> cases j <;> first | rfl | exact absurd rfl h

theorem sendFrame_taken (f : Frame) (s : State) (h : queueTakes s.phase (frameKind f) = true) :
    (sendFrame f s).link.queue.get (frameKind f) = some f := by simp [sendFrame, h]

theorem sendFrame_discarded (f : Frame) (s : State) (h : queueTakes s.phase (frameKind f) = false) :
    sendFrame f s = s := by simp [sendFrame, h]

theorem sendFrame_other (f : Frame) (j : FrameKind) (s : State) (h : j ≠ frameKind f) :
    (sendFrame f s).link.queue.get j = s.link.queue.get j := by
  unfold sendFrame; split
  · exact queue_get_set_ne _ _ _ _ h
  · rfl

@[simp] theorem withdrawFrame_self (k : FrameKind) (s : State) : (withdrawFrame k s).link.queue.get k = none :=
  queue_get_set_self _ _ _

theorem withdrawFrame_other (k j : FrameKind) (s : State) (h : j ≠ k) :
    (withdrawFrame k s).link.queue.get j = s.link.queue.get j := queue_get_set_ne _ _ _ _ h

/-! ### The first-fault record -/

theorem raise_unlocked (c : FaultCause) (a b : Int) (st : Option Station) (s : State)
    (h : s.fault.record.locked = false) :
    (raise c a b st s).fault.record =
      { cause := some c, phase := some s.phase, station := st, a := faultValue a, b := faultValue b
        markNumber := s.mark.number, time := s.ms, locked := true, lost := 0, carried := false } := by
  simp [raise, h]

theorem raise_locked (c : FaultCause) (a b : Int) (st : Option Station) (s : State)
    (h : s.fault.record.locked = true) :
    (raise c a b st s).fault.record = { s.fault.record with lost := bump 255 s.fault.record.lost } := by
  simp [raise, h]

@[simp] theorem raise_attention (c : FaultCause) (a b : Int) (st : Option Station) (s : State) :
    (raise c a b st s).port.attention.fault = true := rfl

@[simp] theorem raise_leaves_locked (c : FaultCause) (a b : Int) (st : Option Station) (s : State) :
    (raise c a b st s).fault.record.locked = true := by
  unfold raise
  cases h : s.fault.record.locked <;> simp [h]

@[simp] theorem raise_stopSet (c : FaultCause) (a b : Int) (st : Option Station) (s : State) :
    (raise c a b st s).fault.stopSet = s.fault.stopSet := rfl

end Sys2Proof.Machine
end

