-- ==== Sys2Proof/Laws/Ops.lean ====
section
/-! SUPPORT. What the operations of Record, Reckon, StoreOps, GradeOps, ClaimOps and MarkOps leave unchanged: one frame
lemma for each. -/

set_option linter.unusedTactic false
set_option linter.unreachableTactic false
set_option linter.unnecessarySeqFocus false

namespace Sys2Proof.Machine

@[simp] theorem setImage_frame (k : Slot) (i : SlotImage) (st : Store) :
    (setImage k i st).cellsA = st.cellsA ∧ (setImage k i st).cellsB = st.cellsB
      ∧ (setImage k i st).cellsCal = st.cellsCal ∧ (setImage k i st).imageCal = st.imageCal
      ∧ (setImage k i st).scanDone = st.scanDone ∧ (setImage k i st).pendingCal = st.pendingCal
      ∧ (setImage k i st).pendingSnap = st.pendingSnap ∧ (setImage k i st).inFlight = st.inFlight
      ∧ (setImage k i st).calSeq = st.calSeq ∧ (setImage k i st).restRetry = st.restRetry
      ∧ (setImage k i st).finalWrite = st.finalWrite := by
  cases k <;> exact ⟨rfl, rfl, rfl, rfl, rfl, rfl, rfl, rfl, rfl, rfl, rfl⟩

/-! ### Record -/

@[simp] theorem raise_frame (c : FaultCause) (a b : Int) (st : Option Station) (s : State) :
    (raise c a b st s).phase = s.phase
      ∧ (raise c a b st s).ms = s.ms
      ∧ (raise c a b st s).straps = s.straps
      ∧ (raise c a b st s).levels = s.levels
      ∧ (raise c a b st s).sensor = s.sensor
      ∧ (raise c a b st s).reck = s.reck
      ∧ (raise c a b st s).link = s.link
      ∧ (raise c a b st s).peers = s.peers
      ∧ (raise c a b st s).mark = s.mark
      ∧ (raise c a b st s).store = s.store
      ∧ (raise c a b st s).gradeUnit = s.gradeUnit
      ∧ (raise c a b st s).claim = s.claim
      ∧ (raise c a b st s).search = s.search
      ∧ (raise c a b st s).zone = s.zone
      ∧ (raise c a b st s).free = s.free
      ∧ (raise c a b st s).pending = s.pending
      ∧ (raise c a b st s).fault.stopSet = s.fault.stopSet
      ∧ (raise c a b st s).port.setup = s.port.setup
      ∧ (raise c a b st s).port.frozen = s.port.frozen
      ∧ (raise c a b st s).port.tau = s.port.tau
      ∧ (raise c a b st s).port.span = s.port.span
      ∧ (raise c a b st s).port.slot = s.port.slot
      ∧ (raise c a b st s).port.shifted = s.port.shifted
      ∧ (raise c a b st s).port.lastEnd = s.port.lastEnd
      ∧ (raise c a b st s).port.changedPeers = s.port.changedPeers := by
  unfold raise
  refine ⟨?_, ?_, ?_, ?_, ?_, ?_, ?_, ?_, ?_, ?_, ?_, ?_, ?_, ?_, ?_, ?_, ?_, ?_, ?_, ?_, ?_, ?_, ?_, ?_, ?_⟩ <;>
    rfl

@[simp] theorem note_frame (c : NoteCause) (a b : Int) (s : State) :
    (note c a b s).phase = s.phase
      ∧ (note c a b s).ms = s.ms
      ∧ (note c a b s).straps = s.straps
      ∧ (note c a b s).levels = s.levels
      ∧ (note c a b s).sensor = s.sensor
      ∧ (note c a b s).reck = s.reck
      ∧ (note c a b s).link = s.link
      ∧ (note c a b s).peers = s.peers
      ∧ (note c a b s).mark = s.mark
      ∧ (note c a b s).store = s.store
      ∧ (note c a b s).gradeUnit = s.gradeUnit
      ∧ (note c a b s).claim = s.claim
      ∧ (note c a b s).search = s.search
      ∧ (note c a b s).zone = s.zone
      ∧ (note c a b s).free = s.free
      ∧ (note c a b s).pending = s.pending
      ∧ (note c a b s).fault.stopSet = s.fault.stopSet
      ∧ (note c a b s).port.setup = s.port.setup
      ∧ (note c a b s).port.frozen = s.port.frozen
      ∧ (note c a b s).port.tau = s.port.tau
      ∧ (note c a b s).port.span = s.port.span
      ∧ (note c a b s).port.slot = s.port.slot
      ∧ (note c a b s).port.shifted = s.port.shifted
      ∧ (note c a b s).port.lastEnd = s.port.lastEnd
      ∧ (note c a b s).port.changedPeers = s.port.changedPeers := by
  unfold note
  refine ⟨?_, ?_, ?_, ?_, ?_, ?_, ?_, ?_, ?_, ?_, ?_, ?_, ?_, ?_, ?_, ?_, ?_, ?_, ?_, ?_, ?_, ?_, ?_, ?_, ?_⟩ <;>
    rfl

@[simp] theorem noteOf_frame (k : Station) (c : NoteCause) (a b : Int) (s : State) :
    (noteOf k c a b s).phase = s.phase
      ∧ (noteOf k c a b s).ms = s.ms
      ∧ (noteOf k c a b s).straps = s.straps
      ∧ (noteOf k c a b s).levels = s.levels
      ∧ (noteOf k c a b s).sensor = s.sensor
      ∧ (noteOf k c a b s).reck = s.reck
      ∧ (noteOf k c a b s).link = s.link
      ∧ (noteOf k c a b s).peers = s.peers
      ∧ (noteOf k c a b s).mark = s.mark
      ∧ (noteOf k c a b s).store = s.store
      ∧ (noteOf k c a b s).gradeUnit = s.gradeUnit
      ∧ (noteOf k c a b s).claim = s.claim
      ∧ (noteOf k c a b s).search = s.search
      ∧ (noteOf k c a b s).zone = s.zone
      ∧ (noteOf k c a b s).free = s.free
      ∧ (noteOf k c a b s).pending = s.pending
      ∧ (noteOf k c a b s).fault.stopSet = s.fault.stopSet
      ∧ (noteOf k c a b s).port.setup = s.port.setup
      ∧ (noteOf k c a b s).port.frozen = s.port.frozen
      ∧ (noteOf k c a b s).port.tau = s.port.tau
      ∧ (noteOf k c a b s).port.span = s.port.span
      ∧ (noteOf k c a b s).port.slot = s.port.slot
      ∧ (noteOf k c a b s).port.shifted = s.port.shifted
      ∧ (noteOf k c a b s).port.lastEnd = s.port.lastEnd
      ∧ (noteOf k c a b s).port.changedPeers = s.port.changedPeers := by
  unfold noteOf
  refine ⟨?_, ?_, ?_, ?_, ?_, ?_, ?_, ?_, ?_, ?_, ?_, ?_, ?_, ?_, ?_, ?_, ?_, ?_, ?_, ?_, ?_, ?_, ?_, ?_, ?_⟩ <;>
    rfl

@[simp] theorem setDirectiveAttention_frame (v : Bool) (s : State) :
    (setDirectiveAttention v s).phase = s.phase
      ∧ (setDirectiveAttention v s).ms = s.ms
      ∧ (setDirectiveAttention v s).straps = s.straps
      ∧ (setDirectiveAttention v s).levels = s.levels
      ∧ (setDirectiveAttention v s).sensor = s.sensor
      ∧ (setDirectiveAttention v s).reck = s.reck
      ∧ (setDirectiveAttention v s).link = s.link
      ∧ (setDirectiveAttention v s).peers = s.peers
      ∧ (setDirectiveAttention v s).mark = s.mark
      ∧ (setDirectiveAttention v s).store = s.store
      ∧ (setDirectiveAttention v s).gradeUnit = s.gradeUnit
      ∧ (setDirectiveAttention v s).claim = s.claim
      ∧ (setDirectiveAttention v s).search = s.search
      ∧ (setDirectiveAttention v s).zone = s.zone
      ∧ (setDirectiveAttention v s).fault = s.fault
      ∧ (setDirectiveAttention v s).free = s.free
      ∧ (setDirectiveAttention v s).pending = s.pending
      ∧ (setDirectiveAttention v s).port.setup = s.port.setup
      ∧ (setDirectiveAttention v s).port.frozen = s.port.frozen
      ∧ (setDirectiveAttention v s).port.tau = s.port.tau
      ∧ (setDirectiveAttention v s).port.span = s.port.span
      ∧ (setDirectiveAttention v s).port.slot = s.port.slot
      ∧ (setDirectiveAttention v s).port.shifted = s.port.shifted
      ∧ (setDirectiveAttention v s).port.lastEnd = s.port.lastEnd
      ∧ (setDirectiveAttention v s).port.changedPeers = s.port.changedPeers := by
  unfold setDirectiveAttention
  refine ⟨?_, ?_, ?_, ?_, ?_, ?_, ?_, ?_, ?_, ?_, ?_, ?_, ?_, ?_, ?_, ?_, ?_, ?_, ?_, ?_, ?_, ?_, ?_, ?_, ?_⟩ <;>
    rfl

@[simp] theorem setGradeAttention_frame (s : State) :
    (setGradeAttention s).phase = s.phase
      ∧ (setGradeAttention s).ms = s.ms
      ∧ (setGradeAttention s).straps = s.straps
      ∧ (setGradeAttention s).levels = s.levels
      ∧ (setGradeAttention s).sensor = s.sensor
      ∧ (setGradeAttention s).reck = s.reck
      ∧ (setGradeAttention s).link = s.link
      ∧ (setGradeAttention s).peers = s.peers
      ∧ (setGradeAttention s).mark = s.mark
      ∧ (setGradeAttention s).store = s.store
      ∧ (setGradeAttention s).gradeUnit = s.gradeUnit
      ∧ (setGradeAttention s).claim = s.claim
      ∧ (setGradeAttention s).search = s.search
      ∧ (setGradeAttention s).zone = s.zone
      ∧ (setGradeAttention s).fault = s.fault
      ∧ (setGradeAttention s).free = s.free
      ∧ (setGradeAttention s).pending = s.pending
      ∧ (setGradeAttention s).port.setup = s.port.setup
      ∧ (setGradeAttention s).port.frozen = s.port.frozen
      ∧ (setGradeAttention s).port.tau = s.port.tau
      ∧ (setGradeAttention s).port.span = s.port.span
      ∧ (setGradeAttention s).port.slot = s.port.slot
      ∧ (setGradeAttention s).port.shifted = s.port.shifted
      ∧ (setGradeAttention s).port.lastEnd = s.port.lastEnd
      ∧ (setGradeAttention s).port.changedPeers = s.port.changedPeers := by
  unfold setGradeAttention
  refine ⟨?_, ?_, ?_, ?_, ?_, ?_, ?_, ?_, ?_, ?_, ?_, ?_, ?_, ?_, ?_, ?_, ?_, ?_, ?_, ?_, ?_, ?_, ?_, ?_, ?_⟩ <;>
    rfl

@[simp] theorem setMarkAttention_frame (s : State) :
    (setMarkAttention s).phase = s.phase
      ∧ (setMarkAttention s).ms = s.ms
      ∧ (setMarkAttention s).straps = s.straps
      ∧ (setMarkAttention s).levels = s.levels
      ∧ (setMarkAttention s).sensor = s.sensor
      ∧ (setMarkAttention s).reck = s.reck
      ∧ (setMarkAttention s).link = s.link
      ∧ (setMarkAttention s).peers = s.peers
      ∧ (setMarkAttention s).mark = s.mark
      ∧ (setMarkAttention s).store = s.store
      ∧ (setMarkAttention s).gradeUnit = s.gradeUnit
      ∧ (setMarkAttention s).claim = s.claim
      ∧ (setMarkAttention s).search = s.search
      ∧ (setMarkAttention s).zone = s.zone
      ∧ (setMarkAttention s).fault = s.fault
      ∧ (setMarkAttention s).free = s.free
      ∧ (setMarkAttention s).pending = s.pending
      ∧ (setMarkAttention s).port.setup = s.port.setup
      ∧ (setMarkAttention s).port.frozen = s.port.frozen
      ∧ (setMarkAttention s).port.tau = s.port.tau
      ∧ (setMarkAttention s).port.span = s.port.span
      ∧ (setMarkAttention s).port.slot = s.port.slot
      ∧ (setMarkAttention s).port.shifted = s.port.shifted
      ∧ (setMarkAttention s).port.lastEnd = s.port.lastEnd
      ∧ (setMarkAttention s).port.changedPeers = s.port.changedPeers := by
  unfold setMarkAttention
  refine ⟨?_, ?_, ?_, ?_, ?_, ?_, ?_, ?_, ?_, ?_, ?_, ?_, ?_, ?_, ?_, ?_, ?_, ?_, ?_, ?_, ?_, ?_, ?_, ?_, ?_⟩ <;>
    rfl

@[simp] theorem setDoneAttention_frame (s : State) :
    (setDoneAttention s).phase = s.phase
      ∧ (setDoneAttention s).ms = s.ms
      ∧ (setDoneAttention s).straps = s.straps
      ∧ (setDoneAttention s).levels = s.levels
      ∧ (setDoneAttention s).sensor = s.sensor
      ∧ (setDoneAttention s).reck = s.reck
      ∧ (setDoneAttention s).link = s.link
      ∧ (setDoneAttention s).peers = s.peers
      ∧ (setDoneAttention s).mark = s.mark
      ∧ (setDoneAttention s).store = s.store
      ∧ (setDoneAttention s).gradeUnit = s.gradeUnit
      ∧ (setDoneAttention s).claim = s.claim
      ∧ (setDoneAttention s).search = s.search
      ∧ (setDoneAttention s).zone = s.zone
      ∧ (setDoneAttention s).fault = s.fault
      ∧ (setDoneAttention s).free = s.free
      ∧ (setDoneAttention s).pending = s.pending
      ∧ (setDoneAttention s).port.setup = s.port.setup
      ∧ (setDoneAttention s).port.frozen = s.port.frozen
      ∧ (setDoneAttention s).port.tau = s.port.tau
      ∧ (setDoneAttention s).port.span = s.port.span
      ∧ (setDoneAttention s).port.slot = s.port.slot
      ∧ (setDoneAttention s).port.shifted = s.port.shifted
      ∧ (setDoneAttention s).port.lastEnd = s.port.lastEnd
      ∧ (setDoneAttention s).port.changedPeers = s.port.changedPeers := by
  unfold setDoneAttention
  refine ⟨?_, ?_, ?_, ?_, ?_, ?_, ?_, ?_, ?_, ?_, ?_, ?_, ?_, ?_, ?_, ?_, ?_, ?_, ?_, ?_, ?_, ?_, ?_, ?_, ?_⟩ <;>
    rfl

@[simp] theorem addChangedPeer_frame (k : Station) (s : State) :
    (addChangedPeer k s).phase = s.phase
      ∧ (addChangedPeer k s).ms = s.ms
      ∧ (addChangedPeer k s).straps = s.straps
      ∧ (addChangedPeer k s).levels = s.levels
      ∧ (addChangedPeer k s).sensor = s.sensor
      ∧ (addChangedPeer k s).reck = s.reck
      ∧ (addChangedPeer k s).link = s.link
      ∧ (addChangedPeer k s).peers = s.peers
      ∧ (addChangedPeer k s).mark = s.mark
      ∧ (addChangedPeer k s).store = s.store
      ∧ (addChangedPeer k s).gradeUnit = s.gradeUnit
      ∧ (addChangedPeer k s).claim = s.claim
      ∧ (addChangedPeer k s).search = s.search
      ∧ (addChangedPeer k s).zone = s.zone
      ∧ (addChangedPeer k s).fault = s.fault
      ∧ (addChangedPeer k s).free = s.free
      ∧ (addChangedPeer k s).pending = s.pending
      ∧ (addChangedPeer k s).port.setup = s.port.setup
      ∧ (addChangedPeer k s).port.frozen = s.port.frozen
      ∧ (addChangedPeer k s).port.tau = s.port.tau
      ∧ (addChangedPeer k s).port.span = s.port.span
      ∧ (addChangedPeer k s).port.slot = s.port.slot
      ∧ (addChangedPeer k s).port.shifted = s.port.shifted
      ∧ (addChangedPeer k s).port.lastEnd = s.port.lastEnd
      ∧ (addChangedPeer k s).port.attention = s.port.attention := by
  unfold addChangedPeer
  refine ⟨?_, ?_, ?_, ?_, ?_, ?_, ?_, ?_, ?_, ?_, ?_, ?_, ?_, ?_, ?_, ?_, ?_, ?_, ?_, ?_, ?_, ?_, ?_, ?_, ?_⟩ <;>
    rfl

@[simp] theorem sendFrame_frame (f : Frame) (s : State) :
    (sendFrame f s).phase = s.phase
      ∧ (sendFrame f s).ms = s.ms
      ∧ (sendFrame f s).straps = s.straps
      ∧ (sendFrame f s).levels = s.levels
      ∧ (sendFrame f s).sensor = s.sensor
      ∧ (sendFrame f s).reck = s.reck
      ∧ (sendFrame f s).peers = s.peers
      ∧ (sendFrame f s).mark = s.mark
      ∧ (sendFrame f s).store = s.store
      ∧ (sendFrame f s).gradeUnit = s.gradeUnit
      ∧ (sendFrame f s).claim = s.claim
      ∧ (sendFrame f s).search = s.search
      ∧ (sendFrame f s).zone = s.zone
      ∧ (sendFrame f s).fault = s.fault
      ∧ (sendFrame f s).port = s.port
      ∧ (sendFrame f s).free = s.free
      ∧ (sendFrame f s).pending = s.pending
      ∧ (sendFrame f s).link.bitErrors = s.link.bitErrors
      ∧ (sendFrame f s).link.txErrors = s.link.txErrors
      ∧ (sendFrame f s).link.rxErrors = s.link.rxErrors
      ∧ (sendFrame f s).link.txFail = s.link.txFail
      ∧ (sendFrame f s).link.lastDuplicate = s.link.lastDuplicate
      ∧ (sendFrame f s).link.heartbeat = s.link.heartbeat := by
  unfold sendFrame
  refine ⟨?_, ?_, ?_, ?_, ?_, ?_, ?_, ?_, ?_, ?_, ?_, ?_, ?_, ?_, ?_, ?_, ?_, ?_, ?_, ?_, ?_, ?_, ?_⟩ <;>
    (repeat' split) <;> rfl

@[simp] theorem withdrawFrame_frame (k : FrameKind) (s : State) :
    (withdrawFrame k s).phase = s.phase
      ∧ (withdrawFrame k s).ms = s.ms
      ∧ (withdrawFrame k s).straps = s.straps
      ∧ (withdrawFrame k s).levels = s.levels
      ∧ (withdrawFrame k s).sensor = s.sensor
      ∧ (withdrawFrame k s).reck = s.reck
      ∧ (withdrawFrame k s).peers = s.peers
      ∧ (withdrawFrame k s).mark = s.mark
      ∧ (withdrawFrame k s).store = s.store
      ∧ (withdrawFrame k s).gradeUnit = s.gradeUnit
      ∧ (withdrawFrame k s).claim = s.claim
      ∧ (withdrawFrame k s).search = s.search
      ∧ (withdrawFrame k s).zone = s.zone
      ∧ (withdrawFrame k s).fault = s.fault
      ∧ (withdrawFrame k s).port = s.port
      ∧ (withdrawFrame k s).free = s.free
      ∧ (withdrawFrame k s).pending = s.pending
      ∧ (withdrawFrame k s).link.line = s.link.line
      ∧ (withdrawFrame k s).link.bitErrors = s.link.bitErrors
      ∧ (withdrawFrame k s).link.txErrors = s.link.txErrors
      ∧ (withdrawFrame k s).link.rxErrors = s.link.rxErrors
      ∧ (withdrawFrame k s).link.txFail = s.link.txFail
      ∧ (withdrawFrame k s).link.lastDuplicate = s.link.lastDuplicate
      ∧ (withdrawFrame k s).link.heartbeat = s.link.heartbeat := by
  unfold withdrawFrame
  refine ⟨?_, ?_, ?_, ?_, ?_, ?_, ?_, ?_, ?_, ?_, ?_, ?_, ?_, ?_, ?_, ?_, ?_, ?_, ?_, ?_, ?_, ?_, ?_, ?_⟩ <;>
    rfl

@[simp] theorem queueStatus_frame (s : State) :
    (queueStatus s).phase = s.phase
      ∧ (queueStatus s).ms = s.ms
      ∧ (queueStatus s).straps = s.straps
      ∧ (queueStatus s).levels = s.levels
      ∧ (queueStatus s).sensor = s.sensor
      ∧ (queueStatus s).reck = s.reck
      ∧ (queueStatus s).peers = s.peers
      ∧ (queueStatus s).mark = s.mark
      ∧ (queueStatus s).store = s.store
      ∧ (queueStatus s).gradeUnit = s.gradeUnit
      ∧ (queueStatus s).claim = s.claim
      ∧ (queueStatus s).search = s.search
      ∧ (queueStatus s).zone = s.zone
      ∧ (queueStatus s).fault = s.fault
      ∧ (queueStatus s).port = s.port
      ∧ (queueStatus s).free = s.free
      ∧ (queueStatus s).pending = s.pending
      ∧ (queueStatus s).link.bitErrors = s.link.bitErrors
      ∧ (queueStatus s).link.txErrors = s.link.txErrors
      ∧ (queueStatus s).link.rxErrors = s.link.rxErrors
      ∧ (queueStatus s).link.txFail = s.link.txFail
      ∧ (queueStatus s).link.lastDuplicate = s.link.lastDuplicate
      ∧ (queueStatus s).link.heartbeat = s.link.heartbeat := by
  unfold queueStatus
  refine ⟨?_, ?_, ?_, ?_, ?_, ?_, ?_, ?_, ?_, ?_, ?_, ?_, ?_, ?_, ?_, ?_, ?_, ?_, ?_, ?_, ?_, ?_, ?_⟩ <;>
    simp

/-! ### Reckon -/

@[simp] theorem recomputeTheta_frame (s : State) :
    (recomputeTheta s).phase = s.phase
      ∧ (recomputeTheta s).ms = s.ms
      ∧ (recomputeTheta s).straps = s.straps
      ∧ (recomputeTheta s).levels = s.levels
      ∧ (recomputeTheta s).sensor = s.sensor
      ∧ (recomputeTheta s).link = s.link
      ∧ (recomputeTheta s).peers = s.peers
      ∧ (recomputeTheta s).mark = s.mark
      ∧ (recomputeTheta s).store = s.store
      ∧ (recomputeTheta s).gradeUnit = s.gradeUnit
      ∧ (recomputeTheta s).claim = s.claim
      ∧ (recomputeTheta s).search = s.search
      ∧ (recomputeTheta s).zone = s.zone
      ∧ (recomputeTheta s).free = s.free
      ∧ (recomputeTheta s).pending = s.pending
      ∧ (recomputeTheta s).reck.count = s.reck.count
      ∧ (recomputeTheta s).reck.started = s.reck.started
      ∧ (recomputeTheta s).reck.lastGood = s.reck.lastGood
      ∧ (recomputeTheta s).reck.held = s.reck.held
      ∧ (recomputeTheta s).reck.turnOffset = s.reck.turnOffset
      ∧ (recomputeTheta s).reck.theta0 = s.reck.theta0
      ∧ (recomputeTheta s).reck.sigma = s.reck.sigma
      ∧ (recomputeTheta s).reck.calibrated = s.reck.calibrated
      ∧ (recomputeTheta s).reck.lambda = s.reck.lambda
      ∧ (recomputeTheta s).reck.basis = s.reck.basis
      ∧ (recomputeTheta s).reck.thetaScale = s.reck.thetaScale
      ∧ (recomputeTheta s).reck.anchor = s.reck.anchor
      ∧ (recomputeTheta s).reck.atRest = s.reck.atRest
      ∧ (recomputeTheta s).reck.drift = s.reck.drift
      ∧ (recomputeTheta s).fault.stopSet = s.fault.stopSet
      ∧ (recomputeTheta s).port.setup = s.port.setup
      ∧ (recomputeTheta s).port.frozen = s.port.frozen
      ∧ (recomputeTheta s).port.tau = s.port.tau
      ∧ (recomputeTheta s).port.span = s.port.span
      ∧ (recomputeTheta s).port.slot = s.port.slot
      ∧ (recomputeTheta s).port.shifted = s.port.shifted
      ∧ (recomputeTheta s).port.lastEnd = s.port.lastEnd
      ∧ (recomputeTheta s).port.changedPeers = s.port.changedPeers := by
  unfold recomputeTheta
  refine ⟨?_, ?_, ?_, ?_, ?_, ?_, ?_, ?_, ?_, ?_, ?_, ?_, ?_, ?_, ?_, ?_, ?_, ?_, ?_, ?_, ?_, ?_, ?_, ?_, ?_, ?_,
    ?_, ?_, ?_, ?_, ?_, ?_, ?_, ?_, ?_, ?_, ?_, ?_⟩ <;>
    (repeat' split) <;> rfl

@[simp] theorem recomputeScale_frame (s : State) :
    (recomputeScale s).phase = s.phase
      ∧ (recomputeScale s).ms = s.ms
      ∧ (recomputeScale s).straps = s.straps
      ∧ (recomputeScale s).levels = s.levels
      ∧ (recomputeScale s).sensor = s.sensor
      ∧ (recomputeScale s).link = s.link
      ∧ (recomputeScale s).peers = s.peers
      ∧ (recomputeScale s).mark = s.mark
      ∧ (recomputeScale s).store = s.store
      ∧ (recomputeScale s).gradeUnit = s.gradeUnit
      ∧ (recomputeScale s).claim = s.claim
      ∧ (recomputeScale s).search = s.search
      ∧ (recomputeScale s).zone = s.zone
      ∧ (recomputeScale s).free = s.free
      ∧ (recomputeScale s).pending = s.pending
      ∧ (recomputeScale s).reck.count = s.reck.count
      ∧ (recomputeScale s).reck.started = s.reck.started
      ∧ (recomputeScale s).reck.lastGood = s.reck.lastGood
      ∧ (recomputeScale s).reck.held = s.reck.held
      ∧ (recomputeScale s).reck.turnOffset = s.reck.turnOffset
      ∧ (recomputeScale s).reck.theta0 = s.reck.theta0
      ∧ (recomputeScale s).reck.sigma = s.reck.sigma
      ∧ (recomputeScale s).reck.calibrated = s.reck.calibrated
      ∧ (recomputeScale s).reck.lambda = s.reck.lambda
      ∧ (recomputeScale s).reck.basis = s.reck.basis
      ∧ (recomputeScale s).reck.anchor = s.reck.anchor
      ∧ (recomputeScale s).reck.atRest = s.reck.atRest
      ∧ (recomputeScale s).reck.drift = s.reck.drift
      ∧ (recomputeScale s).fault.stopSet = s.fault.stopSet
      ∧ (recomputeScale s).port.setup = s.port.setup
      ∧ (recomputeScale s).port.frozen = s.port.frozen
      ∧ (recomputeScale s).port.tau = s.port.tau
      ∧ (recomputeScale s).port.span = s.port.span
      ∧ (recomputeScale s).port.slot = s.port.slot
      ∧ (recomputeScale s).port.shifted = s.port.shifted
      ∧ (recomputeScale s).port.lastEnd = s.port.lastEnd
      ∧ (recomputeScale s).port.changedPeers = s.port.changedPeers := by
  unfold recomputeScale
  refine ⟨?_, ?_, ?_, ?_, ?_, ?_, ?_, ?_, ?_, ?_, ?_, ?_, ?_, ?_, ?_, ?_, ?_, ?_, ?_, ?_, ?_, ?_, ?_, ?_, ?_, ?_,
    ?_, ?_, ?_, ?_, ?_, ?_, ?_, ?_, ?_, ?_, ?_⟩ <;>
    (dsimp only; (repeat' split) <;> first | rfl | simp)

@[simp] theorem setLambda_frame (v : Int) (s : State) :
    (setLambda v s).phase = s.phase
      ∧ (setLambda v s).ms = s.ms
      ∧ (setLambda v s).straps = s.straps
      ∧ (setLambda v s).levels = s.levels
      ∧ (setLambda v s).sensor = s.sensor
      ∧ (setLambda v s).link = s.link
      ∧ (setLambda v s).peers = s.peers
      ∧ (setLambda v s).mark = s.mark
      ∧ (setLambda v s).store = s.store
      ∧ (setLambda v s).gradeUnit = s.gradeUnit
      ∧ (setLambda v s).claim = s.claim
      ∧ (setLambda v s).search = s.search
      ∧ (setLambda v s).zone = s.zone
      ∧ (setLambda v s).free = s.free
      ∧ (setLambda v s).pending = s.pending
      ∧ (setLambda v s).reck.count = s.reck.count
      ∧ (setLambda v s).reck.started = s.reck.started
      ∧ (setLambda v s).reck.lastGood = s.reck.lastGood
      ∧ (setLambda v s).reck.held = s.reck.held
      ∧ (setLambda v s).reck.turnOffset = s.reck.turnOffset
      ∧ (setLambda v s).reck.theta0 = s.reck.theta0
      ∧ (setLambda v s).reck.sigma = s.reck.sigma
      ∧ (setLambda v s).reck.calibrated = s.reck.calibrated
      ∧ (setLambda v s).reck.basis = s.reck.basis
      ∧ (setLambda v s).reck.thetaScale = s.reck.thetaScale
      ∧ (setLambda v s).reck.anchor = s.reck.anchor
      ∧ (setLambda v s).reck.atRest = s.reck.atRest
      ∧ (setLambda v s).reck.drift = s.reck.drift
      ∧ (setLambda v s).fault.stopSet = s.fault.stopSet
      ∧ (setLambda v s).port.setup = s.port.setup
      ∧ (setLambda v s).port.frozen = s.port.frozen
      ∧ (setLambda v s).port.tau = s.port.tau
      ∧ (setLambda v s).port.span = s.port.span
      ∧ (setLambda v s).port.slot = s.port.slot
      ∧ (setLambda v s).port.shifted = s.port.shifted
      ∧ (setLambda v s).port.lastEnd = s.port.lastEnd
      ∧ (setLambda v s).port.changedPeers = s.port.changedPeers := by
  unfold setLambda
  refine ⟨?_, ?_, ?_, ?_, ?_, ?_, ?_, ?_, ?_, ?_, ?_, ?_, ?_, ?_, ?_, ?_, ?_, ?_, ?_, ?_, ?_, ?_, ?_, ?_, ?_, ?_,
    ?_, ?_, ?_, ?_, ?_, ?_, ?_, ?_, ?_, ?_, ?_⟩ <;>
    first | rfl | ((try dsimp only); (repeat' split) <;> first | rfl | simp | simp_all)

@[simp] theorem setSigma_frame (v : Int) (s : State) :
    (setSigma v s).phase = s.phase
      ∧ (setSigma v s).ms = s.ms
      ∧ (setSigma v s).straps = s.straps
      ∧ (setSigma v s).levels = s.levels
      ∧ (setSigma v s).sensor = s.sensor
      ∧ (setSigma v s).link = s.link
      ∧ (setSigma v s).peers = s.peers
      ∧ (setSigma v s).mark = s.mark
      ∧ (setSigma v s).store = s.store
      ∧ (setSigma v s).gradeUnit = s.gradeUnit
      ∧ (setSigma v s).claim = s.claim
      ∧ (setSigma v s).search = s.search
      ∧ (setSigma v s).zone = s.zone
      ∧ (setSigma v s).free = s.free
      ∧ (setSigma v s).pending = s.pending
      ∧ (setSigma v s).reck.count = s.reck.count
      ∧ (setSigma v s).reck.started = s.reck.started
      ∧ (setSigma v s).reck.lastGood = s.reck.lastGood
      ∧ (setSigma v s).reck.held = s.reck.held
      ∧ (setSigma v s).reck.turnOffset = s.reck.turnOffset
      ∧ (setSigma v s).reck.theta0 = s.reck.theta0
      ∧ (setSigma v s).reck.calibrated = s.reck.calibrated
      ∧ (setSigma v s).reck.lambda = s.reck.lambda
      ∧ (setSigma v s).reck.basis = s.reck.basis
      ∧ (setSigma v s).reck.anchor = s.reck.anchor
      ∧ (setSigma v s).reck.atRest = s.reck.atRest
      ∧ (setSigma v s).reck.drift = s.reck.drift
      ∧ (setSigma v s).fault.stopSet = s.fault.stopSet
      ∧ (setSigma v s).port.setup = s.port.setup
      ∧ (setSigma v s).port.frozen = s.port.frozen
      ∧ (setSigma v s).port.tau = s.port.tau
      ∧ (setSigma v s).port.span = s.port.span
      ∧ (setSigma v s).port.slot = s.port.slot
      ∧ (setSigma v s).port.shifted = s.port.shifted
      ∧ (setSigma v s).port.lastEnd = s.port.lastEnd
      ∧ (setSigma v s).port.changedPeers = s.port.changedPeers := by
  unfold setSigma
  split
  · exact ⟨rfl, rfl, rfl, rfl, rfl, rfl, rfl, rfl, rfl, rfl, rfl, rfl, rfl, rfl, rfl, rfl, rfl, rfl, rfl, rfl, rfl, rfl,
      rfl, rfl, rfl, rfl, rfl, rfl, rfl, rfl, rfl, rfl, rfl, rfl, rfl, rfl⟩
  · simp

@[simp] theorem takeCalibration_frame (theta0 sigma : Int) (marker : Bool) (s : State) :
    (takeCalibration theta0 sigma marker s).phase = s.phase
      ∧ (takeCalibration theta0 sigma marker s).ms = s.ms
      ∧ (takeCalibration theta0 sigma marker s).straps = s.straps
      ∧ (takeCalibration theta0 sigma marker s).levels = s.levels
      ∧ (takeCalibration theta0 sigma marker s).sensor = s.sensor
      ∧ (takeCalibration theta0 sigma marker s).link = s.link
      ∧ (takeCalibration theta0 sigma marker s).peers = s.peers
      ∧ (takeCalibration theta0 sigma marker s).mark = s.mark
      ∧ (takeCalibration theta0 sigma marker s).store = s.store
      ∧ (takeCalibration theta0 sigma marker s).gradeUnit = s.gradeUnit
      ∧ (takeCalibration theta0 sigma marker s).claim = s.claim
      ∧ (takeCalibration theta0 sigma marker s).search = s.search
      ∧ (takeCalibration theta0 sigma marker s).zone = s.zone
      ∧ (takeCalibration theta0 sigma marker s).free = s.free
      ∧ (takeCalibration theta0 sigma marker s).pending = s.pending
      ∧ (takeCalibration theta0 sigma marker s).reck.count = s.reck.count
      ∧ (takeCalibration theta0 sigma marker s).reck.started = s.reck.started
      ∧ (takeCalibration theta0 sigma marker s).reck.lastGood = s.reck.lastGood
      ∧ (takeCalibration theta0 sigma marker s).reck.held = s.reck.held
      ∧ (takeCalibration theta0 sigma marker s).reck.turnOffset = s.reck.turnOffset
      ∧ (takeCalibration theta0 sigma marker s).reck.lambda = s.reck.lambda
      ∧ (takeCalibration theta0 sigma marker s).reck.basis = s.reck.basis
      ∧ (takeCalibration theta0 sigma marker s).reck.anchor = s.reck.anchor
      ∧ (takeCalibration theta0 sigma marker s).reck.atRest = s.reck.atRest
      ∧ (takeCalibration theta0 sigma marker s).fault.stopSet = s.fault.stopSet
      ∧ (takeCalibration theta0 sigma marker s).port.setup = s.port.setup
      ∧ (takeCalibration theta0 sigma marker s).port.frozen = s.port.frozen
      ∧ (takeCalibration theta0 sigma marker s).port.tau = s.port.tau
      ∧ (takeCalibration theta0 sigma marker s).port.span = s.port.span
      ∧ (takeCalibration theta0 sigma marker s).port.slot = s.port.slot
      ∧ (takeCalibration theta0 sigma marker s).port.shifted = s.port.shifted
      ∧ (takeCalibration theta0 sigma marker s).port.lastEnd = s.port.lastEnd
      ∧ (takeCalibration theta0 sigma marker s).port.changedPeers = s.port.changedPeers := by
  unfold takeCalibration
  refine ⟨?_, ?_, ?_, ?_, ?_, ?_, ?_, ?_, ?_, ?_, ?_, ?_, ?_, ?_, ?_, ?_, ?_, ?_, ?_, ?_, ?_, ?_, ?_, ?_, ?_, ?_,
    ?_, ?_, ?_, ?_, ?_, ?_, ?_⟩ <;>
    first | rfl | ((try dsimp only); (repeat' split) <;> first | rfl | simp | simp_all)

@[simp] theorem unstartCount_frame (s : State) :
    (unstartCount s).phase = s.phase
      ∧ (unstartCount s).ms = s.ms
      ∧ (unstartCount s).straps = s.straps
      ∧ (unstartCount s).levels = s.levels
      ∧ (unstartCount s).sensor = s.sensor
      ∧ (unstartCount s).link = s.link
      ∧ (unstartCount s).peers = s.peers
      ∧ (unstartCount s).mark = s.mark
      ∧ (unstartCount s).gradeUnit = s.gradeUnit
      ∧ (unstartCount s).claim = s.claim
      ∧ (unstartCount s).search = s.search
      ∧ (unstartCount s).zone = s.zone
      ∧ (unstartCount s).free = s.free
      ∧ (unstartCount s).pending = s.pending
      ∧ (unstartCount s).reck.theta0 = s.reck.theta0
      ∧ (unstartCount s).reck.sigma = s.reck.sigma
      ∧ (unstartCount s).reck.calibrated = s.reck.calibrated
      ∧ (unstartCount s).reck.lambda = s.reck.lambda
      ∧ (unstartCount s).reck.basis = s.reck.basis
      ∧ (unstartCount s).reck.thetaScale = s.reck.thetaScale
      ∧ (unstartCount s).store.cellsA = s.store.cellsA
      ∧ (unstartCount s).store.cellsB = s.store.cellsB
      ∧ (unstartCount s).store.cellsCal = s.store.cellsCal
      ∧ (unstartCount s).store.imageA = s.store.imageA
      ∧ (unstartCount s).store.imageB = s.store.imageB
      ∧ (unstartCount s).store.imageCal = s.store.imageCal
      ∧ (unstartCount s).store.calSeq = s.store.calSeq
      ∧ (unstartCount s).store.inFlight = s.store.inFlight
      ∧ (unstartCount s).store.pendingSnap = s.store.pendingSnap
      ∧ (unstartCount s).store.pendingCal = s.store.pendingCal
      ∧ (unstartCount s).store.scanDone = s.store.scanDone
      ∧ (unstartCount s).fault.stopSet = s.fault.stopSet
      ∧ (unstartCount s).port.setup = s.port.setup
      ∧ (unstartCount s).port.frozen = s.port.frozen
      ∧ (unstartCount s).port.tau = s.port.tau
      ∧ (unstartCount s).port.span = s.port.span
      ∧ (unstartCount s).port.slot = s.port.slot
      ∧ (unstartCount s).port.shifted = s.port.shifted
      ∧ (unstartCount s).port.lastEnd = s.port.lastEnd
      ∧ (unstartCount s).port.changedPeers = s.port.changedPeers := by
  unfold unstartCount
  refine ⟨?_, ?_, ?_, ?_, ?_, ?_, ?_, ?_, ?_, ?_, ?_, ?_, ?_, ?_, ?_, ?_, ?_, ?_, ?_, ?_, ?_, ?_, ?_, ?_, ?_, ?_,
    ?_, ?_, ?_, ?_, ?_, ?_, ?_, ?_, ?_, ?_, ?_, ?_, ?_, ?_⟩ <;>
    first | rfl | ((try dsimp only); (repeat' split) <;> first | rfl | simp | simp_all)

@[simp] theorem applyOffset_frame (delta : Int) (s : State) :
    (applyOffset delta s).phase = s.phase
      ∧ (applyOffset delta s).ms = s.ms
      ∧ (applyOffset delta s).straps = s.straps
      ∧ (applyOffset delta s).levels = s.levels
      ∧ (applyOffset delta s).sensor = s.sensor
      ∧ (applyOffset delta s).link = s.link
      ∧ (applyOffset delta s).peers = s.peers
      ∧ (applyOffset delta s).mark = s.mark
      ∧ (applyOffset delta s).store = s.store
      ∧ (applyOffset delta s).search = s.search
      ∧ (applyOffset delta s).zone = s.zone
      ∧ (applyOffset delta s).free = s.free
      ∧ (applyOffset delta s).pending = s.pending
      ∧ (applyOffset delta s).reck.started = s.reck.started
      ∧ (applyOffset delta s).reck.lastGood = s.reck.lastGood
      ∧ (applyOffset delta s).reck.theta0 = s.reck.theta0
      ∧ (applyOffset delta s).reck.sigma = s.reck.sigma
      ∧ (applyOffset delta s).reck.calibrated = s.reck.calibrated
      ∧ (applyOffset delta s).reck.lambda = s.reck.lambda
      ∧ (applyOffset delta s).reck.basis = s.reck.basis
      ∧ (applyOffset delta s).reck.thetaScale = s.reck.thetaScale
      ∧ (applyOffset delta s).reck.atRest = s.reck.atRest
      ∧ (applyOffset delta s).gradeUnit.grade = s.gradeUnit.grade
      ∧ (applyOffset delta s).gradeUnit.sub = s.gradeUnit.sub
      ∧ (applyOffset delta s).gradeUnit.readPending = s.gradeUnit.readPending
      ∧ (applyOffset delta s).gradeUnit.held = s.gradeUnit.held
      ∧ (applyOffset delta s).gradeUnit.leadReport = s.gradeUnit.leadReport
      ∧ (applyOffset delta s).gradeUnit.candidates = s.gradeUnit.candidates
      ∧ (applyOffset delta s).gradeUnit.chosen = s.gradeUnit.chosen
      ∧ (applyOffset delta s).claim.state = s.claim.state
      ∧ (applyOffset delta s).claim.wanted = s.claim.wanted
      ∧ (applyOffset delta s).claim.purpose = s.claim.purpose
      ∧ (applyOffset delta s).claim.dirState = s.claim.dirState
      ∧ (applyOffset delta s).claim.dir = s.claim.dir
      ∧ (applyOffset delta s).claim.lastNumber = s.claim.lastNumber
      ∧ (applyOffset delta s).claim.untakenOpen = s.claim.untakenOpen
      ∧ (applyOffset delta s).claim.untakenTimer = s.claim.untakenTimer
      ∧ (applyOffset delta s).claim.allowance = s.claim.allowance
      ∧ (applyOffset delta s).fault.stopSet = s.fault.stopSet
      ∧ (applyOffset delta s).port.setup = s.port.setup
      ∧ (applyOffset delta s).port.frozen = s.port.frozen
      ∧ (applyOffset delta s).port.tau = s.port.tau
      ∧ (applyOffset delta s).port.span = s.port.span
      ∧ (applyOffset delta s).port.slot = s.port.slot
      ∧ (applyOffset delta s).port.shifted = s.port.shifted
      ∧ (applyOffset delta s).port.lastEnd = s.port.lastEnd
      ∧ (applyOffset delta s).port.changedPeers = s.port.changedPeers := by
  unfold applyOffset
  refine ⟨?_, ?_, ?_, ?_, ?_, ?_, ?_, ?_, ?_, ?_, ?_, ?_, ?_, ?_, ?_, ?_, ?_, ?_, ?_, ?_, ?_, ?_, ?_, ?_, ?_, ?_,
    ?_, ?_, ?_, ?_, ?_, ?_, ?_, ?_, ?_, ?_, ?_, ?_, ?_, ?_, ?_, ?_, ?_, ?_, ?_, ?_, ?_⟩ <;>
    first | rfl | ((try dsimp only); (repeat' split) <;> first | rfl | simp | simp_all)

/-! ### StoreOps -/

@[simp] theorem putSnapshot_frame (r : SnapRequest) (s : State) :
    (putSnapshot r s).phase = s.phase
      ∧ (putSnapshot r s).ms = s.ms
      ∧ (putSnapshot r s).straps = s.straps
      ∧ (putSnapshot r s).levels = s.levels
      ∧ (putSnapshot r s).sensor = s.sensor
      ∧ (putSnapshot r s).reck = s.reck
      ∧ (putSnapshot r s).link = s.link
      ∧ (putSnapshot r s).peers = s.peers
      ∧ (putSnapshot r s).mark = s.mark
      ∧ (putSnapshot r s).gradeUnit = s.gradeUnit
      ∧ (putSnapshot r s).claim = s.claim
      ∧ (putSnapshot r s).zone = s.zone
      ∧ (putSnapshot r s).fault = s.fault
      ∧ (putSnapshot r s).port = s.port
      ∧ (putSnapshot r s).free = s.free
      ∧ (putSnapshot r s).pending = s.pending
      ∧ (putSnapshot r s).store.cellsA = s.store.cellsA
      ∧ (putSnapshot r s).store.cellsB = s.store.cellsB
      ∧ (putSnapshot r s).store.cellsCal = s.store.cellsCal
      ∧ (putSnapshot r s).store.imageA = s.store.imageA
      ∧ (putSnapshot r s).store.imageB = s.store.imageB
      ∧ (putSnapshot r s).store.imageCal = s.store.imageCal
      ∧ (putSnapshot r s).store.calSeq = s.store.calSeq
      ∧ (putSnapshot r s).store.inFlight = s.store.inFlight
      ∧ (putSnapshot r s).store.pendingCal = s.store.pendingCal
      ∧ (putSnapshot r s).store.scanDone = s.store.scanDone
      ∧ (putSnapshot r s).search.sub = s.search.sub
      ∧ (putSnapshot r s).search.leadHold = s.search.leadHold
      ∧ (putSnapshot r s).search.outcome = s.search.outcome
      ∧ (putSnapshot r s).search.passes = s.search.passes
      ∧ (putSnapshot r s).search.level = s.search.level
      ∧ (putSnapshot r s).search.total = s.search.total
      ∧ (putSnapshot r s).search.plus = s.search.plus
      ∧ (putSnapshot r s).search.stage = s.search.stage := by
  unfold putSnapshot
  refine ⟨?_, ?_, ?_, ?_, ?_, ?_, ?_, ?_, ?_, ?_, ?_, ?_, ?_, ?_, ?_, ?_, ?_, ?_, ?_, ?_, ?_, ?_, ?_, ?_, ?_, ?_,
    ?_, ?_, ?_, ?_, ?_, ?_, ?_, ?_⟩ <;>
    rfl

@[simp] theorem requestSnapshot_frame (cause : SnapCause) (wanted : SnapState) (s : State) :
    (requestSnapshot cause wanted s).phase = s.phase
      ∧ (requestSnapshot cause wanted s).ms = s.ms
      ∧ (requestSnapshot cause wanted s).straps = s.straps
      ∧ (requestSnapshot cause wanted s).levels = s.levels
      ∧ (requestSnapshot cause wanted s).sensor = s.sensor
      ∧ (requestSnapshot cause wanted s).reck = s.reck
      ∧ (requestSnapshot cause wanted s).link = s.link
      ∧ (requestSnapshot cause wanted s).peers = s.peers
      ∧ (requestSnapshot cause wanted s).mark = s.mark
      ∧ (requestSnapshot cause wanted s).gradeUnit = s.gradeUnit
      ∧ (requestSnapshot cause wanted s).claim = s.claim
      ∧ (requestSnapshot cause wanted s).zone = s.zone
      ∧ (requestSnapshot cause wanted s).fault = s.fault
      ∧ (requestSnapshot cause wanted s).port = s.port
      ∧ (requestSnapshot cause wanted s).free = s.free
      ∧ (requestSnapshot cause wanted s).pending = s.pending
      ∧ (requestSnapshot cause wanted s).store.cellsA = s.store.cellsA
      ∧ (requestSnapshot cause wanted s).store.cellsB = s.store.cellsB
      ∧ (requestSnapshot cause wanted s).store.cellsCal = s.store.cellsCal
      ∧ (requestSnapshot cause wanted s).store.imageA = s.store.imageA
      ∧ (requestSnapshot cause wanted s).store.imageB = s.store.imageB
      ∧ (requestSnapshot cause wanted s).store.imageCal = s.store.imageCal
      ∧ (requestSnapshot cause wanted s).store.calSeq = s.store.calSeq
      ∧ (requestSnapshot cause wanted s).store.inFlight = s.store.inFlight
      ∧ (requestSnapshot cause wanted s).store.pendingCal = s.store.pendingCal
      ∧ (requestSnapshot cause wanted s).store.scanDone = s.store.scanDone
      ∧ (requestSnapshot cause wanted s).search.sub = s.search.sub
      ∧ (requestSnapshot cause wanted s).search.leadHold = s.search.leadHold
      ∧ (requestSnapshot cause wanted s).search.outcome = s.search.outcome
      ∧ (requestSnapshot cause wanted s).search.passes = s.search.passes
      ∧ (requestSnapshot cause wanted s).search.level = s.search.level
      ∧ (requestSnapshot cause wanted s).search.total = s.search.total
      ∧ (requestSnapshot cause wanted s).search.plus = s.search.plus
      ∧ (requestSnapshot cause wanted s).search.stage = s.search.stage := by
  unfold requestSnapshot
  refine ⟨?_, ?_, ?_, ?_, ?_, ?_, ?_, ?_, ?_, ?_, ?_, ?_, ?_, ?_, ?_, ?_, ?_, ?_, ?_, ?_, ?_, ?_, ?_, ?_, ?_, ?_,
    ?_, ?_, ?_, ?_, ?_, ?_, ?_, ?_⟩ <;>
    (repeat' split) <;> rfl

@[simp] theorem startWrite_frame (s : State) :
    (startWrite s).phase = s.phase
      ∧ (startWrite s).ms = s.ms
      ∧ (startWrite s).straps = s.straps
      ∧ (startWrite s).levels = s.levels
      ∧ (startWrite s).sensor = s.sensor
      ∧ (startWrite s).reck = s.reck
      ∧ (startWrite s).link = s.link
      ∧ (startWrite s).peers = s.peers
      ∧ (startWrite s).mark = s.mark
      ∧ (startWrite s).gradeUnit = s.gradeUnit
      ∧ (startWrite s).claim = s.claim
      ∧ (startWrite s).search = s.search
      ∧ (startWrite s).zone = s.zone
      ∧ (startWrite s).fault = s.fault
      ∧ (startWrite s).port = s.port
      ∧ (startWrite s).free = s.free
      ∧ (startWrite s).pending = s.pending
      ∧ (startWrite s).store.cellsA = s.store.cellsA
      ∧ (startWrite s).store.cellsB = s.store.cellsB
      ∧ (startWrite s).store.cellsCal = s.store.cellsCal
      ∧ (startWrite s).store.calSeq = s.store.calSeq
      ∧ (startWrite s).store.scanDone = s.store.scanDone := by
  unfold startWrite
  refine ⟨?_, ?_, ?_, ?_, ?_, ?_, ?_, ?_, ?_, ?_, ?_, ?_, ?_, ?_, ?_, ?_, ?_, ?_, ?_, ?_, ?_, ?_⟩ <;>
    (repeat' split) <;> simp

@[simp] theorem restTrigger_frame (s : State) :
    (restTrigger s).phase = s.phase
      ∧ (restTrigger s).ms = s.ms
      ∧ (restTrigger s).straps = s.straps
      ∧ (restTrigger s).levels = s.levels
      ∧ (restTrigger s).sensor = s.sensor
      ∧ (restTrigger s).reck = s.reck
      ∧ (restTrigger s).link = s.link
      ∧ (restTrigger s).peers = s.peers
      ∧ (restTrigger s).mark = s.mark
      ∧ (restTrigger s).gradeUnit = s.gradeUnit
      ∧ (restTrigger s).claim = s.claim
      ∧ (restTrigger s).zone = s.zone
      ∧ (restTrigger s).fault = s.fault
      ∧ (restTrigger s).port = s.port
      ∧ (restTrigger s).free = s.free
      ∧ (restTrigger s).pending = s.pending
      ∧ (restTrigger s).store.cellsA = s.store.cellsA
      ∧ (restTrigger s).store.cellsB = s.store.cellsB
      ∧ (restTrigger s).store.cellsCal = s.store.cellsCal
      ∧ (restTrigger s).store.imageA = s.store.imageA
      ∧ (restTrigger s).store.imageB = s.store.imageB
      ∧ (restTrigger s).store.imageCal = s.store.imageCal
      ∧ (restTrigger s).store.calSeq = s.store.calSeq
      ∧ (restTrigger s).store.inFlight = s.store.inFlight
      ∧ (restTrigger s).store.pendingCal = s.store.pendingCal
      ∧ (restTrigger s).store.scanDone = s.store.scanDone
      ∧ (restTrigger s).search.sub = s.search.sub
      ∧ (restTrigger s).search.leadHold = s.search.leadHold
      ∧ (restTrigger s).search.outcome = s.search.outcome
      ∧ (restTrigger s).search.passes = s.search.passes
      ∧ (restTrigger s).search.level = s.search.level
      ∧ (restTrigger s).search.total = s.search.total
      ∧ (restTrigger s).search.plus = s.search.plus
      ∧ (restTrigger s).search.stage = s.search.stage := by
  unfold restTrigger
  refine ⟨?_, ?_, ?_, ?_, ?_, ?_, ?_, ?_, ?_, ?_, ?_, ?_, ?_, ?_, ?_, ?_, ?_, ?_, ?_, ?_, ?_, ?_, ?_, ?_, ?_, ?_,
    ?_, ?_, ?_, ?_, ?_, ?_, ?_, ?_⟩ <;>
    (repeat' split) <;> simp

/-! ### GradeOps -/

@[simp] theorem setBasis_frame (b : Basis) (s : State) :
    (setBasis b s).phase = s.phase
      ∧ (setBasis b s).ms = s.ms
      ∧ (setBasis b s).straps = s.straps
      ∧ (setBasis b s).levels = s.levels
      ∧ (setBasis b s).sensor = s.sensor
      ∧ (setBasis b s).link = s.link
      ∧ (setBasis b s).peers = s.peers
      ∧ (setBasis b s).mark = s.mark
      ∧ (setBasis b s).store = s.store
      ∧ (setBasis b s).gradeUnit = s.gradeUnit
      ∧ (setBasis b s).claim = s.claim
      ∧ (setBasis b s).search = s.search
      ∧ (setBasis b s).zone = s.zone
      ∧ (setBasis b s).free = s.free
      ∧ (setBasis b s).pending = s.pending
      ∧ (setBasis b s).reck.count = s.reck.count
      ∧ (setBasis b s).reck.started = s.reck.started
      ∧ (setBasis b s).reck.lastGood = s.reck.lastGood
      ∧ (setBasis b s).reck.held = s.reck.held
      ∧ (setBasis b s).reck.turnOffset = s.reck.turnOffset
      ∧ (setBasis b s).reck.theta0 = s.reck.theta0
      ∧ (setBasis b s).reck.sigma = s.reck.sigma
      ∧ (setBasis b s).reck.calibrated = s.reck.calibrated
      ∧ (setBasis b s).reck.lambda = s.reck.lambda
      ∧ (setBasis b s).reck.thetaScale = s.reck.thetaScale
      ∧ (setBasis b s).reck.anchor = s.reck.anchor
      ∧ (setBasis b s).reck.atRest = s.reck.atRest
      ∧ (setBasis b s).fault.stopSet = s.fault.stopSet
      ∧ (setBasis b s).port.setup = s.port.setup
      ∧ (setBasis b s).port.frozen = s.port.frozen
      ∧ (setBasis b s).port.tau = s.port.tau
      ∧ (setBasis b s).port.span = s.port.span
      ∧ (setBasis b s).port.slot = s.port.slot
      ∧ (setBasis b s).port.shifted = s.port.shifted
      ∧ (setBasis b s).port.lastEnd = s.port.lastEnd
      ∧ (setBasis b s).port.changedPeers = s.port.changedPeers := by
  unfold setBasis
  refine ⟨?_, ?_, ?_, ?_, ?_, ?_, ?_, ?_, ?_, ?_, ?_, ?_, ?_, ?_, ?_, ?_, ?_, ?_, ?_, ?_, ?_, ?_, ?_, ?_, ?_, ?_,
    ?_, ?_, ?_, ?_, ?_, ?_, ?_, ?_, ?_, ?_⟩ <;>
    (repeat' split) <;> simp

@[simp] theorem putGrade_frame (g : Grade) (s : State) :
    (putGrade g s).phase = s.phase
      ∧ (putGrade g s).ms = s.ms
      ∧ (putGrade g s).straps = s.straps
      ∧ (putGrade g s).levels = s.levels
      ∧ (putGrade g s).sensor = s.sensor
      ∧ (putGrade g s).reck = s.reck
      ∧ (putGrade g s).link = s.link
      ∧ (putGrade g s).peers = s.peers
      ∧ (putGrade g s).mark = s.mark
      ∧ (putGrade g s).claim = s.claim
      ∧ (putGrade g s).search = s.search
      ∧ (putGrade g s).zone = s.zone
      ∧ (putGrade g s).fault = s.fault
      ∧ (putGrade g s).free = s.free
      ∧ (putGrade g s).pending = s.pending
      ∧ (putGrade g s).store.cellsA = s.store.cellsA
      ∧ (putGrade g s).store.cellsB = s.store.cellsB
      ∧ (putGrade g s).store.cellsCal = s.store.cellsCal
      ∧ (putGrade g s).store.imageA = s.store.imageA
      ∧ (putGrade g s).store.imageB = s.store.imageB
      ∧ (putGrade g s).store.imageCal = s.store.imageCal
      ∧ (putGrade g s).store.calSeq = s.store.calSeq
      ∧ (putGrade g s).store.inFlight = s.store.inFlight
      ∧ (putGrade g s).store.pendingSnap = s.store.pendingSnap
      ∧ (putGrade g s).store.pendingCal = s.store.pendingCal
      ∧ (putGrade g s).store.scanDone = s.store.scanDone
      ∧ (putGrade g s).gradeUnit.sub = s.gradeUnit.sub
      ∧ (putGrade g s).gradeUnit.readPending = s.gradeUnit.readPending
      ∧ (putGrade g s).gradeUnit.held = s.gradeUnit.held
      ∧ (putGrade g s).gradeUnit.leadReport = s.gradeUnit.leadReport
      ∧ (putGrade g s).gradeUnit.candidates = s.gradeUnit.candidates
      ∧ (putGrade g s).gradeUnit.chosen = s.gradeUnit.chosen
      ∧ (putGrade g s).port.setup = s.port.setup
      ∧ (putGrade g s).port.frozen = s.port.frozen
      ∧ (putGrade g s).port.tau = s.port.tau
      ∧ (putGrade g s).port.span = s.port.span
      ∧ (putGrade g s).port.slot = s.port.slot
      ∧ (putGrade g s).port.shifted = s.port.shifted
      ∧ (putGrade g s).port.lastEnd = s.port.lastEnd
      ∧ (putGrade g s).port.changedPeers = s.port.changedPeers := by
  unfold putGrade
  refine ⟨?_, ?_, ?_, ?_, ?_, ?_, ?_, ?_, ?_, ?_, ?_, ?_, ?_, ?_, ?_, ?_, ?_, ?_, ?_, ?_, ?_, ?_, ?_, ?_, ?_, ?_,
    ?_, ?_, ?_, ?_, ?_, ?_, ?_, ?_, ?_, ?_, ?_, ?_, ?_, ?_⟩ <;>
    (repeat' split) <;> rfl

@[simp] theorem setGradeBasis_frame (g : Grade) (b : Basis) (s : State) :
    (setGradeBasis g b s).phase = s.phase
      ∧ (setGradeBasis g b s).ms = s.ms
      ∧ (setGradeBasis g b s).straps = s.straps
      ∧ (setGradeBasis g b s).levels = s.levels
      ∧ (setGradeBasis g b s).sensor = s.sensor
      ∧ (setGradeBasis g b s).link = s.link
      ∧ (setGradeBasis g b s).peers = s.peers
      ∧ (setGradeBasis g b s).mark = s.mark
      ∧ (setGradeBasis g b s).claim = s.claim
      ∧ (setGradeBasis g b s).zone = s.zone
      ∧ (setGradeBasis g b s).free = s.free
      ∧ (setGradeBasis g b s).pending = s.pending
      ∧ (setGradeBasis g b s).reck.count = s.reck.count
      ∧ (setGradeBasis g b s).reck.started = s.reck.started
      ∧ (setGradeBasis g b s).reck.lastGood = s.reck.lastGood
      ∧ (setGradeBasis g b s).reck.held = s.reck.held
      ∧ (setGradeBasis g b s).reck.turnOffset = s.reck.turnOffset
      ∧ (setGradeBasis g b s).reck.theta0 = s.reck.theta0
      ∧ (setGradeBasis g b s).reck.sigma = s.reck.sigma
      ∧ (setGradeBasis g b s).reck.calibrated = s.reck.calibrated
      ∧ (setGradeBasis g b s).reck.lambda = s.reck.lambda
      ∧ (setGradeBasis g b s).reck.thetaScale = s.reck.thetaScale
      ∧ (setGradeBasis g b s).reck.anchor = s.reck.anchor
      ∧ (setGradeBasis g b s).reck.atRest = s.reck.atRest
      ∧ (setGradeBasis g b s).store.cellsA = s.store.cellsA
      ∧ (setGradeBasis g b s).store.cellsB = s.store.cellsB
      ∧ (setGradeBasis g b s).store.cellsCal = s.store.cellsCal
      ∧ (setGradeBasis g b s).store.imageA = s.store.imageA
      ∧ (setGradeBasis g b s).store.imageB = s.store.imageB
      ∧ (setGradeBasis g b s).store.imageCal = s.store.imageCal
      ∧ (setGradeBasis g b s).store.calSeq = s.store.calSeq
      ∧ (setGradeBasis g b s).store.inFlight = s.store.inFlight
      ∧ (setGradeBasis g b s).store.pendingCal = s.store.pendingCal
      ∧ (setGradeBasis g b s).store.scanDone = s.store.scanDone
      ∧ (setGradeBasis g b s).gradeUnit.sub = s.gradeUnit.sub
      ∧ (setGradeBasis g b s).gradeUnit.readPending = s.gradeUnit.readPending
      ∧ (setGradeBasis g b s).gradeUnit.held = s.gradeUnit.held
      ∧ (setGradeBasis g b s).gradeUnit.leadReport = s.gradeUnit.leadReport
      ∧ (setGradeBasis g b s).gradeUnit.candidates = s.gradeUnit.candidates
      ∧ (setGradeBasis g b s).gradeUnit.chosen = s.gradeUnit.chosen
      ∧ (setGradeBasis g b s).search.sub = s.search.sub
      ∧ (setGradeBasis g b s).search.leadHold = s.search.leadHold
      ∧ (setGradeBasis g b s).search.outcome = s.search.outcome
      ∧ (setGradeBasis g b s).search.passes = s.search.passes
      ∧ (setGradeBasis g b s).search.level = s.search.level
      ∧ (setGradeBasis g b s).search.total = s.search.total
      ∧ (setGradeBasis g b s).search.plus = s.search.plus
      ∧ (setGradeBasis g b s).search.stage = s.search.stage
      ∧ (setGradeBasis g b s).fault.stopSet = s.fault.stopSet
      ∧ (setGradeBasis g b s).port.setup = s.port.setup
      ∧ (setGradeBasis g b s).port.frozen = s.port.frozen
      ∧ (setGradeBasis g b s).port.tau = s.port.tau
      ∧ (setGradeBasis g b s).port.span = s.port.span
      ∧ (setGradeBasis g b s).port.slot = s.port.slot
      ∧ (setGradeBasis g b s).port.shifted = s.port.shifted
      ∧ (setGradeBasis g b s).port.lastEnd = s.port.lastEnd
      ∧ (setGradeBasis g b s).port.changedPeers = s.port.changedPeers := by
  unfold setGradeBasis
  refine ⟨?_, ?_, ?_, ?_, ?_, ?_, ?_, ?_, ?_, ?_, ?_, ?_, ?_, ?_, ?_, ?_, ?_, ?_, ?_, ?_, ?_, ?_, ?_, ?_, ?_, ?_,
    ?_, ?_, ?_, ?_, ?_, ?_, ?_, ?_, ?_, ?_, ?_, ?_, ?_, ?_, ?_, ?_, ?_, ?_, ?_, ?_, ?_, ?_, ?_, ?_, ?_, ?_, ?_, ?_,
    ?_, ?_, ?_⟩ <;>
    (repeat' split) <;> simp

@[simp] theorem setGrade_frame (g : Grade) (b : Basis) (s : State) :
    (setGrade g b s).phase = s.phase
      ∧ (setGrade g b s).ms = s.ms
      ∧ (setGrade g b s).straps = s.straps
      ∧ (setGrade g b s).levels = s.levels
      ∧ (setGrade g b s).sensor = s.sensor
      ∧ (setGrade g b s).link = s.link
      ∧ (setGrade g b s).peers = s.peers
      ∧ (setGrade g b s).mark = s.mark
      ∧ (setGrade g b s).claim = s.claim
      ∧ (setGrade g b s).zone = s.zone
      ∧ (setGrade g b s).free = s.free
      ∧ (setGrade g b s).pending = s.pending
      ∧ (setGrade g b s).reck.count = s.reck.count
      ∧ (setGrade g b s).reck.started = s.reck.started
      ∧ (setGrade g b s).reck.lastGood = s.reck.lastGood
      ∧ (setGrade g b s).reck.held = s.reck.held
      ∧ (setGrade g b s).reck.turnOffset = s.reck.turnOffset
      ∧ (setGrade g b s).reck.theta0 = s.reck.theta0
      ∧ (setGrade g b s).reck.sigma = s.reck.sigma
      ∧ (setGrade g b s).reck.calibrated = s.reck.calibrated
      ∧ (setGrade g b s).reck.lambda = s.reck.lambda
      ∧ (setGrade g b s).reck.thetaScale = s.reck.thetaScale
      ∧ (setGrade g b s).reck.anchor = s.reck.anchor
      ∧ (setGrade g b s).reck.atRest = s.reck.atRest
      ∧ (setGrade g b s).store.cellsA = s.store.cellsA
      ∧ (setGrade g b s).store.cellsB = s.store.cellsB
      ∧ (setGrade g b s).store.cellsCal = s.store.cellsCal
      ∧ (setGrade g b s).store.imageA = s.store.imageA
      ∧ (setGrade g b s).store.imageB = s.store.imageB
      ∧ (setGrade g b s).store.imageCal = s.store.imageCal
      ∧ (setGrade g b s).store.calSeq = s.store.calSeq
      ∧ (setGrade g b s).store.inFlight = s.store.inFlight
      ∧ (setGrade g b s).store.pendingCal = s.store.pendingCal
      ∧ (setGrade g b s).store.scanDone = s.store.scanDone
      ∧ (setGrade g b s).gradeUnit.sub = s.gradeUnit.sub
      ∧ (setGrade g b s).gradeUnit.readPending = s.gradeUnit.readPending
      ∧ (setGrade g b s).gradeUnit.held = s.gradeUnit.held
      ∧ (setGrade g b s).gradeUnit.leadReport = s.gradeUnit.leadReport
      ∧ (setGrade g b s).gradeUnit.candidates = s.gradeUnit.candidates
      ∧ (setGrade g b s).gradeUnit.chosen = s.gradeUnit.chosen
      ∧ (setGrade g b s).search.sub = s.search.sub
      ∧ (setGrade g b s).search.leadHold = s.search.leadHold
      ∧ (setGrade g b s).search.outcome = s.search.outcome
      ∧ (setGrade g b s).search.passes = s.search.passes
      ∧ (setGrade g b s).search.level = s.search.level
      ∧ (setGrade g b s).search.total = s.search.total
      ∧ (setGrade g b s).search.plus = s.search.plus
      ∧ (setGrade g b s).search.stage = s.search.stage
      ∧ (setGrade g b s).fault.stopSet = s.fault.stopSet
      ∧ (setGrade g b s).port.setup = s.port.setup
      ∧ (setGrade g b s).port.frozen = s.port.frozen
      ∧ (setGrade g b s).port.tau = s.port.tau
      ∧ (setGrade g b s).port.span = s.port.span
      ∧ (setGrade g b s).port.slot = s.port.slot
      ∧ (setGrade g b s).port.shifted = s.port.shifted
      ∧ (setGrade g b s).port.lastEnd = s.port.lastEnd
      ∧ (setGrade g b s).port.changedPeers = s.port.changedPeers :=
  setGradeBasis_frame g (basisFor g b) s

@[simp] theorem gradeFall_frame (c : StopCause) (s : State) :
    (gradeFall c s).phase = s.phase
      ∧ (gradeFall c s).ms = s.ms
      ∧ (gradeFall c s).straps = s.straps
      ∧ (gradeFall c s).levels = s.levels
      ∧ (gradeFall c s).sensor = s.sensor
      ∧ (gradeFall c s).link = s.link
      ∧ (gradeFall c s).peers = s.peers
      ∧ (gradeFall c s).mark = s.mark
      ∧ (gradeFall c s).claim = s.claim
      ∧ (gradeFall c s).zone = s.zone
      ∧ (gradeFall c s).free = s.free
      ∧ (gradeFall c s).pending = s.pending
      ∧ (gradeFall c s).reck.count = s.reck.count
      ∧ (gradeFall c s).reck.started = s.reck.started
      ∧ (gradeFall c s).reck.lastGood = s.reck.lastGood
      ∧ (gradeFall c s).reck.held = s.reck.held
      ∧ (gradeFall c s).reck.turnOffset = s.reck.turnOffset
      ∧ (gradeFall c s).reck.theta0 = s.reck.theta0
      ∧ (gradeFall c s).reck.sigma = s.reck.sigma
      ∧ (gradeFall c s).reck.calibrated = s.reck.calibrated
      ∧ (gradeFall c s).reck.lambda = s.reck.lambda
      ∧ (gradeFall c s).reck.thetaScale = s.reck.thetaScale
      ∧ (gradeFall c s).reck.anchor = s.reck.anchor
      ∧ (gradeFall c s).reck.atRest = s.reck.atRest
      ∧ (gradeFall c s).store.cellsA = s.store.cellsA
      ∧ (gradeFall c s).store.cellsB = s.store.cellsB
      ∧ (gradeFall c s).store.cellsCal = s.store.cellsCal
      ∧ (gradeFall c s).store.imageA = s.store.imageA
      ∧ (gradeFall c s).store.imageB = s.store.imageB
      ∧ (gradeFall c s).store.imageCal = s.store.imageCal
      ∧ (gradeFall c s).store.calSeq = s.store.calSeq
      ∧ (gradeFall c s).store.inFlight = s.store.inFlight
      ∧ (gradeFall c s).store.pendingCal = s.store.pendingCal
      ∧ (gradeFall c s).store.scanDone = s.store.scanDone
      ∧ (gradeFall c s).gradeUnit.sub = s.gradeUnit.sub
      ∧ (gradeFall c s).gradeUnit.readPending = s.gradeUnit.readPending
      ∧ (gradeFall c s).gradeUnit.held = s.gradeUnit.held
      ∧ (gradeFall c s).gradeUnit.leadReport = s.gradeUnit.leadReport
      ∧ (gradeFall c s).gradeUnit.candidates = s.gradeUnit.candidates
      ∧ (gradeFall c s).gradeUnit.chosen = s.gradeUnit.chosen
      ∧ (gradeFall c s).search.sub = s.search.sub
      ∧ (gradeFall c s).search.leadHold = s.search.leadHold
      ∧ (gradeFall c s).search.outcome = s.search.outcome
      ∧ (gradeFall c s).search.passes = s.search.passes
      ∧ (gradeFall c s).search.level = s.search.level
      ∧ (gradeFall c s).search.total = s.search.total
      ∧ (gradeFall c s).search.plus = s.search.plus
      ∧ (gradeFall c s).search.stage = s.search.stage
      ∧ (gradeFall c s).fault.stopSet = s.fault.stopSet
      ∧ (gradeFall c s).port.setup = s.port.setup
      ∧ (gradeFall c s).port.frozen = s.port.frozen
      ∧ (gradeFall c s).port.tau = s.port.tau
      ∧ (gradeFall c s).port.span = s.port.span
      ∧ (gradeFall c s).port.slot = s.port.slot
      ∧ (gradeFall c s).port.shifted = s.port.shifted
      ∧ (gradeFall c s).port.lastEnd = s.port.lastEnd
      ∧ (gradeFall c s).port.changedPeers = s.port.changedPeers := by
  unfold gradeFall
  refine ⟨?_, ?_, ?_, ?_, ?_, ?_, ?_, ?_, ?_, ?_, ?_, ?_, ?_, ?_, ?_, ?_, ?_, ?_, ?_, ?_, ?_, ?_, ?_, ?_, ?_, ?_,
    ?_, ?_, ?_, ?_, ?_, ?_, ?_, ?_, ?_, ?_, ?_, ?_, ?_, ?_, ?_, ?_, ?_, ?_, ?_, ?_, ?_, ?_, ?_, ?_, ?_, ?_, ?_, ?_,
    ?_, ?_, ?_⟩ <;>
    first | rfl | ((try dsimp only); (repeat' split) <;> first | rfl | simp | simp_all)

@[simp] theorem applyCeiling_frame (s : State) :
    (applyCeiling s).phase = s.phase
      ∧ (applyCeiling s).ms = s.ms
      ∧ (applyCeiling s).straps = s.straps
      ∧ (applyCeiling s).levels = s.levels
      ∧ (applyCeiling s).sensor = s.sensor
      ∧ (applyCeiling s).link = s.link
      ∧ (applyCeiling s).peers = s.peers
      ∧ (applyCeiling s).mark = s.mark
      ∧ (applyCeiling s).claim = s.claim
      ∧ (applyCeiling s).zone = s.zone
      ∧ (applyCeiling s).free = s.free
      ∧ (applyCeiling s).pending = s.pending
      ∧ (applyCeiling s).reck.count = s.reck.count
      ∧ (applyCeiling s).reck.started = s.reck.started
      ∧ (applyCeiling s).reck.lastGood = s.reck.lastGood
      ∧ (applyCeiling s).reck.held = s.reck.held
      ∧ (applyCeiling s).reck.turnOffset = s.reck.turnOffset
      ∧ (applyCeiling s).reck.theta0 = s.reck.theta0
      ∧ (applyCeiling s).reck.sigma = s.reck.sigma
      ∧ (applyCeiling s).reck.calibrated = s.reck.calibrated
      ∧ (applyCeiling s).reck.lambda = s.reck.lambda
      ∧ (applyCeiling s).reck.thetaScale = s.reck.thetaScale
      ∧ (applyCeiling s).reck.anchor = s.reck.anchor
      ∧ (applyCeiling s).reck.atRest = s.reck.atRest
      ∧ (applyCeiling s).store.cellsA = s.store.cellsA
      ∧ (applyCeiling s).store.cellsB = s.store.cellsB
      ∧ (applyCeiling s).store.cellsCal = s.store.cellsCal
      ∧ (applyCeiling s).store.imageA = s.store.imageA
      ∧ (applyCeiling s).store.imageB = s.store.imageB
      ∧ (applyCeiling s).store.imageCal = s.store.imageCal
      ∧ (applyCeiling s).store.calSeq = s.store.calSeq
      ∧ (applyCeiling s).store.inFlight = s.store.inFlight
      ∧ (applyCeiling s).store.pendingCal = s.store.pendingCal
      ∧ (applyCeiling s).store.scanDone = s.store.scanDone
      ∧ (applyCeiling s).gradeUnit.sub = s.gradeUnit.sub
      ∧ (applyCeiling s).gradeUnit.readPending = s.gradeUnit.readPending
      ∧ (applyCeiling s).gradeUnit.held = s.gradeUnit.held
      ∧ (applyCeiling s).gradeUnit.leadReport = s.gradeUnit.leadReport
      ∧ (applyCeiling s).gradeUnit.candidates = s.gradeUnit.candidates
      ∧ (applyCeiling s).gradeUnit.chosen = s.gradeUnit.chosen
      ∧ (applyCeiling s).search.sub = s.search.sub
      ∧ (applyCeiling s).search.leadHold = s.search.leadHold
      ∧ (applyCeiling s).search.outcome = s.search.outcome
      ∧ (applyCeiling s).search.passes = s.search.passes
      ∧ (applyCeiling s).search.level = s.search.level
      ∧ (applyCeiling s).search.total = s.search.total
      ∧ (applyCeiling s).search.plus = s.search.plus
      ∧ (applyCeiling s).search.stage = s.search.stage
      ∧ (applyCeiling s).fault.stopSet = s.fault.stopSet
      ∧ (applyCeiling s).port.setup = s.port.setup
      ∧ (applyCeiling s).port.frozen = s.port.frozen
      ∧ (applyCeiling s).port.tau = s.port.tau
      ∧ (applyCeiling s).port.span = s.port.span
      ∧ (applyCeiling s).port.slot = s.port.slot
      ∧ (applyCeiling s).port.shifted = s.port.shifted
      ∧ (applyCeiling s).port.lastEnd = s.port.lastEnd
      ∧ (applyCeiling s).port.changedPeers = s.port.changedPeers := by
  unfold applyCeiling
  refine ⟨?_, ?_, ?_, ?_, ?_, ?_, ?_, ?_, ?_, ?_, ?_, ?_, ?_, ?_, ?_, ?_, ?_, ?_, ?_, ?_, ?_, ?_, ?_, ?_, ?_, ?_,
    ?_, ?_, ?_, ?_, ?_, ?_, ?_, ?_, ?_, ?_, ?_, ?_, ?_, ?_, ?_, ?_, ?_, ?_, ?_, ?_, ?_, ?_, ?_, ?_, ?_, ?_, ?_, ?_,
    ?_, ?_, ?_⟩ <;>
    first | rfl | ((try dsimp only); (repeat' split) <;> first | rfl | simp | simp_all)

/-! ### ClaimOps -/

@[simp] theorem postDirective_frame (k : DirKind) (speed : Nat) (target : Option Int) (s : State) :
    (postDirective k speed target s).phase = s.phase
      ∧ (postDirective k speed target s).ms = s.ms
      ∧ (postDirective k speed target s).straps = s.straps
      ∧ (postDirective k speed target s).levels = s.levels
      ∧ (postDirective k speed target s).sensor = s.sensor
      ∧ (postDirective k speed target s).reck = s.reck
      ∧ (postDirective k speed target s).link = s.link
      ∧ (postDirective k speed target s).peers = s.peers
      ∧ (postDirective k speed target s).mark = s.mark
      ∧ (postDirective k speed target s).store = s.store
      ∧ (postDirective k speed target s).gradeUnit = s.gradeUnit
      ∧ (postDirective k speed target s).search = s.search
      ∧ (postDirective k speed target s).zone = s.zone
      ∧ (postDirective k speed target s).fault = s.fault
      ∧ (postDirective k speed target s).free = s.free
      ∧ (postDirective k speed target s).pending = s.pending
      ∧ (postDirective k speed target s).claim.state = s.claim.state
      ∧ (postDirective k speed target s).claim.wanted = s.claim.wanted
      ∧ (postDirective k speed target s).claim.purpose = s.claim.purpose
      ∧ (postDirective k speed target s).port.setup = s.port.setup
      ∧ (postDirective k speed target s).port.frozen = s.port.frozen
      ∧ (postDirective k speed target s).port.tau = s.port.tau
      ∧ (postDirective k speed target s).port.span = s.port.span
      ∧ (postDirective k speed target s).port.slot = s.port.slot
      ∧ (postDirective k speed target s).port.shifted = s.port.shifted
      ∧ (postDirective k speed target s).port.lastEnd = s.port.lastEnd
      ∧ (postDirective k speed target s).port.changedPeers = s.port.changedPeers := by
  unfold postDirective
  refine ⟨?_, ?_, ?_, ?_, ?_, ?_, ?_, ?_, ?_, ?_, ?_, ?_, ?_, ?_, ?_, ?_, ?_, ?_, ?_, ?_, ?_, ?_, ?_, ?_, ?_, ?_,
    ?_⟩ <;>
    rfl

@[simp] theorem postStopAnew_frame (s : State) :
    (postStopAnew s).phase = s.phase
      ∧ (postStopAnew s).ms = s.ms
      ∧ (postStopAnew s).straps = s.straps
      ∧ (postStopAnew s).levels = s.levels
      ∧ (postStopAnew s).sensor = s.sensor
      ∧ (postStopAnew s).reck = s.reck
      ∧ (postStopAnew s).link = s.link
      ∧ (postStopAnew s).peers = s.peers
      ∧ (postStopAnew s).mark = s.mark
      ∧ (postStopAnew s).store = s.store
      ∧ (postStopAnew s).gradeUnit = s.gradeUnit
      ∧ (postStopAnew s).search = s.search
      ∧ (postStopAnew s).zone = s.zone
      ∧ (postStopAnew s).fault = s.fault
      ∧ (postStopAnew s).free = s.free
      ∧ (postStopAnew s).pending = s.pending
      ∧ (postStopAnew s).claim.state = s.claim.state
      ∧ (postStopAnew s).claim.wanted = s.claim.wanted
      ∧ (postStopAnew s).claim.purpose = s.claim.purpose
      ∧ (postStopAnew s).port.setup = s.port.setup
      ∧ (postStopAnew s).port.frozen = s.port.frozen
      ∧ (postStopAnew s).port.tau = s.port.tau
      ∧ (postStopAnew s).port.span = s.port.span
      ∧ (postStopAnew s).port.slot = s.port.slot
      ∧ (postStopAnew s).port.shifted = s.port.shifted
      ∧ (postStopAnew s).port.lastEnd = s.port.lastEnd
      ∧ (postStopAnew s).port.changedPeers = s.port.changedPeers := by
  unfold postStopAnew
  refine ⟨?_, ?_, ?_, ?_, ?_, ?_, ?_, ?_, ?_, ?_, ?_, ?_, ?_, ?_, ?_, ?_, ?_, ?_, ?_, ?_, ?_, ?_, ?_, ?_, ?_, ?_,
    ?_⟩ <;>
    rfl

@[simp] theorem postStop_frame (s : State) :
    (postStop s).phase = s.phase
      ∧ (postStop s).ms = s.ms
      ∧ (postStop s).straps = s.straps
      ∧ (postStop s).levels = s.levels
      ∧ (postStop s).sensor = s.sensor
      ∧ (postStop s).reck = s.reck
      ∧ (postStop s).link = s.link
      ∧ (postStop s).peers = s.peers
      ∧ (postStop s).mark = s.mark
      ∧ (postStop s).store = s.store
      ∧ (postStop s).gradeUnit = s.gradeUnit
      ∧ (postStop s).search = s.search
      ∧ (postStop s).zone = s.zone
      ∧ (postStop s).fault = s.fault
      ∧ (postStop s).free = s.free
      ∧ (postStop s).pending = s.pending
      ∧ (postStop s).claim.state = s.claim.state
      ∧ (postStop s).claim.wanted = s.claim.wanted
      ∧ (postStop s).claim.purpose = s.claim.purpose
      ∧ (postStop s).port.setup = s.port.setup
      ∧ (postStop s).port.frozen = s.port.frozen
      ∧ (postStop s).port.tau = s.port.tau
      ∧ (postStop s).port.span = s.port.span
      ∧ (postStop s).port.slot = s.port.slot
      ∧ (postStop s).port.shifted = s.port.shifted
      ∧ (postStop s).port.lastEnd = s.port.lastEnd
      ∧ (postStop s).port.changedPeers = s.port.changedPeers := by
  unfold postStop
  refine ⟨?_, ?_, ?_, ?_, ?_, ?_, ?_, ?_, ?_, ?_, ?_, ?_, ?_, ?_, ?_, ?_, ?_, ?_, ?_, ?_, ?_, ?_, ?_, ?_, ?_, ?_,
    ?_⟩ <;>
    (repeat' split) <;> rfl

@[simp] theorem postMove_frame (k : DirKind) (speed : Nat) (target : Option Int) (s : State) :
    (postMove k speed target s).phase = s.phase
      ∧ (postMove k speed target s).ms = s.ms
      ∧ (postMove k speed target s).straps = s.straps
      ∧ (postMove k speed target s).levels = s.levels
      ∧ (postMove k speed target s).sensor = s.sensor
      ∧ (postMove k speed target s).reck = s.reck
      ∧ (postMove k speed target s).link = s.link
      ∧ (postMove k speed target s).peers = s.peers
      ∧ (postMove k speed target s).mark = s.mark
      ∧ (postMove k speed target s).store = s.store
      ∧ (postMove k speed target s).gradeUnit = s.gradeUnit
      ∧ (postMove k speed target s).search = s.search
      ∧ (postMove k speed target s).zone = s.zone
      ∧ (postMove k speed target s).fault = s.fault
      ∧ (postMove k speed target s).free = s.free
      ∧ (postMove k speed target s).pending = s.pending
      ∧ (postMove k speed target s).claim.state = s.claim.state
      ∧ (postMove k speed target s).claim.wanted = s.claim.wanted
      ∧ (postMove k speed target s).claim.purpose = s.claim.purpose
      ∧ (postMove k speed target s).port.setup = s.port.setup
      ∧ (postMove k speed target s).port.frozen = s.port.frozen
      ∧ (postMove k speed target s).port.tau = s.port.tau
      ∧ (postMove k speed target s).port.span = s.port.span
      ∧ (postMove k speed target s).port.slot = s.port.slot
      ∧ (postMove k speed target s).port.shifted = s.port.shifted
      ∧ (postMove k speed target s).port.lastEnd = s.port.lastEnd
      ∧ (postMove k speed target s).port.changedPeers = s.port.changedPeers := by
  unfold postMove
  refine ⟨?_, ?_, ?_, ?_, ?_, ?_, ?_, ?_, ?_, ?_, ?_, ?_, ?_, ?_, ?_, ?_, ?_, ?_, ?_, ?_, ?_, ?_, ?_, ?_, ?_, ?_,
    ?_⟩ <;>
    (repeat' split) <;> rfl

@[simp] theorem requestClaim_frame (p : Purpose) (s : State) :
    (requestClaim p s).phase = s.phase
      ∧ (requestClaim p s).ms = s.ms
      ∧ (requestClaim p s).straps = s.straps
      ∧ (requestClaim p s).levels = s.levels
      ∧ (requestClaim p s).sensor = s.sensor
      ∧ (requestClaim p s).reck = s.reck
      ∧ (requestClaim p s).link = s.link
      ∧ (requestClaim p s).peers = s.peers
      ∧ (requestClaim p s).mark = s.mark
      ∧ (requestClaim p s).store = s.store
      ∧ (requestClaim p s).gradeUnit = s.gradeUnit
      ∧ (requestClaim p s).search = s.search
      ∧ (requestClaim p s).zone = s.zone
      ∧ (requestClaim p s).fault = s.fault
      ∧ (requestClaim p s).port = s.port
      ∧ (requestClaim p s).free = s.free
      ∧ (requestClaim p s).pending = s.pending
      ∧ (requestClaim p s).claim.dirState = s.claim.dirState
      ∧ (requestClaim p s).claim.dir = s.claim.dir
      ∧ (requestClaim p s).claim.lastNumber = s.claim.lastNumber
      ∧ (requestClaim p s).claim.untakenOpen = s.claim.untakenOpen
      ∧ (requestClaim p s).claim.untakenTimer = s.claim.untakenTimer
      ∧ (requestClaim p s).claim.allowance = s.claim.allowance := by
  unfold requestClaim
  refine ⟨?_, ?_, ?_, ?_, ?_, ?_, ?_, ?_, ?_, ?_, ?_, ?_, ?_, ?_, ?_, ?_, ?_, ?_, ?_, ?_, ?_, ?_, ?_⟩ <;>
    (repeat' split) <;> rfl

@[simp] theorem tryClaim_frame (s : State) :
    (tryClaim s).phase = s.phase
      ∧ (tryClaim s).ms = s.ms
      ∧ (tryClaim s).straps = s.straps
      ∧ (tryClaim s).levels = s.levels
      ∧ (tryClaim s).sensor = s.sensor
      ∧ (tryClaim s).reck = s.reck
      ∧ (tryClaim s).peers = s.peers
      ∧ (tryClaim s).mark = s.mark
      ∧ (tryClaim s).store = s.store
      ∧ (tryClaim s).gradeUnit = s.gradeUnit
      ∧ (tryClaim s).search = s.search
      ∧ (tryClaim s).zone = s.zone
      ∧ (tryClaim s).fault = s.fault
      ∧ (tryClaim s).port = s.port
      ∧ (tryClaim s).free = s.free
      ∧ (tryClaim s).pending = s.pending
      ∧ (tryClaim s).link.bitErrors = s.link.bitErrors
      ∧ (tryClaim s).link.txErrors = s.link.txErrors
      ∧ (tryClaim s).link.rxErrors = s.link.rxErrors
      ∧ (tryClaim s).link.txFail = s.link.txFail
      ∧ (tryClaim s).link.lastDuplicate = s.link.lastDuplicate
      ∧ (tryClaim s).link.heartbeat = s.link.heartbeat
      ∧ (tryClaim s).claim.wanted = s.claim.wanted
      ∧ (tryClaim s).claim.purpose = s.claim.purpose
      ∧ (tryClaim s).claim.dirState = s.claim.dirState
      ∧ (tryClaim s).claim.dir = s.claim.dir
      ∧ (tryClaim s).claim.lastNumber = s.claim.lastNumber
      ∧ (tryClaim s).claim.untakenOpen = s.claim.untakenOpen
      ∧ (tryClaim s).claim.untakenTimer = s.claim.untakenTimer
      ∧ (tryClaim s).claim.allowance = s.claim.allowance := by
  unfold tryClaim
  refine ⟨?_, ?_, ?_, ?_, ?_, ?_, ?_, ?_, ?_, ?_, ?_, ?_, ?_, ?_, ?_, ?_, ?_, ?_, ?_, ?_, ?_, ?_, ?_, ?_, ?_, ?_,
    ?_, ?_, ?_, ?_⟩ <;>
    (repeat' split) <;> simp

@[simp] theorem beginRelease_frame (wanted : Bool) (s : State) :
    (beginRelease wanted s).phase = s.phase
      ∧ (beginRelease wanted s).ms = s.ms
      ∧ (beginRelease wanted s).straps = s.straps
      ∧ (beginRelease wanted s).levels = s.levels
      ∧ (beginRelease wanted s).sensor = s.sensor
      ∧ (beginRelease wanted s).reck = s.reck
      ∧ (beginRelease wanted s).peers = s.peers
      ∧ (beginRelease wanted s).mark = s.mark
      ∧ (beginRelease wanted s).store = s.store
      ∧ (beginRelease wanted s).gradeUnit = s.gradeUnit
      ∧ (beginRelease wanted s).search = s.search
      ∧ (beginRelease wanted s).zone = s.zone
      ∧ (beginRelease wanted s).fault = s.fault
      ∧ (beginRelease wanted s).port = s.port
      ∧ (beginRelease wanted s).free = s.free
      ∧ (beginRelease wanted s).pending = s.pending
      ∧ (beginRelease wanted s).link.bitErrors = s.link.bitErrors
      ∧ (beginRelease wanted s).link.txErrors = s.link.txErrors
      ∧ (beginRelease wanted s).link.rxErrors = s.link.rxErrors
      ∧ (beginRelease wanted s).link.txFail = s.link.txFail
      ∧ (beginRelease wanted s).link.lastDuplicate = s.link.lastDuplicate
      ∧ (beginRelease wanted s).link.heartbeat = s.link.heartbeat
      ∧ (beginRelease wanted s).claim.purpose = s.claim.purpose
      ∧ (beginRelease wanted s).claim.dirState = s.claim.dirState
      ∧ (beginRelease wanted s).claim.dir = s.claim.dir
      ∧ (beginRelease wanted s).claim.lastNumber = s.claim.lastNumber
      ∧ (beginRelease wanted s).claim.untakenOpen = s.claim.untakenOpen
      ∧ (beginRelease wanted s).claim.untakenTimer = s.claim.untakenTimer
      ∧ (beginRelease wanted s).claim.allowance = s.claim.allowance := by
  unfold beginRelease
  refine ⟨?_, ?_, ?_, ?_, ?_, ?_, ?_, ?_, ?_, ?_, ?_, ?_, ?_, ?_, ?_, ?_, ?_, ?_, ?_, ?_, ?_, ?_, ?_, ?_, ?_, ?_,
    ?_, ?_, ?_⟩ <;>
    first | rfl | ((try dsimp only); (repeat' split) <;> first | rfl | simp | simp_all)

@[simp] theorem releaseClaim_frame (s : State) :
    (releaseClaim s).phase = s.phase
      ∧ (releaseClaim s).ms = s.ms
      ∧ (releaseClaim s).straps = s.straps
      ∧ (releaseClaim s).levels = s.levels
      ∧ (releaseClaim s).sensor = s.sensor
      ∧ (releaseClaim s).reck = s.reck
      ∧ (releaseClaim s).peers = s.peers
      ∧ (releaseClaim s).mark = s.mark
      ∧ (releaseClaim s).store = s.store
      ∧ (releaseClaim s).gradeUnit = s.gradeUnit
      ∧ (releaseClaim s).search = s.search
      ∧ (releaseClaim s).zone = s.zone
      ∧ (releaseClaim s).fault = s.fault
      ∧ (releaseClaim s).free = s.free
      ∧ (releaseClaim s).pending = s.pending
      ∧ (releaseClaim s).link.bitErrors = s.link.bitErrors
      ∧ (releaseClaim s).link.txErrors = s.link.txErrors
      ∧ (releaseClaim s).link.rxErrors = s.link.rxErrors
      ∧ (releaseClaim s).link.txFail = s.link.txFail
      ∧ (releaseClaim s).link.lastDuplicate = s.link.lastDuplicate
      ∧ (releaseClaim s).link.heartbeat = s.link.heartbeat
      ∧ (releaseClaim s).claim.purpose = s.claim.purpose
      ∧ (releaseClaim s).port.setup = s.port.setup
      ∧ (releaseClaim s).port.frozen = s.port.frozen
      ∧ (releaseClaim s).port.tau = s.port.tau
      ∧ (releaseClaim s).port.span = s.port.span
      ∧ (releaseClaim s).port.slot = s.port.slot
      ∧ (releaseClaim s).port.shifted = s.port.shifted
      ∧ (releaseClaim s).port.lastEnd = s.port.lastEnd
      ∧ (releaseClaim s).port.changedPeers = s.port.changedPeers := by
  unfold releaseClaim
  refine ⟨?_, ?_, ?_, ?_, ?_, ?_, ?_, ?_, ?_, ?_, ?_, ?_, ?_, ?_, ?_, ?_, ?_, ?_, ?_, ?_, ?_, ?_, ?_, ?_, ?_, ?_,
    ?_, ?_, ?_, ?_⟩ <;>
    first | rfl | ((try dsimp only); (repeat' split) <;> first | rfl | simp | simp_all)

@[simp] theorem changePurpose_frame (s : State) :
    (changePurpose s).phase = s.phase
      ∧ (changePurpose s).ms = s.ms
      ∧ (changePurpose s).straps = s.straps
      ∧ (changePurpose s).levels = s.levels
      ∧ (changePurpose s).sensor = s.sensor
      ∧ (changePurpose s).reck = s.reck
      ∧ (changePurpose s).peers = s.peers
      ∧ (changePurpose s).mark = s.mark
      ∧ (changePurpose s).store = s.store
      ∧ (changePurpose s).gradeUnit = s.gradeUnit
      ∧ (changePurpose s).search = s.search
      ∧ (changePurpose s).zone = s.zone
      ∧ (changePurpose s).fault = s.fault
      ∧ (changePurpose s).port = s.port
      ∧ (changePurpose s).free = s.free
      ∧ (changePurpose s).pending = s.pending
      ∧ (changePurpose s).link.bitErrors = s.link.bitErrors
      ∧ (changePurpose s).link.txErrors = s.link.txErrors
      ∧ (changePurpose s).link.rxErrors = s.link.rxErrors
      ∧ (changePurpose s).link.txFail = s.link.txFail
      ∧ (changePurpose s).link.lastDuplicate = s.link.lastDuplicate
      ∧ (changePurpose s).link.heartbeat = s.link.heartbeat
      ∧ (changePurpose s).claim.state = s.claim.state
      ∧ (changePurpose s).claim.wanted = s.claim.wanted
      ∧ (changePurpose s).claim.dirState = s.claim.dirState
      ∧ (changePurpose s).claim.dir = s.claim.dir
      ∧ (changePurpose s).claim.lastNumber = s.claim.lastNumber
      ∧ (changePurpose s).claim.untakenOpen = s.claim.untakenOpen
      ∧ (changePurpose s).claim.untakenTimer = s.claim.untakenTimer
      ∧ (changePurpose s).claim.allowance = s.claim.allowance := by
  unfold changePurpose
  refine ⟨?_, ?_, ?_, ?_, ?_, ?_, ?_, ?_, ?_, ?_, ?_, ?_, ?_, ?_, ?_, ?_, ?_, ?_, ?_, ?_, ?_, ?_, ?_, ?_, ?_, ?_,
    ?_, ?_, ?_, ?_⟩ <;>
    first | rfl | ((try dsimp only); (repeat' split) <;> first | rfl | simp | simp_all)

@[simp] theorem setStill_frame (s : State) :
    (setStill s).phase = s.phase
      ∧ (setStill s).ms = s.ms
      ∧ (setStill s).straps = s.straps
      ∧ (setStill s).levels = s.levels
      ∧ (setStill s).sensor = s.sensor
      ∧ (setStill s).reck = s.reck
      ∧ (setStill s).link = s.link
      ∧ (setStill s).peers = s.peers
      ∧ (setStill s).mark = s.mark
      ∧ (setStill s).store = s.store
      ∧ (setStill s).gradeUnit = s.gradeUnit
      ∧ (setStill s).search = s.search
      ∧ (setStill s).zone = s.zone
      ∧ (setStill s).fault = s.fault
      ∧ (setStill s).port = s.port
      ∧ (setStill s).free = s.free
      ∧ (setStill s).pending = s.pending
      ∧ (setStill s).claim.state = s.claim.state
      ∧ (setStill s).claim.wanted = s.claim.wanted
      ∧ (setStill s).claim.purpose = s.claim.purpose
      ∧ (setStill s).claim.dirState = s.claim.dirState
      ∧ (setStill s).claim.dir = s.claim.dir
      ∧ (setStill s).claim.lastNumber = s.claim.lastNumber
      ∧ (setStill s).claim.untakenOpen = s.claim.untakenOpen
      ∧ (setStill s).claim.untakenTimer = s.claim.untakenTimer
      ∧ (setStill s).claim.allowance = s.claim.allowance := by
  unfold setStill
  refine ⟨?_, ?_, ?_, ?_, ?_, ?_, ?_, ?_, ?_, ?_, ?_, ?_, ?_, ?_, ?_, ?_, ?_, ?_, ?_, ?_, ?_, ?_, ?_, ?_, ?_,
    ?_⟩ <;>
    rfl

/-! ### MarkOps -/

@[simp] theorem register_frame (n : Needs) (s : State) :
    (register n s).phase = s.phase
      ∧ (register n s).ms = s.ms
      ∧ (register n s).straps = s.straps
      ∧ (register n s).levels = s.levels
      ∧ (register n s).sensor = s.sensor
      ∧ (register n s).reck = s.reck
      ∧ (register n s).link = s.link
      ∧ (register n s).peers = s.peers
      ∧ (register n s).store = s.store
      ∧ (register n s).gradeUnit = s.gradeUnit
      ∧ (register n s).claim = s.claim
      ∧ (register n s).search = s.search
      ∧ (register n s).zone = s.zone
      ∧ (register n s).fault = s.fault
      ∧ (register n s).port = s.port
      ∧ (register n s).free = s.free
      ∧ (register n s).pending = s.pending
      ∧ (register n s).mark.state = s.mark.state
      ∧ (register n s).mark.number = s.mark.number
      ∧ (register n s).mark.reported = s.mark.reported
      ∧ (register n s).mark.quiet = s.mark.quiet
      ∧ (register n s).mark.leadWait = s.mark.leadWait
      ∧ (register n s).mark.captureRequested = s.mark.captureRequested
      ∧ (register n s).mark.serving = s.mark.serving := by
  unfold register
  refine ⟨?_, ?_, ?_, ?_, ?_, ?_, ?_, ?_, ?_, ?_, ?_, ?_, ?_, ?_, ?_, ?_, ?_, ?_, ?_, ?_, ?_, ?_, ?_, ?_⟩ <;>
    rfl

@[simp] theorem withdrawNeed_frame (n : Needs) (s : State) :
    (withdrawNeed n s).phase = s.phase
      ∧ (withdrawNeed n s).ms = s.ms
      ∧ (withdrawNeed n s).straps = s.straps
      ∧ (withdrawNeed n s).levels = s.levels
      ∧ (withdrawNeed n s).sensor = s.sensor
      ∧ (withdrawNeed n s).reck = s.reck
      ∧ (withdrawNeed n s).link = s.link
      ∧ (withdrawNeed n s).peers = s.peers
      ∧ (withdrawNeed n s).store = s.store
      ∧ (withdrawNeed n s).gradeUnit = s.gradeUnit
      ∧ (withdrawNeed n s).claim = s.claim
      ∧ (withdrawNeed n s).search = s.search
      ∧ (withdrawNeed n s).zone = s.zone
      ∧ (withdrawNeed n s).fault = s.fault
      ∧ (withdrawNeed n s).port = s.port
      ∧ (withdrawNeed n s).free = s.free
      ∧ (withdrawNeed n s).pending = s.pending
      ∧ (withdrawNeed n s).mark.state = s.mark.state
      ∧ (withdrawNeed n s).mark.number = s.mark.number
      ∧ (withdrawNeed n s).mark.reported = s.mark.reported
      ∧ (withdrawNeed n s).mark.quiet = s.mark.quiet
      ∧ (withdrawNeed n s).mark.leadWait = s.mark.leadWait
      ∧ (withdrawNeed n s).mark.captureRequested = s.mark.captureRequested := by
  unfold withdrawNeed
  refine ⟨?_, ?_, ?_, ?_, ?_, ?_, ?_, ?_, ?_, ?_, ?_, ?_, ?_, ?_, ?_, ?_, ?_, ?_, ?_, ?_, ?_, ?_, ?_⟩ <;>
    rfl

@[simp] theorem tryCall_frame (s : State) :
    (tryCall s).phase = s.phase
      ∧ (tryCall s).ms = s.ms
      ∧ (tryCall s).straps = s.straps
      ∧ (tryCall s).levels = s.levels
      ∧ (tryCall s).sensor = s.sensor
      ∧ (tryCall s).reck = s.reck
      ∧ (tryCall s).peers = s.peers
      ∧ (tryCall s).mark = s.mark
      ∧ (tryCall s).store = s.store
      ∧ (tryCall s).gradeUnit = s.gradeUnit
      ∧ (tryCall s).claim = s.claim
      ∧ (tryCall s).search = s.search
      ∧ (tryCall s).zone = s.zone
      ∧ (tryCall s).fault = s.fault
      ∧ (tryCall s).port = s.port
      ∧ (tryCall s).free = s.free
      ∧ (tryCall s).pending = s.pending
      ∧ (tryCall s).link.bitErrors = s.link.bitErrors
      ∧ (tryCall s).link.txErrors = s.link.txErrors
      ∧ (tryCall s).link.rxErrors = s.link.rxErrors
      ∧ (tryCall s).link.txFail = s.link.txFail
      ∧ (tryCall s).link.lastDuplicate = s.link.lastDuplicate
      ∧ (tryCall s).link.heartbeat = s.link.heartbeat := by
  unfold tryCall
  refine ⟨?_, ?_, ?_, ?_, ?_, ?_, ?_, ?_, ?_, ?_, ?_, ?_, ?_, ?_, ?_, ?_, ?_, ?_, ?_, ?_, ?_, ?_, ?_⟩ <;>
    (repeat' split) <;> simp

@[simp] theorem queueReport_frame (c : Capture) (g : Grade) (theta : Option Int) (s : State) :
    (queueReport c g theta s).phase = s.phase
      ∧ (queueReport c g theta s).ms = s.ms
      ∧ (queueReport c g theta s).straps = s.straps
      ∧ (queueReport c g theta s).levels = s.levels
      ∧ (queueReport c g theta s).sensor = s.sensor
      ∧ (queueReport c g theta s).reck = s.reck
      ∧ (queueReport c g theta s).peers = s.peers
      ∧ (queueReport c g theta s).store = s.store
      ∧ (queueReport c g theta s).gradeUnit = s.gradeUnit
      ∧ (queueReport c g theta s).claim = s.claim
      ∧ (queueReport c g theta s).search = s.search
      ∧ (queueReport c g theta s).zone = s.zone
      ∧ (queueReport c g theta s).fault = s.fault
      ∧ (queueReport c g theta s).port = s.port
      ∧ (queueReport c g theta s).free = s.free
      ∧ (queueReport c g theta s).pending = s.pending
      ∧ (queueReport c g theta s).link.bitErrors = s.link.bitErrors
      ∧ (queueReport c g theta s).link.txErrors = s.link.txErrors
      ∧ (queueReport c g theta s).link.rxErrors = s.link.rxErrors
      ∧ (queueReport c g theta s).link.txFail = s.link.txFail
      ∧ (queueReport c g theta s).link.lastDuplicate = s.link.lastDuplicate
      ∧ (queueReport c g theta s).link.heartbeat = s.link.heartbeat
      ∧ (queueReport c g theta s).mark.state = s.mark.state
      ∧ (queueReport c g theta s).mark.number = s.mark.number
      ∧ (queueReport c g theta s).mark.reported = s.mark.reported
      ∧ (queueReport c g theta s).mark.needs = s.mark.needs
      ∧ (queueReport c g theta s).mark.quiet = s.mark.quiet
      ∧ (queueReport c g theta s).mark.leadWait = s.mark.leadWait
      ∧ (queueReport c g theta s).mark.captureRequested = s.mark.captureRequested
      ∧ (queueReport c g theta s).mark.serving = s.mark.serving := by
  unfold queueReport
  refine ⟨?_, ?_, ?_, ?_, ?_, ?_, ?_, ?_, ?_, ?_, ?_, ?_, ?_, ?_, ?_, ?_, ?_, ?_, ?_, ?_, ?_, ?_, ?_, ?_, ?_, ?_,
    ?_, ?_, ?_, ?_⟩ <;>
    simp

@[simp] theorem flushReport_frame (s : State) :
    (flushReport s).phase = s.phase
      ∧ (flushReport s).ms = s.ms
      ∧ (flushReport s).straps = s.straps
      ∧ (flushReport s).levels = s.levels
      ∧ (flushReport s).sensor = s.sensor
      ∧ (flushReport s).reck = s.reck
      ∧ (flushReport s).peers = s.peers
      ∧ (flushReport s).store = s.store
      ∧ (flushReport s).gradeUnit = s.gradeUnit
      ∧ (flushReport s).claim = s.claim
      ∧ (flushReport s).search = s.search
      ∧ (flushReport s).zone = s.zone
      ∧ (flushReport s).fault = s.fault
      ∧ (flushReport s).port = s.port
      ∧ (flushReport s).free = s.free
      ∧ (flushReport s).pending = s.pending
      ∧ (flushReport s).link.bitErrors = s.link.bitErrors
      ∧ (flushReport s).link.txErrors = s.link.txErrors
      ∧ (flushReport s).link.rxErrors = s.link.rxErrors
      ∧ (flushReport s).link.txFail = s.link.txFail
      ∧ (flushReport s).link.lastDuplicate = s.link.lastDuplicate
      ∧ (flushReport s).link.heartbeat = s.link.heartbeat
      ∧ (flushReport s).mark.state = s.mark.state
      ∧ (flushReport s).mark.number = s.mark.number
      ∧ (flushReport s).mark.reported = s.mark.reported
      ∧ (flushReport s).mark.needs = s.mark.needs
      ∧ (flushReport s).mark.quiet = s.mark.quiet
      ∧ (flushReport s).mark.leadWait = s.mark.leadWait
      ∧ (flushReport s).mark.captureRequested = s.mark.captureRequested
      ∧ (flushReport s).mark.serving = s.mark.serving := by
  unfold flushReport
  refine ⟨?_, ?_, ?_, ?_, ?_, ?_, ?_, ?_, ?_, ?_, ?_, ?_, ?_, ?_, ?_, ?_, ?_, ?_, ?_, ?_, ?_, ?_, ?_, ?_, ?_, ?_,
    ?_, ?_, ?_, ?_⟩ <;>
    (repeat' split) <;> simp

@[simp] theorem recordOutcome_frame (o : MarkOutcome) (missing : StationMask) (s : State) :
    (recordOutcome o missing s).phase = s.phase
      ∧ (recordOutcome o missing s).ms = s.ms
      ∧ (recordOutcome o missing s).straps = s.straps
      ∧ (recordOutcome o missing s).levels = s.levels
      ∧ (recordOutcome o missing s).sensor = s.sensor
      ∧ (recordOutcome o missing s).reck = s.reck
      ∧ (recordOutcome o missing s).link = s.link
      ∧ (recordOutcome o missing s).peers = s.peers
      ∧ (recordOutcome o missing s).store = s.store
      ∧ (recordOutcome o missing s).gradeUnit = s.gradeUnit
      ∧ (recordOutcome o missing s).claim = s.claim
      ∧ (recordOutcome o missing s).search = s.search
      ∧ (recordOutcome o missing s).zone = s.zone
      ∧ (recordOutcome o missing s).fault = s.fault
      ∧ (recordOutcome o missing s).port = s.port
      ∧ (recordOutcome o missing s).free = s.free
      ∧ (recordOutcome o missing s).pending = s.pending
      ∧ (recordOutcome o missing s).mark.state = s.mark.state
      ∧ (recordOutcome o missing s).mark.number = s.mark.number
      ∧ (recordOutcome o missing s).mark.reported = s.mark.reported
      ∧ (recordOutcome o missing s).mark.needs = s.mark.needs
      ∧ (recordOutcome o missing s).mark.quiet = s.mark.quiet
      ∧ (recordOutcome o missing s).mark.leadWait = s.mark.leadWait
      ∧ (recordOutcome o missing s).mark.captureRequested = s.mark.captureRequested
      ∧ (recordOutcome o missing s).mark.serving = s.mark.serving := by
  unfold recordOutcome
  refine ⟨?_, ?_, ?_, ?_, ?_, ?_, ?_, ?_, ?_, ?_, ?_, ?_, ?_, ?_, ?_, ?_, ?_, ?_, ?_, ?_, ?_, ?_, ?_, ?_, ?_⟩ <;>
    rfl

@[simp] theorem endCollection_frame (o : MarkOutcome) (missing : StationMask) (s : State) :
    (endCollection o missing s).phase = s.phase
      ∧ (endCollection o missing s).ms = s.ms
      ∧ (endCollection o missing s).straps = s.straps
      ∧ (endCollection o missing s).levels = s.levels
      ∧ (endCollection o missing s).sensor = s.sensor
      ∧ (endCollection o missing s).reck = s.reck
      ∧ (endCollection o missing s).link = s.link
      ∧ (endCollection o missing s).peers = s.peers
      ∧ (endCollection o missing s).store = s.store
      ∧ (endCollection o missing s).gradeUnit = s.gradeUnit
      ∧ (endCollection o missing s).claim = s.claim
      ∧ (endCollection o missing s).search = s.search
      ∧ (endCollection o missing s).zone = s.zone
      ∧ (endCollection o missing s).fault = s.fault
      ∧ (endCollection o missing s).free = s.free
      ∧ (endCollection o missing s).pending = s.pending
      ∧ (endCollection o missing s).mark.number = s.mark.number
      ∧ (endCollection o missing s).mark.reported = s.mark.reported
      ∧ (endCollection o missing s).mark.needs = s.mark.needs
      ∧ (endCollection o missing s).mark.quiet = s.mark.quiet
      ∧ (endCollection o missing s).mark.leadWait = s.mark.leadWait
      ∧ (endCollection o missing s).mark.captureRequested = s.mark.captureRequested
      ∧ (endCollection o missing s).mark.serving = s.mark.serving
      ∧ (endCollection o missing s).port.setup = s.port.setup
      ∧ (endCollection o missing s).port.frozen = s.port.frozen
      ∧ (endCollection o missing s).port.tau = s.port.tau
      ∧ (endCollection o missing s).port.span = s.port.span
      ∧ (endCollection o missing s).port.slot = s.port.slot
      ∧ (endCollection o missing s).port.shifted = s.port.shifted
      ∧ (endCollection o missing s).port.lastEnd = s.port.lastEnd
      ∧ (endCollection o missing s).port.changedPeers = s.port.changedPeers := by
  unfold endCollection
  refine ⟨?_, ?_, ?_, ?_, ?_, ?_, ?_, ?_, ?_, ?_, ?_, ?_, ?_, ?_, ?_, ?_, ?_, ?_, ?_, ?_, ?_, ?_, ?_, ?_, ?_, ?_,
    ?_, ?_, ?_, ?_, ?_⟩ <;>
    rfl

@[simp] theorem tryComplete_frame (s : State) :
    (tryComplete s).phase = s.phase
      ∧ (tryComplete s).ms = s.ms
      ∧ (tryComplete s).straps = s.straps
      ∧ (tryComplete s).levels = s.levels
      ∧ (tryComplete s).sensor = s.sensor
      ∧ (tryComplete s).reck = s.reck
      ∧ (tryComplete s).link = s.link
      ∧ (tryComplete s).peers = s.peers
      ∧ (tryComplete s).store = s.store
      ∧ (tryComplete s).gradeUnit = s.gradeUnit
      ∧ (tryComplete s).claim = s.claim
      ∧ (tryComplete s).search = s.search
      ∧ (tryComplete s).zone = s.zone
      ∧ (tryComplete s).fault = s.fault
      ∧ (tryComplete s).free = s.free
      ∧ (tryComplete s).pending = s.pending
      ∧ (tryComplete s).mark.number = s.mark.number
      ∧ (tryComplete s).mark.reported = s.mark.reported
      ∧ (tryComplete s).mark.needs = s.mark.needs
      ∧ (tryComplete s).mark.quiet = s.mark.quiet
      ∧ (tryComplete s).mark.leadWait = s.mark.leadWait
      ∧ (tryComplete s).mark.captureRequested = s.mark.captureRequested
      ∧ (tryComplete s).mark.serving = s.mark.serving
      ∧ (tryComplete s).port.setup = s.port.setup
      ∧ (tryComplete s).port.frozen = s.port.frozen
      ∧ (tryComplete s).port.tau = s.port.tau
      ∧ (tryComplete s).port.span = s.port.span
      ∧ (tryComplete s).port.slot = s.port.slot
      ∧ (tryComplete s).port.shifted = s.port.shifted
      ∧ (tryComplete s).port.lastEnd = s.port.lastEnd
      ∧ (tryComplete s).port.changedPeers = s.port.changedPeers := by
  unfold tryComplete
  refine ⟨?_, ?_, ?_, ?_, ?_, ?_, ?_, ?_, ?_, ?_, ?_, ?_, ?_, ?_, ?_, ?_, ?_, ?_, ?_, ?_, ?_, ?_, ?_, ?_, ?_, ?_,
    ?_, ?_, ?_, ?_, ?_⟩ <;>
    (repeat' split) <;> rfl

@[simp] theorem tryRelease_frame (s : State) :
    (tryRelease s).phase = s.phase
      ∧ (tryRelease s).ms = s.ms
      ∧ (tryRelease s).straps = s.straps
      ∧ (tryRelease s).levels = s.levels
      ∧ (tryRelease s).sensor = s.sensor
      ∧ (tryRelease s).reck = s.reck
      ∧ (tryRelease s).link = s.link
      ∧ (tryRelease s).peers = s.peers
      ∧ (tryRelease s).store = s.store
      ∧ (tryRelease s).gradeUnit = s.gradeUnit
      ∧ (tryRelease s).claim = s.claim
      ∧ (tryRelease s).search = s.search
      ∧ (tryRelease s).zone = s.zone
      ∧ (tryRelease s).fault = s.fault
      ∧ (tryRelease s).port = s.port
      ∧ (tryRelease s).free = s.free
      ∧ (tryRelease s).pending = s.pending
      ∧ (tryRelease s).mark.number = s.mark.number
      ∧ (tryRelease s).mark.reported = s.mark.reported
      ∧ (tryRelease s).mark.needs = s.mark.needs
      ∧ (tryRelease s).mark.quiet = s.mark.quiet
      ∧ (tryRelease s).mark.leadWait = s.mark.leadWait
      ∧ (tryRelease s).mark.captureRequested = s.mark.captureRequested
      ∧ (tryRelease s).mark.serving = s.mark.serving := by
  unfold tryRelease
  refine ⟨?_, ?_, ?_, ?_, ?_, ?_, ?_, ?_, ?_, ?_, ?_, ?_, ?_, ?_, ?_, ?_, ?_, ?_, ?_, ?_, ?_, ?_, ?_, ?_⟩ <;>
    first | rfl | ((try dsimp only); (repeat' split) <;> first | rfl | simp | simp_all)

@[simp] theorem lapse_frame (s : State) :
    (lapse s).phase = s.phase
      ∧ (lapse s).ms = s.ms
      ∧ (lapse s).straps = s.straps
      ∧ (lapse s).levels = s.levels
      ∧ (lapse s).sensor = s.sensor
      ∧ (lapse s).reck = s.reck
      ∧ (lapse s).link = s.link
      ∧ (lapse s).peers = s.peers
      ∧ (lapse s).store = s.store
      ∧ (lapse s).gradeUnit = s.gradeUnit
      ∧ (lapse s).claim = s.claim
      ∧ (lapse s).search = s.search
      ∧ (lapse s).zone = s.zone
      ∧ (lapse s).free = s.free
      ∧ (lapse s).pending = s.pending
      ∧ (lapse s).mark.number = s.mark.number
      ∧ (lapse s).mark.reported = s.mark.reported
      ∧ (lapse s).mark.needs = s.mark.needs
      ∧ (lapse s).mark.quiet = s.mark.quiet
      ∧ (lapse s).mark.leadWait = s.mark.leadWait
      ∧ (lapse s).mark.captureRequested = s.mark.captureRequested
      ∧ (lapse s).mark.serving = s.mark.serving
      ∧ (lapse s).fault.stopSet = s.fault.stopSet
      ∧ (lapse s).port.setup = s.port.setup
      ∧ (lapse s).port.frozen = s.port.frozen
      ∧ (lapse s).port.tau = s.port.tau
      ∧ (lapse s).port.span = s.port.span
      ∧ (lapse s).port.slot = s.port.slot
      ∧ (lapse s).port.shifted = s.port.shifted
      ∧ (lapse s).port.lastEnd = s.port.lastEnd
      ∧ (lapse s).port.changedPeers = s.port.changedPeers := by
  unfold lapse
  refine ⟨?_, ?_, ?_, ?_, ?_, ?_, ?_, ?_, ?_, ?_, ?_, ?_, ?_, ?_, ?_, ?_, ?_, ?_, ?_, ?_, ?_, ?_, ?_, ?_, ?_, ?_,
    ?_, ?_, ?_, ?_, ?_⟩ <;>
    first | rfl | ((try dsimp only); (repeat' split) <;> first | rfl | simp | simp_all)

@[simp] theorem abandonHeld_frame (s : State) :
    (abandonHeld s).phase = s.phase
      ∧ (abandonHeld s).ms = s.ms
      ∧ (abandonHeld s).straps = s.straps
      ∧ (abandonHeld s).levels = s.levels
      ∧ (abandonHeld s).sensor = s.sensor
      ∧ (abandonHeld s).reck = s.reck
      ∧ (abandonHeld s).link = s.link
      ∧ (abandonHeld s).peers = s.peers
      ∧ (abandonHeld s).store = s.store
      ∧ (abandonHeld s).gradeUnit = s.gradeUnit
      ∧ (abandonHeld s).claim = s.claim
      ∧ (abandonHeld s).search = s.search
      ∧ (abandonHeld s).zone = s.zone
      ∧ (abandonHeld s).fault = s.fault
      ∧ (abandonHeld s).port = s.port
      ∧ (abandonHeld s).free = s.free
      ∧ (abandonHeld s).pending = s.pending
      ∧ (abandonHeld s).mark.number = s.mark.number
      ∧ (abandonHeld s).mark.reported = s.mark.reported
      ∧ (abandonHeld s).mark.needs = s.mark.needs
      ∧ (abandonHeld s).mark.quiet = s.mark.quiet
      ∧ (abandonHeld s).mark.leadWait = s.mark.leadWait
      ∧ (abandonHeld s).mark.captureRequested = s.mark.captureRequested
      ∧ (abandonHeld s).mark.serving = s.mark.serving := by
  unfold abandonHeld
  refine ⟨?_, ?_, ?_, ?_, ?_, ?_, ?_, ?_, ?_, ?_, ?_, ?_, ?_, ?_, ?_, ?_, ?_, ?_, ?_, ?_, ?_, ?_, ?_, ?_⟩ <;>
    first | rfl | ((try dsimp only); (repeat' split) <;> first | rfl | simp | simp_all)

@[simp] theorem dropNeeds_frame (s : State) :
    (dropNeeds s).phase = s.phase
      ∧ (dropNeeds s).ms = s.ms
      ∧ (dropNeeds s).straps = s.straps
      ∧ (dropNeeds s).levels = s.levels
      ∧ (dropNeeds s).sensor = s.sensor
      ∧ (dropNeeds s).reck = s.reck
      ∧ (dropNeeds s).peers = s.peers
      ∧ (dropNeeds s).store = s.store
      ∧ (dropNeeds s).gradeUnit = s.gradeUnit
      ∧ (dropNeeds s).claim = s.claim
      ∧ (dropNeeds s).search = s.search
      ∧ (dropNeeds s).zone = s.zone
      ∧ (dropNeeds s).fault = s.fault
      ∧ (dropNeeds s).port = s.port
      ∧ (dropNeeds s).free = s.free
      ∧ (dropNeeds s).pending = s.pending
      ∧ (dropNeeds s).link.line = s.link.line
      ∧ (dropNeeds s).link.bitErrors = s.link.bitErrors
      ∧ (dropNeeds s).link.txErrors = s.link.txErrors
      ∧ (dropNeeds s).link.rxErrors = s.link.rxErrors
      ∧ (dropNeeds s).link.txFail = s.link.txFail
      ∧ (dropNeeds s).link.lastDuplicate = s.link.lastDuplicate
      ∧ (dropNeeds s).link.heartbeat = s.link.heartbeat
      ∧ (dropNeeds s).mark.state = s.mark.state
      ∧ (dropNeeds s).mark.number = s.mark.number
      ∧ (dropNeeds s).mark.reported = s.mark.reported
      ∧ (dropNeeds s).mark.quiet = s.mark.quiet
      ∧ (dropNeeds s).mark.leadWait = s.mark.leadWait
      ∧ (dropNeeds s).mark.captureRequested = s.mark.captureRequested := by
  unfold dropNeeds
  refine ⟨?_, ?_, ?_, ?_, ?_, ?_, ?_, ?_, ?_, ?_, ?_, ?_, ?_, ?_, ?_, ?_, ?_, ?_, ?_, ?_, ?_, ?_, ?_, ?_, ?_, ?_,
    ?_, ?_, ?_⟩ <;>
    rfl

@[simp] theorem markAtFault_frame (s : State) :
    (markAtFault s).phase = s.phase
      ∧ (markAtFault s).ms = s.ms
      ∧ (markAtFault s).straps = s.straps
      ∧ (markAtFault s).levels = s.levels
      ∧ (markAtFault s).sensor = s.sensor
      ∧ (markAtFault s).reck = s.reck
      ∧ (markAtFault s).peers = s.peers
      ∧ (markAtFault s).store = s.store
      ∧ (markAtFault s).gradeUnit = s.gradeUnit
      ∧ (markAtFault s).claim = s.claim
      ∧ (markAtFault s).search = s.search
      ∧ (markAtFault s).zone = s.zone
      ∧ (markAtFault s).fault = s.fault
      ∧ (markAtFault s).port = s.port
      ∧ (markAtFault s).free = s.free
      ∧ (markAtFault s).pending = s.pending
      ∧ (markAtFault s).link.bitErrors = s.link.bitErrors
      ∧ (markAtFault s).link.txErrors = s.link.txErrors
      ∧ (markAtFault s).link.rxErrors = s.link.rxErrors
      ∧ (markAtFault s).link.txFail = s.link.txFail
      ∧ (markAtFault s).link.lastDuplicate = s.link.lastDuplicate
      ∧ (markAtFault s).link.heartbeat = s.link.heartbeat
      ∧ (markAtFault s).mark.number = s.mark.number
      ∧ (markAtFault s).mark.reported = s.mark.reported
      ∧ (markAtFault s).mark.quiet = s.mark.quiet
      ∧ (markAtFault s).mark.leadWait = s.mark.leadWait
      ∧ (markAtFault s).mark.captureRequested = s.mark.captureRequested := by
  unfold markAtFault
  refine ⟨?_, ?_, ?_, ?_, ?_, ?_, ?_, ?_, ?_, ?_, ?_, ?_, ?_, ?_, ?_, ?_, ?_, ?_, ?_, ?_, ?_, ?_, ?_, ?_, ?_, ?_,
    ?_⟩ <;>
    first | rfl | ((try dsimp only); (repeat' split) <;> first | rfl | simp | simp_all)

@[simp] theorem markAtDown_frame (s : State) :
    (markAtDown s).phase = s.phase
      ∧ (markAtDown s).ms = s.ms
      ∧ (markAtDown s).straps = s.straps
      ∧ (markAtDown s).levels = s.levels
      ∧ (markAtDown s).sensor = s.sensor
      ∧ (markAtDown s).reck = s.reck
      ∧ (markAtDown s).peers = s.peers
      ∧ (markAtDown s).store = s.store
      ∧ (markAtDown s).gradeUnit = s.gradeUnit
      ∧ (markAtDown s).claim = s.claim
      ∧ (markAtDown s).search = s.search
      ∧ (markAtDown s).zone = s.zone
      ∧ (markAtDown s).fault = s.fault
      ∧ (markAtDown s).port.setup = s.port.setup
      ∧ (markAtDown s).port.frozen = s.port.frozen
      ∧ (markAtDown s).port.tau = s.port.tau
      ∧ (markAtDown s).port.span = s.port.span
      ∧ (markAtDown s).port.slot = s.port.slot
      ∧ (markAtDown s).port.shifted = s.port.shifted
      ∧ (markAtDown s).port.lastEnd = s.port.lastEnd
      ∧ (markAtDown s).port.changedPeers = s.port.changedPeers
      ∧ (markAtDown s).free = s.free
      ∧ (markAtDown s).pending = s.pending
      ∧ (markAtDown s).link.line = s.link.line
      ∧ (markAtDown s).link.bitErrors = s.link.bitErrors
      ∧ (markAtDown s).link.txErrors = s.link.txErrors
      ∧ (markAtDown s).link.rxErrors = s.link.rxErrors
      ∧ (markAtDown s).link.txFail = s.link.txFail
      ∧ (markAtDown s).link.lastDuplicate = s.link.lastDuplicate
      ∧ (markAtDown s).link.heartbeat = s.link.heartbeat
      ∧ (markAtDown s).mark.number = s.mark.number
      ∧ (markAtDown s).mark.reported = s.mark.reported
      ∧ (markAtDown s).mark.quiet = s.mark.quiet := by
  unfold markAtDown
  refine ⟨?_, ?_, ?_, ?_, ?_, ?_, ?_, ?_, ?_, ?_, ?_, ?_, ?_, ?_, ?_, ?_, ?_, ?_, ?_, ?_, ?_, ?_, ?_, ?_, ?_, ?_,
    ?_, ?_, ?_, ?_, ?_, ?_, ?_⟩ <;>
    first | rfl | ((try dsimp only); (repeat' split) <;> first | rfl | simp | simp_all)

end Sys2Proof.Machine
end

