-- ==== Sys2Proof/Laws/Values.lean ====
section
/-! SUPPORT. What the shared operations write: the angle, the basis and the grade, the store's requests and writes, the
directive record, the bits of a frame, the characters of a response. -/

set_option linter.unusedTactic false
set_option linter.unreachableTactic false
set_option linter.unnecessarySeqFocus false

namespace Sys2Proof.Machine

/-! ### The angle and λ -/

theorem recomputeTheta_theta (s : State) : (recomputeTheta s).reck.theta = (formedAngle s).map clampAngle := by
  unfold recomputeTheta
  cases h : formedAngle s with
  | none => rfl
  | some v => dsimp only; split <;> rfl

theorem recomputeTheta_saturated (s : State) :
    (recomputeTheta s).reck.saturated =
      match formedAngle s with
      | none => s.reck.saturated
      | some v => !angleInRange v := by
  unfold recomputeTheta
  cases h : formedAngle s with
  | none => rfl
  | some v => dsimp only; split <;> rfl

/-- θ recomputed changes θ, the SATURATED flag, the fault record and the attention causes only. -/
theorem recomputeTheta_reck (s : State) :
    (recomputeTheta s).reck =
      { s.reck with theta := (recomputeTheta s).reck.theta, saturated := (recomputeTheta s).reck.saturated } := by
  unfold recomputeTheta
  cases h : formedAngle s with
  | none => rfl
  | some v => dsimp only; split <;> rfl

@[simp] theorem setLambda_lambda (v : Int) (s : State) : (setLambda v s).reck.lambda = v := by
  unfold setLambda; rw [recomputeTheta_reck]

/-! ### The basis and the grade -/

@[simp] theorem setBasis_basis (b : Basis) (s : State) : (setBasis b s).reck.basis = b := by
  unfold setBasis; split
  · assumption
  · rw [recomputeTheta_reck]

@[simp] theorem putGrade_grade (g : Grade) (s : State) : (putGrade g s).gradeUnit.grade = g := by
  unfold putGrade; split
  · assumption
  · rfl

@[simp] theorem setGradeBasis_grade (g : Grade) (b : Basis) (s : State) :
    (setGradeBasis g b s).gradeUnit.grade = g := by
  unfold setGradeBasis; dsimp only; split <;> simp

@[simp] theorem setGradeBasis_basis (g : Grade) (b : Basis) (s : State) : (setGradeBasis g b s).reck.basis = b := by
  unfold setGradeBasis; dsimp only; split <;> simp

@[simp] theorem setGrade_grade (g : Grade) (b : Basis) (s : State) : (setGrade g b s).gradeUnit.grade = g :=
  setGradeBasis_grade g _ s

@[simp] theorem setGrade_basis (g : Grade) (b : Basis) (s : State) : (setGrade g b s).reck.basis = basisFor g b :=
  setGradeBasis_basis g _ s

/-! ### The store -/

theorem requestSnapshot_down (c : SnapCause) (w : SnapState) (s : State) (h : s.phase = .down) :
    requestSnapshot c w s = s := by simp [requestSnapshot, h]

theorem requestSnapshot_pending (c : SnapCause) (w : SnapState) (s : State) (h : s.phase ≠ .down) :
    (requestSnapshot c w s).store.pendingSnap = some (snapContents c w s) := by
  simp [requestSnapshot, putSnapshot, h]

theorem startWrite_busy (s : State) (h : s.store.inFlight.isSome = true) : startWrite s = s := by
  unfold startWrite
  cases hi : s.store.inFlight <;> simp_all

theorem startWrite_calibration (c : CalRequest) (s : State) (h : s.store.scanDone = true) (hi : s.store.inFlight = none)
    (hc : s.store.pendingCal = some c) :
    (startWrite s).store.inFlight = some (.cal { seq := nextCalSeq s, body := c })
      ∧ (startWrite s).store.imageCal = .writing ∧ (startWrite s).store.pendingCal = none
      ∧ (startWrite s).store.pendingSnap = s.store.pendingSnap := by
  simp [startWrite, h, hi, hc]

theorem startWrite_snapshot (r : SnapRequest) (s : State) (h : s.store.scanDone = true) (hi : s.store.inFlight = none)
    (hc : s.store.pendingCal = none) (hs : s.store.pendingSnap = some r) :
    (startWrite s).store.inFlight = some (.snap (nextTarget s) { seq := nextSeq s, body := r })
      ∧ (startWrite s).store.pendingSnap = none := by
  simp [startWrite, h, hi, hc, hs]

/-! ### Directives -/

theorem postDirective_record (k : DirKind) (v : Nat) (g : Option Int) (s : State) :
    (postDirective k v g s).claim.dirState = .posted
      ∧ (postDirective k v g s).claim.dir.number = nextNumber s.claim.lastNumber
      ∧ (postDirective k v g s).claim.dir.kind = some k ∧ (postDirective k v g s).claim.dir.speed = some v
      ∧ (postDirective k v g s).claim.dir.target = g ∧ (postDirective k v g s).claim.dir.postedTime = some s.ms
      ∧ (postDirective k v g s).claim.lastNumber = nextNumber s.claim.lastNumber
      ∧ (postDirective k v g s).port.attention.directive = true
      ∧ (postDirective k v g s).claim.untakenOpen = true :=
  ⟨rfl, rfl, rfl, rfl, rfl, rfl, rfl, rfl, rfl⟩

theorem nextNumber_range (n : Nat) : 1 ≤ nextNumber n ∧ nextNumber n ≤ 255 := by
  unfold nextNumber; split <;> omega

theorem postMove_without_claim (k : DirKind) (v : Nat) (g : Option Int) (s : State) (h : s.claim.state ≠ .held) :
    postMove k v g s = s := by simp [postMove, h]

theorem postStop_current (s : State) (h : stopCurrent s = true) : postStop s = s := by simp [postStop, h]

theorem releaseClaim_state (s : State) :
    (releaseClaim s).claim.state = .none ∨ (releaseClaim s).claim.state = .releasing := by
  unfold releaseClaim
  cases h : s.claim.state <;> simp [h, beginRelease, withdrawFrame, sendFrame] <;> (repeat' split) <;> simp_all

/-! ### The bits of the line -/

@[simp] theorem characterBits_length (c : Byte) : (characterBits c).length = 10 := rfl

@[simp] theorem lineBits_nil : lineBits [] = [] := rfl

@[simp] theorem lineBits_cons (c : Byte) (cs : List Byte) : lineBits (c :: cs) = characterBits c ++ lineBits cs := rfl

@[simp] theorem LineBit.other_ne (b : LineBit) : b.other ≠ b := by cases b <;> decide

theorem compareBit_same (n : Nat) (b : LineBit) : compareBit n b b = .same := by cases b <;> rfl

theorem compareBit_lost_iff (n : Nat) (b r : LineBit) :
    compareBit n b r = .arbitrationLost ↔ b = .recessive ∧ r = .dominant ∧ n < 10 := by
  cases b <;> cases r <;> simp [compareBit] <;> split <;> simp_all

/-! ### The lines and the characters of the drive port -/

@[simp] theorem responseChars_length (r : Response) : (responseChars r).length = (dataChars r.data).length + 6 := by
  simp [responseChars, responseBody, bytes16]

end Sys2Proof.Machine
end

