-- ==== Sys2Proof/Laws/Search.lean ====
section
/-! SUPPORT. What the operations of the reference sequencer leave unchanged: one frame lemma for each. -/

set_option linter.unusedTactic false
set_option linter.unreachableTactic false
set_option linter.unnecessarySeqFocus false

namespace Sys2Proof.Machine

/-! ### SearchOps -/

@[simp] theorem setPhase_frame (p : Phase) (s : State) :
    (setPhase p s).ms = s.ms
      ∧ (setPhase p s).straps = s.straps
      ∧ (setPhase p s).levels = s.levels
      ∧ (setPhase p s).sensor = s.sensor
      ∧ (setPhase p s).reck = s.reck
      ∧ (setPhase p s).link = s.link
      ∧ (setPhase p s).mark = s.mark
      ∧ (setPhase p s).gradeUnit = s.gradeUnit
      ∧ (setPhase p s).claim = s.claim
      ∧ (setPhase p s).search = s.search
      ∧ (setPhase p s).zone = s.zone
      ∧ (setPhase p s).port = s.port
      ∧ (setPhase p s).free = s.free
      ∧ (setPhase p s).pending = s.pending
      ∧ (setPhase p s).peers.entries = s.peers.entries
      ∧ (setPhase p s).peers.digest = s.peers.digest
      ∧ (setPhase p s).store.cellsA = s.store.cellsA
      ∧ (setPhase p s).store.cellsB = s.store.cellsB
      ∧ (setPhase p s).store.cellsCal = s.store.cellsCal
      ∧ (setPhase p s).store.imageA = s.store.imageA
      ∧ (setPhase p s).store.imageB = s.store.imageB
      ∧ (setPhase p s).store.imageCal = s.store.imageCal
      ∧ (setPhase p s).store.calSeq = s.store.calSeq
      ∧ (setPhase p s).store.inFlight = s.store.inFlight
      ∧ (setPhase p s).store.pendingSnap = s.store.pendingSnap
      ∧ (setPhase p s).store.pendingCal = s.store.pendingCal
      ∧ (setPhase p s).store.scanDone = s.store.scanDone
      ∧ (setPhase p s).fault.record = s.fault.record := by
  unfold setPhase
  refine ⟨?_, ?_, ?_, ?_, ?_, ?_, ?_, ?_, ?_, ?_, ?_, ?_, ?_, ?_, ?_, ?_, ?_, ?_, ?_, ?_, ?_, ?_, ?_, ?_, ?_, ?_,
    ?_, ?_⟩ <;>
    (repeat' split) <;> rfl

@[simp] theorem endLeadHold_frame (s : State) :
    (endLeadHold s).phase = s.phase
      ∧ (endLeadHold s).ms = s.ms
      ∧ (endLeadHold s).straps = s.straps
      ∧ (endLeadHold s).levels = s.levels
      ∧ (endLeadHold s).sensor = s.sensor
      ∧ (endLeadHold s).link = s.link
      ∧ (endLeadHold s).peers = s.peers
      ∧ (endLeadHold s).mark = s.mark
      ∧ (endLeadHold s).store = s.store
      ∧ (endLeadHold s).gradeUnit = s.gradeUnit
      ∧ (endLeadHold s).claim = s.claim
      ∧ (endLeadHold s).zone = s.zone
      ∧ (endLeadHold s).free = s.free
      ∧ (endLeadHold s).pending = s.pending
      ∧ (endLeadHold s).reck.count = s.reck.count
      ∧ (endLeadHold s).reck.started = s.reck.started
      ∧ (endLeadHold s).reck.lastGood = s.reck.lastGood
      ∧ (endLeadHold s).reck.held = s.reck.held
      ∧ (endLeadHold s).reck.turnOffset = s.reck.turnOffset
      ∧ (endLeadHold s).reck.theta0 = s.reck.theta0
      ∧ (endLeadHold s).reck.sigma = s.reck.sigma
      ∧ (endLeadHold s).reck.calibrated = s.reck.calibrated
      ∧ (endLeadHold s).reck.basis = s.reck.basis
      ∧ (endLeadHold s).reck.thetaScale = s.reck.thetaScale
      ∧ (endLeadHold s).reck.anchor = s.reck.anchor
      ∧ (endLeadHold s).reck.atRest = s.reck.atRest
      ∧ (endLeadHold s).reck.drift = s.reck.drift
      ∧ (endLeadHold s).search.sub = s.search.sub
      ∧ (endLeadHold s).search.outcome = s.search.outcome
      ∧ (endLeadHold s).search.passes = s.search.passes
      ∧ (endLeadHold s).search.level = s.search.level
      ∧ (endLeadHold s).search.total = s.search.total
      ∧ (endLeadHold s).search.plus = s.search.plus
      ∧ (endLeadHold s).search.stage = s.search.stage
      ∧ (endLeadHold s).fault.stopSet = s.fault.stopSet
      ∧ (endLeadHold s).port.setup = s.port.setup
      ∧ (endLeadHold s).port.frozen = s.port.frozen
      ∧ (endLeadHold s).port.tau = s.port.tau
      ∧ (endLeadHold s).port.span = s.port.span
      ∧ (endLeadHold s).port.slot = s.port.slot
      ∧ (endLeadHold s).port.shifted = s.port.shifted
      ∧ (endLeadHold s).port.lastEnd = s.port.lastEnd
      ∧ (endLeadHold s).port.changedPeers = s.port.changedPeers := by
  unfold endLeadHold
  refine ⟨?_, ?_, ?_, ?_, ?_, ?_, ?_, ?_, ?_, ?_, ?_, ?_, ?_, ?_, ?_, ?_, ?_, ?_, ?_, ?_, ?_, ?_, ?_, ?_, ?_, ?_,
    ?_, ?_, ?_, ?_, ?_, ?_, ?_, ?_, ?_, ?_, ?_, ?_, ?_, ?_, ?_, ?_, ?_⟩ <;>
    (repeat' split) <;> simp

@[simp] theorem clearSearch_frame (o : SearchOutcome) (s : State) :
    (clearSearch o s).phase = s.phase
      ∧ (clearSearch o s).ms = s.ms
      ∧ (clearSearch o s).straps = s.straps
      ∧ (clearSearch o s).levels = s.levels
      ∧ (clearSearch o s).sensor = s.sensor
      ∧ (clearSearch o s).reck = s.reck
      ∧ (clearSearch o s).link = s.link
      ∧ (clearSearch o s).peers = s.peers
      ∧ (clearSearch o s).mark = s.mark
      ∧ (clearSearch o s).store = s.store
      ∧ (clearSearch o s).gradeUnit = s.gradeUnit
      ∧ (clearSearch o s).claim = s.claim
      ∧ (clearSearch o s).zone = s.zone
      ∧ (clearSearch o s).fault = s.fault
      ∧ (clearSearch o s).port = s.port
      ∧ (clearSearch o s).free = s.free
      ∧ (clearSearch o s).pending = s.pending
      ∧ (clearSearch o s).search.leadHold = s.search.leadHold
      ∧ (clearSearch o s).search.passes = s.search.passes
      ∧ (clearSearch o s).search.level = s.search.level
      ∧ (clearSearch o s).search.total = s.search.total
      ∧ (clearSearch o s).search.plus = s.search.plus
      ∧ (clearSearch o s).search.prereqTimer = s.search.prereqTimer
      ∧ (clearSearch o s).search.settleFirst = s.search.settleFirst
      ∧ (clearSearch o s).search.settleSecond = s.search.settleSecond := by
  unfold clearSearch
  refine ⟨?_, ?_, ?_, ?_, ?_, ?_, ?_, ?_, ?_, ?_, ?_, ?_, ?_, ?_, ?_, ?_, ?_, ?_, ?_, ?_, ?_, ?_, ?_, ?_, ?_⟩ <;>
    rfl

@[simp] theorem withdrawCalibration_frame (s : State) :
    (withdrawCalibration s).phase = s.phase
      ∧ (withdrawCalibration s).ms = s.ms
      ∧ (withdrawCalibration s).straps = s.straps
      ∧ (withdrawCalibration s).levels = s.levels
      ∧ (withdrawCalibration s).sensor = s.sensor
      ∧ (withdrawCalibration s).reck = s.reck
      ∧ (withdrawCalibration s).link = s.link
      ∧ (withdrawCalibration s).peers = s.peers
      ∧ (withdrawCalibration s).gradeUnit = s.gradeUnit
      ∧ (withdrawCalibration s).claim = s.claim
      ∧ (withdrawCalibration s).search = s.search
      ∧ (withdrawCalibration s).zone = s.zone
      ∧ (withdrawCalibration s).fault = s.fault
      ∧ (withdrawCalibration s).port = s.port
      ∧ (withdrawCalibration s).free = s.free
      ∧ (withdrawCalibration s).pending = s.pending
      ∧ (withdrawCalibration s).mark.state = s.mark.state
      ∧ (withdrawCalibration s).mark.number = s.mark.number
      ∧ (withdrawCalibration s).mark.reported = s.mark.reported
      ∧ (withdrawCalibration s).mark.quiet = s.mark.quiet
      ∧ (withdrawCalibration s).mark.leadWait = s.mark.leadWait
      ∧ (withdrawCalibration s).mark.captureRequested = s.mark.captureRequested
      ∧ (withdrawCalibration s).store.cellsA = s.store.cellsA
      ∧ (withdrawCalibration s).store.cellsB = s.store.cellsB
      ∧ (withdrawCalibration s).store.cellsCal = s.store.cellsCal
      ∧ (withdrawCalibration s).store.imageA = s.store.imageA
      ∧ (withdrawCalibration s).store.imageB = s.store.imageB
      ∧ (withdrawCalibration s).store.imageCal = s.store.imageCal
      ∧ (withdrawCalibration s).store.calSeq = s.store.calSeq
      ∧ (withdrawCalibration s).store.inFlight = s.store.inFlight
      ∧ (withdrawCalibration s).store.pendingSnap = s.store.pendingSnap
      ∧ (withdrawCalibration s).store.scanDone = s.store.scanDone := by
  unfold withdrawCalibration
  refine ⟨?_, ?_, ?_, ?_, ?_, ?_, ?_, ?_, ?_, ?_, ?_, ?_, ?_, ?_, ?_, ?_, ?_, ?_, ?_, ?_, ?_, ?_, ?_, ?_, ?_, ?_,
    ?_, ?_, ?_, ?_, ?_, ?_⟩ <;>
    rfl

@[simp] theorem endSearch_frame (o : SearchOutcome) (s : State) :
    (endSearch o s).ms = s.ms
      ∧ (endSearch o s).straps = s.straps
      ∧ (endSearch o s).levels = s.levels
      ∧ (endSearch o s).sensor = s.sensor
      ∧ (endSearch o s).gradeUnit = s.gradeUnit
      ∧ (endSearch o s).zone = s.zone
      ∧ (endSearch o s).free = s.free
      ∧ (endSearch o s).pending = s.pending
      ∧ (endSearch o s).reck.count = s.reck.count
      ∧ (endSearch o s).reck.started = s.reck.started
      ∧ (endSearch o s).reck.lastGood = s.reck.lastGood
      ∧ (endSearch o s).reck.held = s.reck.held
      ∧ (endSearch o s).reck.turnOffset = s.reck.turnOffset
      ∧ (endSearch o s).reck.theta0 = s.reck.theta0
      ∧ (endSearch o s).reck.sigma = s.reck.sigma
      ∧ (endSearch o s).reck.calibrated = s.reck.calibrated
      ∧ (endSearch o s).reck.basis = s.reck.basis
      ∧ (endSearch o s).reck.thetaScale = s.reck.thetaScale
      ∧ (endSearch o s).reck.anchor = s.reck.anchor
      ∧ (endSearch o s).reck.atRest = s.reck.atRest
      ∧ (endSearch o s).reck.drift = s.reck.drift
      ∧ (endSearch o s).link.bitErrors = s.link.bitErrors
      ∧ (endSearch o s).link.txErrors = s.link.txErrors
      ∧ (endSearch o s).link.rxErrors = s.link.rxErrors
      ∧ (endSearch o s).link.txFail = s.link.txFail
      ∧ (endSearch o s).link.lastDuplicate = s.link.lastDuplicate
      ∧ (endSearch o s).link.heartbeat = s.link.heartbeat
      ∧ (endSearch o s).peers.entries = s.peers.entries
      ∧ (endSearch o s).peers.digest = s.peers.digest
      ∧ (endSearch o s).mark.state = s.mark.state
      ∧ (endSearch o s).mark.number = s.mark.number
      ∧ (endSearch o s).mark.reported = s.mark.reported
      ∧ (endSearch o s).mark.quiet = s.mark.quiet
      ∧ (endSearch o s).mark.leadWait = s.mark.leadWait
      ∧ (endSearch o s).mark.captureRequested = s.mark.captureRequested
      ∧ (endSearch o s).store.cellsA = s.store.cellsA
      ∧ (endSearch o s).store.cellsB = s.store.cellsB
      ∧ (endSearch o s).store.cellsCal = s.store.cellsCal
      ∧ (endSearch o s).store.imageA = s.store.imageA
      ∧ (endSearch o s).store.imageB = s.store.imageB
      ∧ (endSearch o s).store.imageCal = s.store.imageCal
      ∧ (endSearch o s).store.calSeq = s.store.calSeq
      ∧ (endSearch o s).store.inFlight = s.store.inFlight
      ∧ (endSearch o s).store.pendingSnap = s.store.pendingSnap
      ∧ (endSearch o s).store.scanDone = s.store.scanDone
      ∧ (endSearch o s).claim.purpose = s.claim.purpose
      ∧ (endSearch o s).search.passes = s.search.passes
      ∧ (endSearch o s).search.level = s.search.level
      ∧ (endSearch o s).search.total = s.search.total
      ∧ (endSearch o s).search.plus = s.search.plus
      ∧ (endSearch o s).port.setup = s.port.setup
      ∧ (endSearch o s).port.frozen = s.port.frozen
      ∧ (endSearch o s).port.tau = s.port.tau
      ∧ (endSearch o s).port.span = s.port.span
      ∧ (endSearch o s).port.slot = s.port.slot
      ∧ (endSearch o s).port.shifted = s.port.shifted
      ∧ (endSearch o s).port.lastEnd = s.port.lastEnd
      ∧ (endSearch o s).port.changedPeers = s.port.changedPeers := by
  unfold endSearch
  refine ⟨?_, ?_, ?_, ?_, ?_, ?_, ?_, ?_, ?_, ?_, ?_, ?_, ?_, ?_, ?_, ?_, ?_, ?_, ?_, ?_, ?_, ?_, ?_, ?_, ?_, ?_,
    ?_, ?_, ?_, ?_, ?_, ?_, ?_, ?_, ?_, ?_, ?_, ?_, ?_, ?_, ?_, ?_, ?_, ?_, ?_, ?_, ?_, ?_, ?_, ?_, ?_, ?_, ?_, ?_,
    ?_, ?_, ?_, ?_⟩ <;>
    simp

@[simp] theorem failSearch_frame (c : FailCause) (second : Int) (s : State) :
    (failSearch c second s).ms = s.ms
      ∧ (failSearch c second s).straps = s.straps
      ∧ (failSearch c second s).levels = s.levels
      ∧ (failSearch c second s).sensor = s.sensor
      ∧ (failSearch c second s).gradeUnit = s.gradeUnit
      ∧ (failSearch c second s).zone = s.zone
      ∧ (failSearch c second s).free = s.free
      ∧ (failSearch c second s).pending = s.pending
      ∧ (failSearch c second s).reck.count = s.reck.count
      ∧ (failSearch c second s).reck.started = s.reck.started
      ∧ (failSearch c second s).reck.lastGood = s.reck.lastGood
      ∧ (failSearch c second s).reck.held = s.reck.held
      ∧ (failSearch c second s).reck.turnOffset = s.reck.turnOffset
      ∧ (failSearch c second s).reck.theta0 = s.reck.theta0
      ∧ (failSearch c second s).reck.sigma = s.reck.sigma
      ∧ (failSearch c second s).reck.calibrated = s.reck.calibrated
      ∧ (failSearch c second s).reck.basis = s.reck.basis
      ∧ (failSearch c second s).reck.thetaScale = s.reck.thetaScale
      ∧ (failSearch c second s).reck.anchor = s.reck.anchor
      ∧ (failSearch c second s).reck.atRest = s.reck.atRest
      ∧ (failSearch c second s).reck.drift = s.reck.drift
      ∧ (failSearch c second s).link.bitErrors = s.link.bitErrors
      ∧ (failSearch c second s).link.txErrors = s.link.txErrors
      ∧ (failSearch c second s).link.rxErrors = s.link.rxErrors
      ∧ (failSearch c second s).link.txFail = s.link.txFail
      ∧ (failSearch c second s).link.lastDuplicate = s.link.lastDuplicate
      ∧ (failSearch c second s).link.heartbeat = s.link.heartbeat
      ∧ (failSearch c second s).peers.entries = s.peers.entries
      ∧ (failSearch c second s).peers.digest = s.peers.digest
      ∧ (failSearch c second s).mark.state = s.mark.state
      ∧ (failSearch c second s).mark.number = s.mark.number
      ∧ (failSearch c second s).mark.reported = s.mark.reported
      ∧ (failSearch c second s).mark.quiet = s.mark.quiet
      ∧ (failSearch c second s).mark.leadWait = s.mark.leadWait
      ∧ (failSearch c second s).mark.captureRequested = s.mark.captureRequested
      ∧ (failSearch c second s).store.cellsA = s.store.cellsA
      ∧ (failSearch c second s).store.cellsB = s.store.cellsB
      ∧ (failSearch c second s).store.cellsCal = s.store.cellsCal
      ∧ (failSearch c second s).store.imageA = s.store.imageA
      ∧ (failSearch c second s).store.imageB = s.store.imageB
      ∧ (failSearch c second s).store.imageCal = s.store.imageCal
      ∧ (failSearch c second s).store.calSeq = s.store.calSeq
      ∧ (failSearch c second s).store.inFlight = s.store.inFlight
      ∧ (failSearch c second s).store.pendingSnap = s.store.pendingSnap
      ∧ (failSearch c second s).store.scanDone = s.store.scanDone
      ∧ (failSearch c second s).claim.purpose = s.claim.purpose
      ∧ (failSearch c second s).search.passes = s.search.passes
      ∧ (failSearch c second s).search.level = s.search.level
      ∧ (failSearch c second s).search.total = s.search.total
      ∧ (failSearch c second s).search.plus = s.search.plus
      ∧ (failSearch c second s).port.setup = s.port.setup
      ∧ (failSearch c second s).port.frozen = s.port.frozen
      ∧ (failSearch c second s).port.tau = s.port.tau
      ∧ (failSearch c second s).port.span = s.port.span
      ∧ (failSearch c second s).port.slot = s.port.slot
      ∧ (failSearch c second s).port.shifted = s.port.shifted
      ∧ (failSearch c second s).port.lastEnd = s.port.lastEnd
      ∧ (failSearch c second s).port.changedPeers = s.port.changedPeers := by
  unfold failSearch
  refine ⟨?_, ?_, ?_, ?_, ?_, ?_, ?_, ?_, ?_, ?_, ?_, ?_, ?_, ?_, ?_, ?_, ?_, ?_, ?_, ?_, ?_, ?_, ?_, ?_, ?_, ?_,
    ?_, ?_, ?_, ?_, ?_, ?_, ?_, ?_, ?_, ?_, ?_, ?_, ?_, ?_, ?_, ?_, ?_, ?_, ?_, ?_, ?_, ?_, ?_, ?_, ?_, ?_, ?_, ?_,
    ?_, ?_, ?_, ?_⟩ <;>
    first | rfl | ((try dsimp only); (repeat' split) <;> first | rfl | simp | simp_all)

@[simp] theorem abortSearch_frame (r : AbortReason) (st : Option Station) (s : State) :
    (abortSearch r st s).ms = s.ms
      ∧ (abortSearch r st s).straps = s.straps
      ∧ (abortSearch r st s).levels = s.levels
      ∧ (abortSearch r st s).sensor = s.sensor
      ∧ (abortSearch r st s).gradeUnit = s.gradeUnit
      ∧ (abortSearch r st s).zone = s.zone
      ∧ (abortSearch r st s).free = s.free
      ∧ (abortSearch r st s).pending = s.pending
      ∧ (abortSearch r st s).reck.count = s.reck.count
      ∧ (abortSearch r st s).reck.started = s.reck.started
      ∧ (abortSearch r st s).reck.lastGood = s.reck.lastGood
      ∧ (abortSearch r st s).reck.held = s.reck.held
      ∧ (abortSearch r st s).reck.turnOffset = s.reck.turnOffset
      ∧ (abortSearch r st s).reck.theta0 = s.reck.theta0
      ∧ (abortSearch r st s).reck.sigma = s.reck.sigma
      ∧ (abortSearch r st s).reck.calibrated = s.reck.calibrated
      ∧ (abortSearch r st s).reck.basis = s.reck.basis
      ∧ (abortSearch r st s).reck.thetaScale = s.reck.thetaScale
      ∧ (abortSearch r st s).reck.anchor = s.reck.anchor
      ∧ (abortSearch r st s).reck.atRest = s.reck.atRest
      ∧ (abortSearch r st s).reck.drift = s.reck.drift
      ∧ (abortSearch r st s).link.bitErrors = s.link.bitErrors
      ∧ (abortSearch r st s).link.txErrors = s.link.txErrors
      ∧ (abortSearch r st s).link.rxErrors = s.link.rxErrors
      ∧ (abortSearch r st s).link.txFail = s.link.txFail
      ∧ (abortSearch r st s).link.lastDuplicate = s.link.lastDuplicate
      ∧ (abortSearch r st s).link.heartbeat = s.link.heartbeat
      ∧ (abortSearch r st s).peers.entries = s.peers.entries
      ∧ (abortSearch r st s).peers.digest = s.peers.digest
      ∧ (abortSearch r st s).mark.state = s.mark.state
      ∧ (abortSearch r st s).mark.number = s.mark.number
      ∧ (abortSearch r st s).mark.reported = s.mark.reported
      ∧ (abortSearch r st s).mark.quiet = s.mark.quiet
      ∧ (abortSearch r st s).mark.leadWait = s.mark.leadWait
      ∧ (abortSearch r st s).mark.captureRequested = s.mark.captureRequested
      ∧ (abortSearch r st s).store.cellsA = s.store.cellsA
      ∧ (abortSearch r st s).store.cellsB = s.store.cellsB
      ∧ (abortSearch r st s).store.cellsCal = s.store.cellsCal
      ∧ (abortSearch r st s).store.imageA = s.store.imageA
      ∧ (abortSearch r st s).store.imageB = s.store.imageB
      ∧ (abortSearch r st s).store.imageCal = s.store.imageCal
      ∧ (abortSearch r st s).store.calSeq = s.store.calSeq
      ∧ (abortSearch r st s).store.inFlight = s.store.inFlight
      ∧ (abortSearch r st s).store.pendingSnap = s.store.pendingSnap
      ∧ (abortSearch r st s).store.scanDone = s.store.scanDone
      ∧ (abortSearch r st s).claim.purpose = s.claim.purpose
      ∧ (abortSearch r st s).search.passes = s.search.passes
      ∧ (abortSearch r st s).search.level = s.search.level
      ∧ (abortSearch r st s).search.total = s.search.total
      ∧ (abortSearch r st s).search.plus = s.search.plus
      ∧ (abortSearch r st s).port.setup = s.port.setup
      ∧ (abortSearch r st s).port.frozen = s.port.frozen
      ∧ (abortSearch r st s).port.tau = s.port.tau
      ∧ (abortSearch r st s).port.span = s.port.span
      ∧ (abortSearch r st s).port.slot = s.port.slot
      ∧ (abortSearch r st s).port.shifted = s.port.shifted
      ∧ (abortSearch r st s).port.lastEnd = s.port.lastEnd
      ∧ (abortSearch r st s).port.changedPeers = s.port.changedPeers := by
  unfold abortSearch
  refine ⟨?_, ?_, ?_, ?_, ?_, ?_, ?_, ?_, ?_, ?_, ?_, ?_, ?_, ?_, ?_, ?_, ?_, ?_, ?_, ?_, ?_, ?_, ?_, ?_, ?_, ?_,
    ?_, ?_, ?_, ?_, ?_, ?_, ?_, ?_, ?_, ?_, ?_, ?_, ?_, ?_, ?_, ?_, ?_, ?_, ?_, ?_, ?_, ?_, ?_, ?_, ?_, ?_, ?_, ?_,
    ?_, ?_, ?_, ?_⟩ <;>
    first | rfl | ((try dsimp only); (repeat' split) <;> first | rfl | simp | simp_all)

@[simp] theorem endSearchByFault_frame (s : State) :
    (endSearchByFault s).phase = s.phase
      ∧ (endSearchByFault s).ms = s.ms
      ∧ (endSearchByFault s).straps = s.straps
      ∧ (endSearchByFault s).levels = s.levels
      ∧ (endSearchByFault s).sensor = s.sensor
      ∧ (endSearchByFault s).link = s.link
      ∧ (endSearchByFault s).peers = s.peers
      ∧ (endSearchByFault s).gradeUnit = s.gradeUnit
      ∧ (endSearchByFault s).claim = s.claim
      ∧ (endSearchByFault s).zone = s.zone
      ∧ (endSearchByFault s).free = s.free
      ∧ (endSearchByFault s).pending = s.pending
      ∧ (endSearchByFault s).reck.count = s.reck.count
      ∧ (endSearchByFault s).reck.started = s.reck.started
      ∧ (endSearchByFault s).reck.lastGood = s.reck.lastGood
      ∧ (endSearchByFault s).reck.held = s.reck.held
      ∧ (endSearchByFault s).reck.turnOffset = s.reck.turnOffset
      ∧ (endSearchByFault s).reck.theta0 = s.reck.theta0
      ∧ (endSearchByFault s).reck.sigma = s.reck.sigma
      ∧ (endSearchByFault s).reck.calibrated = s.reck.calibrated
      ∧ (endSearchByFault s).reck.basis = s.reck.basis
      ∧ (endSearchByFault s).reck.thetaScale = s.reck.thetaScale
      ∧ (endSearchByFault s).reck.anchor = s.reck.anchor
      ∧ (endSearchByFault s).reck.atRest = s.reck.atRest
      ∧ (endSearchByFault s).reck.drift = s.reck.drift
      ∧ (endSearchByFault s).mark.state = s.mark.state
      ∧ (endSearchByFault s).mark.number = s.mark.number
      ∧ (endSearchByFault s).mark.reported = s.mark.reported
      ∧ (endSearchByFault s).mark.quiet = s.mark.quiet
      ∧ (endSearchByFault s).mark.leadWait = s.mark.leadWait
      ∧ (endSearchByFault s).mark.captureRequested = s.mark.captureRequested
      ∧ (endSearchByFault s).store.cellsA = s.store.cellsA
      ∧ (endSearchByFault s).store.cellsB = s.store.cellsB
      ∧ (endSearchByFault s).store.cellsCal = s.store.cellsCal
      ∧ (endSearchByFault s).store.imageA = s.store.imageA
      ∧ (endSearchByFault s).store.imageB = s.store.imageB
      ∧ (endSearchByFault s).store.imageCal = s.store.imageCal
      ∧ (endSearchByFault s).store.calSeq = s.store.calSeq
      ∧ (endSearchByFault s).store.inFlight = s.store.inFlight
      ∧ (endSearchByFault s).store.pendingSnap = s.store.pendingSnap
      ∧ (endSearchByFault s).store.scanDone = s.store.scanDone
      ∧ (endSearchByFault s).search.passes = s.search.passes
      ∧ (endSearchByFault s).search.level = s.search.level
      ∧ (endSearchByFault s).search.total = s.search.total
      ∧ (endSearchByFault s).search.plus = s.search.plus
      ∧ (endSearchByFault s).fault.stopSet = s.fault.stopSet
      ∧ (endSearchByFault s).port.setup = s.port.setup
      ∧ (endSearchByFault s).port.frozen = s.port.frozen
      ∧ (endSearchByFault s).port.tau = s.port.tau
      ∧ (endSearchByFault s).port.span = s.port.span
      ∧ (endSearchByFault s).port.slot = s.port.slot
      ∧ (endSearchByFault s).port.shifted = s.port.shifted
      ∧ (endSearchByFault s).port.lastEnd = s.port.lastEnd
      ∧ (endSearchByFault s).port.changedPeers = s.port.changedPeers := by
  unfold endSearchByFault
  refine ⟨?_, ?_, ?_, ?_, ?_, ?_, ?_, ?_, ?_, ?_, ?_, ?_, ?_, ?_, ?_, ?_, ?_, ?_, ?_, ?_, ?_, ?_, ?_, ?_, ?_, ?_,
    ?_, ?_, ?_, ?_, ?_, ?_, ?_, ?_, ?_, ?_, ?_, ?_, ?_, ?_, ?_, ?_, ?_, ?_, ?_, ?_, ?_, ?_, ?_, ?_, ?_, ?_, ?_,
    ?_⟩ <;>
    first | rfl | ((try dsimp only); (repeat' split) <;> first | rfl | simp | simp_all)

@[simp] theorem endSearchByPower_frame (s : State) :
    (endSearchByPower s).phase = s.phase
      ∧ (endSearchByPower s).ms = s.ms
      ∧ (endSearchByPower s).straps = s.straps
      ∧ (endSearchByPower s).levels = s.levels
      ∧ (endSearchByPower s).sensor = s.sensor
      ∧ (endSearchByPower s).link = s.link
      ∧ (endSearchByPower s).peers = s.peers
      ∧ (endSearchByPower s).mark = s.mark
      ∧ (endSearchByPower s).store = s.store
      ∧ (endSearchByPower s).gradeUnit = s.gradeUnit
      ∧ (endSearchByPower s).claim = s.claim
      ∧ (endSearchByPower s).zone = s.zone
      ∧ (endSearchByPower s).free = s.free
      ∧ (endSearchByPower s).pending = s.pending
      ∧ (endSearchByPower s).reck.count = s.reck.count
      ∧ (endSearchByPower s).reck.started = s.reck.started
      ∧ (endSearchByPower s).reck.lastGood = s.reck.lastGood
      ∧ (endSearchByPower s).reck.held = s.reck.held
      ∧ (endSearchByPower s).reck.turnOffset = s.reck.turnOffset
      ∧ (endSearchByPower s).reck.theta0 = s.reck.theta0
      ∧ (endSearchByPower s).reck.sigma = s.reck.sigma
      ∧ (endSearchByPower s).reck.calibrated = s.reck.calibrated
      ∧ (endSearchByPower s).reck.basis = s.reck.basis
      ∧ (endSearchByPower s).reck.thetaScale = s.reck.thetaScale
      ∧ (endSearchByPower s).reck.anchor = s.reck.anchor
      ∧ (endSearchByPower s).reck.atRest = s.reck.atRest
      ∧ (endSearchByPower s).reck.drift = s.reck.drift
      ∧ (endSearchByPower s).search.passes = s.search.passes
      ∧ (endSearchByPower s).search.level = s.search.level
      ∧ (endSearchByPower s).search.total = s.search.total
      ∧ (endSearchByPower s).search.plus = s.search.plus
      ∧ (endSearchByPower s).fault.stopSet = s.fault.stopSet
      ∧ (endSearchByPower s).port.setup = s.port.setup
      ∧ (endSearchByPower s).port.frozen = s.port.frozen
      ∧ (endSearchByPower s).port.tau = s.port.tau
      ∧ (endSearchByPower s).port.span = s.port.span
      ∧ (endSearchByPower s).port.slot = s.port.slot
      ∧ (endSearchByPower s).port.shifted = s.port.shifted
      ∧ (endSearchByPower s).port.lastEnd = s.port.lastEnd
      ∧ (endSearchByPower s).port.changedPeers = s.port.changedPeers := by
  unfold endSearchByPower
  refine ⟨?_, ?_, ?_, ?_, ?_, ?_, ?_, ?_, ?_, ?_, ?_, ?_, ?_, ?_, ?_, ?_, ?_, ?_, ?_, ?_, ?_, ?_, ?_, ?_, ?_, ?_,
    ?_, ?_, ?_, ?_, ?_, ?_, ?_, ?_, ?_, ?_, ?_, ?_, ?_, ?_⟩ <;>
    first | rfl | ((try dsimp only); (repeat' split) <;> first | rfl | simp | simp_all)

@[simp] theorem tryMove_frame (s : State) :
    (tryMove s).phase = s.phase
      ∧ (tryMove s).ms = s.ms
      ∧ (tryMove s).straps = s.straps
      ∧ (tryMove s).levels = s.levels
      ∧ (tryMove s).sensor = s.sensor
      ∧ (tryMove s).reck = s.reck
      ∧ (tryMove s).link = s.link
      ∧ (tryMove s).peers = s.peers
      ∧ (tryMove s).mark = s.mark
      ∧ (tryMove s).store = s.store
      ∧ (tryMove s).gradeUnit = s.gradeUnit
      ∧ (tryMove s).zone = s.zone
      ∧ (tryMove s).fault = s.fault
      ∧ (tryMove s).free = s.free
      ∧ (tryMove s).pending = s.pending
      ∧ (tryMove s).claim.state = s.claim.state
      ∧ (tryMove s).claim.wanted = s.claim.wanted
      ∧ (tryMove s).claim.purpose = s.claim.purpose
      ∧ (tryMove s).search.sub = s.search.sub
      ∧ (tryMove s).search.leadHold = s.search.leadHold
      ∧ (tryMove s).search.outcome = s.search.outcome
      ∧ (tryMove s).search.passes = s.search.passes
      ∧ (tryMove s).search.level = s.search.level
      ∧ (tryMove s).search.total = s.search.total
      ∧ (tryMove s).search.plus = s.search.plus
      ∧ (tryMove s).port.setup = s.port.setup
      ∧ (tryMove s).port.frozen = s.port.frozen
      ∧ (tryMove s).port.tau = s.port.tau
      ∧ (tryMove s).port.span = s.port.span
      ∧ (tryMove s).port.slot = s.port.slot
      ∧ (tryMove s).port.shifted = s.port.shifted
      ∧ (tryMove s).port.lastEnd = s.port.lastEnd
      ∧ (tryMove s).port.changedPeers = s.port.changedPeers := by
  unfold tryMove
  refine ⟨?_, ?_, ?_, ?_, ?_, ?_, ?_, ?_, ?_, ?_, ?_, ?_, ?_, ?_, ?_, ?_, ?_, ?_, ?_, ?_, ?_, ?_, ?_, ?_, ?_, ?_,
    ?_, ?_, ?_, ?_, ?_, ?_, ?_⟩ <;>
    first | rfl | ((try dsimp only); (repeat' split) <;> first | rfl | simp | simp_all)

@[simp] theorem beginMove_frame (s : State) :
    (beginMove s).phase = s.phase
      ∧ (beginMove s).ms = s.ms
      ∧ (beginMove s).straps = s.straps
      ∧ (beginMove s).levels = s.levels
      ∧ (beginMove s).sensor = s.sensor
      ∧ (beginMove s).reck = s.reck
      ∧ (beginMove s).link = s.link
      ∧ (beginMove s).peers = s.peers
      ∧ (beginMove s).mark = s.mark
      ∧ (beginMove s).store = s.store
      ∧ (beginMove s).gradeUnit = s.gradeUnit
      ∧ (beginMove s).zone = s.zone
      ∧ (beginMove s).fault = s.fault
      ∧ (beginMove s).free = s.free
      ∧ (beginMove s).pending = s.pending
      ∧ (beginMove s).claim.state = s.claim.state
      ∧ (beginMove s).claim.wanted = s.claim.wanted
      ∧ (beginMove s).claim.purpose = s.claim.purpose
      ∧ (beginMove s).search.sub = s.search.sub
      ∧ (beginMove s).search.leadHold = s.search.leadHold
      ∧ (beginMove s).search.outcome = s.search.outcome
      ∧ (beginMove s).search.passes = s.search.passes
      ∧ (beginMove s).search.level = s.search.level
      ∧ (beginMove s).search.total = s.search.total
      ∧ (beginMove s).search.plus = s.search.plus
      ∧ (beginMove s).port.setup = s.port.setup
      ∧ (beginMove s).port.frozen = s.port.frozen
      ∧ (beginMove s).port.tau = s.port.tau
      ∧ (beginMove s).port.span = s.port.span
      ∧ (beginMove s).port.slot = s.port.slot
      ∧ (beginMove s).port.shifted = s.port.shifted
      ∧ (beginMove s).port.lastEnd = s.port.lastEnd
      ∧ (beginMove s).port.changedPeers = s.port.changedPeers := by
  unfold beginMove
  refine ⟨?_, ?_, ?_, ?_, ?_, ?_, ?_, ?_, ?_, ?_, ?_, ?_, ?_, ?_, ?_, ?_, ?_, ?_, ?_, ?_, ?_, ?_, ?_, ?_, ?_, ?_,
    ?_, ?_, ?_, ?_, ?_, ?_, ?_⟩ <;>
    first | rfl | ((try dsimp only); (repeat' split) <;> first | rfl | simp | simp_all)

@[simp] theorem endMove_frame (s : State) :
    (endMove s).phase = s.phase
      ∧ (endMove s).ms = s.ms
      ∧ (endMove s).straps = s.straps
      ∧ (endMove s).levels = s.levels
      ∧ (endMove s).sensor = s.sensor
      ∧ (endMove s).reck = s.reck
      ∧ (endMove s).link = s.link
      ∧ (endMove s).peers = s.peers
      ∧ (endMove s).mark = s.mark
      ∧ (endMove s).store = s.store
      ∧ (endMove s).gradeUnit = s.gradeUnit
      ∧ (endMove s).zone = s.zone
      ∧ (endMove s).fault = s.fault
      ∧ (endMove s).free = s.free
      ∧ (endMove s).pending = s.pending
      ∧ (endMove s).claim.state = s.claim.state
      ∧ (endMove s).claim.wanted = s.claim.wanted
      ∧ (endMove s).claim.purpose = s.claim.purpose
      ∧ (endMove s).search.sub = s.search.sub
      ∧ (endMove s).search.leadHold = s.search.leadHold
      ∧ (endMove s).search.outcome = s.search.outcome
      ∧ (endMove s).search.passes = s.search.passes
      ∧ (endMove s).search.level = s.search.level
      ∧ (endMove s).search.total = s.search.total
      ∧ (endMove s).search.plus = s.search.plus
      ∧ (endMove s).port.setup = s.port.setup
      ∧ (endMove s).port.frozen = s.port.frozen
      ∧ (endMove s).port.tau = s.port.tau
      ∧ (endMove s).port.span = s.port.span
      ∧ (endMove s).port.slot = s.port.slot
      ∧ (endMove s).port.shifted = s.port.shifted
      ∧ (endMove s).port.lastEnd = s.port.lastEnd
      ∧ (endMove s).port.changedPeers = s.port.changedPeers := by
  unfold endMove
  refine ⟨?_, ?_, ?_, ?_, ?_, ?_, ?_, ?_, ?_, ?_, ?_, ?_, ?_, ?_, ?_, ?_, ?_, ?_, ?_, ?_, ?_, ?_, ?_, ?_, ?_, ?_,
    ?_, ?_, ?_, ?_, ?_, ?_, ?_⟩ <;>
    first | rfl | ((try dsimp only); (repeat' split) <;> first | rfl | simp | simp_all)

@[simp] theorem enterClear_frame (s : State) :
    (enterClear s).phase = s.phase
      ∧ (enterClear s).ms = s.ms
      ∧ (enterClear s).straps = s.straps
      ∧ (enterClear s).levels = s.levels
      ∧ (enterClear s).sensor = s.sensor
      ∧ (enterClear s).reck = s.reck
      ∧ (enterClear s).link = s.link
      ∧ (enterClear s).peers = s.peers
      ∧ (enterClear s).mark = s.mark
      ∧ (enterClear s).store = s.store
      ∧ (enterClear s).gradeUnit = s.gradeUnit
      ∧ (enterClear s).zone = s.zone
      ∧ (enterClear s).fault = s.fault
      ∧ (enterClear s).free = s.free
      ∧ (enterClear s).pending = s.pending
      ∧ (enterClear s).claim.state = s.claim.state
      ∧ (enterClear s).claim.wanted = s.claim.wanted
      ∧ (enterClear s).claim.purpose = s.claim.purpose
      ∧ (enterClear s).search.leadHold = s.search.leadHold
      ∧ (enterClear s).search.outcome = s.search.outcome
      ∧ (enterClear s).search.passes = s.search.passes
      ∧ (enterClear s).search.level = s.search.level
      ∧ (enterClear s).search.total = s.search.total
      ∧ (enterClear s).search.plus = s.search.plus
      ∧ (enterClear s).port.setup = s.port.setup
      ∧ (enterClear s).port.frozen = s.port.frozen
      ∧ (enterClear s).port.tau = s.port.tau
      ∧ (enterClear s).port.span = s.port.span
      ∧ (enterClear s).port.slot = s.port.slot
      ∧ (enterClear s).port.shifted = s.port.shifted
      ∧ (enterClear s).port.lastEnd = s.port.lastEnd
      ∧ (enterClear s).port.changedPeers = s.port.changedPeers := by
  unfold enterClear
  refine ⟨?_, ?_, ?_, ?_, ?_, ?_, ?_, ?_, ?_, ?_, ?_, ?_, ?_, ?_, ?_, ?_, ?_, ?_, ?_, ?_, ?_, ?_, ?_, ?_, ?_, ?_,
    ?_, ?_, ?_, ?_, ?_, ?_⟩ <;>
    first | rfl | ((try dsimp only); (repeat' split) <;> first | rfl | simp | simp_all)

@[simp] theorem enterForward_frame (s : State) :
    (enterForward s).phase = s.phase
      ∧ (enterForward s).ms = s.ms
      ∧ (enterForward s).straps = s.straps
      ∧ (enterForward s).levels = s.levels
      ∧ (enterForward s).sensor = s.sensor
      ∧ (enterForward s).reck = s.reck
      ∧ (enterForward s).link = s.link
      ∧ (enterForward s).peers = s.peers
      ∧ (enterForward s).mark = s.mark
      ∧ (enterForward s).store = s.store
      ∧ (enterForward s).gradeUnit = s.gradeUnit
      ∧ (enterForward s).zone = s.zone
      ∧ (enterForward s).fault = s.fault
      ∧ (enterForward s).free = s.free
      ∧ (enterForward s).pending = s.pending
      ∧ (enterForward s).claim.state = s.claim.state
      ∧ (enterForward s).claim.wanted = s.claim.wanted
      ∧ (enterForward s).claim.purpose = s.claim.purpose
      ∧ (enterForward s).search.leadHold = s.search.leadHold
      ∧ (enterForward s).search.outcome = s.search.outcome
      ∧ (enterForward s).search.passes = s.search.passes
      ∧ (enterForward s).search.level = s.search.level
      ∧ (enterForward s).search.total = s.search.total
      ∧ (enterForward s).search.plus = s.search.plus
      ∧ (enterForward s).port.setup = s.port.setup
      ∧ (enterForward s).port.frozen = s.port.frozen
      ∧ (enterForward s).port.tau = s.port.tau
      ∧ (enterForward s).port.span = s.port.span
      ∧ (enterForward s).port.slot = s.port.slot
      ∧ (enterForward s).port.shifted = s.port.shifted
      ∧ (enterForward s).port.lastEnd = s.port.lastEnd
      ∧ (enterForward s).port.changedPeers = s.port.changedPeers := by
  unfold enterForward
  refine ⟨?_, ?_, ?_, ?_, ?_, ?_, ?_, ?_, ?_, ?_, ?_, ?_, ?_, ?_, ?_, ?_, ?_, ?_, ?_, ?_, ?_, ?_, ?_, ?_, ?_, ?_,
    ?_, ?_, ?_, ?_, ?_, ?_⟩ <;>
    first | rfl | ((try dsimp only); (repeat' split) <;> first | rfl | simp | simp_all)

@[simp] theorem restartForward_frame (s : State) :
    (restartForward s).phase = s.phase
      ∧ (restartForward s).ms = s.ms
      ∧ (restartForward s).straps = s.straps
      ∧ (restartForward s).levels = s.levels
      ∧ (restartForward s).sensor = s.sensor
      ∧ (restartForward s).reck = s.reck
      ∧ (restartForward s).link = s.link
      ∧ (restartForward s).peers = s.peers
      ∧ (restartForward s).mark = s.mark
      ∧ (restartForward s).store = s.store
      ∧ (restartForward s).gradeUnit = s.gradeUnit
      ∧ (restartForward s).zone = s.zone
      ∧ (restartForward s).fault = s.fault
      ∧ (restartForward s).free = s.free
      ∧ (restartForward s).pending = s.pending
      ∧ (restartForward s).claim.state = s.claim.state
      ∧ (restartForward s).claim.wanted = s.claim.wanted
      ∧ (restartForward s).claim.purpose = s.claim.purpose
      ∧ (restartForward s).search.leadHold = s.search.leadHold
      ∧ (restartForward s).search.outcome = s.search.outcome
      ∧ (restartForward s).search.passes = s.search.passes
      ∧ (restartForward s).search.level = s.search.level
      ∧ (restartForward s).search.total = s.search.total
      ∧ (restartForward s).search.plus = s.search.plus
      ∧ (restartForward s).port.setup = s.port.setup
      ∧ (restartForward s).port.frozen = s.port.frozen
      ∧ (restartForward s).port.tau = s.port.tau
      ∧ (restartForward s).port.span = s.port.span
      ∧ (restartForward s).port.slot = s.port.slot
      ∧ (restartForward s).port.shifted = s.port.shifted
      ∧ (restartForward s).port.lastEnd = s.port.lastEnd
      ∧ (restartForward s).port.changedPeers = s.port.changedPeers := by
  unfold restartForward
  refine ⟨?_, ?_, ?_, ?_, ?_, ?_, ?_, ?_, ?_, ?_, ?_, ?_, ?_, ?_, ?_, ?_, ?_, ?_, ?_, ?_, ?_, ?_, ?_, ?_, ?_, ?_,
    ?_, ?_, ?_, ?_, ?_, ?_⟩ <;>
    first | rfl | ((try dsimp only); (repeat' split) <;> first | rfl | simp | simp_all)

@[simp] theorem enterReverse_frame (s : State) :
    (enterReverse s).phase = s.phase
      ∧ (enterReverse s).ms = s.ms
      ∧ (enterReverse s).straps = s.straps
      ∧ (enterReverse s).levels = s.levels
      ∧ (enterReverse s).sensor = s.sensor
      ∧ (enterReverse s).reck = s.reck
      ∧ (enterReverse s).link = s.link
      ∧ (enterReverse s).peers = s.peers
      ∧ (enterReverse s).mark = s.mark
      ∧ (enterReverse s).store = s.store
      ∧ (enterReverse s).gradeUnit = s.gradeUnit
      ∧ (enterReverse s).zone = s.zone
      ∧ (enterReverse s).fault = s.fault
      ∧ (enterReverse s).free = s.free
      ∧ (enterReverse s).pending = s.pending
      ∧ (enterReverse s).claim.state = s.claim.state
      ∧ (enterReverse s).claim.wanted = s.claim.wanted
      ∧ (enterReverse s).claim.purpose = s.claim.purpose
      ∧ (enterReverse s).search.leadHold = s.search.leadHold
      ∧ (enterReverse s).search.outcome = s.search.outcome
      ∧ (enterReverse s).search.passes = s.search.passes
      ∧ (enterReverse s).search.level = s.search.level
      ∧ (enterReverse s).search.total = s.search.total
      ∧ (enterReverse s).search.plus = s.search.plus
      ∧ (enterReverse s).port.setup = s.port.setup
      ∧ (enterReverse s).port.frozen = s.port.frozen
      ∧ (enterReverse s).port.tau = s.port.tau
      ∧ (enterReverse s).port.span = s.port.span
      ∧ (enterReverse s).port.slot = s.port.slot
      ∧ (enterReverse s).port.shifted = s.port.shifted
      ∧ (enterReverse s).port.lastEnd = s.port.lastEnd
      ∧ (enterReverse s).port.changedPeers = s.port.changedPeers := by
  unfold enterReverse
  refine ⟨?_, ?_, ?_, ?_, ?_, ?_, ?_, ?_, ?_, ?_, ?_, ?_, ?_, ?_, ?_, ?_, ?_, ?_, ?_, ?_, ?_, ?_, ?_, ?_, ?_, ?_,
    ?_, ?_, ?_, ?_, ?_, ?_⟩ <;>
    first | rfl | ((try dsimp only); (repeat' split) <;> first | rfl | simp | simp_all)

@[simp] theorem enterSettle_frame (s : State) :
    (enterSettle s).phase = s.phase
      ∧ (enterSettle s).ms = s.ms
      ∧ (enterSettle s).straps = s.straps
      ∧ (enterSettle s).levels = s.levels
      ∧ (enterSettle s).sensor = s.sensor
      ∧ (enterSettle s).reck = s.reck
      ∧ (enterSettle s).link = s.link
      ∧ (enterSettle s).peers = s.peers
      ∧ (enterSettle s).mark = s.mark
      ∧ (enterSettle s).store = s.store
      ∧ (enterSettle s).gradeUnit = s.gradeUnit
      ∧ (enterSettle s).claim = s.claim
      ∧ (enterSettle s).zone = s.zone
      ∧ (enterSettle s).fault = s.fault
      ∧ (enterSettle s).port = s.port
      ∧ (enterSettle s).free = s.free
      ∧ (enterSettle s).pending = s.pending
      ∧ (enterSettle s).search.leadHold = s.search.leadHold
      ∧ (enterSettle s).search.outcome = s.search.outcome
      ∧ (enterSettle s).search.passes = s.search.passes
      ∧ (enterSettle s).search.level = s.search.level
      ∧ (enterSettle s).search.total = s.search.total
      ∧ (enterSettle s).search.plus = s.search.plus := by
  unfold enterSettle
  refine ⟨?_, ?_, ?_, ?_, ?_, ?_, ?_, ?_, ?_, ?_, ?_, ?_, ?_, ?_, ?_, ?_, ?_, ?_, ?_, ?_, ?_, ?_, ?_⟩ <;>
    rfl

@[simp] theorem tryRestart_frame (s : State) :
    (tryRestart s).phase = s.phase
      ∧ (tryRestart s).ms = s.ms
      ∧ (tryRestart s).straps = s.straps
      ∧ (tryRestart s).levels = s.levels
      ∧ (tryRestart s).sensor = s.sensor
      ∧ (tryRestart s).reck = s.reck
      ∧ (tryRestart s).link = s.link
      ∧ (tryRestart s).peers = s.peers
      ∧ (tryRestart s).mark = s.mark
      ∧ (tryRestart s).store = s.store
      ∧ (tryRestart s).gradeUnit = s.gradeUnit
      ∧ (tryRestart s).zone = s.zone
      ∧ (tryRestart s).fault = s.fault
      ∧ (tryRestart s).free = s.free
      ∧ (tryRestart s).pending = s.pending
      ∧ (tryRestart s).claim.state = s.claim.state
      ∧ (tryRestart s).claim.wanted = s.claim.wanted
      ∧ (tryRestart s).claim.purpose = s.claim.purpose
      ∧ (tryRestart s).search.leadHold = s.search.leadHold
      ∧ (tryRestart s).search.outcome = s.search.outcome
      ∧ (tryRestart s).search.passes = s.search.passes
      ∧ (tryRestart s).search.level = s.search.level
      ∧ (tryRestart s).search.total = s.search.total
      ∧ (tryRestart s).search.plus = s.search.plus
      ∧ (tryRestart s).port.setup = s.port.setup
      ∧ (tryRestart s).port.frozen = s.port.frozen
      ∧ (tryRestart s).port.tau = s.port.tau
      ∧ (tryRestart s).port.span = s.port.span
      ∧ (tryRestart s).port.slot = s.port.slot
      ∧ (tryRestart s).port.shifted = s.port.shifted
      ∧ (tryRestart s).port.lastEnd = s.port.lastEnd
      ∧ (tryRestart s).port.changedPeers = s.port.changedPeers := by
  unfold tryRestart
  refine ⟨?_, ?_, ?_, ?_, ?_, ?_, ?_, ?_, ?_, ?_, ?_, ?_, ?_, ?_, ?_, ?_, ?_, ?_, ?_, ?_, ?_, ?_, ?_, ?_, ?_, ?_,
    ?_, ?_, ?_, ?_, ?_, ?_⟩ <;>
    first | rfl | ((try dsimp only); (repeat' split) <;> first | rfl | simp | simp_all)

@[simp] theorem completeSearch_frame (s : State) :
    (completeSearch s).ms = s.ms
      ∧ (completeSearch s).straps = s.straps
      ∧ (completeSearch s).levels = s.levels
      ∧ (completeSearch s).sensor = s.sensor
      ∧ (completeSearch s).reck = s.reck
      ∧ (completeSearch s).mark = s.mark
      ∧ (completeSearch s).gradeUnit = s.gradeUnit
      ∧ (completeSearch s).zone = s.zone
      ∧ (completeSearch s).free = s.free
      ∧ (completeSearch s).pending = s.pending
      ∧ (completeSearch s).link.bitErrors = s.link.bitErrors
      ∧ (completeSearch s).link.txErrors = s.link.txErrors
      ∧ (completeSearch s).link.rxErrors = s.link.rxErrors
      ∧ (completeSearch s).link.txFail = s.link.txFail
      ∧ (completeSearch s).link.lastDuplicate = s.link.lastDuplicate
      ∧ (completeSearch s).link.heartbeat = s.link.heartbeat
      ∧ (completeSearch s).peers.entries = s.peers.entries
      ∧ (completeSearch s).peers.digest = s.peers.digest
      ∧ (completeSearch s).store.cellsA = s.store.cellsA
      ∧ (completeSearch s).store.cellsB = s.store.cellsB
      ∧ (completeSearch s).store.cellsCal = s.store.cellsCal
      ∧ (completeSearch s).store.imageA = s.store.imageA
      ∧ (completeSearch s).store.imageB = s.store.imageB
      ∧ (completeSearch s).store.imageCal = s.store.imageCal
      ∧ (completeSearch s).store.calSeq = s.store.calSeq
      ∧ (completeSearch s).store.inFlight = s.store.inFlight
      ∧ (completeSearch s).store.pendingSnap = s.store.pendingSnap
      ∧ (completeSearch s).store.pendingCal = s.store.pendingCal
      ∧ (completeSearch s).store.scanDone = s.store.scanDone
      ∧ (completeSearch s).claim.purpose = s.claim.purpose
      ∧ (completeSearch s).search.leadHold = s.search.leadHold
      ∧ (completeSearch s).search.passes = s.search.passes
      ∧ (completeSearch s).search.level = s.search.level
      ∧ (completeSearch s).search.total = s.search.total
      ∧ (completeSearch s).search.plus = s.search.plus
      ∧ (completeSearch s).fault.record = s.fault.record
      ∧ (completeSearch s).port.setup = s.port.setup
      ∧ (completeSearch s).port.frozen = s.port.frozen
      ∧ (completeSearch s).port.tau = s.port.tau
      ∧ (completeSearch s).port.span = s.port.span
      ∧ (completeSearch s).port.slot = s.port.slot
      ∧ (completeSearch s).port.shifted = s.port.shifted
      ∧ (completeSearch s).port.lastEnd = s.port.lastEnd
      ∧ (completeSearch s).port.changedPeers = s.port.changedPeers := by
  unfold completeSearch
  refine ⟨?_, ?_, ?_, ?_, ?_, ?_, ?_, ?_, ?_, ?_, ?_, ?_, ?_, ?_, ?_, ?_, ?_, ?_, ?_, ?_, ?_, ?_, ?_, ?_, ?_, ?_,
    ?_, ?_, ?_, ?_, ?_, ?_, ?_, ?_, ?_, ?_, ?_, ?_, ?_, ?_, ?_, ?_, ?_, ?_⟩ <;>
    first | rfl | ((try dsimp only); (repeat' split) <;> first | rfl | simp | simp_all)

@[simp] theorem enterPark_frame (s : State) :
    (enterPark s).phase = s.phase
      ∧ (enterPark s).ms = s.ms
      ∧ (enterPark s).straps = s.straps
      ∧ (enterPark s).levels = s.levels
      ∧ (enterPark s).sensor = s.sensor
      ∧ (enterPark s).reck = s.reck
      ∧ (enterPark s).peers = s.peers
      ∧ (enterPark s).mark = s.mark
      ∧ (enterPark s).store = s.store
      ∧ (enterPark s).gradeUnit = s.gradeUnit
      ∧ (enterPark s).zone = s.zone
      ∧ (enterPark s).fault = s.fault
      ∧ (enterPark s).free = s.free
      ∧ (enterPark s).pending = s.pending
      ∧ (enterPark s).link.bitErrors = s.link.bitErrors
      ∧ (enterPark s).link.txErrors = s.link.txErrors
      ∧ (enterPark s).link.rxErrors = s.link.rxErrors
      ∧ (enterPark s).link.txFail = s.link.txFail
      ∧ (enterPark s).link.lastDuplicate = s.link.lastDuplicate
      ∧ (enterPark s).link.heartbeat = s.link.heartbeat
      ∧ (enterPark s).claim.state = s.claim.state
      ∧ (enterPark s).claim.wanted = s.claim.wanted
      ∧ (enterPark s).search.leadHold = s.search.leadHold
      ∧ (enterPark s).search.outcome = s.search.outcome
      ∧ (enterPark s).search.passes = s.search.passes
      ∧ (enterPark s).search.level = s.search.level
      ∧ (enterPark s).search.total = s.search.total
      ∧ (enterPark s).search.plus = s.search.plus
      ∧ (enterPark s).port.setup = s.port.setup
      ∧ (enterPark s).port.frozen = s.port.frozen
      ∧ (enterPark s).port.tau = s.port.tau
      ∧ (enterPark s).port.span = s.port.span
      ∧ (enterPark s).port.slot = s.port.slot
      ∧ (enterPark s).port.shifted = s.port.shifted
      ∧ (enterPark s).port.lastEnd = s.port.lastEnd
      ∧ (enterPark s).port.changedPeers = s.port.changedPeers := by
  unfold enterPark
  refine ⟨?_, ?_, ?_, ?_, ?_, ?_, ?_, ?_, ?_, ?_, ?_, ?_, ?_, ?_, ?_, ?_, ?_, ?_, ?_, ?_, ?_, ?_, ?_, ?_, ?_, ?_,
    ?_, ?_, ?_, ?_, ?_, ?_, ?_, ?_, ?_, ?_⟩ <;>
    first | rfl | ((try dsimp only); (repeat' split) <;> first | rfl | simp | simp_all)

@[simp] theorem advanceSearch_frame (s : State) :
    (advanceSearch s).ms = s.ms
      ∧ (advanceSearch s).straps = s.straps
      ∧ (advanceSearch s).levels = s.levels
      ∧ (advanceSearch s).sensor = s.sensor
      ∧ (advanceSearch s).reck = s.reck
      ∧ (advanceSearch s).mark = s.mark
      ∧ (advanceSearch s).gradeUnit = s.gradeUnit
      ∧ (advanceSearch s).zone = s.zone
      ∧ (advanceSearch s).free = s.free
      ∧ (advanceSearch s).pending = s.pending
      ∧ (advanceSearch s).link.bitErrors = s.link.bitErrors
      ∧ (advanceSearch s).link.txErrors = s.link.txErrors
      ∧ (advanceSearch s).link.rxErrors = s.link.rxErrors
      ∧ (advanceSearch s).link.txFail = s.link.txFail
      ∧ (advanceSearch s).link.lastDuplicate = s.link.lastDuplicate
      ∧ (advanceSearch s).link.heartbeat = s.link.heartbeat
      ∧ (advanceSearch s).peers.entries = s.peers.entries
      ∧ (advanceSearch s).peers.digest = s.peers.digest
      ∧ (advanceSearch s).store.cellsA = s.store.cellsA
      ∧ (advanceSearch s).store.cellsB = s.store.cellsB
      ∧ (advanceSearch s).store.cellsCal = s.store.cellsCal
      ∧ (advanceSearch s).store.imageA = s.store.imageA
      ∧ (advanceSearch s).store.imageB = s.store.imageB
      ∧ (advanceSearch s).store.imageCal = s.store.imageCal
      ∧ (advanceSearch s).store.calSeq = s.store.calSeq
      ∧ (advanceSearch s).store.inFlight = s.store.inFlight
      ∧ (advanceSearch s).store.pendingSnap = s.store.pendingSnap
      ∧ (advanceSearch s).store.pendingCal = s.store.pendingCal
      ∧ (advanceSearch s).store.scanDone = s.store.scanDone
      ∧ (advanceSearch s).claim.purpose = s.claim.purpose
      ∧ (advanceSearch s).search.leadHold = s.search.leadHold
      ∧ (advanceSearch s).search.passes = s.search.passes
      ∧ (advanceSearch s).search.level = s.search.level
      ∧ (advanceSearch s).search.total = s.search.total
      ∧ (advanceSearch s).search.plus = s.search.plus
      ∧ (advanceSearch s).fault.record = s.fault.record
      ∧ (advanceSearch s).port.setup = s.port.setup
      ∧ (advanceSearch s).port.frozen = s.port.frozen
      ∧ (advanceSearch s).port.tau = s.port.tau
      ∧ (advanceSearch s).port.span = s.port.span
      ∧ (advanceSearch s).port.slot = s.port.slot
      ∧ (advanceSearch s).port.shifted = s.port.shifted
      ∧ (advanceSearch s).port.lastEnd = s.port.lastEnd
      ∧ (advanceSearch s).port.changedPeers = s.port.changedPeers := by
  unfold advanceSearch
  refine ⟨?_, ?_, ?_, ?_, ?_, ?_, ?_, ?_, ?_, ?_, ?_, ?_, ?_, ?_, ?_, ?_, ?_, ?_, ?_, ?_, ?_, ?_, ?_, ?_, ?_, ?_,
    ?_, ?_, ?_, ?_, ?_, ?_, ?_, ?_, ?_, ?_, ?_, ?_, ?_, ?_, ?_, ?_, ?_, ?_⟩ <;>
    first | rfl | ((try dsimp only); (repeat' split) <;> first | rfl | simp | simp_all)

@[simp] theorem trySettle_frame (s : State) :
    (trySettle s).ms = s.ms
      ∧ (trySettle s).straps = s.straps
      ∧ (trySettle s).levels = s.levels
      ∧ (trySettle s).sensor = s.sensor
      ∧ (trySettle s).reck = s.reck
      ∧ (trySettle s).mark = s.mark
      ∧ (trySettle s).gradeUnit = s.gradeUnit
      ∧ (trySettle s).zone = s.zone
      ∧ (trySettle s).free = s.free
      ∧ (trySettle s).pending = s.pending
      ∧ (trySettle s).link.bitErrors = s.link.bitErrors
      ∧ (trySettle s).link.txErrors = s.link.txErrors
      ∧ (trySettle s).link.rxErrors = s.link.rxErrors
      ∧ (trySettle s).link.txFail = s.link.txFail
      ∧ (trySettle s).link.lastDuplicate = s.link.lastDuplicate
      ∧ (trySettle s).link.heartbeat = s.link.heartbeat
      ∧ (trySettle s).peers.entries = s.peers.entries
      ∧ (trySettle s).peers.digest = s.peers.digest
      ∧ (trySettle s).store.cellsA = s.store.cellsA
      ∧ (trySettle s).store.cellsB = s.store.cellsB
      ∧ (trySettle s).store.cellsCal = s.store.cellsCal
      ∧ (trySettle s).store.imageA = s.store.imageA
      ∧ (trySettle s).store.imageB = s.store.imageB
      ∧ (trySettle s).store.imageCal = s.store.imageCal
      ∧ (trySettle s).store.calSeq = s.store.calSeq
      ∧ (trySettle s).store.inFlight = s.store.inFlight
      ∧ (trySettle s).store.pendingSnap = s.store.pendingSnap
      ∧ (trySettle s).store.pendingCal = s.store.pendingCal
      ∧ (trySettle s).store.scanDone = s.store.scanDone
      ∧ (trySettle s).claim.purpose = s.claim.purpose
      ∧ (trySettle s).search.leadHold = s.search.leadHold
      ∧ (trySettle s).search.passes = s.search.passes
      ∧ (trySettle s).search.level = s.search.level
      ∧ (trySettle s).search.total = s.search.total
      ∧ (trySettle s).search.plus = s.search.plus
      ∧ (trySettle s).fault.record = s.fault.record
      ∧ (trySettle s).port.setup = s.port.setup
      ∧ (trySettle s).port.frozen = s.port.frozen
      ∧ (trySettle s).port.tau = s.port.tau
      ∧ (trySettle s).port.span = s.port.span
      ∧ (trySettle s).port.slot = s.port.slot
      ∧ (trySettle s).port.shifted = s.port.shifted
      ∧ (trySettle s).port.lastEnd = s.port.lastEnd
      ∧ (trySettle s).port.changedPeers = s.port.changedPeers := by
  unfold trySettle
  refine ⟨?_, ?_, ?_, ?_, ?_, ?_, ?_, ?_, ?_, ?_, ?_, ?_, ?_, ?_, ?_, ?_, ?_, ?_, ?_, ?_, ?_, ?_, ?_, ?_, ?_, ?_,
    ?_, ?_, ?_, ?_, ?_, ?_, ?_, ?_, ?_, ?_, ?_, ?_, ?_, ?_, ?_, ?_, ?_, ?_⟩ <;>
    first | rfl | ((try dsimp only); (repeat' split) <;> first | rfl | simp | simp_all)

@[simp] theorem takeEdge_frame (active : Bool) (s : State) :
    (takeEdge active s).phase = s.phase
      ∧ (takeEdge active s).ms = s.ms
      ∧ (takeEdge active s).straps = s.straps
      ∧ (takeEdge active s).levels = s.levels
      ∧ (takeEdge active s).sensor = s.sensor
      ∧ (takeEdge active s).reck = s.reck
      ∧ (takeEdge active s).link = s.link
      ∧ (takeEdge active s).peers = s.peers
      ∧ (takeEdge active s).mark = s.mark
      ∧ (takeEdge active s).store = s.store
      ∧ (takeEdge active s).gradeUnit = s.gradeUnit
      ∧ (takeEdge active s).claim = s.claim
      ∧ (takeEdge active s).zone = s.zone
      ∧ (takeEdge active s).fault = s.fault
      ∧ (takeEdge active s).port = s.port
      ∧ (takeEdge active s).free = s.free
      ∧ (takeEdge active s).pending = s.pending
      ∧ (takeEdge active s).search.sub = s.search.sub
      ∧ (takeEdge active s).search.leadHold = s.search.leadHold
      ∧ (takeEdge active s).search.outcome = s.search.outcome
      ∧ (takeEdge active s).search.passes = s.search.passes
      ∧ (takeEdge active s).search.level = s.search.level
      ∧ (takeEdge active s).search.total = s.search.total
      ∧ (takeEdge active s).search.plus = s.search.plus
      ∧ (takeEdge active s).search.stage = s.search.stage := by
  unfold takeEdge
  refine ⟨?_, ?_, ?_, ?_, ?_, ?_, ?_, ?_, ?_, ?_, ?_, ?_, ?_, ?_, ?_, ?_, ?_, ?_, ?_, ?_, ?_, ?_, ?_, ?_, ?_⟩ <;>
    first | rfl | ((try dsimp only); (repeat' split) <;> first | rfl | simp | simp_all)

@[simp] theorem searchSample_frame (s : State) :
    (searchSample s).ms = s.ms
      ∧ (searchSample s).straps = s.straps
      ∧ (searchSample s).levels = s.levels
      ∧ (searchSample s).sensor = s.sensor
      ∧ (searchSample s).gradeUnit = s.gradeUnit
      ∧ (searchSample s).zone = s.zone
      ∧ (searchSample s).free = s.free
      ∧ (searchSample s).pending = s.pending
      ∧ (searchSample s).reck.count = s.reck.count
      ∧ (searchSample s).reck.started = s.reck.started
      ∧ (searchSample s).reck.lastGood = s.reck.lastGood
      ∧ (searchSample s).reck.held = s.reck.held
      ∧ (searchSample s).reck.turnOffset = s.reck.turnOffset
      ∧ (searchSample s).reck.theta0 = s.reck.theta0
      ∧ (searchSample s).reck.sigma = s.reck.sigma
      ∧ (searchSample s).reck.calibrated = s.reck.calibrated
      ∧ (searchSample s).reck.basis = s.reck.basis
      ∧ (searchSample s).reck.thetaScale = s.reck.thetaScale
      ∧ (searchSample s).reck.anchor = s.reck.anchor
      ∧ (searchSample s).reck.atRest = s.reck.atRest
      ∧ (searchSample s).reck.drift = s.reck.drift
      ∧ (searchSample s).link.bitErrors = s.link.bitErrors
      ∧ (searchSample s).link.txErrors = s.link.txErrors
      ∧ (searchSample s).link.rxErrors = s.link.rxErrors
      ∧ (searchSample s).link.txFail = s.link.txFail
      ∧ (searchSample s).link.lastDuplicate = s.link.lastDuplicate
      ∧ (searchSample s).link.heartbeat = s.link.heartbeat
      ∧ (searchSample s).peers.entries = s.peers.entries
      ∧ (searchSample s).peers.digest = s.peers.digest
      ∧ (searchSample s).mark.state = s.mark.state
      ∧ (searchSample s).mark.number = s.mark.number
      ∧ (searchSample s).mark.reported = s.mark.reported
      ∧ (searchSample s).mark.quiet = s.mark.quiet
      ∧ (searchSample s).mark.leadWait = s.mark.leadWait
      ∧ (searchSample s).mark.captureRequested = s.mark.captureRequested
      ∧ (searchSample s).store.cellsA = s.store.cellsA
      ∧ (searchSample s).store.cellsB = s.store.cellsB
      ∧ (searchSample s).store.cellsCal = s.store.cellsCal
      ∧ (searchSample s).store.imageA = s.store.imageA
      ∧ (searchSample s).store.imageB = s.store.imageB
      ∧ (searchSample s).store.imageCal = s.store.imageCal
      ∧ (searchSample s).store.calSeq = s.store.calSeq
      ∧ (searchSample s).store.inFlight = s.store.inFlight
      ∧ (searchSample s).store.pendingSnap = s.store.pendingSnap
      ∧ (searchSample s).store.scanDone = s.store.scanDone
      ∧ (searchSample s).claim.purpose = s.claim.purpose
      ∧ (searchSample s).search.passes = s.search.passes
      ∧ (searchSample s).search.level = s.search.level
      ∧ (searchSample s).search.total = s.search.total
      ∧ (searchSample s).search.plus = s.search.plus
      ∧ (searchSample s).port.setup = s.port.setup
      ∧ (searchSample s).port.frozen = s.port.frozen
      ∧ (searchSample s).port.tau = s.port.tau
      ∧ (searchSample s).port.span = s.port.span
      ∧ (searchSample s).port.slot = s.port.slot
      ∧ (searchSample s).port.shifted = s.port.shifted
      ∧ (searchSample s).port.lastEnd = s.port.lastEnd
      ∧ (searchSample s).port.changedPeers = s.port.changedPeers := by
  unfold searchSample
  refine ⟨?_, ?_, ?_, ?_, ?_, ?_, ?_, ?_, ?_, ?_, ?_, ?_, ?_, ?_, ?_, ?_, ?_, ?_, ?_, ?_, ?_, ?_, ?_, ?_, ?_, ?_,
    ?_, ?_, ?_, ?_, ?_, ?_, ?_, ?_, ?_, ?_, ?_, ?_, ?_, ?_, ?_, ?_, ?_, ?_, ?_, ?_, ?_, ?_, ?_, ?_, ?_, ?_, ?_, ?_,
    ?_, ?_, ?_, ?_⟩ <;>
    first | rfl | ((try dsimp only); (repeat' split) <;> first | rfl | simp | simp_all)

@[simp] theorem inhibitNotice_frame (s : State) :
    (inhibitNotice s).ms = s.ms
      ∧ (inhibitNotice s).straps = s.straps
      ∧ (inhibitNotice s).levels = s.levels
      ∧ (inhibitNotice s).sensor = s.sensor
      ∧ (inhibitNotice s).gradeUnit = s.gradeUnit
      ∧ (inhibitNotice s).zone = s.zone
      ∧ (inhibitNotice s).free = s.free
      ∧ (inhibitNotice s).pending = s.pending
      ∧ (inhibitNotice s).reck.count = s.reck.count
      ∧ (inhibitNotice s).reck.started = s.reck.started
      ∧ (inhibitNotice s).reck.lastGood = s.reck.lastGood
      ∧ (inhibitNotice s).reck.held = s.reck.held
      ∧ (inhibitNotice s).reck.turnOffset = s.reck.turnOffset
      ∧ (inhibitNotice s).reck.theta0 = s.reck.theta0
      ∧ (inhibitNotice s).reck.sigma = s.reck.sigma
      ∧ (inhibitNotice s).reck.calibrated = s.reck.calibrated
      ∧ (inhibitNotice s).reck.basis = s.reck.basis
      ∧ (inhibitNotice s).reck.thetaScale = s.reck.thetaScale
      ∧ (inhibitNotice s).reck.anchor = s.reck.anchor
      ∧ (inhibitNotice s).reck.atRest = s.reck.atRest
      ∧ (inhibitNotice s).reck.drift = s.reck.drift
      ∧ (inhibitNotice s).link.bitErrors = s.link.bitErrors
      ∧ (inhibitNotice s).link.txErrors = s.link.txErrors
      ∧ (inhibitNotice s).link.rxErrors = s.link.rxErrors
      ∧ (inhibitNotice s).link.txFail = s.link.txFail
      ∧ (inhibitNotice s).link.lastDuplicate = s.link.lastDuplicate
      ∧ (inhibitNotice s).link.heartbeat = s.link.heartbeat
      ∧ (inhibitNotice s).peers.entries = s.peers.entries
      ∧ (inhibitNotice s).peers.digest = s.peers.digest
      ∧ (inhibitNotice s).mark.state = s.mark.state
      ∧ (inhibitNotice s).mark.number = s.mark.number
      ∧ (inhibitNotice s).mark.reported = s.mark.reported
      ∧ (inhibitNotice s).mark.quiet = s.mark.quiet
      ∧ (inhibitNotice s).mark.leadWait = s.mark.leadWait
      ∧ (inhibitNotice s).mark.captureRequested = s.mark.captureRequested
      ∧ (inhibitNotice s).store.cellsA = s.store.cellsA
      ∧ (inhibitNotice s).store.cellsB = s.store.cellsB
      ∧ (inhibitNotice s).store.cellsCal = s.store.cellsCal
      ∧ (inhibitNotice s).store.imageA = s.store.imageA
      ∧ (inhibitNotice s).store.imageB = s.store.imageB
      ∧ (inhibitNotice s).store.imageCal = s.store.imageCal
      ∧ (inhibitNotice s).store.calSeq = s.store.calSeq
      ∧ (inhibitNotice s).store.inFlight = s.store.inFlight
      ∧ (inhibitNotice s).store.pendingSnap = s.store.pendingSnap
      ∧ (inhibitNotice s).store.scanDone = s.store.scanDone
      ∧ (inhibitNotice s).claim.purpose = s.claim.purpose
      ∧ (inhibitNotice s).search.passes = s.search.passes
      ∧ (inhibitNotice s).search.level = s.search.level
      ∧ (inhibitNotice s).search.total = s.search.total
      ∧ (inhibitNotice s).search.plus = s.search.plus
      ∧ (inhibitNotice s).port.setup = s.port.setup
      ∧ (inhibitNotice s).port.frozen = s.port.frozen
      ∧ (inhibitNotice s).port.tau = s.port.tau
      ∧ (inhibitNotice s).port.span = s.port.span
      ∧ (inhibitNotice s).port.slot = s.port.slot
      ∧ (inhibitNotice s).port.shifted = s.port.shifted
      ∧ (inhibitNotice s).port.lastEnd = s.port.lastEnd
      ∧ (inhibitNotice s).port.changedPeers = s.port.changedPeers := by
  unfold inhibitNotice
  refine ⟨?_, ?_, ?_, ?_, ?_, ?_, ?_, ?_, ?_, ?_, ?_, ?_, ?_, ?_, ?_, ?_, ?_, ?_, ?_, ?_, ?_, ?_, ?_, ?_, ?_, ?_,
    ?_, ?_, ?_, ?_, ?_, ?_, ?_, ?_, ?_, ?_, ?_, ?_, ?_, ?_, ?_, ?_, ?_, ?_, ?_, ?_, ?_, ?_, ?_, ?_, ?_, ?_, ?_, ?_,
    ?_, ?_, ?_, ?_⟩ <;>
    first | rfl | ((try dsimp only); (repeat' split) <;> first | rfl | simp | simp_all)

@[simp] theorem tryPrereq_frame (s : State) :
    (tryPrereq s).phase = s.phase
      ∧ (tryPrereq s).ms = s.ms
      ∧ (tryPrereq s).straps = s.straps
      ∧ (tryPrereq s).levels = s.levels
      ∧ (tryPrereq s).sensor = s.sensor
      ∧ (tryPrereq s).reck = s.reck
      ∧ (tryPrereq s).link = s.link
      ∧ (tryPrereq s).peers = s.peers
      ∧ (tryPrereq s).mark = s.mark
      ∧ (tryPrereq s).store = s.store
      ∧ (tryPrereq s).gradeUnit = s.gradeUnit
      ∧ (tryPrereq s).zone = s.zone
      ∧ (tryPrereq s).fault = s.fault
      ∧ (tryPrereq s).port = s.port
      ∧ (tryPrereq s).free = s.free
      ∧ (tryPrereq s).pending = s.pending
      ∧ (tryPrereq s).claim.dirState = s.claim.dirState
      ∧ (tryPrereq s).claim.dir = s.claim.dir
      ∧ (tryPrereq s).claim.lastNumber = s.claim.lastNumber
      ∧ (tryPrereq s).claim.untakenOpen = s.claim.untakenOpen
      ∧ (tryPrereq s).claim.untakenTimer = s.claim.untakenTimer
      ∧ (tryPrereq s).claim.allowance = s.claim.allowance
      ∧ (tryPrereq s).search.leadHold = s.search.leadHold
      ∧ (tryPrereq s).search.outcome = s.search.outcome
      ∧ (tryPrereq s).search.passes = s.search.passes
      ∧ (tryPrereq s).search.level = s.search.level
      ∧ (tryPrereq s).search.total = s.search.total
      ∧ (tryPrereq s).search.plus = s.search.plus
      ∧ (tryPrereq s).search.stage = s.search.stage := by
  unfold tryPrereq
  refine ⟨?_, ?_, ?_, ?_, ?_, ?_, ?_, ?_, ?_, ?_, ?_, ?_, ?_, ?_, ?_, ?_, ?_, ?_, ?_, ?_, ?_, ?_, ?_, ?_, ?_, ?_,
    ?_, ?_, ?_⟩ <;>
    first | rfl | ((try dsimp only); (repeat' split) <;> first | rfl | simp | simp_all)

@[simp] theorem claimGranted_frame (s : State) :
    (claimGranted s).phase = s.phase
      ∧ (claimGranted s).ms = s.ms
      ∧ (claimGranted s).straps = s.straps
      ∧ (claimGranted s).levels = s.levels
      ∧ (claimGranted s).sensor = s.sensor
      ∧ (claimGranted s).reck = s.reck
      ∧ (claimGranted s).link = s.link
      ∧ (claimGranted s).peers = s.peers
      ∧ (claimGranted s).mark = s.mark
      ∧ (claimGranted s).store = s.store
      ∧ (claimGranted s).gradeUnit = s.gradeUnit
      ∧ (claimGranted s).zone = s.zone
      ∧ (claimGranted s).fault = s.fault
      ∧ (claimGranted s).free = s.free
      ∧ (claimGranted s).pending = s.pending
      ∧ (claimGranted s).claim.state = s.claim.state
      ∧ (claimGranted s).claim.wanted = s.claim.wanted
      ∧ (claimGranted s).claim.purpose = s.claim.purpose
      ∧ (claimGranted s).search.outcome = s.search.outcome
      ∧ (claimGranted s).search.passes = s.search.passes
      ∧ (claimGranted s).search.level = s.search.level
      ∧ (claimGranted s).search.total = s.search.total
      ∧ (claimGranted s).search.plus = s.search.plus
      ∧ (claimGranted s).port.setup = s.port.setup
      ∧ (claimGranted s).port.frozen = s.port.frozen
      ∧ (claimGranted s).port.tau = s.port.tau
      ∧ (claimGranted s).port.span = s.port.span
      ∧ (claimGranted s).port.slot = s.port.slot
      ∧ (claimGranted s).port.shifted = s.port.shifted
      ∧ (claimGranted s).port.lastEnd = s.port.lastEnd
      ∧ (claimGranted s).port.changedPeers = s.port.changedPeers := by
  unfold claimGranted
  refine ⟨?_, ?_, ?_, ?_, ?_, ?_, ?_, ?_, ?_, ?_, ?_, ?_, ?_, ?_, ?_, ?_, ?_, ?_, ?_, ?_, ?_, ?_, ?_, ?_, ?_, ?_,
    ?_, ?_, ?_, ?_, ?_⟩ <;>
    first | rfl | ((try dsimp only); (repeat' split) <;> first | rfl | simp | simp_all)

@[simp] theorem watchLead_frame (s : State) :
    (watchLead s).ms = s.ms
      ∧ (watchLead s).straps = s.straps
      ∧ (watchLead s).levels = s.levels
      ∧ (watchLead s).sensor = s.sensor
      ∧ (watchLead s).gradeUnit = s.gradeUnit
      ∧ (watchLead s).zone = s.zone
      ∧ (watchLead s).free = s.free
      ∧ (watchLead s).pending = s.pending
      ∧ (watchLead s).reck.count = s.reck.count
      ∧ (watchLead s).reck.started = s.reck.started
      ∧ (watchLead s).reck.lastGood = s.reck.lastGood
      ∧ (watchLead s).reck.held = s.reck.held
      ∧ (watchLead s).reck.turnOffset = s.reck.turnOffset
      ∧ (watchLead s).reck.theta0 = s.reck.theta0
      ∧ (watchLead s).reck.sigma = s.reck.sigma
      ∧ (watchLead s).reck.calibrated = s.reck.calibrated
      ∧ (watchLead s).reck.basis = s.reck.basis
      ∧ (watchLead s).reck.thetaScale = s.reck.thetaScale
      ∧ (watchLead s).reck.anchor = s.reck.anchor
      ∧ (watchLead s).reck.atRest = s.reck.atRest
      ∧ (watchLead s).reck.drift = s.reck.drift
      ∧ (watchLead s).link.bitErrors = s.link.bitErrors
      ∧ (watchLead s).link.txErrors = s.link.txErrors
      ∧ (watchLead s).link.rxErrors = s.link.rxErrors
      ∧ (watchLead s).link.txFail = s.link.txFail
      ∧ (watchLead s).link.lastDuplicate = s.link.lastDuplicate
      ∧ (watchLead s).link.heartbeat = s.link.heartbeat
      ∧ (watchLead s).peers.entries = s.peers.entries
      ∧ (watchLead s).peers.digest = s.peers.digest
      ∧ (watchLead s).mark.state = s.mark.state
      ∧ (watchLead s).mark.number = s.mark.number
      ∧ (watchLead s).mark.reported = s.mark.reported
      ∧ (watchLead s).mark.quiet = s.mark.quiet
      ∧ (watchLead s).mark.leadWait = s.mark.leadWait
      ∧ (watchLead s).mark.captureRequested = s.mark.captureRequested
      ∧ (watchLead s).store.cellsA = s.store.cellsA
      ∧ (watchLead s).store.cellsB = s.store.cellsB
      ∧ (watchLead s).store.cellsCal = s.store.cellsCal
      ∧ (watchLead s).store.imageA = s.store.imageA
      ∧ (watchLead s).store.imageB = s.store.imageB
      ∧ (watchLead s).store.imageCal = s.store.imageCal
      ∧ (watchLead s).store.calSeq = s.store.calSeq
      ∧ (watchLead s).store.inFlight = s.store.inFlight
      ∧ (watchLead s).store.pendingSnap = s.store.pendingSnap
      ∧ (watchLead s).store.scanDone = s.store.scanDone
      ∧ (watchLead s).claim.purpose = s.claim.purpose
      ∧ (watchLead s).search.passes = s.search.passes
      ∧ (watchLead s).search.level = s.search.level
      ∧ (watchLead s).search.total = s.search.total
      ∧ (watchLead s).search.plus = s.search.plus
      ∧ (watchLead s).port.setup = s.port.setup
      ∧ (watchLead s).port.frozen = s.port.frozen
      ∧ (watchLead s).port.tau = s.port.tau
      ∧ (watchLead s).port.span = s.port.span
      ∧ (watchLead s).port.slot = s.port.slot
      ∧ (watchLead s).port.shifted = s.port.shifted
      ∧ (watchLead s).port.lastEnd = s.port.lastEnd
      ∧ (watchLead s).port.changedPeers = s.port.changedPeers := by
  unfold watchLead
  refine ⟨?_, ?_, ?_, ?_, ?_, ?_, ?_, ?_, ?_, ?_, ?_, ?_, ?_, ?_, ?_, ?_, ?_, ?_, ?_, ?_, ?_, ?_, ?_, ?_, ?_, ?_,
    ?_, ?_, ?_, ?_, ?_, ?_, ?_, ?_, ?_, ?_, ?_, ?_, ?_, ?_, ?_, ?_, ?_, ?_, ?_, ?_, ?_, ?_, ?_, ?_, ?_, ?_, ?_, ?_,
    ?_, ?_, ?_, ?_⟩ <;>
    first | rfl | ((try dsimp only); (repeat' split) <;> first | rfl | simp | simp_all)

@[simp] theorem enterCalibrate_frame (centre : Int) (delta : Nat) (s : State) :
    (enterCalibrate centre delta s).phase = s.phase
      ∧ (enterCalibrate centre delta s).ms = s.ms
      ∧ (enterCalibrate centre delta s).straps = s.straps
      ∧ (enterCalibrate centre delta s).levels = s.levels
      ∧ (enterCalibrate centre delta s).sensor = s.sensor
      ∧ (enterCalibrate centre delta s).reck = s.reck
      ∧ (enterCalibrate centre delta s).link = s.link
      ∧ (enterCalibrate centre delta s).peers = s.peers
      ∧ (enterCalibrate centre delta s).store = s.store
      ∧ (enterCalibrate centre delta s).gradeUnit = s.gradeUnit
      ∧ (enterCalibrate centre delta s).claim = s.claim
      ∧ (enterCalibrate centre delta s).zone = s.zone
      ∧ (enterCalibrate centre delta s).fault = s.fault
      ∧ (enterCalibrate centre delta s).port = s.port
      ∧ (enterCalibrate centre delta s).free = s.free
      ∧ (enterCalibrate centre delta s).pending = s.pending
      ∧ (enterCalibrate centre delta s).mark.state = s.mark.state
      ∧ (enterCalibrate centre delta s).mark.number = s.mark.number
      ∧ (enterCalibrate centre delta s).mark.reported = s.mark.reported
      ∧ (enterCalibrate centre delta s).mark.quiet = s.mark.quiet
      ∧ (enterCalibrate centre delta s).mark.leadWait = s.mark.leadWait
      ∧ (enterCalibrate centre delta s).mark.captureRequested = s.mark.captureRequested
      ∧ (enterCalibrate centre delta s).mark.serving = s.mark.serving
      ∧ (enterCalibrate centre delta s).search.leadHold = s.search.leadHold
      ∧ (enterCalibrate centre delta s).search.outcome = s.search.outcome
      ∧ (enterCalibrate centre delta s).search.passes = s.search.passes
      ∧ (enterCalibrate centre delta s).search.level = s.search.level
      ∧ (enterCalibrate centre delta s).search.total = s.search.total
      ∧ (enterCalibrate centre delta s).search.plus = s.search.plus := by
  unfold enterCalibrate
  refine ⟨?_, ?_, ?_, ?_, ?_, ?_, ?_, ?_, ?_, ?_, ?_, ?_, ?_, ?_, ?_, ?_, ?_, ?_, ?_, ?_, ?_, ?_, ?_, ?_, ?_, ?_,
    ?_, ?_, ?_⟩ <;>
    rfl

@[simp] theorem nextPass_frame (s : State) :
    (nextPass s).ms = s.ms
      ∧ (nextPass s).straps = s.straps
      ∧ (nextPass s).levels = s.levels
      ∧ (nextPass s).sensor = s.sensor
      ∧ (nextPass s).gradeUnit = s.gradeUnit
      ∧ (nextPass s).zone = s.zone
      ∧ (nextPass s).free = s.free
      ∧ (nextPass s).pending = s.pending
      ∧ (nextPass s).reck.count = s.reck.count
      ∧ (nextPass s).reck.started = s.reck.started
      ∧ (nextPass s).reck.lastGood = s.reck.lastGood
      ∧ (nextPass s).reck.held = s.reck.held
      ∧ (nextPass s).reck.turnOffset = s.reck.turnOffset
      ∧ (nextPass s).reck.theta0 = s.reck.theta0
      ∧ (nextPass s).reck.sigma = s.reck.sigma
      ∧ (nextPass s).reck.calibrated = s.reck.calibrated
      ∧ (nextPass s).reck.basis = s.reck.basis
      ∧ (nextPass s).reck.thetaScale = s.reck.thetaScale
      ∧ (nextPass s).reck.anchor = s.reck.anchor
      ∧ (nextPass s).reck.atRest = s.reck.atRest
      ∧ (nextPass s).reck.drift = s.reck.drift
      ∧ (nextPass s).link.bitErrors = s.link.bitErrors
      ∧ (nextPass s).link.txErrors = s.link.txErrors
      ∧ (nextPass s).link.rxErrors = s.link.rxErrors
      ∧ (nextPass s).link.txFail = s.link.txFail
      ∧ (nextPass s).link.lastDuplicate = s.link.lastDuplicate
      ∧ (nextPass s).link.heartbeat = s.link.heartbeat
      ∧ (nextPass s).peers.entries = s.peers.entries
      ∧ (nextPass s).peers.digest = s.peers.digest
      ∧ (nextPass s).mark.state = s.mark.state
      ∧ (nextPass s).mark.number = s.mark.number
      ∧ (nextPass s).mark.reported = s.mark.reported
      ∧ (nextPass s).mark.quiet = s.mark.quiet
      ∧ (nextPass s).mark.leadWait = s.mark.leadWait
      ∧ (nextPass s).mark.captureRequested = s.mark.captureRequested
      ∧ (nextPass s).store.cellsA = s.store.cellsA
      ∧ (nextPass s).store.cellsB = s.store.cellsB
      ∧ (nextPass s).store.cellsCal = s.store.cellsCal
      ∧ (nextPass s).store.imageA = s.store.imageA
      ∧ (nextPass s).store.imageB = s.store.imageB
      ∧ (nextPass s).store.imageCal = s.store.imageCal
      ∧ (nextPass s).store.calSeq = s.store.calSeq
      ∧ (nextPass s).store.inFlight = s.store.inFlight
      ∧ (nextPass s).store.pendingSnap = s.store.pendingSnap
      ∧ (nextPass s).store.scanDone = s.store.scanDone
      ∧ (nextPass s).claim.purpose = s.claim.purpose
      ∧ (nextPass s).search.total = s.search.total
      ∧ (nextPass s).search.plus = s.search.plus
      ∧ (nextPass s).port.setup = s.port.setup
      ∧ (nextPass s).port.frozen = s.port.frozen
      ∧ (nextPass s).port.tau = s.port.tau
      ∧ (nextPass s).port.span = s.port.span
      ∧ (nextPass s).port.slot = s.port.slot
      ∧ (nextPass s).port.shifted = s.port.shifted
      ∧ (nextPass s).port.lastEnd = s.port.lastEnd
      ∧ (nextPass s).port.changedPeers = s.port.changedPeers := by
  unfold nextPass
  refine ⟨?_, ?_, ?_, ?_, ?_, ?_, ?_, ?_, ?_, ?_, ?_, ?_, ?_, ?_, ?_, ?_, ?_, ?_, ?_, ?_, ?_, ?_, ?_, ?_, ?_, ?_,
    ?_, ?_, ?_, ?_, ?_, ?_, ?_, ?_, ?_, ?_, ?_, ?_, ?_, ?_, ?_, ?_, ?_, ?_, ?_, ?_, ?_, ?_, ?_, ?_, ?_, ?_, ?_, ?_,
    ?_, ?_⟩ <;>
    first | rfl | ((try dsimp only); (repeat' split) <;> first | rfl | simp | simp_all)

@[simp] theorem evaluatePass_frame (s : State) :
    (evaluatePass s).ms = s.ms
      ∧ (evaluatePass s).straps = s.straps
      ∧ (evaluatePass s).levels = s.levels
      ∧ (evaluatePass s).sensor = s.sensor
      ∧ (evaluatePass s).gradeUnit = s.gradeUnit
      ∧ (evaluatePass s).zone = s.zone
      ∧ (evaluatePass s).free = s.free
      ∧ (evaluatePass s).pending = s.pending
      ∧ (evaluatePass s).reck.count = s.reck.count
      ∧ (evaluatePass s).reck.started = s.reck.started
      ∧ (evaluatePass s).reck.lastGood = s.reck.lastGood
      ∧ (evaluatePass s).reck.held = s.reck.held
      ∧ (evaluatePass s).reck.turnOffset = s.reck.turnOffset
      ∧ (evaluatePass s).reck.theta0 = s.reck.theta0
      ∧ (evaluatePass s).reck.sigma = s.reck.sigma
      ∧ (evaluatePass s).reck.calibrated = s.reck.calibrated
      ∧ (evaluatePass s).reck.basis = s.reck.basis
      ∧ (evaluatePass s).reck.thetaScale = s.reck.thetaScale
      ∧ (evaluatePass s).reck.anchor = s.reck.anchor
      ∧ (evaluatePass s).reck.atRest = s.reck.atRest
      ∧ (evaluatePass s).reck.drift = s.reck.drift
      ∧ (evaluatePass s).link.bitErrors = s.link.bitErrors
      ∧ (evaluatePass s).link.txErrors = s.link.txErrors
      ∧ (evaluatePass s).link.rxErrors = s.link.rxErrors
      ∧ (evaluatePass s).link.txFail = s.link.txFail
      ∧ (evaluatePass s).link.lastDuplicate = s.link.lastDuplicate
      ∧ (evaluatePass s).link.heartbeat = s.link.heartbeat
      ∧ (evaluatePass s).peers.entries = s.peers.entries
      ∧ (evaluatePass s).peers.digest = s.peers.digest
      ∧ (evaluatePass s).mark.state = s.mark.state
      ∧ (evaluatePass s).mark.number = s.mark.number
      ∧ (evaluatePass s).mark.reported = s.mark.reported
      ∧ (evaluatePass s).mark.quiet = s.mark.quiet
      ∧ (evaluatePass s).mark.leadWait = s.mark.leadWait
      ∧ (evaluatePass s).mark.captureRequested = s.mark.captureRequested
      ∧ (evaluatePass s).store.cellsA = s.store.cellsA
      ∧ (evaluatePass s).store.cellsB = s.store.cellsB
      ∧ (evaluatePass s).store.cellsCal = s.store.cellsCal
      ∧ (evaluatePass s).store.imageA = s.store.imageA
      ∧ (evaluatePass s).store.imageB = s.store.imageB
      ∧ (evaluatePass s).store.imageCal = s.store.imageCal
      ∧ (evaluatePass s).store.calSeq = s.store.calSeq
      ∧ (evaluatePass s).store.inFlight = s.store.inFlight
      ∧ (evaluatePass s).store.pendingSnap = s.store.pendingSnap
      ∧ (evaluatePass s).store.scanDone = s.store.scanDone
      ∧ (evaluatePass s).claim.purpose = s.claim.purpose
      ∧ (evaluatePass s).search.plus = s.search.plus
      ∧ (evaluatePass s).port.setup = s.port.setup
      ∧ (evaluatePass s).port.frozen = s.port.frozen
      ∧ (evaluatePass s).port.tau = s.port.tau
      ∧ (evaluatePass s).port.span = s.port.span
      ∧ (evaluatePass s).port.slot = s.port.slot
      ∧ (evaluatePass s).port.shifted = s.port.shifted
      ∧ (evaluatePass s).port.lastEnd = s.port.lastEnd
      ∧ (evaluatePass s).port.changedPeers = s.port.changedPeers := by
  unfold evaluatePass
  refine ⟨?_, ?_, ?_, ?_, ?_, ?_, ?_, ?_, ?_, ?_, ?_, ?_, ?_, ?_, ?_, ?_, ?_, ?_, ?_, ?_, ?_, ?_, ?_, ?_, ?_, ?_,
    ?_, ?_, ?_, ?_, ?_, ?_, ?_, ?_, ?_, ?_, ?_, ?_, ?_, ?_, ?_, ?_, ?_, ?_, ?_, ?_, ?_, ?_, ?_, ?_, ?_, ?_, ?_, ?_,
    ?_⟩ <;>
    first | rfl | ((try dsimp only); (repeat' split) <;> first | rfl | simp | simp_all)

@[simp] theorem searchCapture_frame (c : Capture) (s : State) :
    (searchCapture c s).phase = s.phase
      ∧ (searchCapture c s).ms = s.ms
      ∧ (searchCapture c s).straps = s.straps
      ∧ (searchCapture c s).levels = s.levels
      ∧ (searchCapture c s).sensor = s.sensor
      ∧ (searchCapture c s).reck = s.reck
      ∧ (searchCapture c s).link = s.link
      ∧ (searchCapture c s).peers = s.peers
      ∧ (searchCapture c s).gradeUnit = s.gradeUnit
      ∧ (searchCapture c s).claim = s.claim
      ∧ (searchCapture c s).zone = s.zone
      ∧ (searchCapture c s).fault = s.fault
      ∧ (searchCapture c s).port = s.port
      ∧ (searchCapture c s).free = s.free
      ∧ (searchCapture c s).pending = s.pending
      ∧ (searchCapture c s).mark.state = s.mark.state
      ∧ (searchCapture c s).mark.number = s.mark.number
      ∧ (searchCapture c s).mark.reported = s.mark.reported
      ∧ (searchCapture c s).mark.quiet = s.mark.quiet
      ∧ (searchCapture c s).mark.leadWait = s.mark.leadWait
      ∧ (searchCapture c s).mark.captureRequested = s.mark.captureRequested
      ∧ (searchCapture c s).mark.serving = s.mark.serving
      ∧ (searchCapture c s).store.cellsA = s.store.cellsA
      ∧ (searchCapture c s).store.cellsB = s.store.cellsB
      ∧ (searchCapture c s).store.cellsCal = s.store.cellsCal
      ∧ (searchCapture c s).store.imageA = s.store.imageA
      ∧ (searchCapture c s).store.imageB = s.store.imageB
      ∧ (searchCapture c s).store.imageCal = s.store.imageCal
      ∧ (searchCapture c s).store.calSeq = s.store.calSeq
      ∧ (searchCapture c s).store.inFlight = s.store.inFlight
      ∧ (searchCapture c s).store.pendingSnap = s.store.pendingSnap
      ∧ (searchCapture c s).store.scanDone = s.store.scanDone
      ∧ (searchCapture c s).search.sub = s.search.sub
      ∧ (searchCapture c s).search.leadHold = s.search.leadHold
      ∧ (searchCapture c s).search.outcome = s.search.outcome
      ∧ (searchCapture c s).search.passes = s.search.passes
      ∧ (searchCapture c s).search.level = s.search.level
      ∧ (searchCapture c s).search.total = s.search.total
      ∧ (searchCapture c s).search.plus = s.search.plus
      ∧ (searchCapture c s).search.stage = s.search.stage := by
  unfold searchCapture
  refine ⟨?_, ?_, ?_, ?_, ?_, ?_, ?_, ?_, ?_, ?_, ?_, ?_, ?_, ?_, ?_, ?_, ?_, ?_, ?_, ?_, ?_, ?_, ?_, ?_, ?_, ?_,
    ?_, ?_, ?_, ?_, ?_, ?_, ?_, ?_, ?_, ?_, ?_, ?_, ?_, ?_⟩ <;>
    first | rfl | ((try dsimp only); (repeat' split) <;> first | rfl | simp | simp_all)

@[simp] theorem startSearch_frame (s : State) :
    (startSearch s).ms = s.ms
      ∧ (startSearch s).straps = s.straps
      ∧ (startSearch s).levels = s.levels
      ∧ (startSearch s).sensor = s.sensor
      ∧ (startSearch s).reck = s.reck
      ∧ (startSearch s).link = s.link
      ∧ (startSearch s).mark = s.mark
      ∧ (startSearch s).gradeUnit = s.gradeUnit
      ∧ (startSearch s).zone = s.zone
      ∧ (startSearch s).port = s.port
      ∧ (startSearch s).free = s.free
      ∧ (startSearch s).pending = s.pending
      ∧ (startSearch s).peers.entries = s.peers.entries
      ∧ (startSearch s).peers.digest = s.peers.digest
      ∧ (startSearch s).store.cellsA = s.store.cellsA
      ∧ (startSearch s).store.cellsB = s.store.cellsB
      ∧ (startSearch s).store.cellsCal = s.store.cellsCal
      ∧ (startSearch s).store.imageA = s.store.imageA
      ∧ (startSearch s).store.imageB = s.store.imageB
      ∧ (startSearch s).store.imageCal = s.store.imageCal
      ∧ (startSearch s).store.calSeq = s.store.calSeq
      ∧ (startSearch s).store.inFlight = s.store.inFlight
      ∧ (startSearch s).store.pendingSnap = s.store.pendingSnap
      ∧ (startSearch s).store.pendingCal = s.store.pendingCal
      ∧ (startSearch s).store.scanDone = s.store.scanDone
      ∧ (startSearch s).claim.state = s.claim.state
      ∧ (startSearch s).claim.wanted = s.claim.wanted
      ∧ (startSearch s).claim.purpose = s.claim.purpose
      ∧ (startSearch s).claim.dirState = s.claim.dirState
      ∧ (startSearch s).claim.dir = s.claim.dir
      ∧ (startSearch s).claim.lastNumber = s.claim.lastNumber
      ∧ (startSearch s).claim.untakenOpen = s.claim.untakenOpen
      ∧ (startSearch s).claim.untakenTimer = s.claim.untakenTimer
      ∧ (startSearch s).claim.allowance = s.claim.allowance
      ∧ (startSearch s).fault.record = s.fault.record := by
  unfold startSearch
  refine ⟨?_, ?_, ?_, ?_, ?_, ?_, ?_, ?_, ?_, ?_, ?_, ?_, ?_, ?_, ?_, ?_, ?_, ?_, ?_, ?_, ?_, ?_, ?_, ?_, ?_, ?_,
    ?_, ?_, ?_, ?_, ?_, ?_, ?_, ?_, ?_⟩ <;>
    first | rfl | ((try dsimp only); (repeat' split) <;> first | rfl | simp | simp_all)

end Sys2Proof.Machine
end

