-- ==== Sys2Proof/Laws/Decisions.lean ====
section
/-! SUPPORT. What the STOP effects, the decisions of the grade unit and the tests at the end of a command leave
unchanged: one frame lemma for each operation. -/

set_option linter.unusedTactic false
set_option linter.unreachableTactic false
set_option linter.unnecessarySeqFocus false

namespace Sys2Proof.Machine

/-! ### StopOps -/

@[simp] theorem endDecision_frame (s : State) :
    (endDecision s).phase = s.phase
      ∧ (endDecision s).ms = s.ms
      ∧ (endDecision s).straps = s.straps
      ∧ (endDecision s).levels = s.levels
      ∧ (endDecision s).sensor = s.sensor
      ∧ (endDecision s).reck = s.reck
      ∧ (endDecision s).link = s.link
      ∧ (endDecision s).peers = s.peers
      ∧ (endDecision s).store = s.store
      ∧ (endDecision s).claim = s.claim
      ∧ (endDecision s).search = s.search
      ∧ (endDecision s).zone = s.zone
      ∧ (endDecision s).fault = s.fault
      ∧ (endDecision s).port = s.port
      ∧ (endDecision s).free = s.free
      ∧ (endDecision s).pending = s.pending
      ∧ (endDecision s).mark.state = s.mark.state
      ∧ (endDecision s).mark.number = s.mark.number
      ∧ (endDecision s).mark.reported = s.mark.reported
      ∧ (endDecision s).mark.needs = s.mark.needs
      ∧ (endDecision s).mark.quiet = s.mark.quiet
      ∧ (endDecision s).mark.captureRequested = s.mark.captureRequested
      ∧ (endDecision s).mark.serving = s.mark.serving
      ∧ (endDecision s).gradeUnit.grade = s.gradeUnit.grade
      ∧ (endDecision s).gradeUnit.candidates = s.gradeUnit.candidates
      ∧ (endDecision s).gradeUnit.chosen = s.gradeUnit.chosen := by
  unfold endDecision
  refine ⟨?_, ?_, ?_, ?_, ?_, ?_, ?_, ?_, ?_, ?_, ?_, ?_, ?_, ?_, ?_, ?_, ?_, ?_, ?_, ?_, ?_, ?_, ?_, ?_, ?_,
    ?_⟩ <;>
    rfl

@[simp] theorem emptyCandidates_frame (s : State) :
    (emptyCandidates s).phase = s.phase
      ∧ (emptyCandidates s).ms = s.ms
      ∧ (emptyCandidates s).straps = s.straps
      ∧ (emptyCandidates s).levels = s.levels
      ∧ (emptyCandidates s).sensor = s.sensor
      ∧ (emptyCandidates s).reck = s.reck
      ∧ (emptyCandidates s).link = s.link
      ∧ (emptyCandidates s).peers = s.peers
      ∧ (emptyCandidates s).mark = s.mark
      ∧ (emptyCandidates s).store = s.store
      ∧ (emptyCandidates s).claim = s.claim
      ∧ (emptyCandidates s).search = s.search
      ∧ (emptyCandidates s).zone = s.zone
      ∧ (emptyCandidates s).fault = s.fault
      ∧ (emptyCandidates s).port = s.port
      ∧ (emptyCandidates s).free = s.free
      ∧ (emptyCandidates s).pending = s.pending
      ∧ (emptyCandidates s).gradeUnit.grade = s.gradeUnit.grade
      ∧ (emptyCandidates s).gradeUnit.sub = s.gradeUnit.sub
      ∧ (emptyCandidates s).gradeUnit.readPending = s.gradeUnit.readPending
      ∧ (emptyCandidates s).gradeUnit.held = s.gradeUnit.held
      ∧ (emptyCandidates s).gradeUnit.leadReport = s.gradeUnit.leadReport
      ∧ (emptyCandidates s).gradeUnit.chosen = s.gradeUnit.chosen := by
  unfold emptyCandidates
  refine ⟨?_, ?_, ?_, ?_, ?_, ?_, ?_, ?_, ?_, ?_, ?_, ?_, ?_, ?_, ?_, ?_, ?_, ?_, ?_, ?_, ?_, ?_, ?_⟩ <;>
    rfl

@[simp] theorem joinStopSet_frame (c : StopCause) (a : Int) (s : State) :
    (joinStopSet c a s).phase = s.phase
      ∧ (joinStopSet c a s).ms = s.ms
      ∧ (joinStopSet c a s).straps = s.straps
      ∧ (joinStopSet c a s).levels = s.levels
      ∧ (joinStopSet c a s).sensor = s.sensor
      ∧ (joinStopSet c a s).reck = s.reck
      ∧ (joinStopSet c a s).link = s.link
      ∧ (joinStopSet c a s).peers = s.peers
      ∧ (joinStopSet c a s).mark = s.mark
      ∧ (joinStopSet c a s).store = s.store
      ∧ (joinStopSet c a s).gradeUnit = s.gradeUnit
      ∧ (joinStopSet c a s).claim = s.claim
      ∧ (joinStopSet c a s).search = s.search
      ∧ (joinStopSet c a s).zone = s.zone
      ∧ (joinStopSet c a s).port = s.port
      ∧ (joinStopSet c a s).free = s.free
      ∧ (joinStopSet c a s).pending = s.pending
      ∧ (joinStopSet c a s).fault.record = s.fault.record := by
  unfold joinStopSet
  refine ⟨?_, ?_, ?_, ?_, ?_, ?_, ?_, ?_, ?_, ?_, ?_, ?_, ?_, ?_, ?_, ?_, ?_, ?_⟩ <;>
    rfl

@[simp] theorem stopEffects_frame (c : StopCause) (a : Int) (s : State) :
    (stopEffects c a s).ms = s.ms
      ∧ (stopEffects c a s).straps = s.straps
      ∧ (stopEffects c a s).levels = s.levels
      ∧ (stopEffects c a s).sensor = s.sensor
      ∧ (stopEffects c a s).zone = s.zone
      ∧ (stopEffects c a s).free = s.free
      ∧ (stopEffects c a s).pending = s.pending
      ∧ (stopEffects c a s).reck.count = s.reck.count
      ∧ (stopEffects c a s).reck.started = s.reck.started
      ∧ (stopEffects c a s).reck.lastGood = s.reck.lastGood
      ∧ (stopEffects c a s).reck.held = s.reck.held
      ∧ (stopEffects c a s).reck.turnOffset = s.reck.turnOffset
      ∧ (stopEffects c a s).reck.theta0 = s.reck.theta0
      ∧ (stopEffects c a s).reck.sigma = s.reck.sigma
      ∧ (stopEffects c a s).reck.calibrated = s.reck.calibrated
      ∧ (stopEffects c a s).reck.thetaScale = s.reck.thetaScale
      ∧ (stopEffects c a s).reck.anchor = s.reck.anchor
      ∧ (stopEffects c a s).reck.atRest = s.reck.atRest
      ∧ (stopEffects c a s).link.bitErrors = s.link.bitErrors
      ∧ (stopEffects c a s).link.txErrors = s.link.txErrors
      ∧ (stopEffects c a s).link.rxErrors = s.link.rxErrors
      ∧ (stopEffects c a s).link.txFail = s.link.txFail
      ∧ (stopEffects c a s).link.lastDuplicate = s.link.lastDuplicate
      ∧ (stopEffects c a s).link.heartbeat = s.link.heartbeat
      ∧ (stopEffects c a s).peers.entries = s.peers.entries
      ∧ (stopEffects c a s).peers.digest = s.peers.digest
      ∧ (stopEffects c a s).mark.number = s.mark.number
      ∧ (stopEffects c a s).mark.reported = s.mark.reported
      ∧ (stopEffects c a s).mark.quiet = s.mark.quiet
      ∧ (stopEffects c a s).mark.captureRequested = s.mark.captureRequested
      ∧ (stopEffects c a s).store.cellsA = s.store.cellsA
      ∧ (stopEffects c a s).store.cellsB = s.store.cellsB
      ∧ (stopEffects c a s).store.cellsCal = s.store.cellsCal
      ∧ (stopEffects c a s).store.imageA = s.store.imageA
      ∧ (stopEffects c a s).store.imageB = s.store.imageB
      ∧ (stopEffects c a s).store.imageCal = s.store.imageCal
      ∧ (stopEffects c a s).store.calSeq = s.store.calSeq
      ∧ (stopEffects c a s).store.inFlight = s.store.inFlight
      ∧ (stopEffects c a s).store.scanDone = s.store.scanDone
      ∧ (stopEffects c a s).gradeUnit.chosen = s.gradeUnit.chosen
      ∧ (stopEffects c a s).claim.purpose = s.claim.purpose
      ∧ (stopEffects c a s).search.passes = s.search.passes
      ∧ (stopEffects c a s).search.level = s.search.level
      ∧ (stopEffects c a s).search.total = s.search.total
      ∧ (stopEffects c a s).search.plus = s.search.plus
      ∧ (stopEffects c a s).port.setup = s.port.setup
      ∧ (stopEffects c a s).port.frozen = s.port.frozen
      ∧ (stopEffects c a s).port.tau = s.port.tau
      ∧ (stopEffects c a s).port.span = s.port.span
      ∧ (stopEffects c a s).port.slot = s.port.slot
      ∧ (stopEffects c a s).port.shifted = s.port.shifted
      ∧ (stopEffects c a s).port.lastEnd = s.port.lastEnd
      ∧ (stopEffects c a s).port.changedPeers = s.port.changedPeers := by
  unfold stopEffects
  refine ⟨?_, ?_, ?_, ?_, ?_, ?_, ?_, ?_, ?_, ?_, ?_, ?_, ?_, ?_, ?_, ?_, ?_, ?_, ?_, ?_, ?_, ?_, ?_, ?_, ?_, ?_,
    ?_, ?_, ?_, ?_, ?_, ?_, ?_, ?_, ?_, ?_, ?_, ?_, ?_, ?_, ?_, ?_, ?_, ?_, ?_, ?_, ?_, ?_, ?_, ?_, ?_, ?_, ?_⟩ <;>
    simp

@[simp] theorem raiseStop_ms_frame (c : StopCause) (a b : Int) (s : State) :
    (raiseStop c a b s).ms = s.ms := by
  unfold raiseStop
  (repeat' split) <;> simp

@[simp] theorem raiseStop_straps_frame (c : StopCause) (a b : Int) (s : State) :
    (raiseStop c a b s).straps = s.straps := by
  unfold raiseStop
  (repeat' split) <;> simp

@[simp] theorem raiseStop_levels_frame (c : StopCause) (a b : Int) (s : State) :
    (raiseStop c a b s).levels = s.levels := by
  unfold raiseStop
  (repeat' split) <;> simp

@[simp] theorem raiseStop_sensor_frame (c : StopCause) (a b : Int) (s : State) :
    (raiseStop c a b s).sensor = s.sensor := by
  unfold raiseStop
  (repeat' split) <;> simp

@[simp] theorem raiseStop_zone_frame (c : StopCause) (a b : Int) (s : State) :
    (raiseStop c a b s).zone = s.zone := by
  unfold raiseStop
  (repeat' split) <;> simp

@[simp] theorem raiseStop_free_frame (c : StopCause) (a b : Int) (s : State) :
    (raiseStop c a b s).free = s.free := by
  unfold raiseStop
  (repeat' split) <;> simp

@[simp] theorem raiseStop_pending_frame (c : StopCause) (a b : Int) (s : State) :
    (raiseStop c a b s).pending = s.pending := by
  unfold raiseStop
  (repeat' split) <;> simp

@[simp] theorem raiseStop_reck_count_frame (c : StopCause) (a b : Int) (s : State) :
    (raiseStop c a b s).reck.count = s.reck.count := by
  unfold raiseStop
  (repeat' split) <;> simp

@[simp] theorem raiseStop_reck_started_frame (c : StopCause) (a b : Int) (s : State) :
    (raiseStop c a b s).reck.started = s.reck.started := by
  unfold raiseStop
  (repeat' split) <;> simp

@[simp] theorem raiseStop_reck_lastGood_frame (c : StopCause) (a b : Int) (s : State) :
    (raiseStop c a b s).reck.lastGood = s.reck.lastGood := by
  unfold raiseStop
  (repeat' split) <;> simp

@[simp] theorem raiseStop_reck_held_frame (c : StopCause) (a b : Int) (s : State) :
    (raiseStop c a b s).reck.held = s.reck.held := by
  unfold raiseStop
  first | rfl | ((try dsimp only); (repeat' split) <;> first | rfl | simp | simp_all)

@[simp] theorem raiseStop_reck_turnOffset_frame (c : StopCause) (a b : Int) (s : State) :
    (raiseStop c a b s).reck.turnOffset = s.reck.turnOffset := by
  unfold raiseStop
  first | rfl | ((try dsimp only); (repeat' split) <;> first | rfl | simp | simp_all)

@[simp] theorem raiseStop_reck_theta0_frame (c : StopCause) (a b : Int) (s : State) :
    (raiseStop c a b s).reck.theta0 = s.reck.theta0 := by
  unfold raiseStop
  first | rfl | ((try dsimp only); (repeat' split) <;> first | rfl | simp | simp_all)

@[simp] theorem raiseStop_reck_sigma_frame (c : StopCause) (a b : Int) (s : State) :
    (raiseStop c a b s).reck.sigma = s.reck.sigma := by
  unfold raiseStop
  first | rfl | ((try dsimp only); (repeat' split) <;> first | rfl | simp | simp_all)

@[simp] theorem raiseStop_reck_calibrated_frame (c : StopCause) (a b : Int) (s : State) :
    (raiseStop c a b s).reck.calibrated = s.reck.calibrated := by
  unfold raiseStop
  first | rfl | ((try dsimp only); (repeat' split) <;> first | rfl | simp | simp_all)

@[simp] theorem raiseStop_reck_thetaScale_frame (c : StopCause) (a b : Int) (s : State) :
    (raiseStop c a b s).reck.thetaScale = s.reck.thetaScale := by
  unfold raiseStop
  first | rfl | ((try dsimp only); (repeat' split) <;> first | rfl | simp | simp_all)

@[simp] theorem raiseStop_reck_anchor_frame (c : StopCause) (a b : Int) (s : State) :
    (raiseStop c a b s).reck.anchor = s.reck.anchor := by
  unfold raiseStop
  first | rfl | ((try dsimp only); (repeat' split) <;> first | rfl | simp | simp_all)

@[simp] theorem raiseStop_reck_atRest_frame (c : StopCause) (a b : Int) (s : State) :
    (raiseStop c a b s).reck.atRest = s.reck.atRest := by
  unfold raiseStop
  first | rfl | ((try dsimp only); (repeat' split) <;> first | rfl | simp | simp_all)

@[simp] theorem raiseStop_link_bitErrors_frame (c : StopCause) (a b : Int) (s : State) :
    (raiseStop c a b s).link.bitErrors = s.link.bitErrors := by
  unfold raiseStop
  first | rfl | ((try dsimp only); (repeat' split) <;> first | rfl | simp | simp_all)

@[simp] theorem raiseStop_link_txErrors_frame (c : StopCause) (a b : Int) (s : State) :
    (raiseStop c a b s).link.txErrors = s.link.txErrors := by
  unfold raiseStop
  first | rfl | ((try dsimp only); (repeat' split) <;> first | rfl | simp | simp_all)

@[simp] theorem raiseStop_link_rxErrors_frame (c : StopCause) (a b : Int) (s : State) :
    (raiseStop c a b s).link.rxErrors = s.link.rxErrors := by
  unfold raiseStop
  first | rfl | ((try dsimp only); (repeat' split) <;> first | rfl | simp | simp_all)

@[simp] theorem raiseStop_link_txFail_frame (c : StopCause) (a b : Int) (s : State) :
    (raiseStop c a b s).link.txFail = s.link.txFail := by
  unfold raiseStop
  first | rfl | ((try dsimp only); (repeat' split) <;> first | rfl | simp | simp_all)

@[simp] theorem raiseStop_link_lastDuplicate_frame (c : StopCause) (a b : Int) (s : State) :
    (raiseStop c a b s).link.lastDuplicate = s.link.lastDuplicate := by
  unfold raiseStop
  first | rfl | ((try dsimp only); (repeat' split) <;> first | rfl | simp | simp_all)

@[simp] theorem raiseStop_link_heartbeat_frame (c : StopCause) (a b : Int) (s : State) :
    (raiseStop c a b s).link.heartbeat = s.link.heartbeat := by
  unfold raiseStop
  first | rfl | ((try dsimp only); (repeat' split) <;> first | rfl | simp | simp_all)

@[simp] theorem raiseStop_peers_entries_frame (c : StopCause) (a b : Int) (s : State) :
    (raiseStop c a b s).peers.entries = s.peers.entries := by
  unfold raiseStop
  first | rfl | ((try dsimp only); (repeat' split) <;> first | rfl | simp | simp_all)

@[simp] theorem raiseStop_peers_digest_frame (c : StopCause) (a b : Int) (s : State) :
    (raiseStop c a b s).peers.digest = s.peers.digest := by
  unfold raiseStop
  first | rfl | ((try dsimp only); (repeat' split) <;> first | rfl | simp | simp_all)

@[simp] theorem raiseStop_mark_number_frame (c : StopCause) (a b : Int) (s : State) :
    (raiseStop c a b s).mark.number = s.mark.number := by
  unfold raiseStop
  first | rfl | ((try dsimp only); (repeat' split) <;> first | rfl | simp | simp_all)

@[simp] theorem raiseStop_mark_reported_frame (c : StopCause) (a b : Int) (s : State) :
    (raiseStop c a b s).mark.reported = s.mark.reported := by
  unfold raiseStop
  first | rfl | ((try dsimp only); (repeat' split) <;> first | rfl | simp | simp_all)

@[simp] theorem raiseStop_mark_quiet_frame (c : StopCause) (a b : Int) (s : State) :
    (raiseStop c a b s).mark.quiet = s.mark.quiet := by
  unfold raiseStop
  first | rfl | ((try dsimp only); (repeat' split) <;> first | rfl | simp | simp_all)

@[simp] theorem raiseStop_mark_captureRequested_frame (c : StopCause) (a b : Int) (s : State) :
    (raiseStop c a b s).mark.captureRequested = s.mark.captureRequested := by
  unfold raiseStop
  first | rfl | ((try dsimp only); (repeat' split) <;> first | rfl | simp | simp_all)

@[simp] theorem raiseStop_store_cellsA_frame (c : StopCause) (a b : Int) (s : State) :
    (raiseStop c a b s).store.cellsA = s.store.cellsA := by
  unfold raiseStop
  first | rfl | ((try dsimp only); (repeat' split) <;> first | rfl | simp | simp_all)

@[simp] theorem raiseStop_store_cellsB_frame (c : StopCause) (a b : Int) (s : State) :
    (raiseStop c a b s).store.cellsB = s.store.cellsB := by
  unfold raiseStop
  first | rfl | ((try dsimp only); (repeat' split) <;> first | rfl | simp | simp_all)

@[simp] theorem raiseStop_store_cellsCal_frame (c : StopCause) (a b : Int) (s : State) :
    (raiseStop c a b s).store.cellsCal = s.store.cellsCal := by
  unfold raiseStop
  first | rfl | ((try dsimp only); (repeat' split) <;> first | rfl | simp | simp_all)

@[simp] theorem raiseStop_store_imageA_frame (c : StopCause) (a b : Int) (s : State) :
    (raiseStop c a b s).store.imageA = s.store.imageA := by
  unfold raiseStop
  first | rfl | ((try dsimp only); (repeat' split) <;> first | rfl | simp | simp_all)

@[simp] theorem raiseStop_store_imageB_frame (c : StopCause) (a b : Int) (s : State) :
    (raiseStop c a b s).store.imageB = s.store.imageB := by
  unfold raiseStop
  first | rfl | ((try dsimp only); (repeat' split) <;> first | rfl | simp | simp_all)

@[simp] theorem raiseStop_store_imageCal_frame (c : StopCause) (a b : Int) (s : State) :
    (raiseStop c a b s).store.imageCal = s.store.imageCal := by
  unfold raiseStop
  first | rfl | ((try dsimp only); (repeat' split) <;> first | rfl | simp | simp_all)

@[simp] theorem raiseStop_store_calSeq_frame (c : StopCause) (a b : Int) (s : State) :
    (raiseStop c a b s).store.calSeq = s.store.calSeq := by
  unfold raiseStop
  first | rfl | ((try dsimp only); (repeat' split) <;> first | rfl | simp | simp_all)

@[simp] theorem raiseStop_store_inFlight_frame (c : StopCause) (a b : Int) (s : State) :
    (raiseStop c a b s).store.inFlight = s.store.inFlight := by
  unfold raiseStop
  first | rfl | ((try dsimp only); (repeat' split) <;> first | rfl | simp | simp_all)

@[simp] theorem raiseStop_store_scanDone_frame (c : StopCause) (a b : Int) (s : State) :
    (raiseStop c a b s).store.scanDone = s.store.scanDone := by
  unfold raiseStop
  first | rfl | ((try dsimp only); (repeat' split) <;> first | rfl | simp | simp_all)

@[simp] theorem raiseStop_gradeUnit_chosen_frame (c : StopCause) (a b : Int) (s : State) :
    (raiseStop c a b s).gradeUnit.chosen = s.gradeUnit.chosen := by
  unfold raiseStop
  first | rfl | ((try dsimp only); (repeat' split) <;> first | rfl | simp | simp_all)

@[simp] theorem raiseStop_claim_purpose_frame (c : StopCause) (a b : Int) (s : State) :
    (raiseStop c a b s).claim.purpose = s.claim.purpose := by
  unfold raiseStop
  first | rfl | ((try dsimp only); (repeat' split) <;> first | rfl | simp | simp_all)

@[simp] theorem raiseStop_search_passes_frame (c : StopCause) (a b : Int) (s : State) :
    (raiseStop c a b s).search.passes = s.search.passes := by
  unfold raiseStop
  first | rfl | ((try dsimp only); (repeat' split) <;> first | rfl | simp | simp_all)

@[simp] theorem raiseStop_search_level_frame (c : StopCause) (a b : Int) (s : State) :
    (raiseStop c a b s).search.level = s.search.level := by
  unfold raiseStop
  first | rfl | ((try dsimp only); (repeat' split) <;> first | rfl | simp | simp_all)

@[simp] theorem raiseStop_search_total_frame (c : StopCause) (a b : Int) (s : State) :
    (raiseStop c a b s).search.total = s.search.total := by
  unfold raiseStop
  first | rfl | ((try dsimp only); (repeat' split) <;> first | rfl | simp | simp_all)

@[simp] theorem raiseStop_search_plus_frame (c : StopCause) (a b : Int) (s : State) :
    (raiseStop c a b s).search.plus = s.search.plus := by
  unfold raiseStop
  first | rfl | ((try dsimp only); (repeat' split) <;> first | rfl | simp | simp_all)

@[simp] theorem raiseStop_port_setup_frame (c : StopCause) (a b : Int) (s : State) :
    (raiseStop c a b s).port.setup = s.port.setup := by
  unfold raiseStop
  first | rfl | ((try dsimp only); (repeat' split) <;> first | rfl | simp | simp_all)

@[simp] theorem raiseStop_port_frozen_frame (c : StopCause) (a b : Int) (s : State) :
    (raiseStop c a b s).port.frozen = s.port.frozen := by
  unfold raiseStop
  first | rfl | ((try dsimp only); (repeat' split) <;> first | rfl | simp | simp_all)

@[simp] theorem raiseStop_port_tau_frame (c : StopCause) (a b : Int) (s : State) :
    (raiseStop c a b s).port.tau = s.port.tau := by
  unfold raiseStop
  first | rfl | ((try dsimp only); (repeat' split) <;> first | rfl | simp | simp_all)

@[simp] theorem raiseStop_port_span_frame (c : StopCause) (a b : Int) (s : State) :
    (raiseStop c a b s).port.span = s.port.span := by
  unfold raiseStop
  first | rfl | ((try dsimp only); (repeat' split) <;> first | rfl | simp | simp_all)

@[simp] theorem raiseStop_port_slot_frame (c : StopCause) (a b : Int) (s : State) :
    (raiseStop c a b s).port.slot = s.port.slot := by
  unfold raiseStop
  first | rfl | ((try dsimp only); (repeat' split) <;> first | rfl | simp | simp_all)

@[simp] theorem raiseStop_port_shifted_frame (c : StopCause) (a b : Int) (s : State) :
    (raiseStop c a b s).port.shifted = s.port.shifted := by
  unfold raiseStop
  first | rfl | ((try dsimp only); (repeat' split) <;> first | rfl | simp | simp_all)

@[simp] theorem raiseStop_port_lastEnd_frame (c : StopCause) (a b : Int) (s : State) :
    (raiseStop c a b s).port.lastEnd = s.port.lastEnd := by
  unfold raiseStop
  first | rfl | ((try dsimp only); (repeat' split) <;> first | rfl | simp | simp_all)

@[simp] theorem raiseStop_port_changedPeers_frame (c : StopCause) (a b : Int) (s : State) :
    (raiseStop c a b s).port.changedPeers = s.port.changedPeers := by
  unfold raiseStop
  first | rfl | ((try dsimp only); (repeat' split) <;> first | rfl | simp | simp_all)

@[simp] theorem raiseIfOutside_frame (sum : Int) (s : State) :
    (raiseIfOutside sum s).ms = s.ms
      ∧ (raiseIfOutside sum s).straps = s.straps
      ∧ (raiseIfOutside sum s).levels = s.levels
      ∧ (raiseIfOutside sum s).sensor = s.sensor
      ∧ (raiseIfOutside sum s).zone = s.zone
      ∧ (raiseIfOutside sum s).free = s.free
      ∧ (raiseIfOutside sum s).pending = s.pending
      ∧ (raiseIfOutside sum s).reck.count = s.reck.count
      ∧ (raiseIfOutside sum s).reck.started = s.reck.started
      ∧ (raiseIfOutside sum s).reck.lastGood = s.reck.lastGood
      ∧ (raiseIfOutside sum s).reck.held = s.reck.held
      ∧ (raiseIfOutside sum s).reck.turnOffset = s.reck.turnOffset
      ∧ (raiseIfOutside sum s).reck.theta0 = s.reck.theta0
      ∧ (raiseIfOutside sum s).reck.sigma = s.reck.sigma
      ∧ (raiseIfOutside sum s).reck.calibrated = s.reck.calibrated
      ∧ (raiseIfOutside sum s).reck.thetaScale = s.reck.thetaScale
      ∧ (raiseIfOutside sum s).reck.anchor = s.reck.anchor
      ∧ (raiseIfOutside sum s).reck.atRest = s.reck.atRest
      ∧ (raiseIfOutside sum s).link.bitErrors = s.link.bitErrors
      ∧ (raiseIfOutside sum s).link.txErrors = s.link.txErrors
      ∧ (raiseIfOutside sum s).link.rxErrors = s.link.rxErrors
      ∧ (raiseIfOutside sum s).link.txFail = s.link.txFail
      ∧ (raiseIfOutside sum s).link.lastDuplicate = s.link.lastDuplicate
      ∧ (raiseIfOutside sum s).link.heartbeat = s.link.heartbeat
      ∧ (raiseIfOutside sum s).peers.entries = s.peers.entries
      ∧ (raiseIfOutside sum s).peers.digest = s.peers.digest
      ∧ (raiseIfOutside sum s).mark.number = s.mark.number
      ∧ (raiseIfOutside sum s).mark.reported = s.mark.reported
      ∧ (raiseIfOutside sum s).mark.quiet = s.mark.quiet
      ∧ (raiseIfOutside sum s).mark.captureRequested = s.mark.captureRequested
      ∧ (raiseIfOutside sum s).store.cellsA = s.store.cellsA
      ∧ (raiseIfOutside sum s).store.cellsB = s.store.cellsB
      ∧ (raiseIfOutside sum s).store.cellsCal = s.store.cellsCal
      ∧ (raiseIfOutside sum s).store.imageA = s.store.imageA
      ∧ (raiseIfOutside sum s).store.imageB = s.store.imageB
      ∧ (raiseIfOutside sum s).store.imageCal = s.store.imageCal
      ∧ (raiseIfOutside sum s).store.calSeq = s.store.calSeq
      ∧ (raiseIfOutside sum s).store.inFlight = s.store.inFlight
      ∧ (raiseIfOutside sum s).store.scanDone = s.store.scanDone
      ∧ (raiseIfOutside sum s).gradeUnit.chosen = s.gradeUnit.chosen
      ∧ (raiseIfOutside sum s).claim.purpose = s.claim.purpose
      ∧ (raiseIfOutside sum s).search.passes = s.search.passes
      ∧ (raiseIfOutside sum s).search.level = s.search.level
      ∧ (raiseIfOutside sum s).search.total = s.search.total
      ∧ (raiseIfOutside sum s).search.plus = s.search.plus
      ∧ (raiseIfOutside sum s).port.setup = s.port.setup
      ∧ (raiseIfOutside sum s).port.frozen = s.port.frozen
      ∧ (raiseIfOutside sum s).port.tau = s.port.tau
      ∧ (raiseIfOutside sum s).port.span = s.port.span
      ∧ (raiseIfOutside sum s).port.slot = s.port.slot
      ∧ (raiseIfOutside sum s).port.shifted = s.port.shifted
      ∧ (raiseIfOutside sum s).port.lastEnd = s.port.lastEnd
      ∧ (raiseIfOutside sum s).port.changedPeers = s.port.changedPeers := by
  unfold raiseIfOutside
  refine ⟨?_, ?_, ?_, ?_, ?_, ?_, ?_, ?_, ?_, ?_, ?_, ?_, ?_, ?_, ?_, ?_, ?_, ?_, ?_, ?_, ?_, ?_, ?_, ?_, ?_, ?_,
    ?_, ?_, ?_, ?_, ?_, ?_, ?_, ?_, ?_, ?_, ?_, ?_, ?_, ?_, ?_, ?_, ?_, ?_, ?_, ?_, ?_, ?_, ?_, ?_, ?_, ?_, ?_⟩ <;>
    first | rfl | ((try dsimp only); (repeat' split) <;> first | rfl | simp | simp_all)

@[simp] theorem directiveAtDown_frame (s : State) :
    (directiveAtDown s).phase = s.phase
      ∧ (directiveAtDown s).ms = s.ms
      ∧ (directiveAtDown s).straps = s.straps
      ∧ (directiveAtDown s).levels = s.levels
      ∧ (directiveAtDown s).sensor = s.sensor
      ∧ (directiveAtDown s).reck = s.reck
      ∧ (directiveAtDown s).link = s.link
      ∧ (directiveAtDown s).peers = s.peers
      ∧ (directiveAtDown s).mark = s.mark
      ∧ (directiveAtDown s).store = s.store
      ∧ (directiveAtDown s).gradeUnit = s.gradeUnit
      ∧ (directiveAtDown s).search = s.search
      ∧ (directiveAtDown s).zone = s.zone
      ∧ (directiveAtDown s).fault = s.fault
      ∧ (directiveAtDown s).free = s.free
      ∧ (directiveAtDown s).pending = s.pending
      ∧ (directiveAtDown s).claim.state = s.claim.state
      ∧ (directiveAtDown s).claim.wanted = s.claim.wanted
      ∧ (directiveAtDown s).claim.purpose = s.claim.purpose
      ∧ (directiveAtDown s).port.setup = s.port.setup
      ∧ (directiveAtDown s).port.frozen = s.port.frozen
      ∧ (directiveAtDown s).port.tau = s.port.tau
      ∧ (directiveAtDown s).port.span = s.port.span
      ∧ (directiveAtDown s).port.slot = s.port.slot
      ∧ (directiveAtDown s).port.shifted = s.port.shifted
      ∧ (directiveAtDown s).port.lastEnd = s.port.lastEnd
      ∧ (directiveAtDown s).port.changedPeers = s.port.changedPeers := by
  unfold directiveAtDown
  refine ⟨?_, ?_, ?_, ?_, ?_, ?_, ?_, ?_, ?_, ?_, ?_, ?_, ?_, ?_, ?_, ?_, ?_, ?_, ?_, ?_, ?_, ?_, ?_, ?_, ?_, ?_,
    ?_⟩ <;>
    first | rfl | ((try dsimp only); (repeat' split) <;> first | rfl | simp | simp_all)

@[simp] theorem keepDownFrames_frame (s : State) :
    (keepDownFrames s).phase = s.phase
      ∧ (keepDownFrames s).ms = s.ms
      ∧ (keepDownFrames s).straps = s.straps
      ∧ (keepDownFrames s).levels = s.levels
      ∧ (keepDownFrames s).sensor = s.sensor
      ∧ (keepDownFrames s).reck = s.reck
      ∧ (keepDownFrames s).peers = s.peers
      ∧ (keepDownFrames s).mark = s.mark
      ∧ (keepDownFrames s).store = s.store
      ∧ (keepDownFrames s).gradeUnit = s.gradeUnit
      ∧ (keepDownFrames s).claim = s.claim
      ∧ (keepDownFrames s).search = s.search
      ∧ (keepDownFrames s).zone = s.zone
      ∧ (keepDownFrames s).fault = s.fault
      ∧ (keepDownFrames s).port = s.port
      ∧ (keepDownFrames s).free = s.free
      ∧ (keepDownFrames s).pending = s.pending
      ∧ (keepDownFrames s).link.line = s.link.line
      ∧ (keepDownFrames s).link.bitErrors = s.link.bitErrors
      ∧ (keepDownFrames s).link.txErrors = s.link.txErrors
      ∧ (keepDownFrames s).link.rxErrors = s.link.rxErrors
      ∧ (keepDownFrames s).link.txFail = s.link.txFail
      ∧ (keepDownFrames s).link.lastDuplicate = s.link.lastDuplicate
      ∧ (keepDownFrames s).link.heartbeat = s.link.heartbeat := by
  unfold keepDownFrames
  refine ⟨?_, ?_, ?_, ?_, ?_, ?_, ?_, ?_, ?_, ?_, ?_, ?_, ?_, ?_, ?_, ?_, ?_, ?_, ?_, ?_, ?_, ?_, ?_, ?_⟩ <;>
    rfl

@[simp] theorem enterDown_ms_frame (s : State) :
    (enterDown s).ms = s.ms := by
  unfold enterDown
  first | rfl | ((try dsimp only); (repeat' split) <;> first | rfl | simp | simp_all)

@[simp] theorem enterDown_straps_frame (s : State) :
    (enterDown s).straps = s.straps := by
  unfold enterDown
  first | rfl | ((try dsimp only); (repeat' split) <;> first | rfl | simp | simp_all)

@[simp] theorem enterDown_levels_frame (s : State) :
    (enterDown s).levels = s.levels := by
  unfold enterDown
  first | rfl | ((try dsimp only); (repeat' split) <;> first | rfl | simp | simp_all)

@[simp] theorem enterDown_sensor_frame (s : State) :
    (enterDown s).sensor = s.sensor := by
  unfold enterDown
  first | rfl | ((try dsimp only); (repeat' split) <;> first | rfl | simp | simp_all)

@[simp] theorem enterDown_zone_frame (s : State) :
    (enterDown s).zone = s.zone := by
  unfold enterDown
  first | rfl | ((try dsimp only); (repeat' split) <;> first | rfl | simp | simp_all)

@[simp] theorem enterDown_free_frame (s : State) :
    (enterDown s).free = s.free := by
  unfold enterDown
  first | rfl | ((try dsimp only); (repeat' split) <;> first | rfl | simp | simp_all)

@[simp] theorem enterDown_pending_frame (s : State) :
    (enterDown s).pending = s.pending := by
  unfold enterDown
  first | rfl | ((try dsimp only); (repeat' split) <;> first | rfl | simp | simp_all)

@[simp] theorem enterDown_reck_count_frame (s : State) :
    (enterDown s).reck.count = s.reck.count := by
  unfold enterDown
  first | rfl | ((try dsimp only); (repeat' split) <;> first | rfl | simp | simp_all)

@[simp] theorem enterDown_reck_started_frame (s : State) :
    (enterDown s).reck.started = s.reck.started := by
  unfold enterDown
  first | rfl | ((try dsimp only); (repeat' split) <;> first | rfl | simp | simp_all)

@[simp] theorem enterDown_reck_lastGood_frame (s : State) :
    (enterDown s).reck.lastGood = s.reck.lastGood := by
  unfold enterDown
  first | rfl | ((try dsimp only); (repeat' split) <;> first | rfl | simp | simp_all)

@[simp] theorem enterDown_reck_held_frame (s : State) :
    (enterDown s).reck.held = s.reck.held := by
  unfold enterDown
  first | rfl | ((try dsimp only); (repeat' split) <;> first | rfl | simp | simp_all)

@[simp] theorem enterDown_reck_turnOffset_frame (s : State) :
    (enterDown s).reck.turnOffset = s.reck.turnOffset := by
  unfold enterDown
  first | rfl | ((try dsimp only); (repeat' split) <;> first | rfl | simp | simp_all)

@[simp] theorem enterDown_reck_theta0_frame (s : State) :
    (enterDown s).reck.theta0 = s.reck.theta0 := by
  unfold enterDown
  first | rfl | ((try dsimp only); (repeat' split) <;> first | rfl | simp | simp_all)

@[simp] theorem enterDown_reck_sigma_frame (s : State) :
    (enterDown s).reck.sigma = s.reck.sigma := by
  unfold enterDown
  first | rfl | ((try dsimp only); (repeat' split) <;> first | rfl | simp | simp_all)

@[simp] theorem enterDown_reck_calibrated_frame (s : State) :
    (enterDown s).reck.calibrated = s.reck.calibrated := by
  unfold enterDown
  first | rfl | ((try dsimp only); (repeat' split) <;> first | rfl | simp | simp_all)

@[simp] theorem enterDown_reck_basis_frame (s : State) :
    (enterDown s).reck.basis = s.reck.basis := by
  unfold enterDown
  first | rfl | ((try dsimp only); (repeat' split) <;> first | rfl | simp | simp_all)

@[simp] theorem enterDown_reck_thetaScale_frame (s : State) :
    (enterDown s).reck.thetaScale = s.reck.thetaScale := by
  unfold enterDown
  first | rfl | ((try dsimp only); (repeat' split) <;> first | rfl | simp | simp_all)

@[simp] theorem enterDown_reck_anchor_frame (s : State) :
    (enterDown s).reck.anchor = s.reck.anchor := by
  unfold enterDown
  first | rfl | ((try dsimp only); (repeat' split) <;> first | rfl | simp | simp_all)

@[simp] theorem enterDown_reck_atRest_frame (s : State) :
    (enterDown s).reck.atRest = s.reck.atRest := by
  unfold enterDown
  first | rfl | ((try dsimp only); (repeat' split) <;> first | rfl | simp | simp_all)

@[simp] theorem enterDown_reck_drift_frame (s : State) :
    (enterDown s).reck.drift = s.reck.drift := by
  unfold enterDown
  first | rfl | ((try dsimp only); (repeat' split) <;> first | rfl | simp | simp_all)

@[simp] theorem enterDown_link_bitErrors_frame (s : State) :
    (enterDown s).link.bitErrors = s.link.bitErrors := by
  unfold enterDown
  first | rfl | ((try dsimp only); (repeat' split) <;> first | rfl | simp | simp_all)

@[simp] theorem enterDown_link_txErrors_frame (s : State) :
    (enterDown s).link.txErrors = s.link.txErrors := by
  unfold enterDown
  first | rfl | ((try dsimp only); (repeat' split) <;> first | rfl | simp | simp_all)

@[simp] theorem enterDown_link_rxErrors_frame (s : State) :
    (enterDown s).link.rxErrors = s.link.rxErrors := by
  unfold enterDown
  first | rfl | ((try dsimp only); (repeat' split) <;> first | rfl | simp | simp_all)

@[simp] theorem enterDown_link_txFail_frame (s : State) :
    (enterDown s).link.txFail = s.link.txFail := by
  unfold enterDown
  first | rfl | ((try dsimp only); (repeat' split) <;> first | rfl | simp | simp_all)

@[simp] theorem enterDown_link_lastDuplicate_frame (s : State) :
    (enterDown s).link.lastDuplicate = s.link.lastDuplicate := by
  unfold enterDown
  first | rfl | ((try dsimp only); (repeat' split) <;> first | rfl | simp | simp_all)

@[simp] theorem enterDown_link_heartbeat_frame (s : State) :
    (enterDown s).link.heartbeat = s.link.heartbeat := by
  unfold enterDown
  first | rfl | ((try dsimp only); (repeat' split) <;> first | rfl | simp | simp_all)

@[simp] theorem enterDown_peers_entries_frame (s : State) :
    (enterDown s).peers.entries = s.peers.entries := by
  unfold enterDown
  first | rfl | ((try dsimp only); (repeat' split) <;> first | rfl | simp | simp_all)

@[simp] theorem enterDown_peers_digest_frame (s : State) :
    (enterDown s).peers.digest = s.peers.digest := by
  unfold enterDown
  first | rfl | ((try dsimp only); (repeat' split) <;> first | rfl | simp | simp_all)

@[simp] theorem enterDown_mark_number_frame (s : State) :
    (enterDown s).mark.number = s.mark.number := by
  unfold enterDown
  first | rfl | ((try dsimp only); (repeat' split) <;> first | rfl | simp | simp_all)

@[simp] theorem enterDown_mark_reported_frame (s : State) :
    (enterDown s).mark.reported = s.mark.reported := by
  unfold enterDown
  first | rfl | ((try dsimp only); (repeat' split) <;> first | rfl | simp | simp_all)

@[simp] theorem enterDown_mark_quiet_frame (s : State) :
    (enterDown s).mark.quiet = s.mark.quiet := by
  unfold enterDown
  first | rfl | ((try dsimp only); (repeat' split) <;> first | rfl | simp | simp_all)

@[simp] theorem enterDown_store_cellsA_frame (s : State) :
    (enterDown s).store.cellsA = s.store.cellsA := by
  unfold enterDown
  first | rfl | ((try dsimp only); (repeat' split) <;> first | rfl | simp | simp_all)

@[simp] theorem enterDown_store_cellsB_frame (s : State) :
    (enterDown s).store.cellsB = s.store.cellsB := by
  unfold enterDown
  first | rfl | ((try dsimp only); (repeat' split) <;> first | rfl | simp | simp_all)

@[simp] theorem enterDown_store_cellsCal_frame (s : State) :
    (enterDown s).store.cellsCal = s.store.cellsCal := by
  unfold enterDown
  first | rfl | ((try dsimp only); (repeat' split) <;> first | rfl | simp | simp_all)

@[simp] theorem enterDown_store_imageA_frame (s : State) :
    (enterDown s).store.imageA = s.store.imageA := by
  unfold enterDown
  first | rfl | ((try dsimp only); (repeat' split) <;> first | rfl | simp | simp_all)

@[simp] theorem enterDown_store_imageB_frame (s : State) :
    (enterDown s).store.imageB = s.store.imageB := by
  unfold enterDown
  first | rfl | ((try dsimp only); (repeat' split) <;> first | rfl | simp | simp_all)

@[simp] theorem enterDown_store_imageCal_frame (s : State) :
    (enterDown s).store.imageCal = s.store.imageCal := by
  unfold enterDown
  first | rfl | ((try dsimp only); (repeat' split) <;> first | rfl | simp | simp_all)

@[simp] theorem enterDown_store_calSeq_frame (s : State) :
    (enterDown s).store.calSeq = s.store.calSeq := by
  unfold enterDown
  first | rfl | ((try dsimp only); (repeat' split) <;> first | rfl | simp | simp_all)

@[simp] theorem enterDown_store_inFlight_frame (s : State) :
    (enterDown s).store.inFlight = s.store.inFlight := by
  unfold enterDown
  first | rfl | ((try dsimp only); (repeat' split) <;> first | rfl | simp | simp_all)

@[simp] theorem enterDown_store_pendingCal_frame (s : State) :
    (enterDown s).store.pendingCal = s.store.pendingCal := by
  unfold enterDown
  first | rfl | ((try dsimp only); (repeat' split) <;> first | rfl | simp | simp_all)

@[simp] theorem enterDown_store_scanDone_frame (s : State) :
    (enterDown s).store.scanDone = s.store.scanDone := by
  unfold enterDown
  first | rfl | ((try dsimp only); (repeat' split) <;> first | rfl | simp | simp_all)

@[simp] theorem enterDown_gradeUnit_grade_frame (s : State) :
    (enterDown s).gradeUnit.grade = s.gradeUnit.grade := by
  unfold enterDown
  first | rfl | ((try dsimp only); (repeat' split) <;> first | rfl | simp | simp_all)

@[simp] theorem enterDown_gradeUnit_chosen_frame (s : State) :
    (enterDown s).gradeUnit.chosen = s.gradeUnit.chosen := by
  unfold enterDown
  first | rfl | ((try dsimp only); (repeat' split) <;> first | rfl | simp | simp_all)

@[simp] theorem enterDown_claim_purpose_frame (s : State) :
    (enterDown s).claim.purpose = s.claim.purpose := by
  unfold enterDown
  first | rfl | ((try dsimp only); (repeat' split) <;> first | rfl | simp | simp_all)

@[simp] theorem enterDown_search_passes_frame (s : State) :
    (enterDown s).search.passes = s.search.passes := by
  unfold enterDown
  first | rfl | ((try dsimp only); (repeat' split) <;> first | rfl | simp | simp_all)

@[simp] theorem enterDown_search_level_frame (s : State) :
    (enterDown s).search.level = s.search.level := by
  unfold enterDown
  first | rfl | ((try dsimp only); (repeat' split) <;> first | rfl | simp | simp_all)

@[simp] theorem enterDown_search_total_frame (s : State) :
    (enterDown s).search.total = s.search.total := by
  unfold enterDown
  first | rfl | ((try dsimp only); (repeat' split) <;> first | rfl | simp | simp_all)

@[simp] theorem enterDown_search_plus_frame (s : State) :
    (enterDown s).search.plus = s.search.plus := by
  unfold enterDown
  first | rfl | ((try dsimp only); (repeat' split) <;> first | rfl | simp | simp_all)

@[simp] theorem enterDown_port_setup_frame (s : State) :
    (enterDown s).port.setup = s.port.setup := by
  unfold enterDown
  first | rfl | ((try dsimp only); (repeat' split) <;> first | rfl | simp | simp_all)

@[simp] theorem enterDown_port_frozen_frame (s : State) :
    (enterDown s).port.frozen = s.port.frozen := by
  unfold enterDown
  first | rfl | ((try dsimp only); (repeat' split) <;> first | rfl | simp | simp_all)

@[simp] theorem enterDown_port_tau_frame (s : State) :
    (enterDown s).port.tau = s.port.tau := by
  unfold enterDown
  first | rfl | ((try dsimp only); (repeat' split) <;> first | rfl | simp | simp_all)

@[simp] theorem enterDown_port_span_frame (s : State) :
    (enterDown s).port.span = s.port.span := by
  unfold enterDown
  first | rfl | ((try dsimp only); (repeat' split) <;> first | rfl | simp | simp_all)

@[simp] theorem enterDown_port_slot_frame (s : State) :
    (enterDown s).port.slot = s.port.slot := by
  unfold enterDown
  first | rfl | ((try dsimp only); (repeat' split) <;> first | rfl | simp | simp_all)

@[simp] theorem enterDown_port_shifted_frame (s : State) :
    (enterDown s).port.shifted = s.port.shifted := by
  unfold enterDown
  first | rfl | ((try dsimp only); (repeat' split) <;> first | rfl | simp | simp_all)

@[simp] theorem enterDown_port_lastEnd_frame (s : State) :
    (enterDown s).port.lastEnd = s.port.lastEnd := by
  unfold enterDown
  first | rfl | ((try dsimp only); (repeat' split) <;> first | rfl | simp | simp_all)

@[simp] theorem enterDown_port_changedPeers_frame (s : State) :
    (enterDown s).port.changedPeers = s.port.changedPeers := by
  unfold enterDown
  first | rfl | ((try dsimp only); (repeat' split) <;> first | rfl | simp | simp_all)

/-! ### Decide -/

@[simp] theorem takeLeadAngle_frame (s : State) :
    (takeLeadAngle s).phase = s.phase
      ∧ (takeLeadAngle s).ms = s.ms
      ∧ (takeLeadAngle s).straps = s.straps
      ∧ (takeLeadAngle s).levels = s.levels
      ∧ (takeLeadAngle s).sensor = s.sensor
      ∧ (takeLeadAngle s).link = s.link
      ∧ (takeLeadAngle s).peers = s.peers
      ∧ (takeLeadAngle s).mark = s.mark
      ∧ (takeLeadAngle s).store = s.store
      ∧ (takeLeadAngle s).gradeUnit = s.gradeUnit
      ∧ (takeLeadAngle s).claim = s.claim
      ∧ (takeLeadAngle s).search = s.search
      ∧ (takeLeadAngle s).zone = s.zone
      ∧ (takeLeadAngle s).free = s.free
      ∧ (takeLeadAngle s).pending = s.pending
      ∧ (takeLeadAngle s).reck.count = s.reck.count
      ∧ (takeLeadAngle s).reck.started = s.reck.started
      ∧ (takeLeadAngle s).reck.lastGood = s.reck.lastGood
      ∧ (takeLeadAngle s).reck.held = s.reck.held
      ∧ (takeLeadAngle s).reck.turnOffset = s.reck.turnOffset
      ∧ (takeLeadAngle s).reck.theta0 = s.reck.theta0
      ∧ (takeLeadAngle s).reck.sigma = s.reck.sigma
      ∧ (takeLeadAngle s).reck.calibrated = s.reck.calibrated
      ∧ (takeLeadAngle s).reck.basis = s.reck.basis
      ∧ (takeLeadAngle s).reck.thetaScale = s.reck.thetaScale
      ∧ (takeLeadAngle s).reck.anchor = s.reck.anchor
      ∧ (takeLeadAngle s).reck.atRest = s.reck.atRest
      ∧ (takeLeadAngle s).reck.drift = s.reck.drift
      ∧ (takeLeadAngle s).fault.stopSet = s.fault.stopSet
      ∧ (takeLeadAngle s).port.setup = s.port.setup
      ∧ (takeLeadAngle s).port.frozen = s.port.frozen
      ∧ (takeLeadAngle s).port.tau = s.port.tau
      ∧ (takeLeadAngle s).port.span = s.port.span
      ∧ (takeLeadAngle s).port.slot = s.port.slot
      ∧ (takeLeadAngle s).port.shifted = s.port.shifted
      ∧ (takeLeadAngle s).port.lastEnd = s.port.lastEnd
      ∧ (takeLeadAngle s).port.changedPeers = s.port.changedPeers := by
  unfold takeLeadAngle
  refine ⟨?_, ?_, ?_, ?_, ?_, ?_, ?_, ?_, ?_, ?_, ?_, ?_, ?_, ?_, ?_, ?_, ?_, ?_, ?_, ?_, ?_, ?_, ?_, ?_, ?_, ?_,
    ?_, ?_, ?_, ?_, ?_, ?_, ?_, ?_, ?_, ?_, ?_⟩ <;>
    (repeat' split) <;> simp

@[simp] theorem fixTurn_frame (k : DecisionKind) (c : Capture) (n : Option Candidate) (s : State) :
    (fixTurn k c n s).phase = s.phase
      ∧ (fixTurn k c n s).ms = s.ms
      ∧ (fixTurn k c n s).straps = s.straps
      ∧ (fixTurn k c n s).levels = s.levels
      ∧ (fixTurn k c n s).sensor = s.sensor
      ∧ (fixTurn k c n s).link = s.link
      ∧ (fixTurn k c n s).peers = s.peers
      ∧ (fixTurn k c n s).mark = s.mark
      ∧ (fixTurn k c n s).store = s.store
      ∧ (fixTurn k c n s).search = s.search
      ∧ (fixTurn k c n s).zone = s.zone
      ∧ (fixTurn k c n s).free = s.free
      ∧ (fixTurn k c n s).pending = s.pending
      ∧ (fixTurn k c n s).reck.started = s.reck.started
      ∧ (fixTurn k c n s).reck.lastGood = s.reck.lastGood
      ∧ (fixTurn k c n s).reck.theta0 = s.reck.theta0
      ∧ (fixTurn k c n s).reck.sigma = s.reck.sigma
      ∧ (fixTurn k c n s).reck.calibrated = s.reck.calibrated
      ∧ (fixTurn k c n s).reck.lambda = s.reck.lambda
      ∧ (fixTurn k c n s).reck.thetaScale = s.reck.thetaScale
      ∧ (fixTurn k c n s).reck.atRest = s.reck.atRest
      ∧ (fixTurn k c n s).gradeUnit.grade = s.gradeUnit.grade
      ∧ (fixTurn k c n s).gradeUnit.sub = s.gradeUnit.sub
      ∧ (fixTurn k c n s).gradeUnit.readPending = s.gradeUnit.readPending
      ∧ (fixTurn k c n s).gradeUnit.held = s.gradeUnit.held
      ∧ (fixTurn k c n s).gradeUnit.leadReport = s.gradeUnit.leadReport
      ∧ (fixTurn k c n s).gradeUnit.candidates = s.gradeUnit.candidates
      ∧ (fixTurn k c n s).gradeUnit.chosen = s.gradeUnit.chosen
      ∧ (fixTurn k c n s).claim.state = s.claim.state
      ∧ (fixTurn k c n s).claim.wanted = s.claim.wanted
      ∧ (fixTurn k c n s).claim.purpose = s.claim.purpose
      ∧ (fixTurn k c n s).claim.dirState = s.claim.dirState
      ∧ (fixTurn k c n s).claim.dir = s.claim.dir
      ∧ (fixTurn k c n s).claim.lastNumber = s.claim.lastNumber
      ∧ (fixTurn k c n s).claim.untakenOpen = s.claim.untakenOpen
      ∧ (fixTurn k c n s).claim.untakenTimer = s.claim.untakenTimer
      ∧ (fixTurn k c n s).claim.allowance = s.claim.allowance
      ∧ (fixTurn k c n s).fault.stopSet = s.fault.stopSet
      ∧ (fixTurn k c n s).port.setup = s.port.setup
      ∧ (fixTurn k c n s).port.frozen = s.port.frozen
      ∧ (fixTurn k c n s).port.tau = s.port.tau
      ∧ (fixTurn k c n s).port.span = s.port.span
      ∧ (fixTurn k c n s).port.slot = s.port.slot
      ∧ (fixTurn k c n s).port.shifted = s.port.shifted
      ∧ (fixTurn k c n s).port.lastEnd = s.port.lastEnd
      ∧ (fixTurn k c n s).port.changedPeers = s.port.changedPeers := by
  unfold fixTurn setRecoveryAnchor
  refine ⟨?_, ?_, ?_, ?_, ?_, ?_, ?_, ?_, ?_, ?_, ?_, ?_, ?_, ?_, ?_, ?_, ?_, ?_, ?_, ?_, ?_, ?_, ?_, ?_, ?_, ?_,
    ?_, ?_, ?_, ?_, ?_, ?_, ?_, ?_, ?_, ?_, ?_, ?_, ?_, ?_, ?_, ?_, ?_, ?_, ?_, ?_⟩ <;>
    (repeat' split) <;> simp

/-- The recovery anchor that a decision leaves: at a re-mark the one that stood, moved by the turn offset applied, and at the
others M_m plus that offset (R115, R119; log 24). -/
theorem fixTurn_recoveryAnchor (k : DecisionKind) (c : Capture) (n : Option Candidate) (s : State) :
    let d := match n with
      | none => 0
      | some x => offsetOf (setupOf s) c x.n
    (fixTurn k c n s).gradeUnit.recoveryAnchor =
      if k = .reMark then s.gradeUnit.recoveryAnchor.map (· + d) else some (c.count + d) := by
  cases k <;> cases n <;> simp [fixTurn, setRecoveryAnchor, applyOffset, shiftPoint]

@[simp] theorem raiseVerdictNotes_frame (c : Capture) (v : Verdict) (s : State) :
    (raiseVerdictNotes c v s).phase = s.phase
      ∧ (raiseVerdictNotes c v s).ms = s.ms
      ∧ (raiseVerdictNotes c v s).straps = s.straps
      ∧ (raiseVerdictNotes c v s).levels = s.levels
      ∧ (raiseVerdictNotes c v s).sensor = s.sensor
      ∧ (raiseVerdictNotes c v s).reck = s.reck
      ∧ (raiseVerdictNotes c v s).link = s.link
      ∧ (raiseVerdictNotes c v s).peers = s.peers
      ∧ (raiseVerdictNotes c v s).mark = s.mark
      ∧ (raiseVerdictNotes c v s).store = s.store
      ∧ (raiseVerdictNotes c v s).gradeUnit = s.gradeUnit
      ∧ (raiseVerdictNotes c v s).claim = s.claim
      ∧ (raiseVerdictNotes c v s).search = s.search
      ∧ (raiseVerdictNotes c v s).zone = s.zone
      ∧ (raiseVerdictNotes c v s).free = s.free
      ∧ (raiseVerdictNotes c v s).pending = s.pending
      ∧ (raiseVerdictNotes c v s).fault.stopSet = s.fault.stopSet
      ∧ (raiseVerdictNotes c v s).port.setup = s.port.setup
      ∧ (raiseVerdictNotes c v s).port.frozen = s.port.frozen
      ∧ (raiseVerdictNotes c v s).port.tau = s.port.tau
      ∧ (raiseVerdictNotes c v s).port.span = s.port.span
      ∧ (raiseVerdictNotes c v s).port.slot = s.port.slot
      ∧ (raiseVerdictNotes c v s).port.shifted = s.port.shifted
      ∧ (raiseVerdictNotes c v s).port.lastEnd = s.port.lastEnd
      ∧ (raiseVerdictNotes c v s).port.changedPeers = s.port.changedPeers := by
  unfold raiseVerdictNotes
  refine ⟨?_, ?_, ?_, ?_, ?_, ?_, ?_, ?_, ?_, ?_, ?_, ?_, ?_, ?_, ?_, ?_, ?_, ?_, ?_, ?_, ?_, ?_, ?_, ?_, ?_⟩ <;>
    (repeat' split) <;> rfl

@[simp] theorem gradeByVerdict_frame (v : Verdict) (s : State) :
    (gradeByVerdict v s).phase = s.phase
      ∧ (gradeByVerdict v s).ms = s.ms
      ∧ (gradeByVerdict v s).straps = s.straps
      ∧ (gradeByVerdict v s).levels = s.levels
      ∧ (gradeByVerdict v s).sensor = s.sensor
      ∧ (gradeByVerdict v s).link = s.link
      ∧ (gradeByVerdict v s).peers = s.peers
      ∧ (gradeByVerdict v s).mark = s.mark
      ∧ (gradeByVerdict v s).claim = s.claim
      ∧ (gradeByVerdict v s).zone = s.zone
      ∧ (gradeByVerdict v s).free = s.free
      ∧ (gradeByVerdict v s).pending = s.pending
      ∧ (gradeByVerdict v s).reck.count = s.reck.count
      ∧ (gradeByVerdict v s).reck.started = s.reck.started
      ∧ (gradeByVerdict v s).reck.lastGood = s.reck.lastGood
      ∧ (gradeByVerdict v s).reck.held = s.reck.held
      ∧ (gradeByVerdict v s).reck.turnOffset = s.reck.turnOffset
      ∧ (gradeByVerdict v s).reck.theta0 = s.reck.theta0
      ∧ (gradeByVerdict v s).reck.sigma = s.reck.sigma
      ∧ (gradeByVerdict v s).reck.calibrated = s.reck.calibrated
      ∧ (gradeByVerdict v s).reck.lambda = s.reck.lambda
      ∧ (gradeByVerdict v s).reck.thetaScale = s.reck.thetaScale
      ∧ (gradeByVerdict v s).reck.anchor = s.reck.anchor
      ∧ (gradeByVerdict v s).reck.atRest = s.reck.atRest
      ∧ (gradeByVerdict v s).store.cellsA = s.store.cellsA
      ∧ (gradeByVerdict v s).store.cellsB = s.store.cellsB
      ∧ (gradeByVerdict v s).store.cellsCal = s.store.cellsCal
      ∧ (gradeByVerdict v s).store.imageA = s.store.imageA
      ∧ (gradeByVerdict v s).store.imageB = s.store.imageB
      ∧ (gradeByVerdict v s).store.imageCal = s.store.imageCal
      ∧ (gradeByVerdict v s).store.calSeq = s.store.calSeq
      ∧ (gradeByVerdict v s).store.inFlight = s.store.inFlight
      ∧ (gradeByVerdict v s).store.pendingCal = s.store.pendingCal
      ∧ (gradeByVerdict v s).store.scanDone = s.store.scanDone
      ∧ (gradeByVerdict v s).gradeUnit.sub = s.gradeUnit.sub
      ∧ (gradeByVerdict v s).gradeUnit.readPending = s.gradeUnit.readPending
      ∧ (gradeByVerdict v s).gradeUnit.held = s.gradeUnit.held
      ∧ (gradeByVerdict v s).gradeUnit.leadReport = s.gradeUnit.leadReport
      ∧ (gradeByVerdict v s).gradeUnit.candidates = s.gradeUnit.candidates
      ∧ (gradeByVerdict v s).gradeUnit.chosen = s.gradeUnit.chosen
      ∧ (gradeByVerdict v s).search.sub = s.search.sub
      ∧ (gradeByVerdict v s).search.leadHold = s.search.leadHold
      ∧ (gradeByVerdict v s).search.outcome = s.search.outcome
      ∧ (gradeByVerdict v s).search.passes = s.search.passes
      ∧ (gradeByVerdict v s).search.level = s.search.level
      ∧ (gradeByVerdict v s).search.total = s.search.total
      ∧ (gradeByVerdict v s).search.plus = s.search.plus
      ∧ (gradeByVerdict v s).search.stage = s.search.stage
      ∧ (gradeByVerdict v s).fault.stopSet = s.fault.stopSet
      ∧ (gradeByVerdict v s).port.setup = s.port.setup
      ∧ (gradeByVerdict v s).port.frozen = s.port.frozen
      ∧ (gradeByVerdict v s).port.tau = s.port.tau
      ∧ (gradeByVerdict v s).port.span = s.port.span
      ∧ (gradeByVerdict v s).port.slot = s.port.slot
      ∧ (gradeByVerdict v s).port.shifted = s.port.shifted
      ∧ (gradeByVerdict v s).port.lastEnd = s.port.lastEnd
      ∧ (gradeByVerdict v s).port.changedPeers = s.port.changedPeers := by
  unfold gradeByVerdict
  refine ⟨?_, ?_, ?_, ?_, ?_, ?_, ?_, ?_, ?_, ?_, ?_, ?_, ?_, ?_, ?_, ?_, ?_, ?_, ?_, ?_, ?_, ?_, ?_, ?_, ?_, ?_,
    ?_, ?_, ?_, ?_, ?_, ?_, ?_, ?_, ?_, ?_, ?_, ?_, ?_, ?_, ?_, ?_, ?_, ?_, ?_, ?_, ?_, ?_, ?_, ?_, ?_, ?_, ?_, ?_,
    ?_, ?_, ?_⟩ <;>
    first | rfl | ((try dsimp only); (repeat' split) <;> first | rfl | simp | simp_all)

@[simp] theorem recordLead_frame (course : Course) (v : Verdict) (s : State) :
    (recordLead course v s).phase = s.phase
      ∧ (recordLead course v s).ms = s.ms
      ∧ (recordLead course v s).straps = s.straps
      ∧ (recordLead course v s).levels = s.levels
      ∧ (recordLead course v s).sensor = s.sensor
      ∧ (recordLead course v s).reck = s.reck
      ∧ (recordLead course v s).link = s.link
      ∧ (recordLead course v s).peers = s.peers
      ∧ (recordLead course v s).mark = s.mark
      ∧ (recordLead course v s).store = s.store
      ∧ (recordLead course v s).claim = s.claim
      ∧ (recordLead course v s).search = s.search
      ∧ (recordLead course v s).zone = s.zone
      ∧ (recordLead course v s).fault = s.fault
      ∧ (recordLead course v s).port = s.port
      ∧ (recordLead course v s).free = s.free
      ∧ (recordLead course v s).pending = s.pending
      ∧ (recordLead course v s).gradeUnit.grade = s.gradeUnit.grade
      ∧ (recordLead course v s).gradeUnit.sub = s.gradeUnit.sub
      ∧ (recordLead course v s).gradeUnit.readPending = s.gradeUnit.readPending
      ∧ (recordLead course v s).gradeUnit.held = s.gradeUnit.held
      ∧ (recordLead course v s).gradeUnit.leadReport = s.gradeUnit.leadReport
      ∧ (recordLead course v s).gradeUnit.candidates = s.gradeUnit.candidates
      ∧ (recordLead course v s).gradeUnit.chosen = s.gradeUnit.chosen := by
  unfold recordLead
  refine ⟨?_, ?_, ?_, ?_, ?_, ?_, ?_, ?_, ?_, ?_, ?_, ?_, ?_, ?_, ?_, ?_, ?_, ?_, ?_, ?_, ?_, ?_, ?_, ?_⟩ <;>
    first | rfl | ((try dsimp only); (repeat' split) <;> first | rfl | simp | simp_all)

@[simp] theorem decideOn_ms_frame (c : Capture) (s : State) :
    (decideOn c s).ms = s.ms := by
  unfold decideOn
  first | rfl | ((try dsimp only); (repeat' split) <;> first | rfl | simp | simp_all)

@[simp] theorem decideOn_straps_frame (c : Capture) (s : State) :
    (decideOn c s).straps = s.straps := by
  unfold decideOn
  first | rfl | ((try dsimp only); (repeat' split) <;> first | rfl | simp | simp_all)

@[simp] theorem decideOn_levels_frame (c : Capture) (s : State) :
    (decideOn c s).levels = s.levels := by
  unfold decideOn
  first | rfl | ((try dsimp only); (repeat' split) <;> first | rfl | simp | simp_all)

@[simp] theorem decideOn_sensor_frame (c : Capture) (s : State) :
    (decideOn c s).sensor = s.sensor := by
  unfold decideOn
  first | rfl | ((try dsimp only); (repeat' split) <;> first | rfl | simp | simp_all)

@[simp] theorem decideOn_zone_frame (c : Capture) (s : State) :
    (decideOn c s).zone = s.zone := by
  unfold decideOn
  first | rfl | ((try dsimp only); (repeat' split) <;> first | rfl | simp | simp_all)

@[simp] theorem decideOn_pending_frame (c : Capture) (s : State) :
    (decideOn c s).pending = s.pending := by
  unfold decideOn
  first | rfl | ((try dsimp only); (repeat' split) <;> first | rfl | simp | simp_all)

@[simp] theorem decideOn_reck_started_frame (c : Capture) (s : State) :
    (decideOn c s).reck.started = s.reck.started := by
  unfold decideOn
  first | rfl | ((try dsimp only); (repeat' split) <;> first | rfl | simp | simp_all)

@[simp] theorem decideOn_reck_lastGood_frame (c : Capture) (s : State) :
    (decideOn c s).reck.lastGood = s.reck.lastGood := by
  unfold decideOn
  first | rfl | ((try dsimp only); (repeat' split) <;> first | rfl | simp | simp_all)

@[simp] theorem decideOn_reck_theta0_frame (c : Capture) (s : State) :
    (decideOn c s).reck.theta0 = s.reck.theta0 := by
  unfold decideOn
  first | rfl | ((try dsimp only); (repeat' split) <;> first | rfl | simp | simp_all)

@[simp] theorem decideOn_reck_sigma_frame (c : Capture) (s : State) :
    (decideOn c s).reck.sigma = s.reck.sigma := by
  unfold decideOn
  first | rfl | ((try dsimp only); (repeat' split) <;> first | rfl | simp | simp_all)

@[simp] theorem decideOn_reck_calibrated_frame (c : Capture) (s : State) :
    (decideOn c s).reck.calibrated = s.reck.calibrated := by
  unfold decideOn
  first | rfl | ((try dsimp only); (repeat' split) <;> first | rfl | simp | simp_all)

@[simp] theorem decideOn_reck_thetaScale_frame (c : Capture) (s : State) :
    (decideOn c s).reck.thetaScale = s.reck.thetaScale := by
  unfold decideOn
  first | rfl | ((try dsimp only); (repeat' split) <;> first | rfl | simp | simp_all)

@[simp] theorem decideOn_reck_atRest_frame (c : Capture) (s : State) :
    (decideOn c s).reck.atRest = s.reck.atRest := by
  unfold decideOn
  first | rfl | ((try dsimp only); (repeat' split) <;> first | rfl | simp | simp_all)

@[simp] theorem decideOn_link_bitErrors_frame (c : Capture) (s : State) :
    (decideOn c s).link.bitErrors = s.link.bitErrors := by
  unfold decideOn
  first | rfl | ((try dsimp only); (repeat' split) <;> first | rfl | simp | simp_all)

@[simp] theorem decideOn_link_txErrors_frame (c : Capture) (s : State) :
    (decideOn c s).link.txErrors = s.link.txErrors := by
  unfold decideOn
  first | rfl | ((try dsimp only); (repeat' split) <;> first | rfl | simp | simp_all)

@[simp] theorem decideOn_link_rxErrors_frame (c : Capture) (s : State) :
    (decideOn c s).link.rxErrors = s.link.rxErrors := by
  unfold decideOn
  first | rfl | ((try dsimp only); (repeat' split) <;> first | rfl | simp | simp_all)

@[simp] theorem decideOn_link_txFail_frame (c : Capture) (s : State) :
    (decideOn c s).link.txFail = s.link.txFail := by
  unfold decideOn
  first | rfl | ((try dsimp only); (repeat' split) <;> first | rfl | simp | simp_all)

@[simp] theorem decideOn_link_lastDuplicate_frame (c : Capture) (s : State) :
    (decideOn c s).link.lastDuplicate = s.link.lastDuplicate := by
  unfold decideOn
  first | rfl | ((try dsimp only); (repeat' split) <;> first | rfl | simp | simp_all)

@[simp] theorem decideOn_link_heartbeat_frame (c : Capture) (s : State) :
    (decideOn c s).link.heartbeat = s.link.heartbeat := by
  unfold decideOn
  first | rfl | ((try dsimp only); (repeat' split) <;> first | rfl | simp | simp_all)

@[simp] theorem decideOn_peers_entries_frame (c : Capture) (s : State) :
    (decideOn c s).peers.entries = s.peers.entries := by
  unfold decideOn
  first | rfl | ((try dsimp only); (repeat' split) <;> first | rfl | simp | simp_all)

@[simp] theorem decideOn_peers_digest_frame (c : Capture) (s : State) :
    (decideOn c s).peers.digest = s.peers.digest := by
  unfold decideOn
  first | rfl | ((try dsimp only); (repeat' split) <;> first | rfl | simp | simp_all)

@[simp] theorem decideOn_mark_number_frame (c : Capture) (s : State) :
    (decideOn c s).mark.number = s.mark.number := by
  unfold decideOn
  first | rfl | ((try dsimp only); (repeat' split) <;> first | rfl | simp | simp_all)

@[simp] theorem decideOn_mark_reported_frame (c : Capture) (s : State) :
    (decideOn c s).mark.reported = s.mark.reported := by
  unfold decideOn
  first | rfl | ((try dsimp only); (repeat' split) <;> first | rfl | simp | simp_all)

@[simp] theorem decideOn_mark_quiet_frame (c : Capture) (s : State) :
    (decideOn c s).mark.quiet = s.mark.quiet := by
  unfold decideOn
  first | rfl | ((try dsimp only); (repeat' split) <;> first | rfl | simp | simp_all)

@[simp] theorem decideOn_mark_captureRequested_frame (c : Capture) (s : State) :
    (decideOn c s).mark.captureRequested = s.mark.captureRequested := by
  unfold decideOn
  first | rfl | ((try dsimp only); (repeat' split) <;> first | rfl | simp | simp_all)

@[simp] theorem decideOn_store_cellsA_frame (c : Capture) (s : State) :
    (decideOn c s).store.cellsA = s.store.cellsA := by
  unfold decideOn
  first | rfl | ((try dsimp only); (repeat' split) <;> first | rfl | simp | simp_all)

@[simp] theorem decideOn_store_cellsB_frame (c : Capture) (s : State) :
    (decideOn c s).store.cellsB = s.store.cellsB := by
  unfold decideOn
  first | rfl | ((try dsimp only); (repeat' split) <;> first | rfl | simp | simp_all)

@[simp] theorem decideOn_store_cellsCal_frame (c : Capture) (s : State) :
    (decideOn c s).store.cellsCal = s.store.cellsCal := by
  unfold decideOn
  first | rfl | ((try dsimp only); (repeat' split) <;> first | rfl | simp | simp_all)

@[simp] theorem decideOn_store_imageA_frame (c : Capture) (s : State) :
    (decideOn c s).store.imageA = s.store.imageA := by
  unfold decideOn
  first | rfl | ((try dsimp only); (repeat' split) <;> first | rfl | simp | simp_all)

@[simp] theorem decideOn_store_imageB_frame (c : Capture) (s : State) :
    (decideOn c s).store.imageB = s.store.imageB := by
  unfold decideOn
  first | rfl | ((try dsimp only); (repeat' split) <;> first | rfl | simp | simp_all)

@[simp] theorem decideOn_store_imageCal_frame (c : Capture) (s : State) :
    (decideOn c s).store.imageCal = s.store.imageCal := by
  unfold decideOn
  first | rfl | ((try dsimp only); (repeat' split) <;> first | rfl | simp | simp_all)

@[simp] theorem decideOn_store_calSeq_frame (c : Capture) (s : State) :
    (decideOn c s).store.calSeq = s.store.calSeq := by
  unfold decideOn
  first | rfl | ((try dsimp only); (repeat' split) <;> first | rfl | simp | simp_all)

@[simp] theorem decideOn_store_inFlight_frame (c : Capture) (s : State) :
    (decideOn c s).store.inFlight = s.store.inFlight := by
  unfold decideOn
  first | rfl | ((try dsimp only); (repeat' split) <;> first | rfl | simp | simp_all)

@[simp] theorem decideOn_store_scanDone_frame (c : Capture) (s : State) :
    (decideOn c s).store.scanDone = s.store.scanDone := by
  unfold decideOn
  first | rfl | ((try dsimp only); (repeat' split) <;> first | rfl | simp | simp_all)

@[simp] theorem decideOn_gradeUnit_chosen_frame (c : Capture) (s : State) :
    (decideOn c s).gradeUnit.chosen = s.gradeUnit.chosen := by
  unfold decideOn
  first | rfl | ((try dsimp only); (repeat' split) <;> first | rfl | simp | simp_all)

@[simp] theorem decideOn_claim_purpose_frame (c : Capture) (s : State) :
    (decideOn c s).claim.purpose = s.claim.purpose := by
  unfold decideOn
  first | rfl | ((try dsimp only); (repeat' split) <;> first | rfl | simp | simp_all)

@[simp] theorem decideOn_search_passes_frame (c : Capture) (s : State) :
    (decideOn c s).search.passes = s.search.passes := by
  unfold decideOn
  first | rfl | ((try dsimp only); (repeat' split) <;> first | rfl | simp | simp_all)

@[simp] theorem decideOn_search_level_frame (c : Capture) (s : State) :
    (decideOn c s).search.level = s.search.level := by
  unfold decideOn
  first | rfl | ((try dsimp only); (repeat' split) <;> first | rfl | simp | simp_all)

@[simp] theorem decideOn_search_total_frame (c : Capture) (s : State) :
    (decideOn c s).search.total = s.search.total := by
  unfold decideOn
  first | rfl | ((try dsimp only); (repeat' split) <;> first | rfl | simp | simp_all)

@[simp] theorem decideOn_search_plus_frame (c : Capture) (s : State) :
    (decideOn c s).search.plus = s.search.plus := by
  unfold decideOn
  first | rfl | ((try dsimp only); (repeat' split) <;> first | rfl | simp | simp_all)

@[simp] theorem decideOn_port_setup_frame (c : Capture) (s : State) :
    (decideOn c s).port.setup = s.port.setup := by
  unfold decideOn
  first | rfl | ((try dsimp only); (repeat' split) <;> first | rfl | simp | simp_all)

@[simp] theorem decideOn_port_frozen_frame (c : Capture) (s : State) :
    (decideOn c s).port.frozen = s.port.frozen := by
  unfold decideOn
  first | rfl | ((try dsimp only); (repeat' split) <;> first | rfl | simp | simp_all)

@[simp] theorem decideOn_port_tau_frame (c : Capture) (s : State) :
    (decideOn c s).port.tau = s.port.tau := by
  unfold decideOn
  first | rfl | ((try dsimp only); (repeat' split) <;> first | rfl | simp | simp_all)

@[simp] theorem decideOn_port_span_frame (c : Capture) (s : State) :
    (decideOn c s).port.span = s.port.span := by
  unfold decideOn
  first | rfl | ((try dsimp only); (repeat' split) <;> first | rfl | simp | simp_all)

@[simp] theorem decideOn_port_slot_frame (c : Capture) (s : State) :
    (decideOn c s).port.slot = s.port.slot := by
  unfold decideOn
  first | rfl | ((try dsimp only); (repeat' split) <;> first | rfl | simp | simp_all)

@[simp] theorem decideOn_port_shifted_frame (c : Capture) (s : State) :
    (decideOn c s).port.shifted = s.port.shifted := by
  unfold decideOn
  first | rfl | ((try dsimp only); (repeat' split) <;> first | rfl | simp | simp_all)

@[simp] theorem decideOn_port_lastEnd_frame (c : Capture) (s : State) :
    (decideOn c s).port.lastEnd = s.port.lastEnd := by
  unfold decideOn
  first | rfl | ((try dsimp only); (repeat' split) <;> first | rfl | simp | simp_all)

@[simp] theorem decideOn_port_changedPeers_frame (c : Capture) (s : State) :
    (decideOn c s).port.changedPeers = s.port.changedPeers := by
  unfold decideOn
  first | rfl | ((try dsimp only); (repeat' split) <;> first | rfl | simp | simp_all)

@[simp] theorem decideHeld_frame (s : State) :
    (decideHeld s).ms = s.ms
      ∧ (decideHeld s).straps = s.straps
      ∧ (decideHeld s).levels = s.levels
      ∧ (decideHeld s).sensor = s.sensor
      ∧ (decideHeld s).zone = s.zone
      ∧ (decideHeld s).pending = s.pending
      ∧ (decideHeld s).reck.started = s.reck.started
      ∧ (decideHeld s).reck.lastGood = s.reck.lastGood
      ∧ (decideHeld s).reck.theta0 = s.reck.theta0
      ∧ (decideHeld s).reck.sigma = s.reck.sigma
      ∧ (decideHeld s).reck.calibrated = s.reck.calibrated
      ∧ (decideHeld s).reck.thetaScale = s.reck.thetaScale
      ∧ (decideHeld s).reck.atRest = s.reck.atRest
      ∧ (decideHeld s).link.bitErrors = s.link.bitErrors
      ∧ (decideHeld s).link.txErrors = s.link.txErrors
      ∧ (decideHeld s).link.rxErrors = s.link.rxErrors
      ∧ (decideHeld s).link.txFail = s.link.txFail
      ∧ (decideHeld s).link.lastDuplicate = s.link.lastDuplicate
      ∧ (decideHeld s).link.heartbeat = s.link.heartbeat
      ∧ (decideHeld s).peers.entries = s.peers.entries
      ∧ (decideHeld s).peers.digest = s.peers.digest
      ∧ (decideHeld s).mark.number = s.mark.number
      ∧ (decideHeld s).mark.reported = s.mark.reported
      ∧ (decideHeld s).mark.quiet = s.mark.quiet
      ∧ (decideHeld s).mark.captureRequested = s.mark.captureRequested
      ∧ (decideHeld s).store.cellsA = s.store.cellsA
      ∧ (decideHeld s).store.cellsB = s.store.cellsB
      ∧ (decideHeld s).store.cellsCal = s.store.cellsCal
      ∧ (decideHeld s).store.imageA = s.store.imageA
      ∧ (decideHeld s).store.imageB = s.store.imageB
      ∧ (decideHeld s).store.imageCal = s.store.imageCal
      ∧ (decideHeld s).store.calSeq = s.store.calSeq
      ∧ (decideHeld s).store.inFlight = s.store.inFlight
      ∧ (decideHeld s).store.scanDone = s.store.scanDone
      ∧ (decideHeld s).gradeUnit.chosen = s.gradeUnit.chosen
      ∧ (decideHeld s).claim.purpose = s.claim.purpose
      ∧ (decideHeld s).search.passes = s.search.passes
      ∧ (decideHeld s).search.level = s.search.level
      ∧ (decideHeld s).search.total = s.search.total
      ∧ (decideHeld s).search.plus = s.search.plus
      ∧ (decideHeld s).port.setup = s.port.setup
      ∧ (decideHeld s).port.frozen = s.port.frozen
      ∧ (decideHeld s).port.tau = s.port.tau
      ∧ (decideHeld s).port.span = s.port.span
      ∧ (decideHeld s).port.slot = s.port.slot
      ∧ (decideHeld s).port.shifted = s.port.shifted
      ∧ (decideHeld s).port.lastEnd = s.port.lastEnd
      ∧ (decideHeld s).port.changedPeers = s.port.changedPeers := by
  unfold decideHeld
  refine ⟨?_, ?_, ?_, ?_, ?_, ?_, ?_, ?_, ?_, ?_, ?_, ?_, ?_, ?_, ?_, ?_, ?_, ?_, ?_, ?_, ?_, ?_, ?_, ?_, ?_, ?_,
    ?_, ?_, ?_, ?_, ?_, ?_, ?_, ?_, ?_, ?_, ?_, ?_, ?_, ?_, ?_, ?_, ?_, ?_, ?_, ?_, ?_, ?_⟩ <;>
    first | rfl | ((try dsimp only); (repeat' split) <;> first | rfl | simp | simp_all)

@[simp] theorem advanceDecision_frame (s : State) :
    (advanceDecision s).ms = s.ms
      ∧ (advanceDecision s).straps = s.straps
      ∧ (advanceDecision s).levels = s.levels
      ∧ (advanceDecision s).sensor = s.sensor
      ∧ (advanceDecision s).zone = s.zone
      ∧ (advanceDecision s).pending = s.pending
      ∧ (advanceDecision s).reck.started = s.reck.started
      ∧ (advanceDecision s).reck.lastGood = s.reck.lastGood
      ∧ (advanceDecision s).reck.theta0 = s.reck.theta0
      ∧ (advanceDecision s).reck.sigma = s.reck.sigma
      ∧ (advanceDecision s).reck.calibrated = s.reck.calibrated
      ∧ (advanceDecision s).reck.thetaScale = s.reck.thetaScale
      ∧ (advanceDecision s).reck.atRest = s.reck.atRest
      ∧ (advanceDecision s).link.bitErrors = s.link.bitErrors
      ∧ (advanceDecision s).link.txErrors = s.link.txErrors
      ∧ (advanceDecision s).link.rxErrors = s.link.rxErrors
      ∧ (advanceDecision s).link.txFail = s.link.txFail
      ∧ (advanceDecision s).link.lastDuplicate = s.link.lastDuplicate
      ∧ (advanceDecision s).link.heartbeat = s.link.heartbeat
      ∧ (advanceDecision s).peers.entries = s.peers.entries
      ∧ (advanceDecision s).peers.digest = s.peers.digest
      ∧ (advanceDecision s).mark.number = s.mark.number
      ∧ (advanceDecision s).mark.reported = s.mark.reported
      ∧ (advanceDecision s).mark.quiet = s.mark.quiet
      ∧ (advanceDecision s).mark.captureRequested = s.mark.captureRequested
      ∧ (advanceDecision s).store.cellsA = s.store.cellsA
      ∧ (advanceDecision s).store.cellsB = s.store.cellsB
      ∧ (advanceDecision s).store.cellsCal = s.store.cellsCal
      ∧ (advanceDecision s).store.imageA = s.store.imageA
      ∧ (advanceDecision s).store.imageB = s.store.imageB
      ∧ (advanceDecision s).store.imageCal = s.store.imageCal
      ∧ (advanceDecision s).store.calSeq = s.store.calSeq
      ∧ (advanceDecision s).store.inFlight = s.store.inFlight
      ∧ (advanceDecision s).store.scanDone = s.store.scanDone
      ∧ (advanceDecision s).gradeUnit.chosen = s.gradeUnit.chosen
      ∧ (advanceDecision s).claim.purpose = s.claim.purpose
      ∧ (advanceDecision s).search.passes = s.search.passes
      ∧ (advanceDecision s).search.level = s.search.level
      ∧ (advanceDecision s).search.total = s.search.total
      ∧ (advanceDecision s).search.plus = s.search.plus
      ∧ (advanceDecision s).port.setup = s.port.setup
      ∧ (advanceDecision s).port.frozen = s.port.frozen
      ∧ (advanceDecision s).port.tau = s.port.tau
      ∧ (advanceDecision s).port.span = s.port.span
      ∧ (advanceDecision s).port.slot = s.port.slot
      ∧ (advanceDecision s).port.shifted = s.port.shifted
      ∧ (advanceDecision s).port.lastEnd = s.port.lastEnd
      ∧ (advanceDecision s).port.changedPeers = s.port.changedPeers := by
  unfold advanceDecision
  refine ⟨?_, ?_, ?_, ?_, ?_, ?_, ?_, ?_, ?_, ?_, ?_, ?_, ?_, ?_, ?_, ?_, ?_, ?_, ?_, ?_, ?_, ?_, ?_, ?_, ?_, ?_,
    ?_, ?_, ?_, ?_, ?_, ?_, ?_, ?_, ?_, ?_, ?_, ?_, ?_, ?_, ?_, ?_, ?_, ?_, ?_, ?_, ?_, ?_⟩ <;>
    first | rfl | ((try dsimp only); (repeat' split) <;> first | rfl | simp | simp_all)

@[simp] theorem gradeCapture_frame (c : Capture) (served : Needs) (s : State) :
    (gradeCapture c served s).ms = s.ms
      ∧ (gradeCapture c served s).straps = s.straps
      ∧ (gradeCapture c served s).levels = s.levels
      ∧ (gradeCapture c served s).sensor = s.sensor
      ∧ (gradeCapture c served s).zone = s.zone
      ∧ (gradeCapture c served s).pending = s.pending
      ∧ (gradeCapture c served s).reck.started = s.reck.started
      ∧ (gradeCapture c served s).reck.lastGood = s.reck.lastGood
      ∧ (gradeCapture c served s).reck.theta0 = s.reck.theta0
      ∧ (gradeCapture c served s).reck.sigma = s.reck.sigma
      ∧ (gradeCapture c served s).reck.calibrated = s.reck.calibrated
      ∧ (gradeCapture c served s).reck.thetaScale = s.reck.thetaScale
      ∧ (gradeCapture c served s).reck.atRest = s.reck.atRest
      ∧ (gradeCapture c served s).link.bitErrors = s.link.bitErrors
      ∧ (gradeCapture c served s).link.txErrors = s.link.txErrors
      ∧ (gradeCapture c served s).link.rxErrors = s.link.rxErrors
      ∧ (gradeCapture c served s).link.txFail = s.link.txFail
      ∧ (gradeCapture c served s).link.lastDuplicate = s.link.lastDuplicate
      ∧ (gradeCapture c served s).link.heartbeat = s.link.heartbeat
      ∧ (gradeCapture c served s).peers.entries = s.peers.entries
      ∧ (gradeCapture c served s).peers.digest = s.peers.digest
      ∧ (gradeCapture c served s).mark.number = s.mark.number
      ∧ (gradeCapture c served s).mark.reported = s.mark.reported
      ∧ (gradeCapture c served s).mark.quiet = s.mark.quiet
      ∧ (gradeCapture c served s).mark.captureRequested = s.mark.captureRequested
      ∧ (gradeCapture c served s).store.cellsA = s.store.cellsA
      ∧ (gradeCapture c served s).store.cellsB = s.store.cellsB
      ∧ (gradeCapture c served s).store.cellsCal = s.store.cellsCal
      ∧ (gradeCapture c served s).store.imageA = s.store.imageA
      ∧ (gradeCapture c served s).store.imageB = s.store.imageB
      ∧ (gradeCapture c served s).store.imageCal = s.store.imageCal
      ∧ (gradeCapture c served s).store.calSeq = s.store.calSeq
      ∧ (gradeCapture c served s).store.inFlight = s.store.inFlight
      ∧ (gradeCapture c served s).store.scanDone = s.store.scanDone
      ∧ (gradeCapture c served s).gradeUnit.chosen = s.gradeUnit.chosen
      ∧ (gradeCapture c served s).claim.purpose = s.claim.purpose
      ∧ (gradeCapture c served s).search.passes = s.search.passes
      ∧ (gradeCapture c served s).search.level = s.search.level
      ∧ (gradeCapture c served s).search.total = s.search.total
      ∧ (gradeCapture c served s).search.plus = s.search.plus
      ∧ (gradeCapture c served s).port.setup = s.port.setup
      ∧ (gradeCapture c served s).port.frozen = s.port.frozen
      ∧ (gradeCapture c served s).port.tau = s.port.tau
      ∧ (gradeCapture c served s).port.span = s.port.span
      ∧ (gradeCapture c served s).port.slot = s.port.slot
      ∧ (gradeCapture c served s).port.shifted = s.port.shifted
      ∧ (gradeCapture c served s).port.lastEnd = s.port.lastEnd
      ∧ (gradeCapture c served s).port.changedPeers = s.port.changedPeers := by
  unfold gradeCapture
  refine ⟨?_, ?_, ?_, ?_, ?_, ?_, ?_, ?_, ?_, ?_, ?_, ?_, ?_, ?_, ?_, ?_, ?_, ?_, ?_, ?_, ?_, ?_, ?_, ?_, ?_, ?_,
    ?_, ?_, ?_, ?_, ?_, ?_, ?_, ?_, ?_, ?_, ?_, ?_, ?_, ?_, ?_, ?_, ?_, ?_, ?_, ?_, ?_, ?_⟩ <;>
    first | rfl | ((try dsimp only); (repeat' split) <;> first | rfl | simp | simp_all)

@[simp] theorem captureAnswered_frame (c : Capture) (s : State) :
    (captureAnswered c s).ms = s.ms
      ∧ (captureAnswered c s).straps = s.straps
      ∧ (captureAnswered c s).levels = s.levels
      ∧ (captureAnswered c s).sensor = s.sensor
      ∧ (captureAnswered c s).zone = s.zone
      ∧ (captureAnswered c s).pending = s.pending
      ∧ (captureAnswered c s).reck.started = s.reck.started
      ∧ (captureAnswered c s).reck.lastGood = s.reck.lastGood
      ∧ (captureAnswered c s).reck.theta0 = s.reck.theta0
      ∧ (captureAnswered c s).reck.sigma = s.reck.sigma
      ∧ (captureAnswered c s).reck.calibrated = s.reck.calibrated
      ∧ (captureAnswered c s).reck.thetaScale = s.reck.thetaScale
      ∧ (captureAnswered c s).reck.atRest = s.reck.atRest
      ∧ (captureAnswered c s).link.bitErrors = s.link.bitErrors
      ∧ (captureAnswered c s).link.txErrors = s.link.txErrors
      ∧ (captureAnswered c s).link.rxErrors = s.link.rxErrors
      ∧ (captureAnswered c s).link.txFail = s.link.txFail
      ∧ (captureAnswered c s).link.lastDuplicate = s.link.lastDuplicate
      ∧ (captureAnswered c s).link.heartbeat = s.link.heartbeat
      ∧ (captureAnswered c s).peers.entries = s.peers.entries
      ∧ (captureAnswered c s).peers.digest = s.peers.digest
      ∧ (captureAnswered c s).mark.number = s.mark.number
      ∧ (captureAnswered c s).mark.reported = s.mark.reported
      ∧ (captureAnswered c s).mark.quiet = s.mark.quiet
      ∧ (captureAnswered c s).store.cellsA = s.store.cellsA
      ∧ (captureAnswered c s).store.cellsB = s.store.cellsB
      ∧ (captureAnswered c s).store.cellsCal = s.store.cellsCal
      ∧ (captureAnswered c s).store.imageA = s.store.imageA
      ∧ (captureAnswered c s).store.imageB = s.store.imageB
      ∧ (captureAnswered c s).store.imageCal = s.store.imageCal
      ∧ (captureAnswered c s).store.calSeq = s.store.calSeq
      ∧ (captureAnswered c s).store.inFlight = s.store.inFlight
      ∧ (captureAnswered c s).store.scanDone = s.store.scanDone
      ∧ (captureAnswered c s).gradeUnit.chosen = s.gradeUnit.chosen
      ∧ (captureAnswered c s).claim.purpose = s.claim.purpose
      ∧ (captureAnswered c s).search.passes = s.search.passes
      ∧ (captureAnswered c s).search.level = s.search.level
      ∧ (captureAnswered c s).search.total = s.search.total
      ∧ (captureAnswered c s).search.plus = s.search.plus
      ∧ (captureAnswered c s).port.setup = s.port.setup
      ∧ (captureAnswered c s).port.frozen = s.port.frozen
      ∧ (captureAnswered c s).port.tau = s.port.tau
      ∧ (captureAnswered c s).port.span = s.port.span
      ∧ (captureAnswered c s).port.slot = s.port.slot
      ∧ (captureAnswered c s).port.shifted = s.port.shifted
      ∧ (captureAnswered c s).port.lastEnd = s.port.lastEnd
      ∧ (captureAnswered c s).port.changedPeers = s.port.changedPeers := by
  unfold captureAnswered
  refine ⟨?_, ?_, ?_, ?_, ?_, ?_, ?_, ?_, ?_, ?_, ?_, ?_, ?_, ?_, ?_, ?_, ?_, ?_, ?_, ?_, ?_, ?_, ?_, ?_, ?_, ?_,
    ?_, ?_, ?_, ?_, ?_, ?_, ?_, ?_, ?_, ?_, ?_, ?_, ?_, ?_, ?_, ?_, ?_, ?_, ?_, ?_, ?_⟩ <;>
    first | rfl | ((try dsimp only); (repeat' split) <;> first | rfl | simp | simp_all)

@[simp] theorem leadResolved_frame (l : LeadReport) (s : State) :
    (leadResolved l s).ms = s.ms
      ∧ (leadResolved l s).straps = s.straps
      ∧ (leadResolved l s).levels = s.levels
      ∧ (leadResolved l s).sensor = s.sensor
      ∧ (leadResolved l s).zone = s.zone
      ∧ (leadResolved l s).pending = s.pending
      ∧ (leadResolved l s).reck.started = s.reck.started
      ∧ (leadResolved l s).reck.lastGood = s.reck.lastGood
      ∧ (leadResolved l s).reck.theta0 = s.reck.theta0
      ∧ (leadResolved l s).reck.sigma = s.reck.sigma
      ∧ (leadResolved l s).reck.calibrated = s.reck.calibrated
      ∧ (leadResolved l s).reck.thetaScale = s.reck.thetaScale
      ∧ (leadResolved l s).reck.atRest = s.reck.atRest
      ∧ (leadResolved l s).link.bitErrors = s.link.bitErrors
      ∧ (leadResolved l s).link.txErrors = s.link.txErrors
      ∧ (leadResolved l s).link.rxErrors = s.link.rxErrors
      ∧ (leadResolved l s).link.txFail = s.link.txFail
      ∧ (leadResolved l s).link.lastDuplicate = s.link.lastDuplicate
      ∧ (leadResolved l s).link.heartbeat = s.link.heartbeat
      ∧ (leadResolved l s).peers.entries = s.peers.entries
      ∧ (leadResolved l s).peers.digest = s.peers.digest
      ∧ (leadResolved l s).mark.number = s.mark.number
      ∧ (leadResolved l s).mark.reported = s.mark.reported
      ∧ (leadResolved l s).mark.quiet = s.mark.quiet
      ∧ (leadResolved l s).mark.captureRequested = s.mark.captureRequested
      ∧ (leadResolved l s).store.cellsA = s.store.cellsA
      ∧ (leadResolved l s).store.cellsB = s.store.cellsB
      ∧ (leadResolved l s).store.cellsCal = s.store.cellsCal
      ∧ (leadResolved l s).store.imageA = s.store.imageA
      ∧ (leadResolved l s).store.imageB = s.store.imageB
      ∧ (leadResolved l s).store.imageCal = s.store.imageCal
      ∧ (leadResolved l s).store.calSeq = s.store.calSeq
      ∧ (leadResolved l s).store.inFlight = s.store.inFlight
      ∧ (leadResolved l s).store.scanDone = s.store.scanDone
      ∧ (leadResolved l s).gradeUnit.chosen = s.gradeUnit.chosen
      ∧ (leadResolved l s).claim.purpose = s.claim.purpose
      ∧ (leadResolved l s).search.passes = s.search.passes
      ∧ (leadResolved l s).search.level = s.search.level
      ∧ (leadResolved l s).search.total = s.search.total
      ∧ (leadResolved l s).search.plus = s.search.plus
      ∧ (leadResolved l s).port.setup = s.port.setup
      ∧ (leadResolved l s).port.frozen = s.port.frozen
      ∧ (leadResolved l s).port.tau = s.port.tau
      ∧ (leadResolved l s).port.span = s.port.span
      ∧ (leadResolved l s).port.slot = s.port.slot
      ∧ (leadResolved l s).port.shifted = s.port.shifted
      ∧ (leadResolved l s).port.lastEnd = s.port.lastEnd
      ∧ (leadResolved l s).port.changedPeers = s.port.changedPeers := by
  unfold leadResolved
  refine ⟨?_, ?_, ?_, ?_, ?_, ?_, ?_, ?_, ?_, ?_, ?_, ?_, ?_, ?_, ?_, ?_, ?_, ?_, ?_, ?_, ?_, ?_, ?_, ?_, ?_, ?_,
    ?_, ?_, ?_, ?_, ?_, ?_, ?_, ?_, ?_, ?_, ?_, ?_, ?_, ?_, ?_, ?_, ?_, ?_, ?_, ?_, ?_, ?_⟩ <;>
    first | rfl | ((try dsimp only); (repeat' split) <;> first | rfl | simp | simp_all)

@[simp] theorem leadLost_frame (s : State) :
    (leadLost s).ms = s.ms
      ∧ (leadLost s).straps = s.straps
      ∧ (leadLost s).levels = s.levels
      ∧ (leadLost s).sensor = s.sensor
      ∧ (leadLost s).zone = s.zone
      ∧ (leadLost s).pending = s.pending
      ∧ (leadLost s).reck.started = s.reck.started
      ∧ (leadLost s).reck.lastGood = s.reck.lastGood
      ∧ (leadLost s).reck.theta0 = s.reck.theta0
      ∧ (leadLost s).reck.sigma = s.reck.sigma
      ∧ (leadLost s).reck.calibrated = s.reck.calibrated
      ∧ (leadLost s).reck.thetaScale = s.reck.thetaScale
      ∧ (leadLost s).reck.atRest = s.reck.atRest
      ∧ (leadLost s).link.bitErrors = s.link.bitErrors
      ∧ (leadLost s).link.txErrors = s.link.txErrors
      ∧ (leadLost s).link.rxErrors = s.link.rxErrors
      ∧ (leadLost s).link.txFail = s.link.txFail
      ∧ (leadLost s).link.lastDuplicate = s.link.lastDuplicate
      ∧ (leadLost s).link.heartbeat = s.link.heartbeat
      ∧ (leadLost s).peers.entries = s.peers.entries
      ∧ (leadLost s).peers.digest = s.peers.digest
      ∧ (leadLost s).mark.number = s.mark.number
      ∧ (leadLost s).mark.reported = s.mark.reported
      ∧ (leadLost s).mark.quiet = s.mark.quiet
      ∧ (leadLost s).mark.captureRequested = s.mark.captureRequested
      ∧ (leadLost s).store.cellsA = s.store.cellsA
      ∧ (leadLost s).store.cellsB = s.store.cellsB
      ∧ (leadLost s).store.cellsCal = s.store.cellsCal
      ∧ (leadLost s).store.imageA = s.store.imageA
      ∧ (leadLost s).store.imageB = s.store.imageB
      ∧ (leadLost s).store.imageCal = s.store.imageCal
      ∧ (leadLost s).store.calSeq = s.store.calSeq
      ∧ (leadLost s).store.inFlight = s.store.inFlight
      ∧ (leadLost s).store.scanDone = s.store.scanDone
      ∧ (leadLost s).gradeUnit.chosen = s.gradeUnit.chosen
      ∧ (leadLost s).claim.purpose = s.claim.purpose
      ∧ (leadLost s).search.passes = s.search.passes
      ∧ (leadLost s).search.level = s.search.level
      ∧ (leadLost s).search.total = s.search.total
      ∧ (leadLost s).search.plus = s.search.plus
      ∧ (leadLost s).port.setup = s.port.setup
      ∧ (leadLost s).port.frozen = s.port.frozen
      ∧ (leadLost s).port.tau = s.port.tau
      ∧ (leadLost s).port.span = s.port.span
      ∧ (leadLost s).port.slot = s.port.slot
      ∧ (leadLost s).port.shifted = s.port.shifted
      ∧ (leadLost s).port.lastEnd = s.port.lastEnd
      ∧ (leadLost s).port.changedPeers = s.port.changedPeers := by
  unfold leadLost
  refine ⟨?_, ?_, ?_, ?_, ?_, ?_, ?_, ?_, ?_, ?_, ?_, ?_, ?_, ?_, ?_, ?_, ?_, ?_, ?_, ?_, ?_, ?_, ?_, ?_, ?_, ?_,
    ?_, ?_, ?_, ?_, ?_, ?_, ?_, ?_, ?_, ?_, ?_, ?_, ?_, ?_, ?_, ?_, ?_, ?_, ?_, ?_, ?_, ?_⟩ <;>
    first | rfl | ((try dsimp only); (repeat' split) <;> first | rfl | simp | simp_all)

@[simp] theorem leadAtEdge_frame (s : State) :
    (leadAtEdge s).ms = s.ms
      ∧ (leadAtEdge s).straps = s.straps
      ∧ (leadAtEdge s).levels = s.levels
      ∧ (leadAtEdge s).sensor = s.sensor
      ∧ (leadAtEdge s).zone = s.zone
      ∧ (leadAtEdge s).pending = s.pending
      ∧ (leadAtEdge s).reck.started = s.reck.started
      ∧ (leadAtEdge s).reck.lastGood = s.reck.lastGood
      ∧ (leadAtEdge s).reck.theta0 = s.reck.theta0
      ∧ (leadAtEdge s).reck.sigma = s.reck.sigma
      ∧ (leadAtEdge s).reck.calibrated = s.reck.calibrated
      ∧ (leadAtEdge s).reck.thetaScale = s.reck.thetaScale
      ∧ (leadAtEdge s).reck.atRest = s.reck.atRest
      ∧ (leadAtEdge s).link.bitErrors = s.link.bitErrors
      ∧ (leadAtEdge s).link.txErrors = s.link.txErrors
      ∧ (leadAtEdge s).link.rxErrors = s.link.rxErrors
      ∧ (leadAtEdge s).link.txFail = s.link.txFail
      ∧ (leadAtEdge s).link.lastDuplicate = s.link.lastDuplicate
      ∧ (leadAtEdge s).link.heartbeat = s.link.heartbeat
      ∧ (leadAtEdge s).peers.entries = s.peers.entries
      ∧ (leadAtEdge s).peers.digest = s.peers.digest
      ∧ (leadAtEdge s).mark.number = s.mark.number
      ∧ (leadAtEdge s).mark.reported = s.mark.reported
      ∧ (leadAtEdge s).mark.quiet = s.mark.quiet
      ∧ (leadAtEdge s).mark.captureRequested = s.mark.captureRequested
      ∧ (leadAtEdge s).store.cellsA = s.store.cellsA
      ∧ (leadAtEdge s).store.cellsB = s.store.cellsB
      ∧ (leadAtEdge s).store.cellsCal = s.store.cellsCal
      ∧ (leadAtEdge s).store.imageA = s.store.imageA
      ∧ (leadAtEdge s).store.imageB = s.store.imageB
      ∧ (leadAtEdge s).store.imageCal = s.store.imageCal
      ∧ (leadAtEdge s).store.calSeq = s.store.calSeq
      ∧ (leadAtEdge s).store.inFlight = s.store.inFlight
      ∧ (leadAtEdge s).store.scanDone = s.store.scanDone
      ∧ (leadAtEdge s).gradeUnit.chosen = s.gradeUnit.chosen
      ∧ (leadAtEdge s).claim.purpose = s.claim.purpose
      ∧ (leadAtEdge s).search.passes = s.search.passes
      ∧ (leadAtEdge s).search.level = s.search.level
      ∧ (leadAtEdge s).search.total = s.search.total
      ∧ (leadAtEdge s).search.plus = s.search.plus
      ∧ (leadAtEdge s).port.setup = s.port.setup
      ∧ (leadAtEdge s).port.frozen = s.port.frozen
      ∧ (leadAtEdge s).port.tau = s.port.tau
      ∧ (leadAtEdge s).port.span = s.port.span
      ∧ (leadAtEdge s).port.slot = s.port.slot
      ∧ (leadAtEdge s).port.shifted = s.port.shifted
      ∧ (leadAtEdge s).port.lastEnd = s.port.lastEnd
      ∧ (leadAtEdge s).port.changedPeers = s.port.changedPeers := by
  unfold leadAtEdge
  refine ⟨?_, ?_, ?_, ?_, ?_, ?_, ?_, ?_, ?_, ?_, ?_, ?_, ?_, ?_, ?_, ?_, ?_, ?_, ?_, ?_, ?_, ?_, ?_, ?_, ?_, ?_,
    ?_, ?_, ?_, ?_, ?_, ?_, ?_, ?_, ?_, ?_, ?_, ?_, ?_, ?_, ?_, ?_, ?_, ?_, ?_, ?_, ?_, ?_⟩ <;>
    first | rfl | ((try dsimp only); (repeat' split) <;> first | rfl | simp | simp_all)

@[simp] theorem startQuiet_frame (s : State) :
    (startQuiet s).phase = s.phase
      ∧ (startQuiet s).ms = s.ms
      ∧ (startQuiet s).straps = s.straps
      ∧ (startQuiet s).levels = s.levels
      ∧ (startQuiet s).sensor = s.sensor
      ∧ (startQuiet s).reck = s.reck
      ∧ (startQuiet s).link = s.link
      ∧ (startQuiet s).peers = s.peers
      ∧ (startQuiet s).store = s.store
      ∧ (startQuiet s).gradeUnit = s.gradeUnit
      ∧ (startQuiet s).claim = s.claim
      ∧ (startQuiet s).search = s.search
      ∧ (startQuiet s).zone = s.zone
      ∧ (startQuiet s).fault = s.fault
      ∧ (startQuiet s).port = s.port
      ∧ (startQuiet s).free = s.free
      ∧ (startQuiet s).pending = s.pending
      ∧ (startQuiet s).mark.state = s.mark.state
      ∧ (startQuiet s).mark.number = s.mark.number
      ∧ (startQuiet s).mark.reported = s.mark.reported
      ∧ (startQuiet s).mark.needs = s.mark.needs
      ∧ (startQuiet s).mark.leadWait = s.mark.leadWait
      ∧ (startQuiet s).mark.captureRequested = s.mark.captureRequested
      ∧ (startQuiet s).mark.serving = s.mark.serving := by
  unfold startQuiet
  refine ⟨?_, ?_, ?_, ?_, ?_, ?_, ?_, ?_, ?_, ?_, ?_, ?_, ?_, ?_, ?_, ?_, ?_, ?_, ?_, ?_, ?_, ?_, ?_, ?_⟩ <;>
    rfl

@[simp] theorem enterRecovery_frame (s : State) :
    (enterRecovery s).ms = s.ms
      ∧ (enterRecovery s).straps = s.straps
      ∧ (enterRecovery s).levels = s.levels
      ∧ (enterRecovery s).sensor = s.sensor
      ∧ (enterRecovery s).reck = s.reck
      ∧ (enterRecovery s).link = s.link
      ∧ (enterRecovery s).claim = s.claim
      ∧ (enterRecovery s).search = s.search
      ∧ (enterRecovery s).zone = s.zone
      ∧ (enterRecovery s).port = s.port
      ∧ (enterRecovery s).free = s.free
      ∧ (enterRecovery s).pending = s.pending
      ∧ (enterRecovery s).peers.entries = s.peers.entries
      ∧ (enterRecovery s).peers.digest = s.peers.digest
      ∧ (enterRecovery s).mark.state = s.mark.state
      ∧ (enterRecovery s).mark.number = s.mark.number
      ∧ (enterRecovery s).mark.reported = s.mark.reported
      ∧ (enterRecovery s).mark.leadWait = s.mark.leadWait
      ∧ (enterRecovery s).mark.captureRequested = s.mark.captureRequested
      ∧ (enterRecovery s).mark.serving = s.mark.serving
      ∧ (enterRecovery s).store.cellsA = s.store.cellsA
      ∧ (enterRecovery s).store.cellsB = s.store.cellsB
      ∧ (enterRecovery s).store.cellsCal = s.store.cellsCal
      ∧ (enterRecovery s).store.imageA = s.store.imageA
      ∧ (enterRecovery s).store.imageB = s.store.imageB
      ∧ (enterRecovery s).store.imageCal = s.store.imageCal
      ∧ (enterRecovery s).store.calSeq = s.store.calSeq
      ∧ (enterRecovery s).store.inFlight = s.store.inFlight
      ∧ (enterRecovery s).store.pendingSnap = s.store.pendingSnap
      ∧ (enterRecovery s).store.pendingCal = s.store.pendingCal
      ∧ (enterRecovery s).store.scanDone = s.store.scanDone
      ∧ (enterRecovery s).gradeUnit.grade = s.gradeUnit.grade
      ∧ (enterRecovery s).fault.record = s.fault.record := by
  unfold enterRecovery
  refine ⟨?_, ?_, ?_, ?_, ?_, ?_, ?_, ?_, ?_, ?_, ?_, ?_, ?_, ?_, ?_, ?_, ?_, ?_, ?_, ?_, ?_, ?_, ?_, ?_, ?_, ?_,
    ?_, ?_, ?_, ?_, ?_, ?_, ?_⟩ <;>
    first | rfl | ((try dsimp only); (repeat' split) <;> first | rfl | simp | simp_all)

@[simp] theorem noteTorn_frame (s : State) :
    (noteTorn s).phase = s.phase
      ∧ (noteTorn s).ms = s.ms
      ∧ (noteTorn s).straps = s.straps
      ∧ (noteTorn s).levels = s.levels
      ∧ (noteTorn s).sensor = s.sensor
      ∧ (noteTorn s).reck = s.reck
      ∧ (noteTorn s).link = s.link
      ∧ (noteTorn s).peers = s.peers
      ∧ (noteTorn s).mark = s.mark
      ∧ (noteTorn s).store = s.store
      ∧ (noteTorn s).gradeUnit = s.gradeUnit
      ∧ (noteTorn s).claim = s.claim
      ∧ (noteTorn s).search = s.search
      ∧ (noteTorn s).zone = s.zone
      ∧ (noteTorn s).free = s.free
      ∧ (noteTorn s).pending = s.pending
      ∧ (noteTorn s).fault.stopSet = s.fault.stopSet
      ∧ (noteTorn s).port.setup = s.port.setup
      ∧ (noteTorn s).port.frozen = s.port.frozen
      ∧ (noteTorn s).port.tau = s.port.tau
      ∧ (noteTorn s).port.span = s.port.span
      ∧ (noteTorn s).port.slot = s.port.slot
      ∧ (noteTorn s).port.shifted = s.port.shifted
      ∧ (noteTorn s).port.lastEnd = s.port.lastEnd
      ∧ (noteTorn s).port.changedPeers = s.port.changedPeers := by
  unfold noteTorn
  refine ⟨?_, ?_, ?_, ?_, ?_, ?_, ?_, ?_, ?_, ?_, ?_, ?_, ?_, ?_, ?_, ?_, ?_, ?_, ?_, ?_, ?_, ?_, ?_, ?_, ?_⟩ <;>
    first | rfl | ((try dsimp only); (repeat' split) <;> first | rfl | simp | simp_all)

@[simp] theorem readCalibration_frame (s : State) :
    (readCalibration s).phase = s.phase
      ∧ (readCalibration s).ms = s.ms
      ∧ (readCalibration s).straps = s.straps
      ∧ (readCalibration s).levels = s.levels
      ∧ (readCalibration s).sensor = s.sensor
      ∧ (readCalibration s).link = s.link
      ∧ (readCalibration s).peers = s.peers
      ∧ (readCalibration s).mark = s.mark
      ∧ (readCalibration s).store = s.store
      ∧ (readCalibration s).gradeUnit = s.gradeUnit
      ∧ (readCalibration s).claim = s.claim
      ∧ (readCalibration s).search = s.search
      ∧ (readCalibration s).zone = s.zone
      ∧ (readCalibration s).free = s.free
      ∧ (readCalibration s).pending = s.pending
      ∧ (readCalibration s).reck.count = s.reck.count
      ∧ (readCalibration s).reck.started = s.reck.started
      ∧ (readCalibration s).reck.lastGood = s.reck.lastGood
      ∧ (readCalibration s).reck.held = s.reck.held
      ∧ (readCalibration s).reck.turnOffset = s.reck.turnOffset
      ∧ (readCalibration s).reck.lambda = s.reck.lambda
      ∧ (readCalibration s).reck.basis = s.reck.basis
      ∧ (readCalibration s).reck.anchor = s.reck.anchor
      ∧ (readCalibration s).reck.atRest = s.reck.atRest
      ∧ (readCalibration s).fault.stopSet = s.fault.stopSet
      ∧ (readCalibration s).port.setup = s.port.setup
      ∧ (readCalibration s).port.frozen = s.port.frozen
      ∧ (readCalibration s).port.tau = s.port.tau
      ∧ (readCalibration s).port.span = s.port.span
      ∧ (readCalibration s).port.slot = s.port.slot
      ∧ (readCalibration s).port.shifted = s.port.shifted
      ∧ (readCalibration s).port.lastEnd = s.port.lastEnd
      ∧ (readCalibration s).port.changedPeers = s.port.changedPeers := by
  unfold readCalibration
  refine ⟨?_, ?_, ?_, ?_, ?_, ?_, ?_, ?_, ?_, ?_, ?_, ?_, ?_, ?_, ?_, ?_, ?_, ?_, ?_, ?_, ?_, ?_, ?_, ?_, ?_, ?_,
    ?_, ?_, ?_, ?_, ?_, ?_, ?_⟩ <;>
    first | rfl | ((try dsimp only); (repeat' split) <;> first | rfl | simp | simp_all)

@[simp] theorem answerRead_frame (s : State) :
    (answerRead s).ms = s.ms
      ∧ (answerRead s).straps = s.straps
      ∧ (answerRead s).levels = s.levels
      ∧ (answerRead s).sensor = s.sensor
      ∧ (answerRead s).zone = s.zone
      ∧ (answerRead s).pending = s.pending
      ∧ (answerRead s).reck.started = s.reck.started
      ∧ (answerRead s).reck.lastGood = s.reck.lastGood
      ∧ (answerRead s).reck.atRest = s.reck.atRest
      ∧ (answerRead s).link.bitErrors = s.link.bitErrors
      ∧ (answerRead s).link.txErrors = s.link.txErrors
      ∧ (answerRead s).link.rxErrors = s.link.rxErrors
      ∧ (answerRead s).link.txFail = s.link.txFail
      ∧ (answerRead s).link.lastDuplicate = s.link.lastDuplicate
      ∧ (answerRead s).link.heartbeat = s.link.heartbeat
      ∧ (answerRead s).peers.entries = s.peers.entries
      ∧ (answerRead s).peers.digest = s.peers.digest
      ∧ (answerRead s).mark.number = s.mark.number
      ∧ (answerRead s).mark.reported = s.mark.reported
      ∧ (answerRead s).mark.quiet = s.mark.quiet
      ∧ (answerRead s).mark.captureRequested = s.mark.captureRequested
      ∧ (answerRead s).store.cellsA = s.store.cellsA
      ∧ (answerRead s).store.cellsB = s.store.cellsB
      ∧ (answerRead s).store.cellsCal = s.store.cellsCal
      ∧ (answerRead s).store.imageA = s.store.imageA
      ∧ (answerRead s).store.imageB = s.store.imageB
      ∧ (answerRead s).store.imageCal = s.store.imageCal
      ∧ (answerRead s).store.calSeq = s.store.calSeq
      ∧ (answerRead s).store.inFlight = s.store.inFlight
      ∧ (answerRead s).store.scanDone = s.store.scanDone
      ∧ (answerRead s).claim.purpose = s.claim.purpose
      ∧ (answerRead s).search.passes = s.search.passes
      ∧ (answerRead s).search.level = s.search.level
      ∧ (answerRead s).search.total = s.search.total
      ∧ (answerRead s).search.plus = s.search.plus
      ∧ (answerRead s).port.setup = s.port.setup
      ∧ (answerRead s).port.frozen = s.port.frozen
      ∧ (answerRead s).port.tau = s.port.tau
      ∧ (answerRead s).port.span = s.port.span
      ∧ (answerRead s).port.slot = s.port.slot
      ∧ (answerRead s).port.shifted = s.port.shifted
      ∧ (answerRead s).port.lastEnd = s.port.lastEnd
      ∧ (answerRead s).port.changedPeers = s.port.changedPeers := by
  unfold answerRead
  refine ⟨?_, ?_, ?_, ?_, ?_, ?_, ?_, ?_, ?_, ?_, ?_, ?_, ?_, ?_, ?_, ?_, ?_, ?_, ?_, ?_, ?_, ?_, ?_, ?_, ?_, ?_,
    ?_, ?_, ?_, ?_, ?_, ?_, ?_, ?_, ?_, ?_, ?_, ?_, ?_, ?_, ?_, ?_, ?_⟩ <;>
    first | rfl | ((try dsimp only); (repeat' split) <;> first | rfl | simp | simp_all)

/-! ### Settle -/

@[simp] theorem tryMuster_frame (s : State) :
    (tryMuster s).ms = s.ms
      ∧ (tryMuster s).straps = s.straps
      ∧ (tryMuster s).levels = s.levels
      ∧ (tryMuster s).sensor = s.sensor
      ∧ (tryMuster s).reck = s.reck
      ∧ (tryMuster s).link = s.link
      ∧ (tryMuster s).claim = s.claim
      ∧ (tryMuster s).search = s.search
      ∧ (tryMuster s).zone = s.zone
      ∧ (tryMuster s).port = s.port
      ∧ (tryMuster s).free = s.free
      ∧ (tryMuster s).pending = s.pending
      ∧ (tryMuster s).peers.entries = s.peers.entries
      ∧ (tryMuster s).peers.digest = s.peers.digest
      ∧ (tryMuster s).mark.state = s.mark.state
      ∧ (tryMuster s).mark.number = s.mark.number
      ∧ (tryMuster s).mark.reported = s.mark.reported
      ∧ (tryMuster s).mark.leadWait = s.mark.leadWait
      ∧ (tryMuster s).mark.captureRequested = s.mark.captureRequested
      ∧ (tryMuster s).mark.serving = s.mark.serving
      ∧ (tryMuster s).store.cellsA = s.store.cellsA
      ∧ (tryMuster s).store.cellsB = s.store.cellsB
      ∧ (tryMuster s).store.cellsCal = s.store.cellsCal
      ∧ (tryMuster s).store.imageA = s.store.imageA
      ∧ (tryMuster s).store.imageB = s.store.imageB
      ∧ (tryMuster s).store.imageCal = s.store.imageCal
      ∧ (tryMuster s).store.calSeq = s.store.calSeq
      ∧ (tryMuster s).store.inFlight = s.store.inFlight
      ∧ (tryMuster s).store.pendingSnap = s.store.pendingSnap
      ∧ (tryMuster s).store.pendingCal = s.store.pendingCal
      ∧ (tryMuster s).store.scanDone = s.store.scanDone
      ∧ (tryMuster s).gradeUnit.grade = s.gradeUnit.grade
      ∧ (tryMuster s).fault.record = s.fault.record := by
  unfold tryMuster
  refine ⟨?_, ?_, ?_, ?_, ?_, ?_, ?_, ?_, ?_, ?_, ?_, ?_, ?_, ?_, ?_, ?_, ?_, ?_, ?_, ?_, ?_, ?_, ?_, ?_, ?_, ?_,
    ?_, ?_, ?_, ?_, ?_, ?_, ?_⟩ <;>
    (repeat' split) <;> simp

@[simp] theorem reMarkTest_frame (s0 s : State) :
    (reMarkTest s0 s).phase = s.phase
      ∧ (reMarkTest s0 s).ms = s.ms
      ∧ (reMarkTest s0 s).straps = s.straps
      ∧ (reMarkTest s0 s).levels = s.levels
      ∧ (reMarkTest s0 s).sensor = s.sensor
      ∧ (reMarkTest s0 s).reck = s.reck
      ∧ (reMarkTest s0 s).link = s.link
      ∧ (reMarkTest s0 s).peers = s.peers
      ∧ (reMarkTest s0 s).store = s.store
      ∧ (reMarkTest s0 s).gradeUnit = s.gradeUnit
      ∧ (reMarkTest s0 s).claim = s.claim
      ∧ (reMarkTest s0 s).search = s.search
      ∧ (reMarkTest s0 s).zone = s.zone
      ∧ (reMarkTest s0 s).fault = s.fault
      ∧ (reMarkTest s0 s).port = s.port
      ∧ (reMarkTest s0 s).free = s.free
      ∧ (reMarkTest s0 s).pending = s.pending
      ∧ (reMarkTest s0 s).mark.state = s.mark.state
      ∧ (reMarkTest s0 s).mark.number = s.mark.number
      ∧ (reMarkTest s0 s).mark.reported = s.mark.reported
      ∧ (reMarkTest s0 s).mark.quiet = s.mark.quiet
      ∧ (reMarkTest s0 s).mark.leadWait = s.mark.leadWait
      ∧ (reMarkTest s0 s).mark.captureRequested = s.mark.captureRequested := by
  unfold reMarkTest
  refine ⟨?_, ?_, ?_, ?_, ?_, ?_, ?_, ?_, ?_, ?_, ?_, ?_, ?_, ?_, ?_, ?_, ?_, ?_, ?_, ?_, ?_, ?_, ?_⟩ <;>
    (repeat' split) <;> rfl

@[simp] theorem driftTest_frame (s : State) :
    (driftTest s).phase = s.phase
      ∧ (driftTest s).ms = s.ms
      ∧ (driftTest s).straps = s.straps
      ∧ (driftTest s).levels = s.levels
      ∧ (driftTest s).sensor = s.sensor
      ∧ (driftTest s).link = s.link
      ∧ (driftTest s).peers = s.peers
      ∧ (driftTest s).mark = s.mark
      ∧ (driftTest s).store = s.store
      ∧ (driftTest s).gradeUnit = s.gradeUnit
      ∧ (driftTest s).claim = s.claim
      ∧ (driftTest s).search = s.search
      ∧ (driftTest s).zone = s.zone
      ∧ (driftTest s).fault = s.fault
      ∧ (driftTest s).port = s.port
      ∧ (driftTest s).free = s.free
      ∧ (driftTest s).pending = s.pending
      ∧ (driftTest s).reck.count = s.reck.count
      ∧ (driftTest s).reck.started = s.reck.started
      ∧ (driftTest s).reck.lastGood = s.reck.lastGood
      ∧ (driftTest s).reck.held = s.reck.held
      ∧ (driftTest s).reck.turnOffset = s.reck.turnOffset
      ∧ (driftTest s).reck.theta0 = s.reck.theta0
      ∧ (driftTest s).reck.sigma = s.reck.sigma
      ∧ (driftTest s).reck.calibrated = s.reck.calibrated
      ∧ (driftTest s).reck.lambda = s.reck.lambda
      ∧ (driftTest s).reck.basis = s.reck.basis
      ∧ (driftTest s).reck.theta = s.reck.theta
      ∧ (driftTest s).reck.saturated = s.reck.saturated
      ∧ (driftTest s).reck.thetaScale = s.reck.thetaScale
      ∧ (driftTest s).reck.anchor = s.reck.anchor
      ∧ (driftTest s).reck.atRest = s.reck.atRest := by
  unfold driftTest
  refine ⟨?_, ?_, ?_, ?_, ?_, ?_, ?_, ?_, ?_, ?_, ?_, ?_, ?_, ?_, ?_, ?_, ?_, ?_, ?_, ?_, ?_, ?_, ?_, ?_, ?_, ?_,
    ?_, ?_, ?_, ?_, ?_, ?_⟩ <;>
    (repeat' split) <;> rfl

@[simp] theorem dwellStep_frame (cap : Speed) (s : State) :
    (dwellStep cap s).phase = s.phase
      ∧ (dwellStep cap s).ms = s.ms
      ∧ (dwellStep cap s).straps = s.straps
      ∧ (dwellStep cap s).levels = s.levels
      ∧ (dwellStep cap s).sensor = s.sensor
      ∧ (dwellStep cap s).reck = s.reck
      ∧ (dwellStep cap s).link = s.link
      ∧ (dwellStep cap s).peers = s.peers
      ∧ (dwellStep cap s).mark = s.mark
      ∧ (dwellStep cap s).store = s.store
      ∧ (dwellStep cap s).gradeUnit = s.gradeUnit
      ∧ (dwellStep cap s).claim = s.claim
      ∧ (dwellStep cap s).search = s.search
      ∧ (dwellStep cap s).fault = s.fault
      ∧ (dwellStep cap s).port = s.port
      ∧ (dwellStep cap s).free = s.free
      ∧ (dwellStep cap s).pending = s.pending := by
  unfold dwellStep
  refine ⟨?_, ?_, ?_, ?_, ?_, ?_, ?_, ?_, ?_, ?_, ?_, ?_, ?_, ?_, ?_, ?_, ?_⟩ <;>
    (dsimp only; (repeat' split) <;> first | rfl | simp)

@[simp] theorem dwellTest_frame (s : State) :
    (dwellTest s).phase = s.phase
      ∧ (dwellTest s).ms = s.ms
      ∧ (dwellTest s).straps = s.straps
      ∧ (dwellTest s).levels = s.levels
      ∧ (dwellTest s).sensor = s.sensor
      ∧ (dwellTest s).reck = s.reck
      ∧ (dwellTest s).link = s.link
      ∧ (dwellTest s).peers = s.peers
      ∧ (dwellTest s).mark = s.mark
      ∧ (dwellTest s).store = s.store
      ∧ (dwellTest s).gradeUnit = s.gradeUnit
      ∧ (dwellTest s).claim = s.claim
      ∧ (dwellTest s).search = s.search
      ∧ (dwellTest s).fault = s.fault
      ∧ (dwellTest s).port = s.port
      ∧ (dwellTest s).free = s.free
      ∧ (dwellTest s).pending = s.pending := by
  unfold dwellTest
  refine ⟨?_, ?_, ?_, ?_, ?_, ?_, ?_, ?_, ?_, ?_, ?_, ?_, ?_, ?_, ?_, ?_, ?_⟩ <;>
    first | rfl | ((try dsimp only); (repeat' split) <;> first | rfl | simp | simp_all)

@[simp] theorem statusTest_frame (force : Bool) (s0 s : State) :
    (statusTest force s0 s).phase = s.phase
      ∧ (statusTest force s0 s).ms = s.ms
      ∧ (statusTest force s0 s).straps = s.straps
      ∧ (statusTest force s0 s).levels = s.levels
      ∧ (statusTest force s0 s).sensor = s.sensor
      ∧ (statusTest force s0 s).reck = s.reck
      ∧ (statusTest force s0 s).peers = s.peers
      ∧ (statusTest force s0 s).mark = s.mark
      ∧ (statusTest force s0 s).store = s.store
      ∧ (statusTest force s0 s).gradeUnit = s.gradeUnit
      ∧ (statusTest force s0 s).claim = s.claim
      ∧ (statusTest force s0 s).search = s.search
      ∧ (statusTest force s0 s).zone = s.zone
      ∧ (statusTest force s0 s).fault = s.fault
      ∧ (statusTest force s0 s).port = s.port
      ∧ (statusTest force s0 s).free = s.free
      ∧ (statusTest force s0 s).pending = s.pending
      ∧ (statusTest force s0 s).link.bitErrors = s.link.bitErrors
      ∧ (statusTest force s0 s).link.txErrors = s.link.txErrors
      ∧ (statusTest force s0 s).link.rxErrors = s.link.rxErrors
      ∧ (statusTest force s0 s).link.txFail = s.link.txFail
      ∧ (statusTest force s0 s).link.lastDuplicate = s.link.lastDuplicate
      ∧ (statusTest force s0 s).link.heartbeat = s.link.heartbeat := by
  unfold statusTest
  refine ⟨?_, ?_, ?_, ?_, ?_, ?_, ?_, ?_, ?_, ?_, ?_, ?_, ?_, ?_, ?_, ?_, ?_, ?_, ?_, ?_, ?_, ?_, ?_⟩ <;>
    first | rfl | ((try dsimp only); (repeat' split) <;> first | rfl | simp | simp_all)

@[simp] theorem tick_frame (now : Instant) (s : State) :
    (tick now s).phase = s.phase
      ∧ (tick now s).straps = s.straps
      ∧ (tick now s).sensor = s.sensor
      ∧ (tick now s).reck = s.reck
      ∧ (tick now s).link = s.link
      ∧ (tick now s).peers = s.peers
      ∧ (tick now s).mark = s.mark
      ∧ (tick now s).store = s.store
      ∧ (tick now s).gradeUnit = s.gradeUnit
      ∧ (tick now s).claim = s.claim
      ∧ (tick now s).search = s.search
      ∧ (tick now s).zone = s.zone
      ∧ (tick now s).fault = s.fault
      ∧ (tick now s).port = s.port
      ∧ (tick now s).free = s.free
      ∧ (tick now s).pending = s.pending
      ∧ (tick now s).levels.alhHigh = s.levels.alhHigh
      ∧ (tick now s).levels.rstLow = s.levels.rstLow
      ∧ (tick now s).levels.porInLow = s.levels.porInLow := by
  unfold tick
  refine ⟨?_, ?_, ?_, ?_, ?_, ?_, ?_, ?_, ?_, ?_, ?_, ?_, ?_, ?_, ?_, ?_, ?_, ?_, ?_⟩ <;>
    rfl

end Sys2Proof.Machine
end

