-- ==== Sys2Proof/Laws/Sensing.lean ====
section
/-! SUPPORT. What the operations of the sensor family leave unchanged: one frame lemma for each. -/

set_option linter.unusedTactic false
set_option linter.unreachableTactic false
set_option linter.unnecessarySeqFocus false

namespace Sys2Proof.Machine

/-! ### Sensing -/

@[simp] theorem startCount_frame (p : Nat) (s : State) :
    (startCount p s).phase = s.phase
      ∧ (startCount p s).ms = s.ms
      ∧ (startCount p s).straps = s.straps
      ∧ (startCount p s).levels = s.levels
      ∧ (startCount p s).sensor = s.sensor
      ∧ (startCount p s).link = s.link
      ∧ (startCount p s).peers = s.peers
      ∧ (startCount p s).mark = s.mark
      ∧ (startCount p s).store = s.store
      ∧ (startCount p s).gradeUnit = s.gradeUnit
      ∧ (startCount p s).claim = s.claim
      ∧ (startCount p s).search = s.search
      ∧ (startCount p s).zone = s.zone
      ∧ (startCount p s).free = s.free
      ∧ (startCount p s).pending = s.pending
      ∧ (startCount p s).reck.held = s.reck.held
      ∧ (startCount p s).reck.turnOffset = s.reck.turnOffset
      ∧ (startCount p s).reck.theta0 = s.reck.theta0
      ∧ (startCount p s).reck.sigma = s.reck.sigma
      ∧ (startCount p s).reck.calibrated = s.reck.calibrated
      ∧ (startCount p s).reck.lambda = s.reck.lambda
      ∧ (startCount p s).reck.basis = s.reck.basis
      ∧ (startCount p s).reck.thetaScale = s.reck.thetaScale
      ∧ (startCount p s).reck.drift = s.reck.drift
      ∧ (startCount p s).fault.stopSet = s.fault.stopSet
      ∧ (startCount p s).port.setup = s.port.setup
      ∧ (startCount p s).port.frozen = s.port.frozen
      ∧ (startCount p s).port.tau = s.port.tau
      ∧ (startCount p s).port.span = s.port.span
      ∧ (startCount p s).port.slot = s.port.slot
      ∧ (startCount p s).port.shifted = s.port.shifted
      ∧ (startCount p s).port.lastEnd = s.port.lastEnd
      ∧ (startCount p s).port.changedPeers = s.port.changedPeers := by
  unfold startCount
  refine ⟨?_, ?_, ?_, ?_, ?_, ?_, ?_, ?_, ?_, ?_, ?_, ?_, ?_, ?_, ?_, ?_, ?_, ?_, ?_, ?_, ?_, ?_, ?_, ?_, ?_, ?_,
    ?_, ?_, ?_, ?_, ?_, ?_, ?_⟩ <;>
    simp

@[simp] theorem addStep_frame (d : Int) (p : Nat) (s : State) :
    (addStep d p s).phase = s.phase
      ∧ (addStep d p s).ms = s.ms
      ∧ (addStep d p s).straps = s.straps
      ∧ (addStep d p s).levels = s.levels
      ∧ (addStep d p s).sensor = s.sensor
      ∧ (addStep d p s).link = s.link
      ∧ (addStep d p s).peers = s.peers
      ∧ (addStep d p s).mark = s.mark
      ∧ (addStep d p s).store = s.store
      ∧ (addStep d p s).gradeUnit = s.gradeUnit
      ∧ (addStep d p s).claim = s.claim
      ∧ (addStep d p s).search = s.search
      ∧ (addStep d p s).zone = s.zone
      ∧ (addStep d p s).free = s.free
      ∧ (addStep d p s).pending = s.pending
      ∧ (addStep d p s).reck.started = s.reck.started
      ∧ (addStep d p s).reck.turnOffset = s.reck.turnOffset
      ∧ (addStep d p s).reck.theta0 = s.reck.theta0
      ∧ (addStep d p s).reck.sigma = s.reck.sigma
      ∧ (addStep d p s).reck.calibrated = s.reck.calibrated
      ∧ (addStep d p s).reck.lambda = s.reck.lambda
      ∧ (addStep d p s).reck.basis = s.reck.basis
      ∧ (addStep d p s).reck.thetaScale = s.reck.thetaScale
      ∧ (addStep d p s).reck.anchor = s.reck.anchor
      ∧ (addStep d p s).reck.atRest = s.reck.atRest
      ∧ (addStep d p s).reck.drift = s.reck.drift
      ∧ (addStep d p s).fault.stopSet = s.fault.stopSet
      ∧ (addStep d p s).port.setup = s.port.setup
      ∧ (addStep d p s).port.frozen = s.port.frozen
      ∧ (addStep d p s).port.tau = s.port.tau
      ∧ (addStep d p s).port.span = s.port.span
      ∧ (addStep d p s).port.slot = s.port.slot
      ∧ (addStep d p s).port.shifted = s.port.shifted
      ∧ (addStep d p s).port.lastEnd = s.port.lastEnd
      ∧ (addStep d p s).port.changedPeers = s.port.changedPeers := by
  unfold addStep
  refine ⟨?_, ?_, ?_, ?_, ?_, ?_, ?_, ?_, ?_, ?_, ?_, ?_, ?_, ?_, ?_, ?_, ?_, ?_, ?_, ?_, ?_, ?_, ?_, ?_, ?_, ?_,
    ?_, ?_, ?_, ?_, ?_, ?_, ?_, ?_, ?_⟩ <;>
    simp

@[simp] theorem clearRest_frame (s : State) :
    (clearRest s).phase = s.phase
      ∧ (clearRest s).ms = s.ms
      ∧ (clearRest s).straps = s.straps
      ∧ (clearRest s).levels = s.levels
      ∧ (clearRest s).sensor = s.sensor
      ∧ (clearRest s).link = s.link
      ∧ (clearRest s).peers = s.peers
      ∧ (clearRest s).mark = s.mark
      ∧ (clearRest s).gradeUnit = s.gradeUnit
      ∧ (clearRest s).claim = s.claim
      ∧ (clearRest s).search = s.search
      ∧ (clearRest s).zone = s.zone
      ∧ (clearRest s).fault = s.fault
      ∧ (clearRest s).port = s.port
      ∧ (clearRest s).free = s.free
      ∧ (clearRest s).pending = s.pending
      ∧ (clearRest s).reck.count = s.reck.count
      ∧ (clearRest s).reck.started = s.reck.started
      ∧ (clearRest s).reck.lastGood = s.reck.lastGood
      ∧ (clearRest s).reck.held = s.reck.held
      ∧ (clearRest s).reck.turnOffset = s.reck.turnOffset
      ∧ (clearRest s).reck.theta0 = s.reck.theta0
      ∧ (clearRest s).reck.sigma = s.reck.sigma
      ∧ (clearRest s).reck.calibrated = s.reck.calibrated
      ∧ (clearRest s).reck.lambda = s.reck.lambda
      ∧ (clearRest s).reck.basis = s.reck.basis
      ∧ (clearRest s).reck.theta = s.reck.theta
      ∧ (clearRest s).reck.saturated = s.reck.saturated
      ∧ (clearRest s).reck.thetaScale = s.reck.thetaScale
      ∧ (clearRest s).reck.anchor = s.reck.anchor
      ∧ (clearRest s).reck.drift = s.reck.drift
      ∧ (clearRest s).store.cellsA = s.store.cellsA
      ∧ (clearRest s).store.cellsB = s.store.cellsB
      ∧ (clearRest s).store.cellsCal = s.store.cellsCal
      ∧ (clearRest s).store.imageA = s.store.imageA
      ∧ (clearRest s).store.imageB = s.store.imageB
      ∧ (clearRest s).store.imageCal = s.store.imageCal
      ∧ (clearRest s).store.calSeq = s.store.calSeq
      ∧ (clearRest s).store.inFlight = s.store.inFlight
      ∧ (clearRest s).store.pendingSnap = s.store.pendingSnap
      ∧ (clearRest s).store.pendingCal = s.store.pendingCal
      ∧ (clearRest s).store.scanDone = s.store.scanDone := by
  unfold clearRest
  refine ⟨?_, ?_, ?_, ?_, ?_, ?_, ?_, ?_, ?_, ?_, ?_, ?_, ?_, ?_, ?_, ?_, ?_, ?_, ?_, ?_, ?_, ?_, ?_, ?_, ?_, ?_,
    ?_, ?_, ?_, ?_, ?_, ?_, ?_, ?_, ?_, ?_, ?_, ?_, ?_, ?_, ?_, ?_⟩ <;>
    rfl

@[simp] theorem setAnchor_frame (s : State) :
    (setAnchor s).phase = s.phase
      ∧ (setAnchor s).ms = s.ms
      ∧ (setAnchor s).straps = s.straps
      ∧ (setAnchor s).levels = s.levels
      ∧ (setAnchor s).sensor = s.sensor
      ∧ (setAnchor s).link = s.link
      ∧ (setAnchor s).peers = s.peers
      ∧ (setAnchor s).mark = s.mark
      ∧ (setAnchor s).store = s.store
      ∧ (setAnchor s).gradeUnit = s.gradeUnit
      ∧ (setAnchor s).claim = s.claim
      ∧ (setAnchor s).search = s.search
      ∧ (setAnchor s).zone = s.zone
      ∧ (setAnchor s).fault = s.fault
      ∧ (setAnchor s).port = s.port
      ∧ (setAnchor s).free = s.free
      ∧ (setAnchor s).pending = s.pending
      ∧ (setAnchor s).reck.count = s.reck.count
      ∧ (setAnchor s).reck.started = s.reck.started
      ∧ (setAnchor s).reck.lastGood = s.reck.lastGood
      ∧ (setAnchor s).reck.held = s.reck.held
      ∧ (setAnchor s).reck.turnOffset = s.reck.turnOffset
      ∧ (setAnchor s).reck.theta0 = s.reck.theta0
      ∧ (setAnchor s).reck.sigma = s.reck.sigma
      ∧ (setAnchor s).reck.calibrated = s.reck.calibrated
      ∧ (setAnchor s).reck.lambda = s.reck.lambda
      ∧ (setAnchor s).reck.basis = s.reck.basis
      ∧ (setAnchor s).reck.theta = s.reck.theta
      ∧ (setAnchor s).reck.saturated = s.reck.saturated
      ∧ (setAnchor s).reck.thetaScale = s.reck.thetaScale
      ∧ (setAnchor s).reck.atRest = s.reck.atRest
      ∧ (setAnchor s).reck.drift = s.reck.drift := by
  unfold setAnchor
  refine ⟨?_, ?_, ?_, ?_, ?_, ?_, ?_, ?_, ?_, ?_, ?_, ?_, ?_, ?_, ?_, ?_, ?_, ?_, ?_, ?_, ?_, ?_, ?_, ?_, ?_, ?_,
    ?_, ?_, ?_, ?_, ?_, ?_⟩ <;>
    rfl

@[simp] theorem evaluateRest_frame (afterFailure : Bool) (s : State) :
    (evaluateRest afterFailure s).phase = s.phase
      ∧ (evaluateRest afterFailure s).ms = s.ms
      ∧ (evaluateRest afterFailure s).straps = s.straps
      ∧ (evaluateRest afterFailure s).levels = s.levels
      ∧ (evaluateRest afterFailure s).sensor = s.sensor
      ∧ (evaluateRest afterFailure s).link = s.link
      ∧ (evaluateRest afterFailure s).peers = s.peers
      ∧ (evaluateRest afterFailure s).mark = s.mark
      ∧ (evaluateRest afterFailure s).gradeUnit = s.gradeUnit
      ∧ (evaluateRest afterFailure s).claim = s.claim
      ∧ (evaluateRest afterFailure s).search = s.search
      ∧ (evaluateRest afterFailure s).zone = s.zone
      ∧ (evaluateRest afterFailure s).fault = s.fault
      ∧ (evaluateRest afterFailure s).port = s.port
      ∧ (evaluateRest afterFailure s).free = s.free
      ∧ (evaluateRest afterFailure s).pending = s.pending
      ∧ (evaluateRest afterFailure s).reck.count = s.reck.count
      ∧ (evaluateRest afterFailure s).reck.started = s.reck.started
      ∧ (evaluateRest afterFailure s).reck.lastGood = s.reck.lastGood
      ∧ (evaluateRest afterFailure s).reck.held = s.reck.held
      ∧ (evaluateRest afterFailure s).reck.turnOffset = s.reck.turnOffset
      ∧ (evaluateRest afterFailure s).reck.theta0 = s.reck.theta0
      ∧ (evaluateRest afterFailure s).reck.sigma = s.reck.sigma
      ∧ (evaluateRest afterFailure s).reck.calibrated = s.reck.calibrated
      ∧ (evaluateRest afterFailure s).reck.lambda = s.reck.lambda
      ∧ (evaluateRest afterFailure s).reck.basis = s.reck.basis
      ∧ (evaluateRest afterFailure s).reck.theta = s.reck.theta
      ∧ (evaluateRest afterFailure s).reck.saturated = s.reck.saturated
      ∧ (evaluateRest afterFailure s).reck.thetaScale = s.reck.thetaScale
      ∧ (evaluateRest afterFailure s).reck.drift = s.reck.drift
      ∧ (evaluateRest afterFailure s).store.cellsA = s.store.cellsA
      ∧ (evaluateRest afterFailure s).store.cellsB = s.store.cellsB
      ∧ (evaluateRest afterFailure s).store.cellsCal = s.store.cellsCal
      ∧ (evaluateRest afterFailure s).store.imageA = s.store.imageA
      ∧ (evaluateRest afterFailure s).store.imageB = s.store.imageB
      ∧ (evaluateRest afterFailure s).store.imageCal = s.store.imageCal
      ∧ (evaluateRest afterFailure s).store.calSeq = s.store.calSeq
      ∧ (evaluateRest afterFailure s).store.inFlight = s.store.inFlight
      ∧ (evaluateRest afterFailure s).store.pendingSnap = s.store.pendingSnap
      ∧ (evaluateRest afterFailure s).store.pendingCal = s.store.pendingCal
      ∧ (evaluateRest afterFailure s).store.scanDone = s.store.scanDone := by
  unfold evaluateRest
  refine ⟨?_, ?_, ?_, ?_, ?_, ?_, ?_, ?_, ?_, ?_, ?_, ?_, ?_, ?_, ?_, ?_, ?_, ?_, ?_, ?_, ?_, ?_, ?_, ?_, ?_, ?_,
    ?_, ?_, ?_, ?_, ?_, ?_, ?_, ?_, ?_, ?_, ?_, ?_, ?_, ?_, ?_⟩ <;>
    (repeat' split) <;> rfl

@[simp] theorem takeGood_frame (p : Nat) (s : State) :
    (takeGood p s).phase = s.phase
      ∧ (takeGood p s).ms = s.ms
      ∧ (takeGood p s).straps = s.straps
      ∧ (takeGood p s).levels = s.levels
      ∧ (takeGood p s).reck = s.reck
      ∧ (takeGood p s).link = s.link
      ∧ (takeGood p s).peers = s.peers
      ∧ (takeGood p s).mark = s.mark
      ∧ (takeGood p s).store = s.store
      ∧ (takeGood p s).gradeUnit = s.gradeUnit
      ∧ (takeGood p s).claim = s.claim
      ∧ (takeGood p s).search = s.search
      ∧ (takeGood p s).zone = s.zone
      ∧ (takeGood p s).fault = s.fault
      ∧ (takeGood p s).port = s.port
      ∧ (takeGood p s).free = s.free
      ∧ (takeGood p s).pending = s.pending
      ∧ (takeGood p s).sensor.latestScale = s.sensor.latestScale
      ∧ (takeGood p s).sensor.badScale = s.sensor.badScale
      ∧ (takeGood p s).sensor.flagLevel = s.sensor.flagLevel := by
  unfold takeGood
  refine ⟨?_, ?_, ?_, ?_, ?_, ?_, ?_, ?_, ?_, ?_, ?_, ?_, ?_, ?_, ?_, ?_, ?_, ?_, ?_, ?_⟩ <;>
    rfl

@[simp] theorem jumpTest_frame (d : Int) (s : State) :
    (jumpTest d s).ms = s.ms
      ∧ (jumpTest d s).straps = s.straps
      ∧ (jumpTest d s).levels = s.levels
      ∧ (jumpTest d s).sensor = s.sensor
      ∧ (jumpTest d s).zone = s.zone
      ∧ (jumpTest d s).free = s.free
      ∧ (jumpTest d s).pending = s.pending
      ∧ (jumpTest d s).reck.count = s.reck.count
      ∧ (jumpTest d s).reck.started = s.reck.started
      ∧ (jumpTest d s).reck.lastGood = s.reck.lastGood
      ∧ (jumpTest d s).reck.held = s.reck.held
      ∧ (jumpTest d s).reck.turnOffset = s.reck.turnOffset
      ∧ (jumpTest d s).reck.theta0 = s.reck.theta0
      ∧ (jumpTest d s).reck.sigma = s.reck.sigma
      ∧ (jumpTest d s).reck.calibrated = s.reck.calibrated
      ∧ (jumpTest d s).reck.thetaScale = s.reck.thetaScale
      ∧ (jumpTest d s).reck.anchor = s.reck.anchor
      ∧ (jumpTest d s).reck.atRest = s.reck.atRest
      ∧ (jumpTest d s).link.bitErrors = s.link.bitErrors
      ∧ (jumpTest d s).link.txErrors = s.link.txErrors
      ∧ (jumpTest d s).link.rxErrors = s.link.rxErrors
      ∧ (jumpTest d s).link.txFail = s.link.txFail
      ∧ (jumpTest d s).link.lastDuplicate = s.link.lastDuplicate
      ∧ (jumpTest d s).link.heartbeat = s.link.heartbeat
      ∧ (jumpTest d s).peers.entries = s.peers.entries
      ∧ (jumpTest d s).peers.digest = s.peers.digest
      ∧ (jumpTest d s).mark.number = s.mark.number
      ∧ (jumpTest d s).mark.reported = s.mark.reported
      ∧ (jumpTest d s).mark.quiet = s.mark.quiet
      ∧ (jumpTest d s).mark.captureRequested = s.mark.captureRequested
      ∧ (jumpTest d s).store.cellsA = s.store.cellsA
      ∧ (jumpTest d s).store.cellsB = s.store.cellsB
      ∧ (jumpTest d s).store.cellsCal = s.store.cellsCal
      ∧ (jumpTest d s).store.imageA = s.store.imageA
      ∧ (jumpTest d s).store.imageB = s.store.imageB
      ∧ (jumpTest d s).store.imageCal = s.store.imageCal
      ∧ (jumpTest d s).store.calSeq = s.store.calSeq
      ∧ (jumpTest d s).store.inFlight = s.store.inFlight
      ∧ (jumpTest d s).store.scanDone = s.store.scanDone
      ∧ (jumpTest d s).gradeUnit.chosen = s.gradeUnit.chosen
      ∧ (jumpTest d s).claim.purpose = s.claim.purpose
      ∧ (jumpTest d s).search.passes = s.search.passes
      ∧ (jumpTest d s).search.level = s.search.level
      ∧ (jumpTest d s).search.total = s.search.total
      ∧ (jumpTest d s).search.plus = s.search.plus
      ∧ (jumpTest d s).port.setup = s.port.setup
      ∧ (jumpTest d s).port.frozen = s.port.frozen
      ∧ (jumpTest d s).port.tau = s.port.tau
      ∧ (jumpTest d s).port.span = s.port.span
      ∧ (jumpTest d s).port.slot = s.port.slot
      ∧ (jumpTest d s).port.shifted = s.port.shifted
      ∧ (jumpTest d s).port.lastEnd = s.port.lastEnd
      ∧ (jumpTest d s).port.changedPeers = s.port.changedPeers := by
  unfold jumpTest
  refine ⟨?_, ?_, ?_, ?_, ?_, ?_, ?_, ?_, ?_, ?_, ?_, ?_, ?_, ?_, ?_, ?_, ?_, ?_, ?_, ?_, ?_, ?_, ?_, ?_, ?_, ?_,
    ?_, ?_, ?_, ?_, ?_, ?_, ?_, ?_, ?_, ?_, ?_, ?_, ?_, ?_, ?_, ?_, ?_, ?_, ?_, ?_, ?_, ?_, ?_, ?_, ?_, ?_, ?_⟩ <;>
    first | rfl | ((try dsimp only); (repeat' split) <;> first | rfl | simp | simp_all)

@[simp] theorem overflowTest_frame (wasHeld : Bool) (sum : Int) (s : State) :
    (overflowTest wasHeld sum s).ms = s.ms
      ∧ (overflowTest wasHeld sum s).straps = s.straps
      ∧ (overflowTest wasHeld sum s).levels = s.levels
      ∧ (overflowTest wasHeld sum s).sensor = s.sensor
      ∧ (overflowTest wasHeld sum s).zone = s.zone
      ∧ (overflowTest wasHeld sum s).free = s.free
      ∧ (overflowTest wasHeld sum s).pending = s.pending
      ∧ (overflowTest wasHeld sum s).reck.count = s.reck.count
      ∧ (overflowTest wasHeld sum s).reck.started = s.reck.started
      ∧ (overflowTest wasHeld sum s).reck.lastGood = s.reck.lastGood
      ∧ (overflowTest wasHeld sum s).reck.held = s.reck.held
      ∧ (overflowTest wasHeld sum s).reck.turnOffset = s.reck.turnOffset
      ∧ (overflowTest wasHeld sum s).reck.theta0 = s.reck.theta0
      ∧ (overflowTest wasHeld sum s).reck.sigma = s.reck.sigma
      ∧ (overflowTest wasHeld sum s).reck.calibrated = s.reck.calibrated
      ∧ (overflowTest wasHeld sum s).reck.thetaScale = s.reck.thetaScale
      ∧ (overflowTest wasHeld sum s).reck.anchor = s.reck.anchor
      ∧ (overflowTest wasHeld sum s).reck.atRest = s.reck.atRest
      ∧ (overflowTest wasHeld sum s).link.bitErrors = s.link.bitErrors
      ∧ (overflowTest wasHeld sum s).link.txErrors = s.link.txErrors
      ∧ (overflowTest wasHeld sum s).link.rxErrors = s.link.rxErrors
      ∧ (overflowTest wasHeld sum s).link.txFail = s.link.txFail
      ∧ (overflowTest wasHeld sum s).link.lastDuplicate = s.link.lastDuplicate
      ∧ (overflowTest wasHeld sum s).link.heartbeat = s.link.heartbeat
      ∧ (overflowTest wasHeld sum s).peers.entries = s.peers.entries
      ∧ (overflowTest wasHeld sum s).peers.digest = s.peers.digest
      ∧ (overflowTest wasHeld sum s).mark.number = s.mark.number
      ∧ (overflowTest wasHeld sum s).mark.reported = s.mark.reported
      ∧ (overflowTest wasHeld sum s).mark.quiet = s.mark.quiet
      ∧ (overflowTest wasHeld sum s).mark.captureRequested = s.mark.captureRequested
      ∧ (overflowTest wasHeld sum s).store.cellsA = s.store.cellsA
      ∧ (overflowTest wasHeld sum s).store.cellsB = s.store.cellsB
      ∧ (overflowTest wasHeld sum s).store.cellsCal = s.store.cellsCal
      ∧ (overflowTest wasHeld sum s).store.imageA = s.store.imageA
      ∧ (overflowTest wasHeld sum s).store.imageB = s.store.imageB
      ∧ (overflowTest wasHeld sum s).store.imageCal = s.store.imageCal
      ∧ (overflowTest wasHeld sum s).store.calSeq = s.store.calSeq
      ∧ (overflowTest wasHeld sum s).store.inFlight = s.store.inFlight
      ∧ (overflowTest wasHeld sum s).store.scanDone = s.store.scanDone
      ∧ (overflowTest wasHeld sum s).gradeUnit.chosen = s.gradeUnit.chosen
      ∧ (overflowTest wasHeld sum s).claim.purpose = s.claim.purpose
      ∧ (overflowTest wasHeld sum s).search.passes = s.search.passes
      ∧ (overflowTest wasHeld sum s).search.level = s.search.level
      ∧ (overflowTest wasHeld sum s).search.total = s.search.total
      ∧ (overflowTest wasHeld sum s).search.plus = s.search.plus
      ∧ (overflowTest wasHeld sum s).port.setup = s.port.setup
      ∧ (overflowTest wasHeld sum s).port.frozen = s.port.frozen
      ∧ (overflowTest wasHeld sum s).port.tau = s.port.tau
      ∧ (overflowTest wasHeld sum s).port.span = s.port.span
      ∧ (overflowTest wasHeld sum s).port.slot = s.port.slot
      ∧ (overflowTest wasHeld sum s).port.shifted = s.port.shifted
      ∧ (overflowTest wasHeld sum s).port.lastEnd = s.port.lastEnd
      ∧ (overflowTest wasHeld sum s).port.changedPeers = s.port.changedPeers := by
  unfold overflowTest
  refine ⟨?_, ?_, ?_, ?_, ?_, ?_, ?_, ?_, ?_, ?_, ?_, ?_, ?_, ?_, ?_, ?_, ?_, ?_, ?_, ?_, ?_, ?_, ?_, ?_, ?_, ?_,
    ?_, ?_, ?_, ?_, ?_, ?_, ?_, ?_, ?_, ?_, ?_, ?_, ?_, ?_, ?_, ?_, ?_, ?_, ?_, ?_, ?_, ?_, ?_, ?_, ?_, ?_, ?_⟩ <;>
    first | rfl | ((try dsimp only); (repeat' split) <;> first | rfl | simp | simp_all)

@[simp] theorem countGood_frame (p : Nat) (s : State) :
    (countGood p s).ms = s.ms
      ∧ (countGood p s).straps = s.straps
      ∧ (countGood p s).levels = s.levels
      ∧ (countGood p s).zone = s.zone
      ∧ (countGood p s).free = s.free
      ∧ (countGood p s).pending = s.pending
      ∧ (countGood p s).sensor.latestScale = s.sensor.latestScale
      ∧ (countGood p s).sensor.badScale = s.sensor.badScale
      ∧ (countGood p s).sensor.flagLevel = s.sensor.flagLevel
      ∧ (countGood p s).reck.turnOffset = s.reck.turnOffset
      ∧ (countGood p s).reck.theta0 = s.reck.theta0
      ∧ (countGood p s).reck.sigma = s.reck.sigma
      ∧ (countGood p s).reck.calibrated = s.reck.calibrated
      ∧ (countGood p s).reck.thetaScale = s.reck.thetaScale
      ∧ (countGood p s).link.bitErrors = s.link.bitErrors
      ∧ (countGood p s).link.txErrors = s.link.txErrors
      ∧ (countGood p s).link.rxErrors = s.link.rxErrors
      ∧ (countGood p s).link.txFail = s.link.txFail
      ∧ (countGood p s).link.lastDuplicate = s.link.lastDuplicate
      ∧ (countGood p s).link.heartbeat = s.link.heartbeat
      ∧ (countGood p s).peers.entries = s.peers.entries
      ∧ (countGood p s).peers.digest = s.peers.digest
      ∧ (countGood p s).mark.number = s.mark.number
      ∧ (countGood p s).mark.reported = s.mark.reported
      ∧ (countGood p s).mark.quiet = s.mark.quiet
      ∧ (countGood p s).mark.captureRequested = s.mark.captureRequested
      ∧ (countGood p s).store.cellsA = s.store.cellsA
      ∧ (countGood p s).store.cellsB = s.store.cellsB
      ∧ (countGood p s).store.cellsCal = s.store.cellsCal
      ∧ (countGood p s).store.imageA = s.store.imageA
      ∧ (countGood p s).store.imageB = s.store.imageB
      ∧ (countGood p s).store.imageCal = s.store.imageCal
      ∧ (countGood p s).store.calSeq = s.store.calSeq
      ∧ (countGood p s).store.inFlight = s.store.inFlight
      ∧ (countGood p s).store.scanDone = s.store.scanDone
      ∧ (countGood p s).gradeUnit.chosen = s.gradeUnit.chosen
      ∧ (countGood p s).claim.purpose = s.claim.purpose
      ∧ (countGood p s).search.passes = s.search.passes
      ∧ (countGood p s).search.level = s.search.level
      ∧ (countGood p s).search.total = s.search.total
      ∧ (countGood p s).search.plus = s.search.plus
      ∧ (countGood p s).port.setup = s.port.setup
      ∧ (countGood p s).port.frozen = s.port.frozen
      ∧ (countGood p s).port.tau = s.port.tau
      ∧ (countGood p s).port.span = s.port.span
      ∧ (countGood p s).port.slot = s.port.slot
      ∧ (countGood p s).port.shifted = s.port.shifted
      ∧ (countGood p s).port.lastEnd = s.port.lastEnd
      ∧ (countGood p s).port.changedPeers = s.port.changedPeers := by
  unfold countGood
  refine ⟨?_, ?_, ?_, ?_, ?_, ?_, ?_, ?_, ?_, ?_, ?_, ?_, ?_, ?_, ?_, ?_, ?_, ?_, ?_, ?_, ?_, ?_, ?_, ?_, ?_, ?_,
    ?_, ?_, ?_, ?_, ?_, ?_, ?_, ?_, ?_, ?_, ?_, ?_, ?_, ?_, ?_, ?_, ?_, ?_, ?_, ?_, ?_, ?_, ?_⟩ <;>
    first | rfl | ((try dsimp only); (repeat' split) <;> first | rfl | simp | simp_all)

@[simp] theorem flagSample_frame (level : Bool) (s : State) :
    (flagSample level s).phase = s.phase
      ∧ (flagSample level s).ms = s.ms
      ∧ (flagSample level s).straps = s.straps
      ∧ (flagSample level s).levels = s.levels
      ∧ (flagSample level s).reck = s.reck
      ∧ (flagSample level s).link = s.link
      ∧ (flagSample level s).peers = s.peers
      ∧ (flagSample level s).mark = s.mark
      ∧ (flagSample level s).store = s.store
      ∧ (flagSample level s).gradeUnit = s.gradeUnit
      ∧ (flagSample level s).claim = s.claim
      ∧ (flagSample level s).zone = s.zone
      ∧ (flagSample level s).fault = s.fault
      ∧ (flagSample level s).port = s.port
      ∧ (flagSample level s).free = s.free
      ∧ (flagSample level s).pending = s.pending
      ∧ (flagSample level s).sensor.latestMotor = s.sensor.latestMotor
      ∧ (flagSample level s).sensor.badMotor = s.sensor.badMotor
      ∧ (flagSample level s).sensor.latestScale = s.sensor.latestScale
      ∧ (flagSample level s).sensor.badScale = s.sensor.badScale
      ∧ (flagSample level s).search.sub = s.search.sub
      ∧ (flagSample level s).search.leadHold = s.search.leadHold
      ∧ (flagSample level s).search.outcome = s.search.outcome
      ∧ (flagSample level s).search.passes = s.search.passes
      ∧ (flagSample level s).search.level = s.search.level
      ∧ (flagSample level s).search.total = s.search.total
      ∧ (flagSample level s).search.plus = s.search.plus
      ∧ (flagSample level s).search.stage = s.search.stage := by
  unfold flagSample
  refine ⟨?_, ?_, ?_, ?_, ?_, ?_, ?_, ?_, ?_, ?_, ?_, ?_, ?_, ?_, ?_, ?_, ?_, ?_, ?_, ?_, ?_, ?_, ?_, ?_, ?_, ?_,
    ?_, ?_⟩ <;>
    first | rfl | ((try dsimp only); (repeat' split) <;> first | rfl | simp | simp_all)

@[simp] theorem answerCapture_frame (c : Capture) (s : State) :
    (answerCapture c s).ms = s.ms
      ∧ (answerCapture c s).straps = s.straps
      ∧ (answerCapture c s).levels = s.levels
      ∧ (answerCapture c s).sensor = s.sensor
      ∧ (answerCapture c s).zone = s.zone
      ∧ (answerCapture c s).pending = s.pending
      ∧ (answerCapture c s).reck.started = s.reck.started
      ∧ (answerCapture c s).reck.lastGood = s.reck.lastGood
      ∧ (answerCapture c s).reck.theta0 = s.reck.theta0
      ∧ (answerCapture c s).reck.sigma = s.reck.sigma
      ∧ (answerCapture c s).reck.calibrated = s.reck.calibrated
      ∧ (answerCapture c s).reck.thetaScale = s.reck.thetaScale
      ∧ (answerCapture c s).reck.atRest = s.reck.atRest
      ∧ (answerCapture c s).link.bitErrors = s.link.bitErrors
      ∧ (answerCapture c s).link.txErrors = s.link.txErrors
      ∧ (answerCapture c s).link.rxErrors = s.link.rxErrors
      ∧ (answerCapture c s).link.txFail = s.link.txFail
      ∧ (answerCapture c s).link.lastDuplicate = s.link.lastDuplicate
      ∧ (answerCapture c s).link.heartbeat = s.link.heartbeat
      ∧ (answerCapture c s).peers.entries = s.peers.entries
      ∧ (answerCapture c s).peers.digest = s.peers.digest
      ∧ (answerCapture c s).mark.number = s.mark.number
      ∧ (answerCapture c s).mark.reported = s.mark.reported
      ∧ (answerCapture c s).mark.quiet = s.mark.quiet
      ∧ (answerCapture c s).store.cellsA = s.store.cellsA
      ∧ (answerCapture c s).store.cellsB = s.store.cellsB
      ∧ (answerCapture c s).store.cellsCal = s.store.cellsCal
      ∧ (answerCapture c s).store.imageA = s.store.imageA
      ∧ (answerCapture c s).store.imageB = s.store.imageB
      ∧ (answerCapture c s).store.imageCal = s.store.imageCal
      ∧ (answerCapture c s).store.calSeq = s.store.calSeq
      ∧ (answerCapture c s).store.inFlight = s.store.inFlight
      ∧ (answerCapture c s).store.scanDone = s.store.scanDone
      ∧ (answerCapture c s).gradeUnit.chosen = s.gradeUnit.chosen
      ∧ (answerCapture c s).claim.purpose = s.claim.purpose
      ∧ (answerCapture c s).search.passes = s.search.passes
      ∧ (answerCapture c s).search.level = s.search.level
      ∧ (answerCapture c s).search.total = s.search.total
      ∧ (answerCapture c s).search.plus = s.search.plus
      ∧ (answerCapture c s).port.setup = s.port.setup
      ∧ (answerCapture c s).port.frozen = s.port.frozen
      ∧ (answerCapture c s).port.tau = s.port.tau
      ∧ (answerCapture c s).port.span = s.port.span
      ∧ (answerCapture c s).port.slot = s.port.slot
      ∧ (answerCapture c s).port.shifted = s.port.shifted
      ∧ (answerCapture c s).port.lastEnd = s.port.lastEnd
      ∧ (answerCapture c s).port.changedPeers = s.port.changedPeers := by
  unfold answerCapture
  refine ⟨?_, ?_, ?_, ?_, ?_, ?_, ?_, ?_, ?_, ?_, ?_, ?_, ?_, ?_, ?_, ?_, ?_, ?_, ?_, ?_, ?_, ?_, ?_, ?_, ?_, ?_,
    ?_, ?_, ?_, ?_, ?_, ?_, ?_, ?_, ?_, ?_, ?_, ?_, ?_, ?_, ?_, ?_, ?_, ?_, ?_, ?_, ?_⟩ <;>
    first | rfl | ((try dsimp only); (repeat' split) <;> first | rfl | simp | simp_all)

@[simp] theorem directionCheck_frame (s : State) :
    (directionCheck s).ms = s.ms
      ∧ (directionCheck s).straps = s.straps
      ∧ (directionCheck s).levels = s.levels
      ∧ (directionCheck s).sensor = s.sensor
      ∧ (directionCheck s).zone = s.zone
      ∧ (directionCheck s).free = s.free
      ∧ (directionCheck s).pending = s.pending
      ∧ (directionCheck s).reck.count = s.reck.count
      ∧ (directionCheck s).reck.started = s.reck.started
      ∧ (directionCheck s).reck.lastGood = s.reck.lastGood
      ∧ (directionCheck s).reck.held = s.reck.held
      ∧ (directionCheck s).reck.turnOffset = s.reck.turnOffset
      ∧ (directionCheck s).reck.theta0 = s.reck.theta0
      ∧ (directionCheck s).reck.sigma = s.reck.sigma
      ∧ (directionCheck s).reck.calibrated = s.reck.calibrated
      ∧ (directionCheck s).reck.thetaScale = s.reck.thetaScale
      ∧ (directionCheck s).reck.anchor = s.reck.anchor
      ∧ (directionCheck s).reck.atRest = s.reck.atRest
      ∧ (directionCheck s).link.bitErrors = s.link.bitErrors
      ∧ (directionCheck s).link.txErrors = s.link.txErrors
      ∧ (directionCheck s).link.rxErrors = s.link.rxErrors
      ∧ (directionCheck s).link.txFail = s.link.txFail
      ∧ (directionCheck s).link.lastDuplicate = s.link.lastDuplicate
      ∧ (directionCheck s).link.heartbeat = s.link.heartbeat
      ∧ (directionCheck s).peers.entries = s.peers.entries
      ∧ (directionCheck s).peers.digest = s.peers.digest
      ∧ (directionCheck s).mark.number = s.mark.number
      ∧ (directionCheck s).mark.reported = s.mark.reported
      ∧ (directionCheck s).mark.quiet = s.mark.quiet
      ∧ (directionCheck s).mark.captureRequested = s.mark.captureRequested
      ∧ (directionCheck s).store.cellsA = s.store.cellsA
      ∧ (directionCheck s).store.cellsB = s.store.cellsB
      ∧ (directionCheck s).store.cellsCal = s.store.cellsCal
      ∧ (directionCheck s).store.imageA = s.store.imageA
      ∧ (directionCheck s).store.imageB = s.store.imageB
      ∧ (directionCheck s).store.imageCal = s.store.imageCal
      ∧ (directionCheck s).store.calSeq = s.store.calSeq
      ∧ (directionCheck s).store.inFlight = s.store.inFlight
      ∧ (directionCheck s).store.scanDone = s.store.scanDone
      ∧ (directionCheck s).gradeUnit.chosen = s.gradeUnit.chosen
      ∧ (directionCheck s).claim.purpose = s.claim.purpose
      ∧ (directionCheck s).search.passes = s.search.passes
      ∧ (directionCheck s).search.level = s.search.level
      ∧ (directionCheck s).search.total = s.search.total
      ∧ (directionCheck s).search.plus = s.search.plus
      ∧ (directionCheck s).port.setup = s.port.setup
      ∧ (directionCheck s).port.frozen = s.port.frozen
      ∧ (directionCheck s).port.tau = s.port.tau
      ∧ (directionCheck s).port.span = s.port.span
      ∧ (directionCheck s).port.slot = s.port.slot
      ∧ (directionCheck s).port.shifted = s.port.shifted
      ∧ (directionCheck s).port.lastEnd = s.port.lastEnd
      ∧ (directionCheck s).port.changedPeers = s.port.changedPeers := by
  unfold directionCheck
  refine ⟨?_, ?_, ?_, ?_, ?_, ?_, ?_, ?_, ?_, ?_, ?_, ?_, ?_, ?_, ?_, ?_, ?_, ?_, ?_, ?_, ?_, ?_, ?_, ?_, ?_, ?_,
    ?_, ?_, ?_, ?_, ?_, ?_, ?_, ?_, ?_, ?_, ?_, ?_, ?_, ?_, ?_, ?_, ?_, ?_, ?_, ?_, ?_, ?_, ?_, ?_, ?_, ?_, ?_⟩ <;>
    first | rfl | ((try dsimp only); (repeat' split) <;> first | rfl | simp | simp_all)

@[simp] theorem stillnessCheck_frame (s : State) :
    (stillnessCheck s).ms = s.ms
      ∧ (stillnessCheck s).straps = s.straps
      ∧ (stillnessCheck s).levels = s.levels
      ∧ (stillnessCheck s).sensor = s.sensor
      ∧ (stillnessCheck s).zone = s.zone
      ∧ (stillnessCheck s).free = s.free
      ∧ (stillnessCheck s).pending = s.pending
      ∧ (stillnessCheck s).reck.count = s.reck.count
      ∧ (stillnessCheck s).reck.started = s.reck.started
      ∧ (stillnessCheck s).reck.lastGood = s.reck.lastGood
      ∧ (stillnessCheck s).reck.held = s.reck.held
      ∧ (stillnessCheck s).reck.turnOffset = s.reck.turnOffset
      ∧ (stillnessCheck s).reck.theta0 = s.reck.theta0
      ∧ (stillnessCheck s).reck.sigma = s.reck.sigma
      ∧ (stillnessCheck s).reck.calibrated = s.reck.calibrated
      ∧ (stillnessCheck s).reck.thetaScale = s.reck.thetaScale
      ∧ (stillnessCheck s).reck.anchor = s.reck.anchor
      ∧ (stillnessCheck s).reck.atRest = s.reck.atRest
      ∧ (stillnessCheck s).link.bitErrors = s.link.bitErrors
      ∧ (stillnessCheck s).link.txErrors = s.link.txErrors
      ∧ (stillnessCheck s).link.rxErrors = s.link.rxErrors
      ∧ (stillnessCheck s).link.txFail = s.link.txFail
      ∧ (stillnessCheck s).link.lastDuplicate = s.link.lastDuplicate
      ∧ (stillnessCheck s).link.heartbeat = s.link.heartbeat
      ∧ (stillnessCheck s).peers.entries = s.peers.entries
      ∧ (stillnessCheck s).peers.digest = s.peers.digest
      ∧ (stillnessCheck s).mark.number = s.mark.number
      ∧ (stillnessCheck s).mark.reported = s.mark.reported
      ∧ (stillnessCheck s).mark.quiet = s.mark.quiet
      ∧ (stillnessCheck s).mark.captureRequested = s.mark.captureRequested
      ∧ (stillnessCheck s).store.cellsA = s.store.cellsA
      ∧ (stillnessCheck s).store.cellsB = s.store.cellsB
      ∧ (stillnessCheck s).store.cellsCal = s.store.cellsCal
      ∧ (stillnessCheck s).store.imageA = s.store.imageA
      ∧ (stillnessCheck s).store.imageB = s.store.imageB
      ∧ (stillnessCheck s).store.imageCal = s.store.imageCal
      ∧ (stillnessCheck s).store.calSeq = s.store.calSeq
      ∧ (stillnessCheck s).store.inFlight = s.store.inFlight
      ∧ (stillnessCheck s).store.scanDone = s.store.scanDone
      ∧ (stillnessCheck s).gradeUnit.chosen = s.gradeUnit.chosen
      ∧ (stillnessCheck s).claim.purpose = s.claim.purpose
      ∧ (stillnessCheck s).search.passes = s.search.passes
      ∧ (stillnessCheck s).search.level = s.search.level
      ∧ (stillnessCheck s).search.total = s.search.total
      ∧ (stillnessCheck s).search.plus = s.search.plus
      ∧ (stillnessCheck s).port.setup = s.port.setup
      ∧ (stillnessCheck s).port.frozen = s.port.frozen
      ∧ (stillnessCheck s).port.tau = s.port.tau
      ∧ (stillnessCheck s).port.span = s.port.span
      ∧ (stillnessCheck s).port.slot = s.port.slot
      ∧ (stillnessCheck s).port.shifted = s.port.shifted
      ∧ (stillnessCheck s).port.lastEnd = s.port.lastEnd
      ∧ (stillnessCheck s).port.changedPeers = s.port.changedPeers := by
  unfold stillnessCheck
  refine ⟨?_, ?_, ?_, ?_, ?_, ?_, ?_, ?_, ?_, ?_, ?_, ?_, ?_, ?_, ?_, ?_, ?_, ?_, ?_, ?_, ?_, ?_, ?_, ?_, ?_, ?_,
    ?_, ?_, ?_, ?_, ?_, ?_, ?_, ?_, ?_, ?_, ?_, ?_, ?_, ?_, ?_, ?_, ?_, ?_, ?_, ?_, ?_, ?_, ?_, ?_, ?_, ?_, ?_⟩ <;>
    first | rfl | ((try dsimp only); (repeat' split) <;> first | rfl | simp | simp_all)

@[simp] theorem goodMotorSample_frame (p : Nat) (flag : Bool) (s : State) :
    (goodMotorSample p flag s).ms = s.ms
      ∧ (goodMotorSample p flag s).straps = s.straps
      ∧ (goodMotorSample p flag s).levels = s.levels
      ∧ (goodMotorSample p flag s).zone = s.zone
      ∧ (goodMotorSample p flag s).pending = s.pending
      ∧ (goodMotorSample p flag s).sensor.latestScale = s.sensor.latestScale
      ∧ (goodMotorSample p flag s).sensor.badScale = s.sensor.badScale
      ∧ (goodMotorSample p flag s).reck.theta0 = s.reck.theta0
      ∧ (goodMotorSample p flag s).reck.sigma = s.reck.sigma
      ∧ (goodMotorSample p flag s).reck.calibrated = s.reck.calibrated
      ∧ (goodMotorSample p flag s).reck.thetaScale = s.reck.thetaScale
      ∧ (goodMotorSample p flag s).link.bitErrors = s.link.bitErrors
      ∧ (goodMotorSample p flag s).link.txErrors = s.link.txErrors
      ∧ (goodMotorSample p flag s).link.rxErrors = s.link.rxErrors
      ∧ (goodMotorSample p flag s).link.txFail = s.link.txFail
      ∧ (goodMotorSample p flag s).link.lastDuplicate = s.link.lastDuplicate
      ∧ (goodMotorSample p flag s).link.heartbeat = s.link.heartbeat
      ∧ (goodMotorSample p flag s).peers.entries = s.peers.entries
      ∧ (goodMotorSample p flag s).peers.digest = s.peers.digest
      ∧ (goodMotorSample p flag s).mark.number = s.mark.number
      ∧ (goodMotorSample p flag s).mark.reported = s.mark.reported
      ∧ (goodMotorSample p flag s).mark.quiet = s.mark.quiet
      ∧ (goodMotorSample p flag s).store.cellsA = s.store.cellsA
      ∧ (goodMotorSample p flag s).store.cellsB = s.store.cellsB
      ∧ (goodMotorSample p flag s).store.cellsCal = s.store.cellsCal
      ∧ (goodMotorSample p flag s).store.imageA = s.store.imageA
      ∧ (goodMotorSample p flag s).store.imageB = s.store.imageB
      ∧ (goodMotorSample p flag s).store.imageCal = s.store.imageCal
      ∧ (goodMotorSample p flag s).store.calSeq = s.store.calSeq
      ∧ (goodMotorSample p flag s).store.inFlight = s.store.inFlight
      ∧ (goodMotorSample p flag s).store.scanDone = s.store.scanDone
      ∧ (goodMotorSample p flag s).gradeUnit.chosen = s.gradeUnit.chosen
      ∧ (goodMotorSample p flag s).claim.purpose = s.claim.purpose
      ∧ (goodMotorSample p flag s).search.passes = s.search.passes
      ∧ (goodMotorSample p flag s).search.level = s.search.level
      ∧ (goodMotorSample p flag s).search.total = s.search.total
      ∧ (goodMotorSample p flag s).search.plus = s.search.plus
      ∧ (goodMotorSample p flag s).port.setup = s.port.setup
      ∧ (goodMotorSample p flag s).port.frozen = s.port.frozen
      ∧ (goodMotorSample p flag s).port.tau = s.port.tau
      ∧ (goodMotorSample p flag s).port.span = s.port.span
      ∧ (goodMotorSample p flag s).port.slot = s.port.slot
      ∧ (goodMotorSample p flag s).port.shifted = s.port.shifted
      ∧ (goodMotorSample p flag s).port.lastEnd = s.port.lastEnd
      ∧ (goodMotorSample p flag s).port.changedPeers = s.port.changedPeers := by
  unfold goodMotorSample
  refine ⟨?_, ?_, ?_, ?_, ?_, ?_, ?_, ?_, ?_, ?_, ?_, ?_, ?_, ?_, ?_, ?_, ?_, ?_, ?_, ?_, ?_, ?_, ?_, ?_, ?_, ?_,
    ?_, ?_, ?_, ?_, ?_, ?_, ?_, ?_, ?_, ?_, ?_, ?_, ?_, ?_, ?_, ?_, ?_, ?_, ?_⟩ <;>
    first | rfl | ((try dsimp only); (repeat' split) <;> first | rfl | simp | simp_all)

@[simp] theorem badMotorSample_frame (flag : Bool) (s : State) :
    (badMotorSample flag s).ms = s.ms
      ∧ (badMotorSample flag s).straps = s.straps
      ∧ (badMotorSample flag s).levels = s.levels
      ∧ (badMotorSample flag s).zone = s.zone
      ∧ (badMotorSample flag s).pending = s.pending
      ∧ (badMotorSample flag s).sensor.latestMotor = s.sensor.latestMotor
      ∧ (badMotorSample flag s).sensor.latestScale = s.sensor.latestScale
      ∧ (badMotorSample flag s).sensor.badScale = s.sensor.badScale
      ∧ (badMotorSample flag s).reck.started = s.reck.started
      ∧ (badMotorSample flag s).reck.lastGood = s.reck.lastGood
      ∧ (badMotorSample flag s).reck.theta0 = s.reck.theta0
      ∧ (badMotorSample flag s).reck.sigma = s.reck.sigma
      ∧ (badMotorSample flag s).reck.calibrated = s.reck.calibrated
      ∧ (badMotorSample flag s).reck.thetaScale = s.reck.thetaScale
      ∧ (badMotorSample flag s).link.bitErrors = s.link.bitErrors
      ∧ (badMotorSample flag s).link.txErrors = s.link.txErrors
      ∧ (badMotorSample flag s).link.rxErrors = s.link.rxErrors
      ∧ (badMotorSample flag s).link.txFail = s.link.txFail
      ∧ (badMotorSample flag s).link.lastDuplicate = s.link.lastDuplicate
      ∧ (badMotorSample flag s).link.heartbeat = s.link.heartbeat
      ∧ (badMotorSample flag s).peers.entries = s.peers.entries
      ∧ (badMotorSample flag s).peers.digest = s.peers.digest
      ∧ (badMotorSample flag s).mark.number = s.mark.number
      ∧ (badMotorSample flag s).mark.reported = s.mark.reported
      ∧ (badMotorSample flag s).mark.quiet = s.mark.quiet
      ∧ (badMotorSample flag s).store.cellsA = s.store.cellsA
      ∧ (badMotorSample flag s).store.cellsB = s.store.cellsB
      ∧ (badMotorSample flag s).store.cellsCal = s.store.cellsCal
      ∧ (badMotorSample flag s).store.imageA = s.store.imageA
      ∧ (badMotorSample flag s).store.imageB = s.store.imageB
      ∧ (badMotorSample flag s).store.imageCal = s.store.imageCal
      ∧ (badMotorSample flag s).store.calSeq = s.store.calSeq
      ∧ (badMotorSample flag s).store.inFlight = s.store.inFlight
      ∧ (badMotorSample flag s).store.scanDone = s.store.scanDone
      ∧ (badMotorSample flag s).gradeUnit.chosen = s.gradeUnit.chosen
      ∧ (badMotorSample flag s).claim.purpose = s.claim.purpose
      ∧ (badMotorSample flag s).search.passes = s.search.passes
      ∧ (badMotorSample flag s).search.level = s.search.level
      ∧ (badMotorSample flag s).search.total = s.search.total
      ∧ (badMotorSample flag s).search.plus = s.search.plus
      ∧ (badMotorSample flag s).port.setup = s.port.setup
      ∧ (badMotorSample flag s).port.frozen = s.port.frozen
      ∧ (badMotorSample flag s).port.tau = s.port.tau
      ∧ (badMotorSample flag s).port.span = s.port.span
      ∧ (badMotorSample flag s).port.slot = s.port.slot
      ∧ (badMotorSample flag s).port.shifted = s.port.shifted
      ∧ (badMotorSample flag s).port.lastEnd = s.port.lastEnd
      ∧ (badMotorSample flag s).port.changedPeers = s.port.changedPeers := by
  unfold badMotorSample
  refine ⟨?_, ?_, ?_, ?_, ?_, ?_, ?_, ?_, ?_, ?_, ?_, ?_, ?_, ?_, ?_, ?_, ?_, ?_, ?_, ?_, ?_, ?_, ?_, ?_, ?_, ?_,
    ?_, ?_, ?_, ?_, ?_, ?_, ?_, ?_, ?_, ?_, ?_, ?_, ?_, ?_, ?_, ?_, ?_, ?_, ?_, ?_, ?_, ?_⟩ <;>
    first | rfl | ((try dsimp only); (repeat' split) <;> first | rfl | simp | simp_all)

@[simp] theorem driftCheck_frame (s : State) :
    (driftCheck s).ms = s.ms
      ∧ (driftCheck s).straps = s.straps
      ∧ (driftCheck s).levels = s.levels
      ∧ (driftCheck s).sensor = s.sensor
      ∧ (driftCheck s).zone = s.zone
      ∧ (driftCheck s).free = s.free
      ∧ (driftCheck s).pending = s.pending
      ∧ (driftCheck s).reck.count = s.reck.count
      ∧ (driftCheck s).reck.started = s.reck.started
      ∧ (driftCheck s).reck.lastGood = s.reck.lastGood
      ∧ (driftCheck s).reck.held = s.reck.held
      ∧ (driftCheck s).reck.turnOffset = s.reck.turnOffset
      ∧ (driftCheck s).reck.theta0 = s.reck.theta0
      ∧ (driftCheck s).reck.sigma = s.reck.sigma
      ∧ (driftCheck s).reck.calibrated = s.reck.calibrated
      ∧ (driftCheck s).reck.thetaScale = s.reck.thetaScale
      ∧ (driftCheck s).reck.anchor = s.reck.anchor
      ∧ (driftCheck s).reck.atRest = s.reck.atRest
      ∧ (driftCheck s).link.bitErrors = s.link.bitErrors
      ∧ (driftCheck s).link.txErrors = s.link.txErrors
      ∧ (driftCheck s).link.rxErrors = s.link.rxErrors
      ∧ (driftCheck s).link.txFail = s.link.txFail
      ∧ (driftCheck s).link.lastDuplicate = s.link.lastDuplicate
      ∧ (driftCheck s).link.heartbeat = s.link.heartbeat
      ∧ (driftCheck s).peers.entries = s.peers.entries
      ∧ (driftCheck s).peers.digest = s.peers.digest
      ∧ (driftCheck s).mark.number = s.mark.number
      ∧ (driftCheck s).mark.reported = s.mark.reported
      ∧ (driftCheck s).mark.quiet = s.mark.quiet
      ∧ (driftCheck s).mark.captureRequested = s.mark.captureRequested
      ∧ (driftCheck s).store.cellsA = s.store.cellsA
      ∧ (driftCheck s).store.cellsB = s.store.cellsB
      ∧ (driftCheck s).store.cellsCal = s.store.cellsCal
      ∧ (driftCheck s).store.imageA = s.store.imageA
      ∧ (driftCheck s).store.imageB = s.store.imageB
      ∧ (driftCheck s).store.imageCal = s.store.imageCal
      ∧ (driftCheck s).store.calSeq = s.store.calSeq
      ∧ (driftCheck s).store.inFlight = s.store.inFlight
      ∧ (driftCheck s).store.scanDone = s.store.scanDone
      ∧ (driftCheck s).gradeUnit.chosen = s.gradeUnit.chosen
      ∧ (driftCheck s).claim.purpose = s.claim.purpose
      ∧ (driftCheck s).search.passes = s.search.passes
      ∧ (driftCheck s).search.level = s.search.level
      ∧ (driftCheck s).search.total = s.search.total
      ∧ (driftCheck s).search.plus = s.search.plus
      ∧ (driftCheck s).port.setup = s.port.setup
      ∧ (driftCheck s).port.frozen = s.port.frozen
      ∧ (driftCheck s).port.tau = s.port.tau
      ∧ (driftCheck s).port.span = s.port.span
      ∧ (driftCheck s).port.slot = s.port.slot
      ∧ (driftCheck s).port.shifted = s.port.shifted
      ∧ (driftCheck s).port.lastEnd = s.port.lastEnd
      ∧ (driftCheck s).port.changedPeers = s.port.changedPeers := by
  unfold driftCheck
  refine ⟨?_, ?_, ?_, ?_, ?_, ?_, ?_, ?_, ?_, ?_, ?_, ?_, ?_, ?_, ?_, ?_, ?_, ?_, ?_, ?_, ?_, ?_, ?_, ?_, ?_, ?_,
    ?_, ?_, ?_, ?_, ?_, ?_, ?_, ?_, ?_, ?_, ?_, ?_, ?_, ?_, ?_, ?_, ?_, ?_, ?_, ?_, ?_, ?_, ?_, ?_, ?_, ?_, ?_⟩ <;>
    first | rfl | ((try dsimp only); (repeat' split) <;> first | rfl | simp | simp_all)

@[simp] theorem goodScaleSample_frame (v : Nat) (s : State) :
    (goodScaleSample v s).ms = s.ms
      ∧ (goodScaleSample v s).straps = s.straps
      ∧ (goodScaleSample v s).levels = s.levels
      ∧ (goodScaleSample v s).zone = s.zone
      ∧ (goodScaleSample v s).free = s.free
      ∧ (goodScaleSample v s).pending = s.pending
      ∧ (goodScaleSample v s).sensor.latestMotor = s.sensor.latestMotor
      ∧ (goodScaleSample v s).sensor.badMotor = s.sensor.badMotor
      ∧ (goodScaleSample v s).sensor.flagLevel = s.sensor.flagLevel
      ∧ (goodScaleSample v s).reck.count = s.reck.count
      ∧ (goodScaleSample v s).reck.started = s.reck.started
      ∧ (goodScaleSample v s).reck.lastGood = s.reck.lastGood
      ∧ (goodScaleSample v s).reck.held = s.reck.held
      ∧ (goodScaleSample v s).reck.turnOffset = s.reck.turnOffset
      ∧ (goodScaleSample v s).reck.theta0 = s.reck.theta0
      ∧ (goodScaleSample v s).reck.sigma = s.reck.sigma
      ∧ (goodScaleSample v s).reck.calibrated = s.reck.calibrated
      ∧ (goodScaleSample v s).reck.anchor = s.reck.anchor
      ∧ (goodScaleSample v s).reck.atRest = s.reck.atRest
      ∧ (goodScaleSample v s).link.bitErrors = s.link.bitErrors
      ∧ (goodScaleSample v s).link.txErrors = s.link.txErrors
      ∧ (goodScaleSample v s).link.rxErrors = s.link.rxErrors
      ∧ (goodScaleSample v s).link.txFail = s.link.txFail
      ∧ (goodScaleSample v s).link.lastDuplicate = s.link.lastDuplicate
      ∧ (goodScaleSample v s).link.heartbeat = s.link.heartbeat
      ∧ (goodScaleSample v s).peers.entries = s.peers.entries
      ∧ (goodScaleSample v s).peers.digest = s.peers.digest
      ∧ (goodScaleSample v s).mark.number = s.mark.number
      ∧ (goodScaleSample v s).mark.reported = s.mark.reported
      ∧ (goodScaleSample v s).mark.quiet = s.mark.quiet
      ∧ (goodScaleSample v s).mark.captureRequested = s.mark.captureRequested
      ∧ (goodScaleSample v s).store.cellsA = s.store.cellsA
      ∧ (goodScaleSample v s).store.cellsB = s.store.cellsB
      ∧ (goodScaleSample v s).store.cellsCal = s.store.cellsCal
      ∧ (goodScaleSample v s).store.imageA = s.store.imageA
      ∧ (goodScaleSample v s).store.imageB = s.store.imageB
      ∧ (goodScaleSample v s).store.imageCal = s.store.imageCal
      ∧ (goodScaleSample v s).store.calSeq = s.store.calSeq
      ∧ (goodScaleSample v s).store.inFlight = s.store.inFlight
      ∧ (goodScaleSample v s).store.scanDone = s.store.scanDone
      ∧ (goodScaleSample v s).gradeUnit.chosen = s.gradeUnit.chosen
      ∧ (goodScaleSample v s).claim.purpose = s.claim.purpose
      ∧ (goodScaleSample v s).search.passes = s.search.passes
      ∧ (goodScaleSample v s).search.level = s.search.level
      ∧ (goodScaleSample v s).search.total = s.search.total
      ∧ (goodScaleSample v s).search.plus = s.search.plus
      ∧ (goodScaleSample v s).port.setup = s.port.setup
      ∧ (goodScaleSample v s).port.frozen = s.port.frozen
      ∧ (goodScaleSample v s).port.tau = s.port.tau
      ∧ (goodScaleSample v s).port.span = s.port.span
      ∧ (goodScaleSample v s).port.slot = s.port.slot
      ∧ (goodScaleSample v s).port.shifted = s.port.shifted
      ∧ (goodScaleSample v s).port.lastEnd = s.port.lastEnd
      ∧ (goodScaleSample v s).port.changedPeers = s.port.changedPeers := by
  unfold goodScaleSample
  refine ⟨?_, ?_, ?_, ?_, ?_, ?_, ?_, ?_, ?_, ?_, ?_, ?_, ?_, ?_, ?_, ?_, ?_, ?_, ?_, ?_, ?_, ?_, ?_, ?_, ?_, ?_,
    ?_, ?_, ?_, ?_, ?_, ?_, ?_, ?_, ?_, ?_, ?_, ?_, ?_, ?_, ?_, ?_, ?_, ?_, ?_, ?_, ?_, ?_, ?_, ?_, ?_, ?_, ?_,
    ?_⟩ <;>
    first | rfl | ((try dsimp only); (repeat' split) <;> first | rfl | simp | simp_all)

@[simp] theorem badScaleSample_frame (s : State) :
    (badScaleSample s).ms = s.ms
      ∧ (badScaleSample s).straps = s.straps
      ∧ (badScaleSample s).levels = s.levels
      ∧ (badScaleSample s).zone = s.zone
      ∧ (badScaleSample s).free = s.free
      ∧ (badScaleSample s).pending = s.pending
      ∧ (badScaleSample s).sensor.latestMotor = s.sensor.latestMotor
      ∧ (badScaleSample s).sensor.badMotor = s.sensor.badMotor
      ∧ (badScaleSample s).sensor.latestScale = s.sensor.latestScale
      ∧ (badScaleSample s).sensor.flagLevel = s.sensor.flagLevel
      ∧ (badScaleSample s).reck.count = s.reck.count
      ∧ (badScaleSample s).reck.started = s.reck.started
      ∧ (badScaleSample s).reck.lastGood = s.reck.lastGood
      ∧ (badScaleSample s).reck.held = s.reck.held
      ∧ (badScaleSample s).reck.turnOffset = s.reck.turnOffset
      ∧ (badScaleSample s).reck.theta0 = s.reck.theta0
      ∧ (badScaleSample s).reck.sigma = s.reck.sigma
      ∧ (badScaleSample s).reck.calibrated = s.reck.calibrated
      ∧ (badScaleSample s).reck.anchor = s.reck.anchor
      ∧ (badScaleSample s).reck.atRest = s.reck.atRest
      ∧ (badScaleSample s).link.bitErrors = s.link.bitErrors
      ∧ (badScaleSample s).link.txErrors = s.link.txErrors
      ∧ (badScaleSample s).link.rxErrors = s.link.rxErrors
      ∧ (badScaleSample s).link.txFail = s.link.txFail
      ∧ (badScaleSample s).link.lastDuplicate = s.link.lastDuplicate
      ∧ (badScaleSample s).link.heartbeat = s.link.heartbeat
      ∧ (badScaleSample s).peers.entries = s.peers.entries
      ∧ (badScaleSample s).peers.digest = s.peers.digest
      ∧ (badScaleSample s).mark.number = s.mark.number
      ∧ (badScaleSample s).mark.reported = s.mark.reported
      ∧ (badScaleSample s).mark.quiet = s.mark.quiet
      ∧ (badScaleSample s).mark.captureRequested = s.mark.captureRequested
      ∧ (badScaleSample s).store.cellsA = s.store.cellsA
      ∧ (badScaleSample s).store.cellsB = s.store.cellsB
      ∧ (badScaleSample s).store.cellsCal = s.store.cellsCal
      ∧ (badScaleSample s).store.imageA = s.store.imageA
      ∧ (badScaleSample s).store.imageB = s.store.imageB
      ∧ (badScaleSample s).store.imageCal = s.store.imageCal
      ∧ (badScaleSample s).store.calSeq = s.store.calSeq
      ∧ (badScaleSample s).store.inFlight = s.store.inFlight
      ∧ (badScaleSample s).store.scanDone = s.store.scanDone
      ∧ (badScaleSample s).gradeUnit.chosen = s.gradeUnit.chosen
      ∧ (badScaleSample s).claim.purpose = s.claim.purpose
      ∧ (badScaleSample s).search.passes = s.search.passes
      ∧ (badScaleSample s).search.level = s.search.level
      ∧ (badScaleSample s).search.total = s.search.total
      ∧ (badScaleSample s).search.plus = s.search.plus
      ∧ (badScaleSample s).port.setup = s.port.setup
      ∧ (badScaleSample s).port.frozen = s.port.frozen
      ∧ (badScaleSample s).port.tau = s.port.tau
      ∧ (badScaleSample s).port.span = s.port.span
      ∧ (badScaleSample s).port.slot = s.port.slot
      ∧ (badScaleSample s).port.shifted = s.port.shifted
      ∧ (badScaleSample s).port.lastEnd = s.port.lastEnd
      ∧ (badScaleSample s).port.changedPeers = s.port.changedPeers := by
  unfold badScaleSample
  refine ⟨?_, ?_, ?_, ?_, ?_, ?_, ?_, ?_, ?_, ?_, ?_, ?_, ?_, ?_, ?_, ?_, ?_, ?_, ?_, ?_, ?_, ?_, ?_, ?_, ?_, ?_,
    ?_, ?_, ?_, ?_, ?_, ?_, ?_, ?_, ?_, ?_, ?_, ?_, ?_, ?_, ?_, ?_, ?_, ?_, ?_, ?_, ?_, ?_, ?_, ?_, ?_, ?_, ?_, ?_,
    ?_⟩ <;>
    first | rfl | ((try dsimp only); (repeat' split) <;> first | rfl | simp | simp_all)

end Sys2Proof.Machine
end

