-- ==== Sys2Proof/Laws/Link.lean ====
section
/-! SUPPORT. What the operations of the Peer Table, the link interface and the arrivals leave unchanged: one frame lemma
for each. -/

set_option linter.unusedTactic false
set_option linter.unreachableTactic false
set_option linter.unnecessarySeqFocus false

namespace Sys2Proof.Machine

/-! ### PeerOps -/

@[simp] theorem setEntry_frame (k : Station) (e : PeerEntry) (s : State) :
    (setEntry k e s).phase = s.phase
      ∧ (setEntry k e s).ms = s.ms
      ∧ (setEntry k e s).straps = s.straps
      ∧ (setEntry k e s).levels = s.levels
      ∧ (setEntry k e s).sensor = s.sensor
      ∧ (setEntry k e s).reck = s.reck
      ∧ (setEntry k e s).link = s.link
      ∧ (setEntry k e s).mark = s.mark
      ∧ (setEntry k e s).store = s.store
      ∧ (setEntry k e s).gradeUnit = s.gradeUnit
      ∧ (setEntry k e s).claim = s.claim
      ∧ (setEntry k e s).search = s.search
      ∧ (setEntry k e s).zone = s.zone
      ∧ (setEntry k e s).fault = s.fault
      ∧ (setEntry k e s).port = s.port
      ∧ (setEntry k e s).free = s.free
      ∧ (setEntry k e s).pending = s.pending
      ∧ (setEntry k e s).peers.musterTimer = s.peers.musterTimer
      ∧ (setEntry k e s).peers.digest = s.peers.digest := by
  unfold setEntry
  refine ⟨?_, ?_, ?_, ?_, ?_, ?_, ?_, ?_, ?_, ?_, ?_, ?_, ?_, ?_, ?_, ?_, ?_, ?_, ?_⟩ <;>
    rfl

@[simp] theorem mismatchTest_frame (k : Station) (s : State) :
    (mismatchTest k s).phase = s.phase
      ∧ (mismatchTest k s).ms = s.ms
      ∧ (mismatchTest k s).straps = s.straps
      ∧ (mismatchTest k s).levels = s.levels
      ∧ (mismatchTest k s).sensor = s.sensor
      ∧ (mismatchTest k s).reck = s.reck
      ∧ (mismatchTest k s).link = s.link
      ∧ (mismatchTest k s).mark = s.mark
      ∧ (mismatchTest k s).store = s.store
      ∧ (mismatchTest k s).gradeUnit = s.gradeUnit
      ∧ (mismatchTest k s).claim = s.claim
      ∧ (mismatchTest k s).search = s.search
      ∧ (mismatchTest k s).zone = s.zone
      ∧ (mismatchTest k s).free = s.free
      ∧ (mismatchTest k s).pending = s.pending
      ∧ (mismatchTest k s).peers.musterTimer = s.peers.musterTimer
      ∧ (mismatchTest k s).peers.digest = s.peers.digest
      ∧ (mismatchTest k s).fault.stopSet = s.fault.stopSet
      ∧ (mismatchTest k s).port.setup = s.port.setup
      ∧ (mismatchTest k s).port.frozen = s.port.frozen
      ∧ (mismatchTest k s).port.tau = s.port.tau
      ∧ (mismatchTest k s).port.span = s.port.span
      ∧ (mismatchTest k s).port.slot = s.port.slot
      ∧ (mismatchTest k s).port.shifted = s.port.shifted
      ∧ (mismatchTest k s).port.lastEnd = s.port.lastEnd
      ∧ (mismatchTest k s).port.changedPeers = s.port.changedPeers := by
  unfold mismatchTest
  refine ⟨?_, ?_, ?_, ?_, ?_, ?_, ?_, ?_, ?_, ?_, ?_, ?_, ?_, ?_, ?_, ?_, ?_, ?_, ?_, ?_, ?_, ?_, ?_, ?_, ?_,
    ?_⟩ <;>
    (repeat' split) <;> rfl

@[simp] theorem peerArrival_phase_frame (k : Station) (f : Frame) (s : State) :
    (peerArrival k f s).phase = s.phase := by
  unfold peerArrival
  (dsimp only; (repeat' split) <;> first | rfl | simp)

@[simp] theorem peerArrival_ms_frame (k : Station) (f : Frame) (s : State) :
    (peerArrival k f s).ms = s.ms := by
  unfold peerArrival
  (dsimp only; (repeat' split) <;> first | rfl | simp)

@[simp] theorem peerArrival_straps_frame (k : Station) (f : Frame) (s : State) :
    (peerArrival k f s).straps = s.straps := by
  unfold peerArrival
  (dsimp only; (repeat' split) <;> first | rfl | simp)

@[simp] theorem peerArrival_levels_frame (k : Station) (f : Frame) (s : State) :
    (peerArrival k f s).levels = s.levels := by
  unfold peerArrival
  (dsimp only; (repeat' split) <;> first | rfl | simp)

@[simp] theorem peerArrival_sensor_frame (k : Station) (f : Frame) (s : State) :
    (peerArrival k f s).sensor = s.sensor := by
  unfold peerArrival
  (dsimp only; (repeat' split) <;> first | rfl | simp)

@[simp] theorem peerArrival_reck_frame (k : Station) (f : Frame) (s : State) :
    (peerArrival k f s).reck = s.reck := by
  unfold peerArrival
  (dsimp only; (repeat' split) <;> first | rfl | simp)

@[simp] theorem peerArrival_link_frame (k : Station) (f : Frame) (s : State) :
    (peerArrival k f s).link = s.link := by
  unfold peerArrival
  (dsimp only; (repeat' split) <;> first | rfl | simp)

@[simp] theorem peerArrival_store_frame (k : Station) (f : Frame) (s : State) :
    (peerArrival k f s).store = s.store := by
  unfold peerArrival
  (dsimp only; (repeat' split) <;> first | rfl | simp)

@[simp] theorem peerArrival_gradeUnit_frame (k : Station) (f : Frame) (s : State) :
    (peerArrival k f s).gradeUnit = s.gradeUnit := by
  unfold peerArrival
  (dsimp only; (repeat' split) <;> first | rfl | simp)

@[simp] theorem peerArrival_claim_frame (k : Station) (f : Frame) (s : State) :
    (peerArrival k f s).claim = s.claim := by
  unfold peerArrival
  (dsimp only; (repeat' split) <;> first | rfl | simp)

@[simp] theorem peerArrival_search_frame (k : Station) (f : Frame) (s : State) :
    (peerArrival k f s).search = s.search := by
  unfold peerArrival
  (dsimp only; (repeat' split) <;> first | rfl | simp)

@[simp] theorem peerArrival_zone_frame (k : Station) (f : Frame) (s : State) :
    (peerArrival k f s).zone = s.zone := by
  unfold peerArrival
  (dsimp only; (repeat' split) <;> first | rfl | simp)

@[simp] theorem peerArrival_free_frame (k : Station) (f : Frame) (s : State) :
    (peerArrival k f s).free = s.free := by
  unfold peerArrival
  (dsimp only; (repeat' split) <;> first | rfl | simp)

@[simp] theorem peerArrival_pending_frame (k : Station) (f : Frame) (s : State) :
    (peerArrival k f s).pending = s.pending := by
  unfold peerArrival
  (dsimp only; (repeat' split) <;> first | rfl | simp)

@[simp] theorem peerArrival_peers_musterTimer_frame (k : Station) (f : Frame) (s : State) :
    (peerArrival k f s).peers.musterTimer = s.peers.musterTimer := by
  unfold peerArrival
  (dsimp only; (repeat' split) <;> first | rfl | simp)

@[simp] theorem peerArrival_peers_digest_frame (k : Station) (f : Frame) (s : State) :
    (peerArrival k f s).peers.digest = s.peers.digest := by
  unfold peerArrival
  (dsimp only; (repeat' split) <;> first | rfl | simp)

@[simp] theorem peerArrival_mark_state_frame (k : Station) (f : Frame) (s : State) :
    (peerArrival k f s).mark.state = s.mark.state := by
  unfold peerArrival
  (dsimp only; (repeat' split) <;> first | rfl | simp)

@[simp] theorem peerArrival_mark_number_frame (k : Station) (f : Frame) (s : State) :
    (peerArrival k f s).mark.number = s.mark.number := by
  unfold peerArrival
  (dsimp only; (repeat' split) <;> first | rfl | simp)

@[simp] theorem peerArrival_mark_needs_frame (k : Station) (f : Frame) (s : State) :
    (peerArrival k f s).mark.needs = s.mark.needs := by
  unfold peerArrival
  (dsimp only; (repeat' split) <;> first | rfl | simp)

@[simp] theorem peerArrival_mark_quiet_frame (k : Station) (f : Frame) (s : State) :
    (peerArrival k f s).mark.quiet = s.mark.quiet := by
  unfold peerArrival
  (dsimp only; (repeat' split) <;> first | rfl | simp)

@[simp] theorem peerArrival_mark_leadWait_frame (k : Station) (f : Frame) (s : State) :
    (peerArrival k f s).mark.leadWait = s.mark.leadWait := by
  unfold peerArrival
  (dsimp only; (repeat' split) <;> first | rfl | simp)

@[simp] theorem peerArrival_mark_captureRequested_frame (k : Station) (f : Frame) (s : State) :
    (peerArrival k f s).mark.captureRequested = s.mark.captureRequested := by
  unfold peerArrival
  (dsimp only; (repeat' split) <;> first | rfl | simp)

@[simp] theorem peerArrival_mark_serving_frame (k : Station) (f : Frame) (s : State) :
    (peerArrival k f s).mark.serving = s.mark.serving := by
  unfold peerArrival
  (dsimp only; (repeat' split) <;> first | rfl | simp)

@[simp] theorem peerArrival_fault_stopSet_frame (k : Station) (f : Frame) (s : State) :
    (peerArrival k f s).fault.stopSet = s.fault.stopSet := by
  unfold peerArrival
  (dsimp only; (repeat' split) <;> first | rfl | simp)

@[simp] theorem peerArrival_port_setup_frame (k : Station) (f : Frame) (s : State) :
    (peerArrival k f s).port.setup = s.port.setup := by
  unfold peerArrival
  (dsimp only; (repeat' split) <;> first | rfl | simp)

@[simp] theorem peerArrival_port_frozen_frame (k : Station) (f : Frame) (s : State) :
    (peerArrival k f s).port.frozen = s.port.frozen := by
  unfold peerArrival
  (dsimp only; (repeat' split) <;> first | rfl | simp)

@[simp] theorem peerArrival_port_tau_frame (k : Station) (f : Frame) (s : State) :
    (peerArrival k f s).port.tau = s.port.tau := by
  unfold peerArrival
  (dsimp only; (repeat' split) <;> first | rfl | simp)

@[simp] theorem peerArrival_port_span_frame (k : Station) (f : Frame) (s : State) :
    (peerArrival k f s).port.span = s.port.span := by
  unfold peerArrival
  (dsimp only; (repeat' split) <;> first | rfl | simp)

@[simp] theorem peerArrival_port_slot_frame (k : Station) (f : Frame) (s : State) :
    (peerArrival k f s).port.slot = s.port.slot := by
  unfold peerArrival
  (dsimp only; (repeat' split) <;> first | rfl | simp)

@[simp] theorem peerArrival_port_shifted_frame (k : Station) (f : Frame) (s : State) :
    (peerArrival k f s).port.shifted = s.port.shifted := by
  unfold peerArrival
  (dsimp only; (repeat' split) <;> first | rfl | simp)

@[simp] theorem peerArrival_port_lastEnd_frame (k : Station) (f : Frame) (s : State) :
    (peerArrival k f s).port.lastEnd = s.port.lastEnd := by
  unfold peerArrival
  (dsimp only; (repeat' split) <;> first | rfl | simp)

@[simp] theorem ownArrival_frame (k : Station) (f : Frame) (s : State) :
    (ownArrival k f s).phase = s.phase
      ∧ (ownArrival k f s).ms = s.ms
      ∧ (ownArrival k f s).straps = s.straps
      ∧ (ownArrival k f s).levels = s.levels
      ∧ (ownArrival k f s).sensor = s.sensor
      ∧ (ownArrival k f s).reck = s.reck
      ∧ (ownArrival k f s).link = s.link
      ∧ (ownArrival k f s).mark = s.mark
      ∧ (ownArrival k f s).store = s.store
      ∧ (ownArrival k f s).gradeUnit = s.gradeUnit
      ∧ (ownArrival k f s).claim = s.claim
      ∧ (ownArrival k f s).search = s.search
      ∧ (ownArrival k f s).zone = s.zone
      ∧ (ownArrival k f s).fault = s.fault
      ∧ (ownArrival k f s).port = s.port
      ∧ (ownArrival k f s).free = s.free
      ∧ (ownArrival k f s).pending = s.pending
      ∧ (ownArrival k f s).peers.musterTimer = s.peers.musterTimer
      ∧ (ownArrival k f s).peers.digest = s.peers.digest := by
  unfold ownArrival
  refine ⟨?_, ?_, ?_, ?_, ?_, ?_, ?_, ?_, ?_, ?_, ?_, ?_, ?_, ?_, ?_, ?_, ?_, ?_, ?_⟩ <;>
    rfl

@[simp] theorem leadAngle_frame (k : Station) (theta : Option Int) (s : State) :
    (leadAngle k theta s).phase = s.phase
      ∧ (leadAngle k theta s).ms = s.ms
      ∧ (leadAngle k theta s).straps = s.straps
      ∧ (leadAngle k theta s).levels = s.levels
      ∧ (leadAngle k theta s).sensor = s.sensor
      ∧ (leadAngle k theta s).link = s.link
      ∧ (leadAngle k theta s).peers = s.peers
      ∧ (leadAngle k theta s).mark = s.mark
      ∧ (leadAngle k theta s).store = s.store
      ∧ (leadAngle k theta s).gradeUnit = s.gradeUnit
      ∧ (leadAngle k theta s).claim = s.claim
      ∧ (leadAngle k theta s).search = s.search
      ∧ (leadAngle k theta s).zone = s.zone
      ∧ (leadAngle k theta s).free = s.free
      ∧ (leadAngle k theta s).pending = s.pending
      ∧ (leadAngle k theta s).reck.count = s.reck.count
      ∧ (leadAngle k theta s).reck.started = s.reck.started
      ∧ (leadAngle k theta s).reck.lastGood = s.reck.lastGood
      ∧ (leadAngle k theta s).reck.held = s.reck.held
      ∧ (leadAngle k theta s).reck.turnOffset = s.reck.turnOffset
      ∧ (leadAngle k theta s).reck.theta0 = s.reck.theta0
      ∧ (leadAngle k theta s).reck.sigma = s.reck.sigma
      ∧ (leadAngle k theta s).reck.calibrated = s.reck.calibrated
      ∧ (leadAngle k theta s).reck.basis = s.reck.basis
      ∧ (leadAngle k theta s).reck.thetaScale = s.reck.thetaScale
      ∧ (leadAngle k theta s).reck.anchor = s.reck.anchor
      ∧ (leadAngle k theta s).reck.atRest = s.reck.atRest
      ∧ (leadAngle k theta s).reck.drift = s.reck.drift
      ∧ (leadAngle k theta s).fault.stopSet = s.fault.stopSet
      ∧ (leadAngle k theta s).port.setup = s.port.setup
      ∧ (leadAngle k theta s).port.frozen = s.port.frozen
      ∧ (leadAngle k theta s).port.tau = s.port.tau
      ∧ (leadAngle k theta s).port.span = s.port.span
      ∧ (leadAngle k theta s).port.slot = s.port.slot
      ∧ (leadAngle k theta s).port.shifted = s.port.shifted
      ∧ (leadAngle k theta s).port.lastEnd = s.port.lastEnd
      ∧ (leadAngle k theta s).port.changedPeers = s.port.changedPeers := by
  unfold leadAngle
  refine ⟨?_, ?_, ?_, ?_, ?_, ?_, ?_, ?_, ?_, ?_, ?_, ?_, ?_, ?_, ?_, ?_, ?_, ?_, ?_, ?_, ?_, ?_, ?_, ?_, ?_, ?_,
    ?_, ?_, ?_, ?_, ?_, ?_, ?_, ?_, ?_, ?_, ?_⟩ <;>
    (repeat' split) <;> simp

@[simp] theorem raiseClaimStale_frame (k : Station) (purpose : Option Purpose) (s : State) :
    (raiseClaimStale k purpose s).phase = s.phase
      ∧ (raiseClaimStale k purpose s).ms = s.ms
      ∧ (raiseClaimStale k purpose s).straps = s.straps
      ∧ (raiseClaimStale k purpose s).levels = s.levels
      ∧ (raiseClaimStale k purpose s).sensor = s.sensor
      ∧ (raiseClaimStale k purpose s).reck = s.reck
      ∧ (raiseClaimStale k purpose s).link = s.link
      ∧ (raiseClaimStale k purpose s).peers = s.peers
      ∧ (raiseClaimStale k purpose s).mark = s.mark
      ∧ (raiseClaimStale k purpose s).store = s.store
      ∧ (raiseClaimStale k purpose s).gradeUnit = s.gradeUnit
      ∧ (raiseClaimStale k purpose s).claim = s.claim
      ∧ (raiseClaimStale k purpose s).search = s.search
      ∧ (raiseClaimStale k purpose s).zone = s.zone
      ∧ (raiseClaimStale k purpose s).pending = s.pending
      ∧ (raiseClaimStale k purpose s).fault.stopSet = s.fault.stopSet
      ∧ (raiseClaimStale k purpose s).port.setup = s.port.setup
      ∧ (raiseClaimStale k purpose s).port.frozen = s.port.frozen
      ∧ (raiseClaimStale k purpose s).port.tau = s.port.tau
      ∧ (raiseClaimStale k purpose s).port.span = s.port.span
      ∧ (raiseClaimStale k purpose s).port.slot = s.port.slot
      ∧ (raiseClaimStale k purpose s).port.shifted = s.port.shifted
      ∧ (raiseClaimStale k purpose s).port.lastEnd = s.port.lastEnd
      ∧ (raiseClaimStale k purpose s).port.changedPeers = s.port.changedPeers := by
  unfold raiseClaimStale
  refine ⟨?_, ?_, ?_, ?_, ?_, ?_, ?_, ?_, ?_, ?_, ?_, ?_, ?_, ?_, ?_, ?_, ?_, ?_, ?_, ?_, ?_, ?_, ?_, ?_⟩ <;>
    (repeat' split) <;> rfl

@[simp] theorem silenceAt_frame (s : State) (k : Station) :
    (silenceAt s k).phase = s.phase
      ∧ (silenceAt s k).ms = s.ms
      ∧ (silenceAt s k).straps = s.straps
      ∧ (silenceAt s k).levels = s.levels
      ∧ (silenceAt s k).sensor = s.sensor
      ∧ (silenceAt s k).reck = s.reck
      ∧ (silenceAt s k).link = s.link
      ∧ (silenceAt s k).mark = s.mark
      ∧ (silenceAt s k).store = s.store
      ∧ (silenceAt s k).gradeUnit = s.gradeUnit
      ∧ (silenceAt s k).claim = s.claim
      ∧ (silenceAt s k).search = s.search
      ∧ (silenceAt s k).zone = s.zone
      ∧ (silenceAt s k).pending = s.pending
      ∧ (silenceAt s k).peers.musterTimer = s.peers.musterTimer
      ∧ (silenceAt s k).peers.digest = s.peers.digest
      ∧ (silenceAt s k).fault.stopSet = s.fault.stopSet
      ∧ (silenceAt s k).port.setup = s.port.setup
      ∧ (silenceAt s k).port.frozen = s.port.frozen
      ∧ (silenceAt s k).port.tau = s.port.tau
      ∧ (silenceAt s k).port.span = s.port.span
      ∧ (silenceAt s k).port.slot = s.port.slot
      ∧ (silenceAt s k).port.shifted = s.port.shifted
      ∧ (silenceAt s k).port.lastEnd = s.port.lastEnd := by
  unfold silenceAt
  refine ⟨?_, ?_, ?_, ?_, ?_, ?_, ?_, ?_, ?_, ?_, ?_, ?_, ?_, ?_, ?_, ?_, ?_, ?_, ?_, ?_, ?_, ?_, ?_, ?_⟩ <;>
    first | rfl | ((try dsimp only); (repeat' split) <;> first | rfl | simp | simp_all)

@[simp] theorem forgetEntry_frame (k : Station) (s : State) :
    (forgetEntry k s).phase = s.phase
      ∧ (forgetEntry k s).ms = s.ms
      ∧ (forgetEntry k s).straps = s.straps
      ∧ (forgetEntry k s).levels = s.levels
      ∧ (forgetEntry k s).sensor = s.sensor
      ∧ (forgetEntry k s).reck = s.reck
      ∧ (forgetEntry k s).link = s.link
      ∧ (forgetEntry k s).mark = s.mark
      ∧ (forgetEntry k s).store = s.store
      ∧ (forgetEntry k s).gradeUnit = s.gradeUnit
      ∧ (forgetEntry k s).claim = s.claim
      ∧ (forgetEntry k s).search = s.search
      ∧ (forgetEntry k s).zone = s.zone
      ∧ (forgetEntry k s).fault = s.fault
      ∧ (forgetEntry k s).free = s.free
      ∧ (forgetEntry k s).pending = s.pending
      ∧ (forgetEntry k s).peers.musterTimer = s.peers.musterTimer
      ∧ (forgetEntry k s).peers.digest = s.peers.digest
      ∧ (forgetEntry k s).port.setup = s.port.setup
      ∧ (forgetEntry k s).port.frozen = s.port.frozen
      ∧ (forgetEntry k s).port.tau = s.port.tau
      ∧ (forgetEntry k s).port.span = s.port.span
      ∧ (forgetEntry k s).port.slot = s.port.slot
      ∧ (forgetEntry k s).port.shifted = s.port.shifted
      ∧ (forgetEntry k s).port.lastEnd = s.port.lastEnd
      ∧ (forgetEntry k s).port.attention = s.port.attention := by
  unfold forgetEntry
  refine ⟨?_, ?_, ?_, ?_, ?_, ?_, ?_, ?_, ?_, ?_, ?_, ?_, ?_, ?_, ?_, ?_, ?_, ?_, ?_, ?_, ?_, ?_, ?_, ?_, ?_,
    ?_⟩ <;>
    rfl

/-! ### Link -/

@[simp] theorem setLine_frame (l : LineState) (s : State) :
    (setLine l s).phase = s.phase
      ∧ (setLine l s).ms = s.ms
      ∧ (setLine l s).straps = s.straps
      ∧ (setLine l s).levels = s.levels
      ∧ (setLine l s).sensor = s.sensor
      ∧ (setLine l s).reck = s.reck
      ∧ (setLine l s).peers = s.peers
      ∧ (setLine l s).mark = s.mark
      ∧ (setLine l s).store = s.store
      ∧ (setLine l s).gradeUnit = s.gradeUnit
      ∧ (setLine l s).claim = s.claim
      ∧ (setLine l s).search = s.search
      ∧ (setLine l s).zone = s.zone
      ∧ (setLine l s).fault = s.fault
      ∧ (setLine l s).port = s.port
      ∧ (setLine l s).free = s.free
      ∧ (setLine l s).pending = s.pending
      ∧ (setLine l s).link.queue = s.link.queue
      ∧ (setLine l s).link.bitErrors = s.link.bitErrors
      ∧ (setLine l s).link.txErrors = s.link.txErrors
      ∧ (setLine l s).link.rxErrors = s.link.rxErrors
      ∧ (setLine l s).link.txFail = s.link.txFail
      ∧ (setLine l s).link.lastDuplicate = s.link.lastDuplicate
      ∧ (setLine l s).link.heartbeat = s.link.heartbeat := by
  unfold setLine
  refine ⟨?_, ?_, ?_, ?_, ?_, ?_, ?_, ?_, ?_, ?_, ?_, ?_, ?_, ?_, ?_, ?_, ?_, ?_, ?_, ?_, ?_, ?_, ?_, ?_⟩ <;>
    rfl

@[simp] theorem beginFrame_frame (s : State) :
    (beginFrame s).phase = s.phase
      ∧ (beginFrame s).ms = s.ms
      ∧ (beginFrame s).straps = s.straps
      ∧ (beginFrame s).levels = s.levels
      ∧ (beginFrame s).sensor = s.sensor
      ∧ (beginFrame s).reck = s.reck
      ∧ (beginFrame s).peers = s.peers
      ∧ (beginFrame s).mark = s.mark
      ∧ (beginFrame s).store = s.store
      ∧ (beginFrame s).gradeUnit = s.gradeUnit
      ∧ (beginFrame s).claim = s.claim
      ∧ (beginFrame s).search = s.search
      ∧ (beginFrame s).zone = s.zone
      ∧ (beginFrame s).fault = s.fault
      ∧ (beginFrame s).port = s.port
      ∧ (beginFrame s).free = s.free
      ∧ (beginFrame s).pending = s.pending
      ∧ (beginFrame s).link.queue = s.link.queue
      ∧ (beginFrame s).link.bitErrors = s.link.bitErrors
      ∧ (beginFrame s).link.txErrors = s.link.txErrors
      ∧ (beginFrame s).link.rxErrors = s.link.rxErrors
      ∧ (beginFrame s).link.txFail = s.link.txFail
      ∧ (beginFrame s).link.lastDuplicate = s.link.lastDuplicate
      ∧ (beginFrame s).link.heartbeat = s.link.heartbeat := by
  unfold beginFrame
  refine ⟨?_, ?_, ?_, ?_, ?_, ?_, ?_, ?_, ?_, ?_, ?_, ?_, ?_, ?_, ?_, ?_, ?_, ?_, ?_, ?_, ?_, ?_, ?_, ?_⟩ <;>
    (repeat' split) <;> rfl

@[simp] theorem idleEvent_frame (s : State) :
    (idleEvent s).phase = s.phase
      ∧ (idleEvent s).ms = s.ms
      ∧ (idleEvent s).straps = s.straps
      ∧ (idleEvent s).levels = s.levels
      ∧ (idleEvent s).sensor = s.sensor
      ∧ (idleEvent s).reck = s.reck
      ∧ (idleEvent s).peers = s.peers
      ∧ (idleEvent s).mark = s.mark
      ∧ (idleEvent s).store = s.store
      ∧ (idleEvent s).gradeUnit = s.gradeUnit
      ∧ (idleEvent s).claim = s.claim
      ∧ (idleEvent s).search = s.search
      ∧ (idleEvent s).zone = s.zone
      ∧ (idleEvent s).fault = s.fault
      ∧ (idleEvent s).port = s.port
      ∧ (idleEvent s).free = s.free
      ∧ (idleEvent s).pending = s.pending
      ∧ (idleEvent s).link.queue = s.link.queue
      ∧ (idleEvent s).link.bitErrors = s.link.bitErrors
      ∧ (idleEvent s).link.txErrors = s.link.txErrors
      ∧ (idleEvent s).link.rxErrors = s.link.rxErrors
      ∧ (idleEvent s).link.txFail = s.link.txFail
      ∧ (idleEvent s).link.lastDuplicate = s.link.lastDuplicate
      ∧ (idleEvent s).link.heartbeat = s.link.heartbeat := by
  unfold idleEvent
  refine ⟨?_, ?_, ?_, ?_, ?_, ?_, ?_, ?_, ?_, ?_, ?_, ?_, ?_, ?_, ?_, ?_, ?_, ?_, ?_, ?_, ?_, ?_, ?_, ?_⟩ <;>
    (repeat' split) <;> simp

@[simp] theorem loseArbitration_frame (bit : Nat) (s : State) :
    (loseArbitration bit s).phase = s.phase
      ∧ (loseArbitration bit s).ms = s.ms
      ∧ (loseArbitration bit s).straps = s.straps
      ∧ (loseArbitration bit s).levels = s.levels
      ∧ (loseArbitration bit s).sensor = s.sensor
      ∧ (loseArbitration bit s).reck = s.reck
      ∧ (loseArbitration bit s).peers = s.peers
      ∧ (loseArbitration bit s).mark = s.mark
      ∧ (loseArbitration bit s).store = s.store
      ∧ (loseArbitration bit s).gradeUnit = s.gradeUnit
      ∧ (loseArbitration bit s).claim = s.claim
      ∧ (loseArbitration bit s).search = s.search
      ∧ (loseArbitration bit s).zone = s.zone
      ∧ (loseArbitration bit s).fault = s.fault
      ∧ (loseArbitration bit s).port = s.port
      ∧ (loseArbitration bit s).free = s.free
      ∧ (loseArbitration bit s).pending = s.pending
      ∧ (loseArbitration bit s).link.queue = s.link.queue
      ∧ (loseArbitration bit s).link.bitErrors = s.link.bitErrors
      ∧ (loseArbitration bit s).link.txErrors = s.link.txErrors
      ∧ (loseArbitration bit s).link.rxErrors = s.link.rxErrors
      ∧ (loseArbitration bit s).link.txFail = s.link.txFail
      ∧ (loseArbitration bit s).link.lastDuplicate = s.link.lastDuplicate
      ∧ (loseArbitration bit s).link.heartbeat = s.link.heartbeat := by
  unfold loseArbitration
  refine ⟨?_, ?_, ?_, ?_, ?_, ?_, ?_, ?_, ?_, ?_, ?_, ?_, ?_, ?_, ?_, ?_, ?_, ?_, ?_, ?_, ?_, ?_, ?_, ?_⟩ <;>
    (repeat' split) <;> rfl

@[simp] theorem countBitError_frame (k : FrameKind) (s : State) :
    (countBitError k s).phase = s.phase
      ∧ (countBitError k s).ms = s.ms
      ∧ (countBitError k s).straps = s.straps
      ∧ (countBitError k s).levels = s.levels
      ∧ (countBitError k s).sensor = s.sensor
      ∧ (countBitError k s).reck = s.reck
      ∧ (countBitError k s).peers = s.peers
      ∧ (countBitError k s).mark = s.mark
      ∧ (countBitError k s).store = s.store
      ∧ (countBitError k s).gradeUnit = s.gradeUnit
      ∧ (countBitError k s).claim = s.claim
      ∧ (countBitError k s).search = s.search
      ∧ (countBitError k s).zone = s.zone
      ∧ (countBitError k s).fault = s.fault
      ∧ (countBitError k s).port = s.port
      ∧ (countBitError k s).free = s.free
      ∧ (countBitError k s).pending = s.pending
      ∧ (countBitError k s).link.queue = s.link.queue
      ∧ (countBitError k s).link.rxErrors = s.link.rxErrors
      ∧ (countBitError k s).link.txFail = s.link.txFail
      ∧ (countBitError k s).link.lastDuplicate = s.link.lastDuplicate
      ∧ (countBitError k s).link.heartbeat = s.link.heartbeat := by
  unfold countBitError
  refine ⟨?_, ?_, ?_, ?_, ?_, ?_, ?_, ?_, ?_, ?_, ?_, ?_, ?_, ?_, ?_, ?_, ?_, ?_, ?_, ?_, ?_, ?_⟩ <;>
    rfl

@[simp] theorem failKind_frame (k : FrameKind) (s : State) :
    (failKind k s).ms = s.ms
      ∧ (failKind k s).straps = s.straps
      ∧ (failKind k s).levels = s.levels
      ∧ (failKind k s).sensor = s.sensor
      ∧ (failKind k s).zone = s.zone
      ∧ (failKind k s).free = s.free
      ∧ (failKind k s).pending = s.pending
      ∧ (failKind k s).reck.count = s.reck.count
      ∧ (failKind k s).reck.started = s.reck.started
      ∧ (failKind k s).reck.lastGood = s.reck.lastGood
      ∧ (failKind k s).reck.held = s.reck.held
      ∧ (failKind k s).reck.turnOffset = s.reck.turnOffset
      ∧ (failKind k s).reck.theta0 = s.reck.theta0
      ∧ (failKind k s).reck.sigma = s.reck.sigma
      ∧ (failKind k s).reck.calibrated = s.reck.calibrated
      ∧ (failKind k s).reck.thetaScale = s.reck.thetaScale
      ∧ (failKind k s).reck.anchor = s.reck.anchor
      ∧ (failKind k s).reck.atRest = s.reck.atRest
      ∧ (failKind k s).link.txErrors = s.link.txErrors
      ∧ (failKind k s).link.rxErrors = s.link.rxErrors
      ∧ (failKind k s).link.lastDuplicate = s.link.lastDuplicate
      ∧ (failKind k s).link.heartbeat = s.link.heartbeat
      ∧ (failKind k s).peers.entries = s.peers.entries
      ∧ (failKind k s).peers.digest = s.peers.digest
      ∧ (failKind k s).mark.number = s.mark.number
      ∧ (failKind k s).mark.reported = s.mark.reported
      ∧ (failKind k s).mark.quiet = s.mark.quiet
      ∧ (failKind k s).mark.captureRequested = s.mark.captureRequested
      ∧ (failKind k s).store.cellsA = s.store.cellsA
      ∧ (failKind k s).store.cellsB = s.store.cellsB
      ∧ (failKind k s).store.cellsCal = s.store.cellsCal
      ∧ (failKind k s).store.imageA = s.store.imageA
      ∧ (failKind k s).store.imageB = s.store.imageB
      ∧ (failKind k s).store.imageCal = s.store.imageCal
      ∧ (failKind k s).store.calSeq = s.store.calSeq
      ∧ (failKind k s).store.inFlight = s.store.inFlight
      ∧ (failKind k s).store.scanDone = s.store.scanDone
      ∧ (failKind k s).gradeUnit.chosen = s.gradeUnit.chosen
      ∧ (failKind k s).claim.purpose = s.claim.purpose
      ∧ (failKind k s).search.passes = s.search.passes
      ∧ (failKind k s).search.level = s.search.level
      ∧ (failKind k s).search.total = s.search.total
      ∧ (failKind k s).search.plus = s.search.plus
      ∧ (failKind k s).port.setup = s.port.setup
      ∧ (failKind k s).port.frozen = s.port.frozen
      ∧ (failKind k s).port.tau = s.port.tau
      ∧ (failKind k s).port.span = s.port.span
      ∧ (failKind k s).port.slot = s.port.slot
      ∧ (failKind k s).port.shifted = s.port.shifted
      ∧ (failKind k s).port.lastEnd = s.port.lastEnd
      ∧ (failKind k s).port.changedPeers = s.port.changedPeers := by
  unfold failKind
  refine ⟨?_, ?_, ?_, ?_, ?_, ?_, ?_, ?_, ?_, ?_, ?_, ?_, ?_, ?_, ?_, ?_, ?_, ?_, ?_, ?_, ?_, ?_, ?_, ?_, ?_, ?_,
    ?_, ?_, ?_, ?_, ?_, ?_, ?_, ?_, ?_, ?_, ?_, ?_, ?_, ?_, ?_, ?_, ?_, ?_, ?_, ?_, ?_, ?_, ?_, ?_, ?_⟩ <;>
    simp

@[simp] theorem bitErrorEvent_frame (bit : Nat) (s : State) :
    (bitErrorEvent bit s).ms = s.ms
      ∧ (bitErrorEvent bit s).straps = s.straps
      ∧ (bitErrorEvent bit s).levels = s.levels
      ∧ (bitErrorEvent bit s).sensor = s.sensor
      ∧ (bitErrorEvent bit s).zone = s.zone
      ∧ (bitErrorEvent bit s).free = s.free
      ∧ (bitErrorEvent bit s).pending = s.pending
      ∧ (bitErrorEvent bit s).reck.count = s.reck.count
      ∧ (bitErrorEvent bit s).reck.started = s.reck.started
      ∧ (bitErrorEvent bit s).reck.lastGood = s.reck.lastGood
      ∧ (bitErrorEvent bit s).reck.held = s.reck.held
      ∧ (bitErrorEvent bit s).reck.turnOffset = s.reck.turnOffset
      ∧ (bitErrorEvent bit s).reck.theta0 = s.reck.theta0
      ∧ (bitErrorEvent bit s).reck.sigma = s.reck.sigma
      ∧ (bitErrorEvent bit s).reck.calibrated = s.reck.calibrated
      ∧ (bitErrorEvent bit s).reck.thetaScale = s.reck.thetaScale
      ∧ (bitErrorEvent bit s).reck.anchor = s.reck.anchor
      ∧ (bitErrorEvent bit s).reck.atRest = s.reck.atRest
      ∧ (bitErrorEvent bit s).link.rxErrors = s.link.rxErrors
      ∧ (bitErrorEvent bit s).link.lastDuplicate = s.link.lastDuplicate
      ∧ (bitErrorEvent bit s).link.heartbeat = s.link.heartbeat
      ∧ (bitErrorEvent bit s).peers.entries = s.peers.entries
      ∧ (bitErrorEvent bit s).peers.digest = s.peers.digest
      ∧ (bitErrorEvent bit s).mark.number = s.mark.number
      ∧ (bitErrorEvent bit s).mark.reported = s.mark.reported
      ∧ (bitErrorEvent bit s).mark.quiet = s.mark.quiet
      ∧ (bitErrorEvent bit s).mark.captureRequested = s.mark.captureRequested
      ∧ (bitErrorEvent bit s).store.cellsA = s.store.cellsA
      ∧ (bitErrorEvent bit s).store.cellsB = s.store.cellsB
      ∧ (bitErrorEvent bit s).store.cellsCal = s.store.cellsCal
      ∧ (bitErrorEvent bit s).store.imageA = s.store.imageA
      ∧ (bitErrorEvent bit s).store.imageB = s.store.imageB
      ∧ (bitErrorEvent bit s).store.imageCal = s.store.imageCal
      ∧ (bitErrorEvent bit s).store.calSeq = s.store.calSeq
      ∧ (bitErrorEvent bit s).store.inFlight = s.store.inFlight
      ∧ (bitErrorEvent bit s).store.scanDone = s.store.scanDone
      ∧ (bitErrorEvent bit s).gradeUnit.chosen = s.gradeUnit.chosen
      ∧ (bitErrorEvent bit s).claim.purpose = s.claim.purpose
      ∧ (bitErrorEvent bit s).search.passes = s.search.passes
      ∧ (bitErrorEvent bit s).search.level = s.search.level
      ∧ (bitErrorEvent bit s).search.total = s.search.total
      ∧ (bitErrorEvent bit s).search.plus = s.search.plus
      ∧ (bitErrorEvent bit s).port.setup = s.port.setup
      ∧ (bitErrorEvent bit s).port.frozen = s.port.frozen
      ∧ (bitErrorEvent bit s).port.tau = s.port.tau
      ∧ (bitErrorEvent bit s).port.span = s.port.span
      ∧ (bitErrorEvent bit s).port.slot = s.port.slot
      ∧ (bitErrorEvent bit s).port.shifted = s.port.shifted
      ∧ (bitErrorEvent bit s).port.lastEnd = s.port.lastEnd
      ∧ (bitErrorEvent bit s).port.changedPeers = s.port.changedPeers := by
  unfold bitErrorEvent
  refine ⟨?_, ?_, ?_, ?_, ?_, ?_, ?_, ?_, ?_, ?_, ?_, ?_, ?_, ?_, ?_, ?_, ?_, ?_, ?_, ?_, ?_, ?_, ?_, ?_, ?_, ?_,
    ?_, ?_, ?_, ?_, ?_, ?_, ?_, ?_, ?_, ?_, ?_, ?_, ?_, ?_, ?_, ?_, ?_, ?_, ?_, ?_, ?_, ?_, ?_, ?_⟩ <;>
    first | rfl | ((try dsimp only); (repeat' split) <;> first | rfl | simp | simp_all)

@[simp] theorem countDiscard_frame (s : State) :
    (countDiscard s).phase = s.phase
      ∧ (countDiscard s).ms = s.ms
      ∧ (countDiscard s).straps = s.straps
      ∧ (countDiscard s).levels = s.levels
      ∧ (countDiscard s).sensor = s.sensor
      ∧ (countDiscard s).reck = s.reck
      ∧ (countDiscard s).peers = s.peers
      ∧ (countDiscard s).mark = s.mark
      ∧ (countDiscard s).store = s.store
      ∧ (countDiscard s).gradeUnit = s.gradeUnit
      ∧ (countDiscard s).claim = s.claim
      ∧ (countDiscard s).search = s.search
      ∧ (countDiscard s).zone = s.zone
      ∧ (countDiscard s).free = s.free
      ∧ (countDiscard s).pending = s.pending
      ∧ (countDiscard s).link.queue = s.link.queue
      ∧ (countDiscard s).link.bitErrors = s.link.bitErrors
      ∧ (countDiscard s).link.txErrors = s.link.txErrors
      ∧ (countDiscard s).link.txFail = s.link.txFail
      ∧ (countDiscard s).link.lastDuplicate = s.link.lastDuplicate
      ∧ (countDiscard s).link.heartbeat = s.link.heartbeat
      ∧ (countDiscard s).fault.stopSet = s.fault.stopSet
      ∧ (countDiscard s).port.setup = s.port.setup
      ∧ (countDiscard s).port.frozen = s.port.frozen
      ∧ (countDiscard s).port.tau = s.port.tau
      ∧ (countDiscard s).port.span = s.port.span
      ∧ (countDiscard s).port.slot = s.port.slot
      ∧ (countDiscard s).port.shifted = s.port.shifted
      ∧ (countDiscard s).port.lastEnd = s.port.lastEnd
      ∧ (countDiscard s).port.changedPeers = s.port.changedPeers := by
  unfold countDiscard
  refine ⟨?_, ?_, ?_, ?_, ?_, ?_, ?_, ?_, ?_, ?_, ?_, ?_, ?_, ?_, ?_, ?_, ?_, ?_, ?_, ?_, ?_, ?_, ?_, ?_, ?_, ?_,
    ?_, ?_, ?_, ?_⟩ <;>
    first | rfl | ((try dsimp only); (repeat' split) <;> first | rfl | simp | simp_all)

@[simp] theorem discardFrame_frame (s : State) :
    (discardFrame s).phase = s.phase
      ∧ (discardFrame s).ms = s.ms
      ∧ (discardFrame s).straps = s.straps
      ∧ (discardFrame s).levels = s.levels
      ∧ (discardFrame s).sensor = s.sensor
      ∧ (discardFrame s).reck = s.reck
      ∧ (discardFrame s).peers = s.peers
      ∧ (discardFrame s).mark = s.mark
      ∧ (discardFrame s).store = s.store
      ∧ (discardFrame s).gradeUnit = s.gradeUnit
      ∧ (discardFrame s).claim = s.claim
      ∧ (discardFrame s).search = s.search
      ∧ (discardFrame s).zone = s.zone
      ∧ (discardFrame s).free = s.free
      ∧ (discardFrame s).pending = s.pending
      ∧ (discardFrame s).link.queue = s.link.queue
      ∧ (discardFrame s).link.bitErrors = s.link.bitErrors
      ∧ (discardFrame s).link.txErrors = s.link.txErrors
      ∧ (discardFrame s).link.txFail = s.link.txFail
      ∧ (discardFrame s).link.lastDuplicate = s.link.lastDuplicate
      ∧ (discardFrame s).link.heartbeat = s.link.heartbeat
      ∧ (discardFrame s).fault.stopSet = s.fault.stopSet
      ∧ (discardFrame s).port.setup = s.port.setup
      ∧ (discardFrame s).port.frozen = s.port.frozen
      ∧ (discardFrame s).port.tau = s.port.tau
      ∧ (discardFrame s).port.span = s.port.span
      ∧ (discardFrame s).port.slot = s.port.slot
      ∧ (discardFrame s).port.shifted = s.port.shifted
      ∧ (discardFrame s).port.lastEnd = s.port.lastEnd
      ∧ (discardFrame s).port.changedPeers = s.port.changedPeers := by
  unfold discardFrame
  refine ⟨?_, ?_, ?_, ?_, ?_, ?_, ?_, ?_, ?_, ?_, ?_, ?_, ?_, ?_, ?_, ?_, ?_, ?_, ?_, ?_, ?_, ?_, ?_, ?_, ?_, ?_,
    ?_, ?_, ?_, ?_⟩ <;>
    (split <;> simp)

@[simp] theorem discardEvent_frame (r : Received) (s : State) :
    (discardEvent r s).phase = s.phase
      ∧ (discardEvent r s).ms = s.ms
      ∧ (discardEvent r s).straps = s.straps
      ∧ (discardEvent r s).levels = s.levels
      ∧ (discardEvent r s).sensor = s.sensor
      ∧ (discardEvent r s).reck = s.reck
      ∧ (discardEvent r s).peers = s.peers
      ∧ (discardEvent r s).mark = s.mark
      ∧ (discardEvent r s).store = s.store
      ∧ (discardEvent r s).gradeUnit = s.gradeUnit
      ∧ (discardEvent r s).claim = s.claim
      ∧ (discardEvent r s).search = s.search
      ∧ (discardEvent r s).zone = s.zone
      ∧ (discardEvent r s).free = s.free
      ∧ (discardEvent r s).pending = s.pending
      ∧ (discardEvent r s).link.queue = s.link.queue
      ∧ (discardEvent r s).link.bitErrors = s.link.bitErrors
      ∧ (discardEvent r s).link.txErrors = s.link.txErrors
      ∧ (discardEvent r s).link.txFail = s.link.txFail
      ∧ (discardEvent r s).link.lastDuplicate = s.link.lastDuplicate
      ∧ (discardEvent r s).link.heartbeat = s.link.heartbeat
      ∧ (discardEvent r s).fault.stopSet = s.fault.stopSet
      ∧ (discardEvent r s).port.setup = s.port.setup
      ∧ (discardEvent r s).port.frozen = s.port.frozen
      ∧ (discardEvent r s).port.tau = s.port.tau
      ∧ (discardEvent r s).port.span = s.port.span
      ∧ (discardEvent r s).port.slot = s.port.slot
      ∧ (discardEvent r s).port.shifted = s.port.shifted
      ∧ (discardEvent r s).port.lastEnd = s.port.lastEnd
      ∧ (discardEvent r s).port.changedPeers = s.port.changedPeers := by
  unfold discardEvent
  refine ⟨?_, ?_, ?_, ?_, ?_, ?_, ?_, ?_, ?_, ?_, ?_, ?_, ?_, ?_, ?_, ?_, ?_, ?_, ?_, ?_, ?_, ?_, ?_, ?_, ?_, ?_,
    ?_, ?_, ?_, ?_⟩ <;>
    first | rfl | ((try dsimp only); (repeat' split) <;> first | rfl | simp | simp_all)

@[simp] theorem completeAttempt_frame (a : Attempt) (s : State) :
    (completeAttempt a s).phase = s.phase
      ∧ (completeAttempt a s).ms = s.ms
      ∧ (completeAttempt a s).straps = s.straps
      ∧ (completeAttempt a s).levels = s.levels
      ∧ (completeAttempt a s).sensor = s.sensor
      ∧ (completeAttempt a s).reck = s.reck
      ∧ (completeAttempt a s).peers = s.peers
      ∧ (completeAttempt a s).mark = s.mark
      ∧ (completeAttempt a s).store = s.store
      ∧ (completeAttempt a s).gradeUnit = s.gradeUnit
      ∧ (completeAttempt a s).claim = s.claim
      ∧ (completeAttempt a s).search = s.search
      ∧ (completeAttempt a s).zone = s.zone
      ∧ (completeAttempt a s).fault = s.fault
      ∧ (completeAttempt a s).port = s.port
      ∧ (completeAttempt a s).free = s.free
      ∧ (completeAttempt a s).pending = s.pending
      ∧ (completeAttempt a s).link.txErrors = s.link.txErrors
      ∧ (completeAttempt a s).link.rxErrors = s.link.rxErrors
      ∧ (completeAttempt a s).link.lastDuplicate = s.link.lastDuplicate
      ∧ (completeAttempt a s).link.heartbeat = s.link.heartbeat := by
  unfold completeAttempt
  refine ⟨?_, ?_, ?_, ?_, ?_, ?_, ?_, ?_, ?_, ?_, ?_, ?_, ?_, ?_, ?_, ?_, ?_, ?_, ?_, ?_, ?_⟩ <;>
    rfl

@[simp] theorem duplicate_frame (k : Station) (f : Frame) (s : State) :
    (duplicate k f s).ms = s.ms
      ∧ (duplicate k f s).straps = s.straps
      ∧ (duplicate k f s).levels = s.levels
      ∧ (duplicate k f s).sensor = s.sensor
      ∧ (duplicate k f s).zone = s.zone
      ∧ (duplicate k f s).free = s.free
      ∧ (duplicate k f s).pending = s.pending
      ∧ (duplicate k f s).reck.count = s.reck.count
      ∧ (duplicate k f s).reck.started = s.reck.started
      ∧ (duplicate k f s).reck.lastGood = s.reck.lastGood
      ∧ (duplicate k f s).reck.held = s.reck.held
      ∧ (duplicate k f s).reck.turnOffset = s.reck.turnOffset
      ∧ (duplicate k f s).reck.theta0 = s.reck.theta0
      ∧ (duplicate k f s).reck.sigma = s.reck.sigma
      ∧ (duplicate k f s).reck.calibrated = s.reck.calibrated
      ∧ (duplicate k f s).reck.thetaScale = s.reck.thetaScale
      ∧ (duplicate k f s).reck.anchor = s.reck.anchor
      ∧ (duplicate k f s).reck.atRest = s.reck.atRest
      ∧ (duplicate k f s).link.bitErrors = s.link.bitErrors
      ∧ (duplicate k f s).link.txErrors = s.link.txErrors
      ∧ (duplicate k f s).link.rxErrors = s.link.rxErrors
      ∧ (duplicate k f s).link.txFail = s.link.txFail
      ∧ (duplicate k f s).link.heartbeat = s.link.heartbeat
      ∧ (duplicate k f s).peers.entries = s.peers.entries
      ∧ (duplicate k f s).peers.digest = s.peers.digest
      ∧ (duplicate k f s).mark.number = s.mark.number
      ∧ (duplicate k f s).mark.reported = s.mark.reported
      ∧ (duplicate k f s).mark.quiet = s.mark.quiet
      ∧ (duplicate k f s).mark.captureRequested = s.mark.captureRequested
      ∧ (duplicate k f s).store.cellsA = s.store.cellsA
      ∧ (duplicate k f s).store.cellsB = s.store.cellsB
      ∧ (duplicate k f s).store.cellsCal = s.store.cellsCal
      ∧ (duplicate k f s).store.imageA = s.store.imageA
      ∧ (duplicate k f s).store.imageB = s.store.imageB
      ∧ (duplicate k f s).store.imageCal = s.store.imageCal
      ∧ (duplicate k f s).store.calSeq = s.store.calSeq
      ∧ (duplicate k f s).store.inFlight = s.store.inFlight
      ∧ (duplicate k f s).store.scanDone = s.store.scanDone
      ∧ (duplicate k f s).gradeUnit.chosen = s.gradeUnit.chosen
      ∧ (duplicate k f s).claim.purpose = s.claim.purpose
      ∧ (duplicate k f s).search.passes = s.search.passes
      ∧ (duplicate k f s).search.level = s.search.level
      ∧ (duplicate k f s).search.total = s.search.total
      ∧ (duplicate k f s).search.plus = s.search.plus
      ∧ (duplicate k f s).port.setup = s.port.setup
      ∧ (duplicate k f s).port.frozen = s.port.frozen
      ∧ (duplicate k f s).port.tau = s.port.tau
      ∧ (duplicate k f s).port.span = s.port.span
      ∧ (duplicate k f s).port.slot = s.port.slot
      ∧ (duplicate k f s).port.shifted = s.port.shifted
      ∧ (duplicate k f s).port.lastEnd = s.port.lastEnd
      ∧ (duplicate k f s).port.changedPeers = s.port.changedPeers := by
  unfold duplicate
  refine ⟨?_, ?_, ?_, ?_, ?_, ?_, ?_, ?_, ?_, ?_, ?_, ?_, ?_, ?_, ?_, ?_, ?_, ?_, ?_, ?_, ?_, ?_, ?_, ?_, ?_, ?_,
    ?_, ?_, ?_, ?_, ?_, ?_, ?_, ?_, ?_, ?_, ?_, ?_, ?_, ?_, ?_, ?_, ?_, ?_, ?_, ?_, ?_, ?_, ?_, ?_, ?_, ?_⟩ <;>
    first | rfl | ((try dsimp only); (repeat' split) <;> first | rfl | simp | simp_all)

/-! ### Arrivals -/

@[simp] theorem noMore_frame (s : State) :
    (noMore s).phase = s.phase
      ∧ (noMore s).ms = s.ms
      ∧ (noMore s).straps = s.straps
      ∧ (noMore s).levels = s.levels
      ∧ (noMore s).sensor = s.sensor
      ∧ (noMore s).reck = s.reck
      ∧ (noMore s).link = s.link
      ∧ (noMore s).peers = s.peers
      ∧ (noMore s).mark = s.mark
      ∧ (noMore s).store = s.store
      ∧ (noMore s).gradeUnit = s.gradeUnit
      ∧ (noMore s).claim = s.claim
      ∧ (noMore s).search = s.search
      ∧ (noMore s).zone = s.zone
      ∧ (noMore s).fault = s.fault
      ∧ (noMore s).port = s.port
      ∧ (noMore s).free = s.free
      ∧ (noMore s).pending = s.pending := by
  unfold noMore
  refine ⟨?_, ?_, ?_, ?_, ?_, ?_, ?_, ?_, ?_, ?_, ?_, ?_, ?_, ?_, ?_, ?_, ?_, ?_⟩ <;>
    rfl

@[simp] theorem haltFromPeer_frame (k : Station) (s : State) :
    (haltFromPeer k s).ms = s.ms
      ∧ (haltFromPeer k s).straps = s.straps
      ∧ (haltFromPeer k s).levels = s.levels
      ∧ (haltFromPeer k s).sensor = s.sensor
      ∧ (haltFromPeer k s).gradeUnit = s.gradeUnit
      ∧ (haltFromPeer k s).zone = s.zone
      ∧ (haltFromPeer k s).free = s.free
      ∧ (haltFromPeer k s).pending = s.pending
      ∧ (haltFromPeer k s).reck.count = s.reck.count
      ∧ (haltFromPeer k s).reck.started = s.reck.started
      ∧ (haltFromPeer k s).reck.lastGood = s.reck.lastGood
      ∧ (haltFromPeer k s).reck.held = s.reck.held
      ∧ (haltFromPeer k s).reck.turnOffset = s.reck.turnOffset
      ∧ (haltFromPeer k s).reck.theta0 = s.reck.theta0
      ∧ (haltFromPeer k s).reck.sigma = s.reck.sigma
      ∧ (haltFromPeer k s).reck.calibrated = s.reck.calibrated
      ∧ (haltFromPeer k s).reck.basis = s.reck.basis
      ∧ (haltFromPeer k s).reck.thetaScale = s.reck.thetaScale
      ∧ (haltFromPeer k s).reck.anchor = s.reck.anchor
      ∧ (haltFromPeer k s).reck.atRest = s.reck.atRest
      ∧ (haltFromPeer k s).reck.drift = s.reck.drift
      ∧ (haltFromPeer k s).link.bitErrors = s.link.bitErrors
      ∧ (haltFromPeer k s).link.txErrors = s.link.txErrors
      ∧ (haltFromPeer k s).link.rxErrors = s.link.rxErrors
      ∧ (haltFromPeer k s).link.txFail = s.link.txFail
      ∧ (haltFromPeer k s).link.lastDuplicate = s.link.lastDuplicate
      ∧ (haltFromPeer k s).link.heartbeat = s.link.heartbeat
      ∧ (haltFromPeer k s).peers.entries = s.peers.entries
      ∧ (haltFromPeer k s).peers.digest = s.peers.digest
      ∧ (haltFromPeer k s).mark.state = s.mark.state
      ∧ (haltFromPeer k s).mark.number = s.mark.number
      ∧ (haltFromPeer k s).mark.reported = s.mark.reported
      ∧ (haltFromPeer k s).mark.quiet = s.mark.quiet
      ∧ (haltFromPeer k s).mark.leadWait = s.mark.leadWait
      ∧ (haltFromPeer k s).mark.captureRequested = s.mark.captureRequested
      ∧ (haltFromPeer k s).store.cellsA = s.store.cellsA
      ∧ (haltFromPeer k s).store.cellsB = s.store.cellsB
      ∧ (haltFromPeer k s).store.cellsCal = s.store.cellsCal
      ∧ (haltFromPeer k s).store.imageA = s.store.imageA
      ∧ (haltFromPeer k s).store.imageB = s.store.imageB
      ∧ (haltFromPeer k s).store.imageCal = s.store.imageCal
      ∧ (haltFromPeer k s).store.calSeq = s.store.calSeq
      ∧ (haltFromPeer k s).store.inFlight = s.store.inFlight
      ∧ (haltFromPeer k s).store.pendingSnap = s.store.pendingSnap
      ∧ (haltFromPeer k s).store.scanDone = s.store.scanDone
      ∧ (haltFromPeer k s).claim.purpose = s.claim.purpose
      ∧ (haltFromPeer k s).search.passes = s.search.passes
      ∧ (haltFromPeer k s).search.level = s.search.level
      ∧ (haltFromPeer k s).search.total = s.search.total
      ∧ (haltFromPeer k s).search.plus = s.search.plus
      ∧ (haltFromPeer k s).port.setup = s.port.setup
      ∧ (haltFromPeer k s).port.frozen = s.port.frozen
      ∧ (haltFromPeer k s).port.tau = s.port.tau
      ∧ (haltFromPeer k s).port.span = s.port.span
      ∧ (haltFromPeer k s).port.slot = s.port.slot
      ∧ (haltFromPeer k s).port.shifted = s.port.shifted
      ∧ (haltFromPeer k s).port.lastEnd = s.port.lastEnd
      ∧ (haltFromPeer k s).port.changedPeers = s.port.changedPeers := by
  unfold haltFromPeer
  refine ⟨?_, ?_, ?_, ?_, ?_, ?_, ?_, ?_, ?_, ?_, ?_, ?_, ?_, ?_, ?_, ?_, ?_, ?_, ?_, ?_, ?_, ?_, ?_, ?_, ?_, ?_,
    ?_, ?_, ?_, ?_, ?_, ?_, ?_, ?_, ?_, ?_, ?_, ?_, ?_, ?_, ?_, ?_, ?_, ?_, ?_, ?_, ?_, ?_, ?_, ?_, ?_, ?_, ?_, ?_,
    ?_, ?_, ?_, ?_⟩ <;>
    (repeat' split) <;> simp

@[simp] theorem adoptCall_frame (n : Byte) (s : State) :
    (adoptCall n s).phase = s.phase
      ∧ (adoptCall n s).ms = s.ms
      ∧ (adoptCall n s).straps = s.straps
      ∧ (adoptCall n s).levels = s.levels
      ∧ (adoptCall n s).sensor = s.sensor
      ∧ (adoptCall n s).reck = s.reck
      ∧ (adoptCall n s).peers = s.peers
      ∧ (adoptCall n s).store = s.store
      ∧ (adoptCall n s).gradeUnit = s.gradeUnit
      ∧ (adoptCall n s).claim = s.claim
      ∧ (adoptCall n s).search = s.search
      ∧ (adoptCall n s).zone = s.zone
      ∧ (adoptCall n s).fault = s.fault
      ∧ (adoptCall n s).port = s.port
      ∧ (adoptCall n s).free = s.free
      ∧ (adoptCall n s).pending = s.pending
      ∧ (adoptCall n s).link.line = s.link.line
      ∧ (adoptCall n s).link.bitErrors = s.link.bitErrors
      ∧ (adoptCall n s).link.txErrors = s.link.txErrors
      ∧ (adoptCall n s).link.rxErrors = s.link.rxErrors
      ∧ (adoptCall n s).link.txFail = s.link.txFail
      ∧ (adoptCall n s).link.lastDuplicate = s.link.lastDuplicate
      ∧ (adoptCall n s).link.heartbeat = s.link.heartbeat
      ∧ (adoptCall n s).mark.needs = s.mark.needs
      ∧ (adoptCall n s).mark.quiet = s.mark.quiet
      ∧ (adoptCall n s).mark.leadWait = s.mark.leadWait
      ∧ (adoptCall n s).mark.captureRequested = s.mark.captureRequested
      ∧ (adoptCall n s).mark.serving = s.mark.serving := by
  unfold adoptCall
  refine ⟨?_, ?_, ?_, ?_, ?_, ?_, ?_, ?_, ?_, ?_, ?_, ?_, ?_, ?_, ?_, ?_, ?_, ?_, ?_, ?_, ?_, ?_, ?_, ?_, ?_, ?_,
    ?_, ?_⟩ <;>
    rfl

@[simp] theorem takeCall_frame (sender : Station) (n : Byte) (s : State) :
    (takeCall sender n s).phase = s.phase
      ∧ (takeCall sender n s).ms = s.ms
      ∧ (takeCall sender n s).straps = s.straps
      ∧ (takeCall sender n s).levels = s.levels
      ∧ (takeCall sender n s).sensor = s.sensor
      ∧ (takeCall sender n s).reck = s.reck
      ∧ (takeCall sender n s).peers = s.peers
      ∧ (takeCall sender n s).store = s.store
      ∧ (takeCall sender n s).gradeUnit = s.gradeUnit
      ∧ (takeCall sender n s).claim = s.claim
      ∧ (takeCall sender n s).search = s.search
      ∧ (takeCall sender n s).zone = s.zone
      ∧ (takeCall sender n s).free = s.free
      ∧ (takeCall sender n s).pending = s.pending
      ∧ (takeCall sender n s).link.line = s.link.line
      ∧ (takeCall sender n s).link.bitErrors = s.link.bitErrors
      ∧ (takeCall sender n s).link.txErrors = s.link.txErrors
      ∧ (takeCall sender n s).link.rxErrors = s.link.rxErrors
      ∧ (takeCall sender n s).link.txFail = s.link.txFail
      ∧ (takeCall sender n s).link.lastDuplicate = s.link.lastDuplicate
      ∧ (takeCall sender n s).link.heartbeat = s.link.heartbeat
      ∧ (takeCall sender n s).mark.needs = s.mark.needs
      ∧ (takeCall sender n s).mark.leadWait = s.mark.leadWait
      ∧ (takeCall sender n s).mark.captureRequested = s.mark.captureRequested
      ∧ (takeCall sender n s).mark.serving = s.mark.serving
      ∧ (takeCall sender n s).fault.stopSet = s.fault.stopSet
      ∧ (takeCall sender n s).port.setup = s.port.setup
      ∧ (takeCall sender n s).port.frozen = s.port.frozen
      ∧ (takeCall sender n s).port.tau = s.port.tau
      ∧ (takeCall sender n s).port.span = s.port.span
      ∧ (takeCall sender n s).port.slot = s.port.slot
      ∧ (takeCall sender n s).port.shifted = s.port.shifted
      ∧ (takeCall sender n s).port.lastEnd = s.port.lastEnd
      ∧ (takeCall sender n s).port.changedPeers = s.port.changedPeers := by
  unfold takeCall callHeard
  refine ⟨?_, ?_, ?_, ?_, ?_, ?_, ?_, ?_, ?_, ?_, ?_, ?_, ?_, ?_, ?_, ?_, ?_, ?_, ?_, ?_, ?_, ?_, ?_, ?_, ?_, ?_,
    ?_, ?_, ?_, ?_, ?_, ?_, ?_, ?_⟩ <;>
    (repeat' split) <;> rfl

/-- What a call does to the quiet timer: a merged one nothing, every other a start from zero while the line is high. -/
theorem takeCall_quiet (sender : Station) (n : Byte) (s : State) :
    (takeCall sender n s).mark.quiet =
      if takesCalls s.phase = true ∧ s.mark.state ≠ .idle ∧ n = s.mark.number then s.mark.quiet
      else if s.levels.alhHigh = true then startTimer (setupOf s).plan.h s else s.mark.quiet := by
  unfold takeCall callHeard
  repeat' split
  all_goals first | rfl | simp_all

@[simp] theorem countReport_frame (sender : Station) (n : Byte) (s : State) :
    (countReport sender n s).phase = s.phase
      ∧ (countReport sender n s).ms = s.ms
      ∧ (countReport sender n s).straps = s.straps
      ∧ (countReport sender n s).levels = s.levels
      ∧ (countReport sender n s).sensor = s.sensor
      ∧ (countReport sender n s).reck = s.reck
      ∧ (countReport sender n s).link = s.link
      ∧ (countReport sender n s).peers = s.peers
      ∧ (countReport sender n s).store = s.store
      ∧ (countReport sender n s).gradeUnit = s.gradeUnit
      ∧ (countReport sender n s).claim = s.claim
      ∧ (countReport sender n s).search = s.search
      ∧ (countReport sender n s).zone = s.zone
      ∧ (countReport sender n s).fault = s.fault
      ∧ (countReport sender n s).port = s.port
      ∧ (countReport sender n s).free = s.free
      ∧ (countReport sender n s).pending = s.pending
      ∧ (countReport sender n s).mark.state = s.mark.state
      ∧ (countReport sender n s).mark.number = s.mark.number
      ∧ (countReport sender n s).mark.needs = s.mark.needs
      ∧ (countReport sender n s).mark.quiet = s.mark.quiet
      ∧ (countReport sender n s).mark.leadWait = s.mark.leadWait
      ∧ (countReport sender n s).mark.captureRequested = s.mark.captureRequested
      ∧ (countReport sender n s).mark.serving = s.mark.serving := by
  unfold countReport
  refine ⟨?_, ?_, ?_, ?_, ?_, ?_, ?_, ?_, ?_, ?_, ?_, ?_, ?_, ?_, ?_, ?_, ?_, ?_, ?_, ?_, ?_, ?_, ?_, ?_⟩ <;>
    (repeat' split) <;> rfl

@[simp] theorem ownReportIn_frame (sender : Station) (n : Byte) (s : State) :
    (ownReportIn sender n s).phase = s.phase
      ∧ (ownReportIn sender n s).ms = s.ms
      ∧ (ownReportIn sender n s).straps = s.straps
      ∧ (ownReportIn sender n s).levels = s.levels
      ∧ (ownReportIn sender n s).sensor = s.sensor
      ∧ (ownReportIn sender n s).reck = s.reck
      ∧ (ownReportIn sender n s).link = s.link
      ∧ (ownReportIn sender n s).peers = s.peers
      ∧ (ownReportIn sender n s).store = s.store
      ∧ (ownReportIn sender n s).gradeUnit = s.gradeUnit
      ∧ (ownReportIn sender n s).claim = s.claim
      ∧ (ownReportIn sender n s).search = s.search
      ∧ (ownReportIn sender n s).zone = s.zone
      ∧ (ownReportIn sender n s).fault = s.fault
      ∧ (ownReportIn sender n s).port = s.port
      ∧ (ownReportIn sender n s).free = s.free
      ∧ (ownReportIn sender n s).pending = s.pending
      ∧ (ownReportIn sender n s).mark.state = s.mark.state
      ∧ (ownReportIn sender n s).mark.reported = s.mark.reported
      ∧ (ownReportIn sender n s).mark.number = s.mark.number
      ∧ (ownReportIn sender n s).mark.needs = s.mark.needs
      ∧ (ownReportIn sender n s).mark.quiet = s.mark.quiet
      ∧ (ownReportIn sender n s).mark.leadWait = s.mark.leadWait
      ∧ (ownReportIn sender n s).mark.captureRequested = s.mark.captureRequested
      ∧ (ownReportIn sender n s).mark.serving = s.mark.serving := by
  unfold ownReportIn
  refine ⟨?_, ?_, ?_, ?_, ?_, ?_, ?_, ?_, ?_, ?_, ?_, ?_, ?_, ?_, ?_, ?_, ?_, ?_, ?_, ?_, ?_, ?_, ?_, ?_, ?_⟩ <;>
    (split <;> rfl)

@[simp] theorem reportEcho_frame (sender : Station) (n : Byte) (s : State) :
    (reportEcho sender n s).phase = s.phase
      ∧ (reportEcho sender n s).ms = s.ms
      ∧ (reportEcho sender n s).straps = s.straps
      ∧ (reportEcho sender n s).levels = s.levels
      ∧ (reportEcho sender n s).sensor = s.sensor
      ∧ (reportEcho sender n s).reck = s.reck
      ∧ (reportEcho sender n s).link = s.link
      ∧ (reportEcho sender n s).peers = s.peers
      ∧ (reportEcho sender n s).store = s.store
      ∧ (reportEcho sender n s).gradeUnit = s.gradeUnit
      ∧ (reportEcho sender n s).claim = s.claim
      ∧ (reportEcho sender n s).search = s.search
      ∧ (reportEcho sender n s).zone = s.zone
      ∧ (reportEcho sender n s).fault = s.fault
      ∧ (reportEcho sender n s).port = s.port
      ∧ (reportEcho sender n s).free = s.free
      ∧ (reportEcho sender n s).pending = s.pending
      ∧ (reportEcho sender n s).mark.state = s.mark.state
      ∧ (reportEcho sender n s).mark.number = s.mark.number
      ∧ (reportEcho sender n s).mark.needs = s.mark.needs
      ∧ (reportEcho sender n s).mark.quiet = s.mark.quiet
      ∧ (reportEcho sender n s).mark.leadWait = s.mark.leadWait
      ∧ (reportEcho sender n s).mark.captureRequested = s.mark.captureRequested
      ∧ (reportEcho sender n s).mark.serving = s.mark.serving := by
  unfold reportEcho
  refine ⟨?_, ?_, ?_, ?_, ?_, ?_, ?_, ?_, ?_, ?_, ?_, ?_, ?_, ?_, ?_, ?_, ?_, ?_, ?_, ?_, ?_, ?_, ?_, ?_⟩ <;>
    simp

@[simp] theorem leadReports_frame (sender : Station) (r : MarkReport) (s : State) :
    (leadReports sender r s).ms = s.ms
      ∧ (leadReports sender r s).straps = s.straps
      ∧ (leadReports sender r s).levels = s.levels
      ∧ (leadReports sender r s).sensor = s.sensor
      ∧ (leadReports sender r s).zone = s.zone
      ∧ (leadReports sender r s).pending = s.pending
      ∧ (leadReports sender r s).reck.started = s.reck.started
      ∧ (leadReports sender r s).reck.lastGood = s.reck.lastGood
      ∧ (leadReports sender r s).reck.theta0 = s.reck.theta0
      ∧ (leadReports sender r s).reck.sigma = s.reck.sigma
      ∧ (leadReports sender r s).reck.calibrated = s.reck.calibrated
      ∧ (leadReports sender r s).reck.thetaScale = s.reck.thetaScale
      ∧ (leadReports sender r s).reck.atRest = s.reck.atRest
      ∧ (leadReports sender r s).link.bitErrors = s.link.bitErrors
      ∧ (leadReports sender r s).link.txErrors = s.link.txErrors
      ∧ (leadReports sender r s).link.rxErrors = s.link.rxErrors
      ∧ (leadReports sender r s).link.txFail = s.link.txFail
      ∧ (leadReports sender r s).link.lastDuplicate = s.link.lastDuplicate
      ∧ (leadReports sender r s).link.heartbeat = s.link.heartbeat
      ∧ (leadReports sender r s).peers.entries = s.peers.entries
      ∧ (leadReports sender r s).peers.digest = s.peers.digest
      ∧ (leadReports sender r s).mark.number = s.mark.number
      ∧ (leadReports sender r s).mark.reported = s.mark.reported
      ∧ (leadReports sender r s).mark.quiet = s.mark.quiet
      ∧ (leadReports sender r s).mark.captureRequested = s.mark.captureRequested
      ∧ (leadReports sender r s).store.cellsA = s.store.cellsA
      ∧ (leadReports sender r s).store.cellsB = s.store.cellsB
      ∧ (leadReports sender r s).store.cellsCal = s.store.cellsCal
      ∧ (leadReports sender r s).store.imageA = s.store.imageA
      ∧ (leadReports sender r s).store.imageB = s.store.imageB
      ∧ (leadReports sender r s).store.imageCal = s.store.imageCal
      ∧ (leadReports sender r s).store.calSeq = s.store.calSeq
      ∧ (leadReports sender r s).store.inFlight = s.store.inFlight
      ∧ (leadReports sender r s).store.scanDone = s.store.scanDone
      ∧ (leadReports sender r s).gradeUnit.chosen = s.gradeUnit.chosen
      ∧ (leadReports sender r s).claim.purpose = s.claim.purpose
      ∧ (leadReports sender r s).search.passes = s.search.passes
      ∧ (leadReports sender r s).search.level = s.search.level
      ∧ (leadReports sender r s).search.total = s.search.total
      ∧ (leadReports sender r s).search.plus = s.search.plus
      ∧ (leadReports sender r s).port.setup = s.port.setup
      ∧ (leadReports sender r s).port.frozen = s.port.frozen
      ∧ (leadReports sender r s).port.tau = s.port.tau
      ∧ (leadReports sender r s).port.span = s.port.span
      ∧ (leadReports sender r s).port.slot = s.port.slot
      ∧ (leadReports sender r s).port.shifted = s.port.shifted
      ∧ (leadReports sender r s).port.lastEnd = s.port.lastEnd
      ∧ (leadReports sender r s).port.changedPeers = s.port.changedPeers := by
  unfold leadReports
  refine ⟨?_, ?_, ?_, ?_, ?_, ?_, ?_, ?_, ?_, ?_, ?_, ?_, ?_, ?_, ?_, ?_, ?_, ?_, ?_, ?_, ?_, ?_, ?_, ?_, ?_, ?_,
    ?_, ?_, ?_, ?_, ?_, ?_, ?_, ?_, ?_, ?_, ?_, ?_, ?_, ?_, ?_, ?_, ?_, ?_, ?_, ?_, ?_, ?_⟩ <;>
    first | rfl | ((try dsimp only); (repeat' split) <;> first | rfl | simp | simp_all)

@[simp] theorem reportFromPeer_frame (sender : Station) (r : MarkReport) (s : State) :
    (reportFromPeer sender r s).ms = s.ms
      ∧ (reportFromPeer sender r s).straps = s.straps
      ∧ (reportFromPeer sender r s).levels = s.levels
      ∧ (reportFromPeer sender r s).sensor = s.sensor
      ∧ (reportFromPeer sender r s).zone = s.zone
      ∧ (reportFromPeer sender r s).pending = s.pending
      ∧ (reportFromPeer sender r s).reck.started = s.reck.started
      ∧ (reportFromPeer sender r s).reck.lastGood = s.reck.lastGood
      ∧ (reportFromPeer sender r s).reck.theta0 = s.reck.theta0
      ∧ (reportFromPeer sender r s).reck.sigma = s.reck.sigma
      ∧ (reportFromPeer sender r s).reck.calibrated = s.reck.calibrated
      ∧ (reportFromPeer sender r s).reck.thetaScale = s.reck.thetaScale
      ∧ (reportFromPeer sender r s).reck.atRest = s.reck.atRest
      ∧ (reportFromPeer sender r s).link.bitErrors = s.link.bitErrors
      ∧ (reportFromPeer sender r s).link.txErrors = s.link.txErrors
      ∧ (reportFromPeer sender r s).link.rxErrors = s.link.rxErrors
      ∧ (reportFromPeer sender r s).link.txFail = s.link.txFail
      ∧ (reportFromPeer sender r s).link.lastDuplicate = s.link.lastDuplicate
      ∧ (reportFromPeer sender r s).link.heartbeat = s.link.heartbeat
      ∧ (reportFromPeer sender r s).peers.entries = s.peers.entries
      ∧ (reportFromPeer sender r s).peers.digest = s.peers.digest
      ∧ (reportFromPeer sender r s).mark.number = s.mark.number
      ∧ (reportFromPeer sender r s).mark.quiet = s.mark.quiet
      ∧ (reportFromPeer sender r s).mark.captureRequested = s.mark.captureRequested
      ∧ (reportFromPeer sender r s).store.cellsA = s.store.cellsA
      ∧ (reportFromPeer sender r s).store.cellsB = s.store.cellsB
      ∧ (reportFromPeer sender r s).store.cellsCal = s.store.cellsCal
      ∧ (reportFromPeer sender r s).store.imageA = s.store.imageA
      ∧ (reportFromPeer sender r s).store.imageB = s.store.imageB
      ∧ (reportFromPeer sender r s).store.imageCal = s.store.imageCal
      ∧ (reportFromPeer sender r s).store.calSeq = s.store.calSeq
      ∧ (reportFromPeer sender r s).store.inFlight = s.store.inFlight
      ∧ (reportFromPeer sender r s).store.scanDone = s.store.scanDone
      ∧ (reportFromPeer sender r s).gradeUnit.chosen = s.gradeUnit.chosen
      ∧ (reportFromPeer sender r s).claim.purpose = s.claim.purpose
      ∧ (reportFromPeer sender r s).search.passes = s.search.passes
      ∧ (reportFromPeer sender r s).search.level = s.search.level
      ∧ (reportFromPeer sender r s).search.total = s.search.total
      ∧ (reportFromPeer sender r s).search.plus = s.search.plus
      ∧ (reportFromPeer sender r s).port.setup = s.port.setup
      ∧ (reportFromPeer sender r s).port.frozen = s.port.frozen
      ∧ (reportFromPeer sender r s).port.tau = s.port.tau
      ∧ (reportFromPeer sender r s).port.span = s.port.span
      ∧ (reportFromPeer sender r s).port.slot = s.port.slot
      ∧ (reportFromPeer sender r s).port.shifted = s.port.shifted
      ∧ (reportFromPeer sender r s).port.lastEnd = s.port.lastEnd
      ∧ (reportFromPeer sender r s).port.changedPeers = s.port.changedPeers := by
  unfold reportFromPeer
  refine ⟨?_, ?_, ?_, ?_, ?_, ?_, ?_, ?_, ?_, ?_, ?_, ?_, ?_, ?_, ?_, ?_, ?_, ?_, ?_, ?_, ?_, ?_, ?_, ?_, ?_, ?_,
    ?_, ?_, ?_, ?_, ?_, ?_, ?_, ?_, ?_, ?_, ?_, ?_, ?_, ?_, ?_, ?_, ?_, ?_, ?_, ?_, ?_⟩ <;>
    first | rfl | ((try dsimp only); (repeat' split) <;> first | rfl | simp | simp_all)

@[simp] theorem claimFromPeer_frame (sender : Station) (s : State) :
    (claimFromPeer sender s).phase = s.phase
      ∧ (claimFromPeer sender s).ms = s.ms
      ∧ (claimFromPeer sender s).straps = s.straps
      ∧ (claimFromPeer sender s).levels = s.levels
      ∧ (claimFromPeer sender s).sensor = s.sensor
      ∧ (claimFromPeer sender s).reck = s.reck
      ∧ (claimFromPeer sender s).peers = s.peers
      ∧ (claimFromPeer sender s).mark = s.mark
      ∧ (claimFromPeer sender s).store = s.store
      ∧ (claimFromPeer sender s).gradeUnit = s.gradeUnit
      ∧ (claimFromPeer sender s).search = s.search
      ∧ (claimFromPeer sender s).zone = s.zone
      ∧ (claimFromPeer sender s).fault = s.fault
      ∧ (claimFromPeer sender s).port = s.port
      ∧ (claimFromPeer sender s).free = s.free
      ∧ (claimFromPeer sender s).pending = s.pending
      ∧ (claimFromPeer sender s).link.line = s.link.line
      ∧ (claimFromPeer sender s).link.bitErrors = s.link.bitErrors
      ∧ (claimFromPeer sender s).link.txErrors = s.link.txErrors
      ∧ (claimFromPeer sender s).link.rxErrors = s.link.rxErrors
      ∧ (claimFromPeer sender s).link.txFail = s.link.txFail
      ∧ (claimFromPeer sender s).link.lastDuplicate = s.link.lastDuplicate
      ∧ (claimFromPeer sender s).link.heartbeat = s.link.heartbeat
      ∧ (claimFromPeer sender s).claim.wanted = s.claim.wanted
      ∧ (claimFromPeer sender s).claim.purpose = s.claim.purpose
      ∧ (claimFromPeer sender s).claim.dirState = s.claim.dirState
      ∧ (claimFromPeer sender s).claim.dir = s.claim.dir
      ∧ (claimFromPeer sender s).claim.lastNumber = s.claim.lastNumber
      ∧ (claimFromPeer sender s).claim.untakenOpen = s.claim.untakenOpen
      ∧ (claimFromPeer sender s).claim.untakenTimer = s.claim.untakenTimer
      ∧ (claimFromPeer sender s).claim.allowance = s.claim.allowance := by
  unfold claimFromPeer
  refine ⟨?_, ?_, ?_, ?_, ?_, ?_, ?_, ?_, ?_, ?_, ?_, ?_, ?_, ?_, ?_, ?_, ?_, ?_, ?_, ?_, ?_, ?_, ?_, ?_, ?_, ?_,
    ?_, ?_, ?_, ?_, ?_⟩ <;>
    first | rfl | ((try dsimp only); (repeat' split) <;> first | rfl | simp | simp_all)

@[simp] theorem claimEcho_frame (s : State) :
    (claimEcho s).phase = s.phase
      ∧ (claimEcho s).ms = s.ms
      ∧ (claimEcho s).straps = s.straps
      ∧ (claimEcho s).levels = s.levels
      ∧ (claimEcho s).sensor = s.sensor
      ∧ (claimEcho s).reck = s.reck
      ∧ (claimEcho s).peers = s.peers
      ∧ (claimEcho s).mark = s.mark
      ∧ (claimEcho s).store = s.store
      ∧ (claimEcho s).gradeUnit = s.gradeUnit
      ∧ (claimEcho s).zone = s.zone
      ∧ (claimEcho s).fault = s.fault
      ∧ (claimEcho s).free = s.free
      ∧ (claimEcho s).pending = s.pending
      ∧ (claimEcho s).link.bitErrors = s.link.bitErrors
      ∧ (claimEcho s).link.txErrors = s.link.txErrors
      ∧ (claimEcho s).link.rxErrors = s.link.rxErrors
      ∧ (claimEcho s).link.txFail = s.link.txFail
      ∧ (claimEcho s).link.lastDuplicate = s.link.lastDuplicate
      ∧ (claimEcho s).link.heartbeat = s.link.heartbeat
      ∧ (claimEcho s).claim.purpose = s.claim.purpose
      ∧ (claimEcho s).search.outcome = s.search.outcome
      ∧ (claimEcho s).search.passes = s.search.passes
      ∧ (claimEcho s).search.level = s.search.level
      ∧ (claimEcho s).search.total = s.search.total
      ∧ (claimEcho s).search.plus = s.search.plus
      ∧ (claimEcho s).port.setup = s.port.setup
      ∧ (claimEcho s).port.frozen = s.port.frozen
      ∧ (claimEcho s).port.tau = s.port.tau
      ∧ (claimEcho s).port.span = s.port.span
      ∧ (claimEcho s).port.slot = s.port.slot
      ∧ (claimEcho s).port.shifted = s.port.shifted
      ∧ (claimEcho s).port.lastEnd = s.port.lastEnd
      ∧ (claimEcho s).port.changedPeers = s.port.changedPeers := by
  unfold claimEcho
  refine ⟨?_, ?_, ?_, ?_, ?_, ?_, ?_, ?_, ?_, ?_, ?_, ?_, ?_, ?_, ?_, ?_, ?_, ?_, ?_, ?_, ?_, ?_, ?_, ?_, ?_, ?_,
    ?_, ?_, ?_, ?_, ?_, ?_, ?_, ?_⟩ <;>
    first | rfl | ((try dsimp only); (repeat' split) <;> first | rfl | simp | simp_all)

@[simp] theorem releaseEcho_frame (s : State) :
    (releaseEcho s).phase = s.phase
      ∧ (releaseEcho s).ms = s.ms
      ∧ (releaseEcho s).straps = s.straps
      ∧ (releaseEcho s).levels = s.levels
      ∧ (releaseEcho s).sensor = s.sensor
      ∧ (releaseEcho s).reck = s.reck
      ∧ (releaseEcho s).link = s.link
      ∧ (releaseEcho s).peers = s.peers
      ∧ (releaseEcho s).mark = s.mark
      ∧ (releaseEcho s).store = s.store
      ∧ (releaseEcho s).gradeUnit = s.gradeUnit
      ∧ (releaseEcho s).search = s.search
      ∧ (releaseEcho s).zone = s.zone
      ∧ (releaseEcho s).fault = s.fault
      ∧ (releaseEcho s).port = s.port
      ∧ (releaseEcho s).free = s.free
      ∧ (releaseEcho s).pending = s.pending
      ∧ (releaseEcho s).claim.purpose = s.claim.purpose
      ∧ (releaseEcho s).claim.dirState = s.claim.dirState
      ∧ (releaseEcho s).claim.dir = s.claim.dir
      ∧ (releaseEcho s).claim.lastNumber = s.claim.lastNumber
      ∧ (releaseEcho s).claim.untakenOpen = s.claim.untakenOpen
      ∧ (releaseEcho s).claim.untakenTimer = s.claim.untakenTimer
      ∧ (releaseEcho s).claim.allowance = s.claim.allowance := by
  unfold releaseEcho
  refine ⟨?_, ?_, ?_, ?_, ?_, ?_, ?_, ?_, ?_, ?_, ?_, ?_, ?_, ?_, ?_, ?_, ?_, ?_, ?_, ?_, ?_, ?_, ?_, ?_⟩ <;>
    first | rfl | ((try dsimp only); (repeat' split) <;> first | rfl | simp | simp_all)

@[simp] theorem claimConflict_frame (mine other : Station) (s : State) :
    (claimConflict mine other s).ms = s.ms
      ∧ (claimConflict mine other s).straps = s.straps
      ∧ (claimConflict mine other s).levels = s.levels
      ∧ (claimConflict mine other s).sensor = s.sensor
      ∧ (claimConflict mine other s).gradeUnit = s.gradeUnit
      ∧ (claimConflict mine other s).zone = s.zone
      ∧ (claimConflict mine other s).free = s.free
      ∧ (claimConflict mine other s).pending = s.pending
      ∧ (claimConflict mine other s).reck.count = s.reck.count
      ∧ (claimConflict mine other s).reck.started = s.reck.started
      ∧ (claimConflict mine other s).reck.lastGood = s.reck.lastGood
      ∧ (claimConflict mine other s).reck.held = s.reck.held
      ∧ (claimConflict mine other s).reck.turnOffset = s.reck.turnOffset
      ∧ (claimConflict mine other s).reck.theta0 = s.reck.theta0
      ∧ (claimConflict mine other s).reck.sigma = s.reck.sigma
      ∧ (claimConflict mine other s).reck.calibrated = s.reck.calibrated
      ∧ (claimConflict mine other s).reck.basis = s.reck.basis
      ∧ (claimConflict mine other s).reck.thetaScale = s.reck.thetaScale
      ∧ (claimConflict mine other s).reck.anchor = s.reck.anchor
      ∧ (claimConflict mine other s).reck.atRest = s.reck.atRest
      ∧ (claimConflict mine other s).reck.drift = s.reck.drift
      ∧ (claimConflict mine other s).link.bitErrors = s.link.bitErrors
      ∧ (claimConflict mine other s).link.txErrors = s.link.txErrors
      ∧ (claimConflict mine other s).link.rxErrors = s.link.rxErrors
      ∧ (claimConflict mine other s).link.txFail = s.link.txFail
      ∧ (claimConflict mine other s).link.lastDuplicate = s.link.lastDuplicate
      ∧ (claimConflict mine other s).link.heartbeat = s.link.heartbeat
      ∧ (claimConflict mine other s).peers.entries = s.peers.entries
      ∧ (claimConflict mine other s).peers.digest = s.peers.digest
      ∧ (claimConflict mine other s).mark.state = s.mark.state
      ∧ (claimConflict mine other s).mark.number = s.mark.number
      ∧ (claimConflict mine other s).mark.reported = s.mark.reported
      ∧ (claimConflict mine other s).mark.quiet = s.mark.quiet
      ∧ (claimConflict mine other s).mark.leadWait = s.mark.leadWait
      ∧ (claimConflict mine other s).mark.captureRequested = s.mark.captureRequested
      ∧ (claimConflict mine other s).store.cellsA = s.store.cellsA
      ∧ (claimConflict mine other s).store.cellsB = s.store.cellsB
      ∧ (claimConflict mine other s).store.cellsCal = s.store.cellsCal
      ∧ (claimConflict mine other s).store.imageA = s.store.imageA
      ∧ (claimConflict mine other s).store.imageB = s.store.imageB
      ∧ (claimConflict mine other s).store.imageCal = s.store.imageCal
      ∧ (claimConflict mine other s).store.calSeq = s.store.calSeq
      ∧ (claimConflict mine other s).store.inFlight = s.store.inFlight
      ∧ (claimConflict mine other s).store.pendingSnap = s.store.pendingSnap
      ∧ (claimConflict mine other s).store.scanDone = s.store.scanDone
      ∧ (claimConflict mine other s).claim.purpose = s.claim.purpose
      ∧ (claimConflict mine other s).search.passes = s.search.passes
      ∧ (claimConflict mine other s).search.level = s.search.level
      ∧ (claimConflict mine other s).search.total = s.search.total
      ∧ (claimConflict mine other s).search.plus = s.search.plus
      ∧ (claimConflict mine other s).port.setup = s.port.setup
      ∧ (claimConflict mine other s).port.frozen = s.port.frozen
      ∧ (claimConflict mine other s).port.tau = s.port.tau
      ∧ (claimConflict mine other s).port.span = s.port.span
      ∧ (claimConflict mine other s).port.slot = s.port.slot
      ∧ (claimConflict mine other s).port.shifted = s.port.shifted
      ∧ (claimConflict mine other s).port.lastEnd = s.port.lastEnd
      ∧ (claimConflict mine other s).port.changedPeers = s.port.changedPeers := by
  unfold claimConflict
  refine ⟨?_, ?_, ?_, ?_, ?_, ?_, ?_, ?_, ?_, ?_, ?_, ?_, ?_, ?_, ?_, ?_, ?_, ?_, ?_, ?_, ?_, ?_, ?_, ?_, ?_, ?_,
    ?_, ?_, ?_, ?_, ?_, ?_, ?_, ?_, ?_, ?_, ?_, ?_, ?_, ?_, ?_, ?_, ?_, ?_, ?_, ?_, ?_, ?_, ?_, ?_, ?_, ?_, ?_, ?_,
    ?_, ?_, ?_, ?_⟩ <;>
    first | rfl | ((try dsimp only); (repeat' split) <;> first | rfl | simp | simp_all)

@[simp] theorem conflictTest_frame (sender : Station) (f : StatusFrame) (s : State) :
    (conflictTest sender f s).ms = s.ms
      ∧ (conflictTest sender f s).straps = s.straps
      ∧ (conflictTest sender f s).levels = s.levels
      ∧ (conflictTest sender f s).sensor = s.sensor
      ∧ (conflictTest sender f s).gradeUnit = s.gradeUnit
      ∧ (conflictTest sender f s).zone = s.zone
      ∧ (conflictTest sender f s).free = s.free
      ∧ (conflictTest sender f s).pending = s.pending
      ∧ (conflictTest sender f s).reck.count = s.reck.count
      ∧ (conflictTest sender f s).reck.started = s.reck.started
      ∧ (conflictTest sender f s).reck.lastGood = s.reck.lastGood
      ∧ (conflictTest sender f s).reck.held = s.reck.held
      ∧ (conflictTest sender f s).reck.turnOffset = s.reck.turnOffset
      ∧ (conflictTest sender f s).reck.theta0 = s.reck.theta0
      ∧ (conflictTest sender f s).reck.sigma = s.reck.sigma
      ∧ (conflictTest sender f s).reck.calibrated = s.reck.calibrated
      ∧ (conflictTest sender f s).reck.basis = s.reck.basis
      ∧ (conflictTest sender f s).reck.thetaScale = s.reck.thetaScale
      ∧ (conflictTest sender f s).reck.anchor = s.reck.anchor
      ∧ (conflictTest sender f s).reck.atRest = s.reck.atRest
      ∧ (conflictTest sender f s).reck.drift = s.reck.drift
      ∧ (conflictTest sender f s).link.bitErrors = s.link.bitErrors
      ∧ (conflictTest sender f s).link.txErrors = s.link.txErrors
      ∧ (conflictTest sender f s).link.rxErrors = s.link.rxErrors
      ∧ (conflictTest sender f s).link.txFail = s.link.txFail
      ∧ (conflictTest sender f s).link.lastDuplicate = s.link.lastDuplicate
      ∧ (conflictTest sender f s).link.heartbeat = s.link.heartbeat
      ∧ (conflictTest sender f s).peers.entries = s.peers.entries
      ∧ (conflictTest sender f s).peers.digest = s.peers.digest
      ∧ (conflictTest sender f s).mark.state = s.mark.state
      ∧ (conflictTest sender f s).mark.number = s.mark.number
      ∧ (conflictTest sender f s).mark.reported = s.mark.reported
      ∧ (conflictTest sender f s).mark.quiet = s.mark.quiet
      ∧ (conflictTest sender f s).mark.leadWait = s.mark.leadWait
      ∧ (conflictTest sender f s).mark.captureRequested = s.mark.captureRequested
      ∧ (conflictTest sender f s).store.cellsA = s.store.cellsA
      ∧ (conflictTest sender f s).store.cellsB = s.store.cellsB
      ∧ (conflictTest sender f s).store.cellsCal = s.store.cellsCal
      ∧ (conflictTest sender f s).store.imageA = s.store.imageA
      ∧ (conflictTest sender f s).store.imageB = s.store.imageB
      ∧ (conflictTest sender f s).store.imageCal = s.store.imageCal
      ∧ (conflictTest sender f s).store.calSeq = s.store.calSeq
      ∧ (conflictTest sender f s).store.inFlight = s.store.inFlight
      ∧ (conflictTest sender f s).store.pendingSnap = s.store.pendingSnap
      ∧ (conflictTest sender f s).store.scanDone = s.store.scanDone
      ∧ (conflictTest sender f s).claim.purpose = s.claim.purpose
      ∧ (conflictTest sender f s).search.passes = s.search.passes
      ∧ (conflictTest sender f s).search.level = s.search.level
      ∧ (conflictTest sender f s).search.total = s.search.total
      ∧ (conflictTest sender f s).search.plus = s.search.plus
      ∧ (conflictTest sender f s).port.setup = s.port.setup
      ∧ (conflictTest sender f s).port.frozen = s.port.frozen
      ∧ (conflictTest sender f s).port.tau = s.port.tau
      ∧ (conflictTest sender f s).port.span = s.port.span
      ∧ (conflictTest sender f s).port.slot = s.port.slot
      ∧ (conflictTest sender f s).port.shifted = s.port.shifted
      ∧ (conflictTest sender f s).port.lastEnd = s.port.lastEnd
      ∧ (conflictTest sender f s).port.changedPeers = s.port.changedPeers := by
  unfold conflictTest
  refine ⟨?_, ?_, ?_, ?_, ?_, ?_, ?_, ?_, ?_, ?_, ?_, ?_, ?_, ?_, ?_, ?_, ?_, ?_, ?_, ?_, ?_, ?_, ?_, ?_, ?_, ?_,
    ?_, ?_, ?_, ?_, ?_, ?_, ?_, ?_, ?_, ?_, ?_, ?_, ?_, ?_, ?_, ?_, ?_, ?_, ?_, ?_, ?_, ?_, ?_, ?_, ?_, ?_, ?_, ?_,
    ?_, ?_, ?_, ?_⟩ <;>
    first | rfl | ((try dsimp only); (repeat' split) <;> first | rfl | simp | simp_all)

@[simp] theorem statusFromPeer_frame (sender : Station) (f : StatusFrame) (s : State) :
    (statusFromPeer sender f s).ms = s.ms
      ∧ (statusFromPeer sender f s).straps = s.straps
      ∧ (statusFromPeer sender f s).levels = s.levels
      ∧ (statusFromPeer sender f s).sensor = s.sensor
      ∧ (statusFromPeer sender f s).gradeUnit = s.gradeUnit
      ∧ (statusFromPeer sender f s).zone = s.zone
      ∧ (statusFromPeer sender f s).free = s.free
      ∧ (statusFromPeer sender f s).pending = s.pending
      ∧ (statusFromPeer sender f s).reck.count = s.reck.count
      ∧ (statusFromPeer sender f s).reck.started = s.reck.started
      ∧ (statusFromPeer sender f s).reck.lastGood = s.reck.lastGood
      ∧ (statusFromPeer sender f s).reck.held = s.reck.held
      ∧ (statusFromPeer sender f s).reck.turnOffset = s.reck.turnOffset
      ∧ (statusFromPeer sender f s).reck.theta0 = s.reck.theta0
      ∧ (statusFromPeer sender f s).reck.sigma = s.reck.sigma
      ∧ (statusFromPeer sender f s).reck.calibrated = s.reck.calibrated
      ∧ (statusFromPeer sender f s).reck.basis = s.reck.basis
      ∧ (statusFromPeer sender f s).reck.thetaScale = s.reck.thetaScale
      ∧ (statusFromPeer sender f s).reck.anchor = s.reck.anchor
      ∧ (statusFromPeer sender f s).reck.atRest = s.reck.atRest
      ∧ (statusFromPeer sender f s).reck.drift = s.reck.drift
      ∧ (statusFromPeer sender f s).link.bitErrors = s.link.bitErrors
      ∧ (statusFromPeer sender f s).link.txErrors = s.link.txErrors
      ∧ (statusFromPeer sender f s).link.rxErrors = s.link.rxErrors
      ∧ (statusFromPeer sender f s).link.txFail = s.link.txFail
      ∧ (statusFromPeer sender f s).link.lastDuplicate = s.link.lastDuplicate
      ∧ (statusFromPeer sender f s).link.heartbeat = s.link.heartbeat
      ∧ (statusFromPeer sender f s).peers.entries = s.peers.entries
      ∧ (statusFromPeer sender f s).peers.digest = s.peers.digest
      ∧ (statusFromPeer sender f s).mark.state = s.mark.state
      ∧ (statusFromPeer sender f s).mark.number = s.mark.number
      ∧ (statusFromPeer sender f s).mark.reported = s.mark.reported
      ∧ (statusFromPeer sender f s).mark.quiet = s.mark.quiet
      ∧ (statusFromPeer sender f s).mark.leadWait = s.mark.leadWait
      ∧ (statusFromPeer sender f s).mark.captureRequested = s.mark.captureRequested
      ∧ (statusFromPeer sender f s).store.cellsA = s.store.cellsA
      ∧ (statusFromPeer sender f s).store.cellsB = s.store.cellsB
      ∧ (statusFromPeer sender f s).store.cellsCal = s.store.cellsCal
      ∧ (statusFromPeer sender f s).store.imageA = s.store.imageA
      ∧ (statusFromPeer sender f s).store.imageB = s.store.imageB
      ∧ (statusFromPeer sender f s).store.imageCal = s.store.imageCal
      ∧ (statusFromPeer sender f s).store.calSeq = s.store.calSeq
      ∧ (statusFromPeer sender f s).store.inFlight = s.store.inFlight
      ∧ (statusFromPeer sender f s).store.pendingSnap = s.store.pendingSnap
      ∧ (statusFromPeer sender f s).store.scanDone = s.store.scanDone
      ∧ (statusFromPeer sender f s).claim.purpose = s.claim.purpose
      ∧ (statusFromPeer sender f s).search.passes = s.search.passes
      ∧ (statusFromPeer sender f s).search.level = s.search.level
      ∧ (statusFromPeer sender f s).search.total = s.search.total
      ∧ (statusFromPeer sender f s).search.plus = s.search.plus
      ∧ (statusFromPeer sender f s).port.setup = s.port.setup
      ∧ (statusFromPeer sender f s).port.frozen = s.port.frozen
      ∧ (statusFromPeer sender f s).port.tau = s.port.tau
      ∧ (statusFromPeer sender f s).port.span = s.port.span
      ∧ (statusFromPeer sender f s).port.slot = s.port.slot
      ∧ (statusFromPeer sender f s).port.shifted = s.port.shifted
      ∧ (statusFromPeer sender f s).port.lastEnd = s.port.lastEnd
      ∧ (statusFromPeer sender f s).port.changedPeers = s.port.changedPeers := by
  unfold statusFromPeer
  refine ⟨?_, ?_, ?_, ?_, ?_, ?_, ?_, ?_, ?_, ?_, ?_, ?_, ?_, ?_, ?_, ?_, ?_, ?_, ?_, ?_, ?_, ?_, ?_, ?_, ?_, ?_,
    ?_, ?_, ?_, ?_, ?_, ?_, ?_, ?_, ?_, ?_, ?_, ?_, ?_, ?_, ?_, ?_, ?_, ?_, ?_, ?_, ?_, ?_, ?_, ?_, ?_, ?_, ?_, ?_,
    ?_, ?_, ?_, ?_⟩ <;>
    first | rfl | ((try dsimp only); (repeat' split) <;> first | rfl | simp | simp_all)

end Sys2Proof.Machine
end

