-- ==== Sys2Proof/Laws/Commands.lean ====
section
/-! SUPPORT. What the operations of the timers, the store events, the resets, GO and the drive port leave unchanged: one
frame lemma for each. -/

set_option linter.unusedTactic false
set_option linter.unreachableTactic false
set_option linter.unnecessarySeqFocus false

namespace Sys2Proof.Machine

/-! ### Timers -/

@[simp] theorem fallEvent_frame (s : State) :
    (fallEvent s).ms = s.ms
      ∧ (fallEvent s).straps = s.straps
      ∧ (fallEvent s).sensor = s.sensor
      ∧ (fallEvent s).gradeUnit = s.gradeUnit
      ∧ (fallEvent s).zone = s.zone
      ∧ (fallEvent s).free = s.free
      ∧ (fallEvent s).pending = s.pending
      ∧ (fallEvent s).levels.pfail = s.levels.pfail
      ∧ (fallEvent s).levels.rstLow = s.levels.rstLow
      ∧ (fallEvent s).levels.porInLow = s.levels.porInLow
      ∧ (fallEvent s).reck.count = s.reck.count
      ∧ (fallEvent s).reck.started = s.reck.started
      ∧ (fallEvent s).reck.lastGood = s.reck.lastGood
      ∧ (fallEvent s).reck.held = s.reck.held
      ∧ (fallEvent s).reck.turnOffset = s.reck.turnOffset
      ∧ (fallEvent s).reck.theta0 = s.reck.theta0
      ∧ (fallEvent s).reck.sigma = s.reck.sigma
      ∧ (fallEvent s).reck.calibrated = s.reck.calibrated
      ∧ (fallEvent s).reck.basis = s.reck.basis
      ∧ (fallEvent s).reck.thetaScale = s.reck.thetaScale
      ∧ (fallEvent s).reck.anchor = s.reck.anchor
      ∧ (fallEvent s).reck.atRest = s.reck.atRest
      ∧ (fallEvent s).reck.drift = s.reck.drift
      ∧ (fallEvent s).link.bitErrors = s.link.bitErrors
      ∧ (fallEvent s).link.txErrors = s.link.txErrors
      ∧ (fallEvent s).link.rxErrors = s.link.rxErrors
      ∧ (fallEvent s).link.txFail = s.link.txFail
      ∧ (fallEvent s).link.lastDuplicate = s.link.lastDuplicate
      ∧ (fallEvent s).link.heartbeat = s.link.heartbeat
      ∧ (fallEvent s).peers.entries = s.peers.entries
      ∧ (fallEvent s).peers.digest = s.peers.digest
      ∧ (fallEvent s).mark.state = s.mark.state
      ∧ (fallEvent s).mark.number = s.mark.number
      ∧ (fallEvent s).mark.reported = s.mark.reported
      ∧ (fallEvent s).mark.leadWait = s.mark.leadWait
      ∧ (fallEvent s).mark.captureRequested = s.mark.captureRequested
      ∧ (fallEvent s).store.cellsA = s.store.cellsA
      ∧ (fallEvent s).store.cellsB = s.store.cellsB
      ∧ (fallEvent s).store.cellsCal = s.store.cellsCal
      ∧ (fallEvent s).store.imageA = s.store.imageA
      ∧ (fallEvent s).store.imageB = s.store.imageB
      ∧ (fallEvent s).store.imageCal = s.store.imageCal
      ∧ (fallEvent s).store.calSeq = s.store.calSeq
      ∧ (fallEvent s).store.inFlight = s.store.inFlight
      ∧ (fallEvent s).store.pendingSnap = s.store.pendingSnap
      ∧ (fallEvent s).store.scanDone = s.store.scanDone
      ∧ (fallEvent s).claim.purpose = s.claim.purpose
      ∧ (fallEvent s).search.passes = s.search.passes
      ∧ (fallEvent s).search.level = s.search.level
      ∧ (fallEvent s).search.total = s.search.total
      ∧ (fallEvent s).search.plus = s.search.plus
      ∧ (fallEvent s).port.setup = s.port.setup
      ∧ (fallEvent s).port.frozen = s.port.frozen
      ∧ (fallEvent s).port.tau = s.port.tau
      ∧ (fallEvent s).port.span = s.port.span
      ∧ (fallEvent s).port.slot = s.port.slot
      ∧ (fallEvent s).port.shifted = s.port.shifted
      ∧ (fallEvent s).port.lastEnd = s.port.lastEnd
      ∧ (fallEvent s).port.changedPeers = s.port.changedPeers := by
  unfold fallEvent
  refine ⟨?_, ?_, ?_, ?_, ?_, ?_, ?_, ?_, ?_, ?_, ?_, ?_, ?_, ?_, ?_, ?_, ?_, ?_, ?_, ?_, ?_, ?_, ?_, ?_, ?_, ?_,
    ?_, ?_, ?_, ?_, ?_, ?_, ?_, ?_, ?_, ?_, ?_, ?_, ?_, ?_, ?_, ?_, ?_, ?_, ?_, ?_, ?_, ?_, ?_, ?_, ?_, ?_, ?_, ?_,
    ?_, ?_, ?_, ?_, ?_⟩ <;>
    (dsimp only; (repeat' split) <;> first | rfl | simp)

@[simp] theorem markEdge_frame (s : State) :
    (markEdge s).ms = s.ms
      ∧ (markEdge s).straps = s.straps
      ∧ (markEdge s).levels = s.levels
      ∧ (markEdge s).sensor = s.sensor
      ∧ (markEdge s).zone = s.zone
      ∧ (markEdge s).pending = s.pending
      ∧ (markEdge s).reck.started = s.reck.started
      ∧ (markEdge s).reck.lastGood = s.reck.lastGood
      ∧ (markEdge s).reck.theta0 = s.reck.theta0
      ∧ (markEdge s).reck.sigma = s.reck.sigma
      ∧ (markEdge s).reck.calibrated = s.reck.calibrated
      ∧ (markEdge s).reck.thetaScale = s.reck.thetaScale
      ∧ (markEdge s).reck.atRest = s.reck.atRest
      ∧ (markEdge s).link.bitErrors = s.link.bitErrors
      ∧ (markEdge s).link.txErrors = s.link.txErrors
      ∧ (markEdge s).link.rxErrors = s.link.rxErrors
      ∧ (markEdge s).link.txFail = s.link.txFail
      ∧ (markEdge s).link.lastDuplicate = s.link.lastDuplicate
      ∧ (markEdge s).link.heartbeat = s.link.heartbeat
      ∧ (markEdge s).peers.entries = s.peers.entries
      ∧ (markEdge s).peers.digest = s.peers.digest
      ∧ (markEdge s).mark.number = s.mark.number
      ∧ (markEdge s).mark.reported = s.mark.reported
      ∧ (markEdge s).mark.quiet = s.mark.quiet
      ∧ (markEdge s).store.cellsA = s.store.cellsA
      ∧ (markEdge s).store.cellsB = s.store.cellsB
      ∧ (markEdge s).store.cellsCal = s.store.cellsCal
      ∧ (markEdge s).store.imageA = s.store.imageA
      ∧ (markEdge s).store.imageB = s.store.imageB
      ∧ (markEdge s).store.imageCal = s.store.imageCal
      ∧ (markEdge s).store.calSeq = s.store.calSeq
      ∧ (markEdge s).store.inFlight = s.store.inFlight
      ∧ (markEdge s).store.scanDone = s.store.scanDone
      ∧ (markEdge s).gradeUnit.chosen = s.gradeUnit.chosen
      ∧ (markEdge s).claim.purpose = s.claim.purpose
      ∧ (markEdge s).search.passes = s.search.passes
      ∧ (markEdge s).search.level = s.search.level
      ∧ (markEdge s).search.total = s.search.total
      ∧ (markEdge s).search.plus = s.search.plus
      ∧ (markEdge s).port.setup = s.port.setup
      ∧ (markEdge s).port.frozen = s.port.frozen
      ∧ (markEdge s).port.tau = s.port.tau
      ∧ (markEdge s).port.span = s.port.span
      ∧ (markEdge s).port.slot = s.port.slot
      ∧ (markEdge s).port.shifted = s.port.shifted
      ∧ (markEdge s).port.lastEnd = s.port.lastEnd
      ∧ (markEdge s).port.changedPeers = s.port.changedPeers := by
  unfold markEdge
  refine ⟨?_, ?_, ?_, ?_, ?_, ?_, ?_, ?_, ?_, ?_, ?_, ?_, ?_, ?_, ?_, ?_, ?_, ?_, ?_, ?_, ?_, ?_, ?_, ?_, ?_, ?_,
    ?_, ?_, ?_, ?_, ?_, ?_, ?_, ?_, ?_, ?_, ?_, ?_, ?_, ?_, ?_, ?_, ?_, ?_, ?_, ?_, ?_⟩ <;>
    (repeat' split) <;> simp

@[simp] theorem riseEvent_frame (s : State) :
    (riseEvent s).ms = s.ms
      ∧ (riseEvent s).straps = s.straps
      ∧ (riseEvent s).sensor = s.sensor
      ∧ (riseEvent s).zone = s.zone
      ∧ (riseEvent s).pending = s.pending
      ∧ (riseEvent s).levels.pfail = s.levels.pfail
      ∧ (riseEvent s).levels.rstLow = s.levels.rstLow
      ∧ (riseEvent s).levels.porInLow = s.levels.porInLow
      ∧ (riseEvent s).reck.started = s.reck.started
      ∧ (riseEvent s).reck.lastGood = s.reck.lastGood
      ∧ (riseEvent s).reck.theta0 = s.reck.theta0
      ∧ (riseEvent s).reck.sigma = s.reck.sigma
      ∧ (riseEvent s).reck.calibrated = s.reck.calibrated
      ∧ (riseEvent s).reck.thetaScale = s.reck.thetaScale
      ∧ (riseEvent s).reck.atRest = s.reck.atRest
      ∧ (riseEvent s).link.bitErrors = s.link.bitErrors
      ∧ (riseEvent s).link.txErrors = s.link.txErrors
      ∧ (riseEvent s).link.rxErrors = s.link.rxErrors
      ∧ (riseEvent s).link.txFail = s.link.txFail
      ∧ (riseEvent s).link.lastDuplicate = s.link.lastDuplicate
      ∧ (riseEvent s).link.heartbeat = s.link.heartbeat
      ∧ (riseEvent s).peers.entries = s.peers.entries
      ∧ (riseEvent s).peers.digest = s.peers.digest
      ∧ (riseEvent s).mark.number = s.mark.number
      ∧ (riseEvent s).mark.reported = s.mark.reported
      ∧ (riseEvent s).store.cellsA = s.store.cellsA
      ∧ (riseEvent s).store.cellsB = s.store.cellsB
      ∧ (riseEvent s).store.cellsCal = s.store.cellsCal
      ∧ (riseEvent s).store.imageA = s.store.imageA
      ∧ (riseEvent s).store.imageB = s.store.imageB
      ∧ (riseEvent s).store.imageCal = s.store.imageCal
      ∧ (riseEvent s).store.calSeq = s.store.calSeq
      ∧ (riseEvent s).store.inFlight = s.store.inFlight
      ∧ (riseEvent s).store.scanDone = s.store.scanDone
      ∧ (riseEvent s).gradeUnit.chosen = s.gradeUnit.chosen
      ∧ (riseEvent s).claim.purpose = s.claim.purpose
      ∧ (riseEvent s).search.passes = s.search.passes
      ∧ (riseEvent s).search.level = s.search.level
      ∧ (riseEvent s).search.total = s.search.total
      ∧ (riseEvent s).search.plus = s.search.plus
      ∧ (riseEvent s).port.setup = s.port.setup
      ∧ (riseEvent s).port.frozen = s.port.frozen
      ∧ (riseEvent s).port.tau = s.port.tau
      ∧ (riseEvent s).port.span = s.port.span
      ∧ (riseEvent s).port.slot = s.port.slot
      ∧ (riseEvent s).port.shifted = s.port.shifted
      ∧ (riseEvent s).port.lastEnd = s.port.lastEnd
      ∧ (riseEvent s).port.changedPeers = s.port.changedPeers := by
  unfold riseEvent
  refine ⟨?_, ?_, ?_, ?_, ?_, ?_, ?_, ?_, ?_, ?_, ?_, ?_, ?_, ?_, ?_, ?_, ?_, ?_, ?_, ?_, ?_, ?_, ?_, ?_, ?_, ?_,
    ?_, ?_, ?_, ?_, ?_, ?_, ?_, ?_, ?_, ?_, ?_, ?_, ?_, ?_, ?_, ?_, ?_, ?_, ?_, ?_, ?_, ?_⟩ <;>
    first | rfl | ((try dsimp only); (repeat' split) <;> first | rfl | simp | simp_all)

@[simp] theorem musterTimerEvent_frame (s : State) :
    (musterTimerEvent s).phase = s.phase
      ∧ (musterTimerEvent s).ms = s.ms
      ∧ (musterTimerEvent s).straps = s.straps
      ∧ (musterTimerEvent s).levels = s.levels
      ∧ (musterTimerEvent s).sensor = s.sensor
      ∧ (musterTimerEvent s).reck = s.reck
      ∧ (musterTimerEvent s).link = s.link
      ∧ (musterTimerEvent s).mark = s.mark
      ∧ (musterTimerEvent s).store = s.store
      ∧ (musterTimerEvent s).gradeUnit = s.gradeUnit
      ∧ (musterTimerEvent s).claim = s.claim
      ∧ (musterTimerEvent s).search = s.search
      ∧ (musterTimerEvent s).zone = s.zone
      ∧ (musterTimerEvent s).free = s.free
      ∧ (musterTimerEvent s).pending = s.pending
      ∧ (musterTimerEvent s).peers.entries = s.peers.entries
      ∧ (musterTimerEvent s).peers.digest = s.peers.digest
      ∧ (musterTimerEvent s).fault.stopSet = s.fault.stopSet
      ∧ (musterTimerEvent s).port.setup = s.port.setup
      ∧ (musterTimerEvent s).port.frozen = s.port.frozen
      ∧ (musterTimerEvent s).port.tau = s.port.tau
      ∧ (musterTimerEvent s).port.span = s.port.span
      ∧ (musterTimerEvent s).port.slot = s.port.slot
      ∧ (musterTimerEvent s).port.shifted = s.port.shifted
      ∧ (musterTimerEvent s).port.lastEnd = s.port.lastEnd
      ∧ (musterTimerEvent s).port.changedPeers = s.port.changedPeers := by
  unfold musterTimerEvent
  refine ⟨?_, ?_, ?_, ?_, ?_, ?_, ?_, ?_, ?_, ?_, ?_, ?_, ?_, ?_, ?_, ?_, ?_, ?_, ?_, ?_, ?_, ?_, ?_, ?_, ?_,
    ?_⟩ <;>
    first | rfl | ((try dsimp only); (repeat' split) <;> first | rfl | simp | simp_all)

@[simp] theorem quietEvent_frame (s : State) :
    (quietEvent s).phase = s.phase
      ∧ (quietEvent s).ms = s.ms
      ∧ (quietEvent s).straps = s.straps
      ∧ (quietEvent s).levels = s.levels
      ∧ (quietEvent s).sensor = s.sensor
      ∧ (quietEvent s).reck = s.reck
      ∧ (quietEvent s).link = s.link
      ∧ (quietEvent s).peers = s.peers
      ∧ (quietEvent s).store = s.store
      ∧ (quietEvent s).gradeUnit = s.gradeUnit
      ∧ (quietEvent s).claim = s.claim
      ∧ (quietEvent s).search = s.search
      ∧ (quietEvent s).zone = s.zone
      ∧ (quietEvent s).fault = s.fault
      ∧ (quietEvent s).port = s.port
      ∧ (quietEvent s).free = s.free
      ∧ (quietEvent s).pending = s.pending
      ∧ (quietEvent s).mark.state = s.mark.state
      ∧ (quietEvent s).mark.number = s.mark.number
      ∧ (quietEvent s).mark.reported = s.mark.reported
      ∧ (quietEvent s).mark.needs = s.mark.needs
      ∧ (quietEvent s).mark.leadWait = s.mark.leadWait
      ∧ (quietEvent s).mark.captureRequested = s.mark.captureRequested
      ∧ (quietEvent s).mark.serving = s.mark.serving := by
  unfold quietEvent
  refine ⟨?_, ?_, ?_, ?_, ?_, ?_, ?_, ?_, ?_, ?_, ?_, ?_, ?_, ?_, ?_, ?_, ?_, ?_, ?_, ?_, ?_, ?_, ?_, ?_⟩ <;>
    first | rfl | ((try dsimp only); (repeat' split) <;> first | rfl | simp | simp_all)

@[simp] theorem holdoffEvent_frame (s : State) :
    (holdoffEvent s).phase = s.phase
      ∧ (holdoffEvent s).ms = s.ms
      ∧ (holdoffEvent s).straps = s.straps
      ∧ (holdoffEvent s).levels = s.levels
      ∧ (holdoffEvent s).sensor = s.sensor
      ∧ (holdoffEvent s).reck = s.reck
      ∧ (holdoffEvent s).link = s.link
      ∧ (holdoffEvent s).peers = s.peers
      ∧ (holdoffEvent s).store = s.store
      ∧ (holdoffEvent s).gradeUnit = s.gradeUnit
      ∧ (holdoffEvent s).claim = s.claim
      ∧ (holdoffEvent s).search = s.search
      ∧ (holdoffEvent s).zone = s.zone
      ∧ (holdoffEvent s).fault = s.fault
      ∧ (holdoffEvent s).port = s.port
      ∧ (holdoffEvent s).free = s.free
      ∧ (holdoffEvent s).pending = s.pending
      ∧ (holdoffEvent s).mark.state = s.mark.state
      ∧ (holdoffEvent s).mark.number = s.mark.number
      ∧ (holdoffEvent s).mark.reported = s.mark.reported
      ∧ (holdoffEvent s).mark.needs = s.mark.needs
      ∧ (holdoffEvent s).mark.quiet = s.mark.quiet
      ∧ (holdoffEvent s).mark.leadWait = s.mark.leadWait
      ∧ (holdoffEvent s).mark.captureRequested = s.mark.captureRequested
      ∧ (holdoffEvent s).mark.serving = s.mark.serving := by
  unfold holdoffEvent
  refine ⟨?_, ?_, ?_, ?_, ?_, ?_, ?_, ?_, ?_, ?_, ?_, ?_, ?_, ?_, ?_, ?_, ?_, ?_, ?_, ?_, ?_, ?_, ?_, ?_, ?_⟩ <;>
    first | rfl | ((try dsimp only); (repeat' split) <;> first | rfl | simp | simp_all)

@[simp] theorem markTimeoutEvent_frame (s : State) :
    (markTimeoutEvent s).phase = s.phase
      ∧ (markTimeoutEvent s).ms = s.ms
      ∧ (markTimeoutEvent s).straps = s.straps
      ∧ (markTimeoutEvent s).levels = s.levels
      ∧ (markTimeoutEvent s).sensor = s.sensor
      ∧ (markTimeoutEvent s).reck = s.reck
      ∧ (markTimeoutEvent s).link = s.link
      ∧ (markTimeoutEvent s).peers = s.peers
      ∧ (markTimeoutEvent s).store = s.store
      ∧ (markTimeoutEvent s).gradeUnit = s.gradeUnit
      ∧ (markTimeoutEvent s).claim = s.claim
      ∧ (markTimeoutEvent s).search = s.search
      ∧ (markTimeoutEvent s).zone = s.zone
      ∧ (markTimeoutEvent s).free = s.free
      ∧ (markTimeoutEvent s).pending = s.pending
      ∧ (markTimeoutEvent s).mark.number = s.mark.number
      ∧ (markTimeoutEvent s).mark.reported = s.mark.reported
      ∧ (markTimeoutEvent s).mark.needs = s.mark.needs
      ∧ (markTimeoutEvent s).mark.quiet = s.mark.quiet
      ∧ (markTimeoutEvent s).mark.leadWait = s.mark.leadWait
      ∧ (markTimeoutEvent s).mark.captureRequested = s.mark.captureRequested
      ∧ (markTimeoutEvent s).mark.serving = s.mark.serving
      ∧ (markTimeoutEvent s).fault.stopSet = s.fault.stopSet
      ∧ (markTimeoutEvent s).port.setup = s.port.setup
      ∧ (markTimeoutEvent s).port.frozen = s.port.frozen
      ∧ (markTimeoutEvent s).port.tau = s.port.tau
      ∧ (markTimeoutEvent s).port.span = s.port.span
      ∧ (markTimeoutEvent s).port.slot = s.port.slot
      ∧ (markTimeoutEvent s).port.shifted = s.port.shifted
      ∧ (markTimeoutEvent s).port.lastEnd = s.port.lastEnd
      ∧ (markTimeoutEvent s).port.changedPeers = s.port.changedPeers := by
  unfold markTimeoutEvent
  refine ⟨?_, ?_, ?_, ?_, ?_, ?_, ?_, ?_, ?_, ?_, ?_, ?_, ?_, ?_, ?_, ?_, ?_, ?_, ?_, ?_, ?_, ?_, ?_, ?_, ?_, ?_,
    ?_, ?_, ?_, ?_, ?_⟩ <;>
    first | rfl | ((try dsimp only); (repeat' split) <;> first | rfl | simp | simp_all)

@[simp] theorem collectionEvent_frame (s : State) :
    (collectionEvent s).phase = s.phase
      ∧ (collectionEvent s).ms = s.ms
      ∧ (collectionEvent s).straps = s.straps
      ∧ (collectionEvent s).levels = s.levels
      ∧ (collectionEvent s).sensor = s.sensor
      ∧ (collectionEvent s).reck = s.reck
      ∧ (collectionEvent s).peers = s.peers
      ∧ (collectionEvent s).store = s.store
      ∧ (collectionEvent s).gradeUnit = s.gradeUnit
      ∧ (collectionEvent s).claim = s.claim
      ∧ (collectionEvent s).search = s.search
      ∧ (collectionEvent s).zone = s.zone
      ∧ (collectionEvent s).fault = s.fault
      ∧ (collectionEvent s).free = s.free
      ∧ (collectionEvent s).pending = s.pending
      ∧ (collectionEvent s).link.bitErrors = s.link.bitErrors
      ∧ (collectionEvent s).link.txErrors = s.link.txErrors
      ∧ (collectionEvent s).link.rxErrors = s.link.rxErrors
      ∧ (collectionEvent s).link.txFail = s.link.txFail
      ∧ (collectionEvent s).link.lastDuplicate = s.link.lastDuplicate
      ∧ (collectionEvent s).link.heartbeat = s.link.heartbeat
      ∧ (collectionEvent s).mark.number = s.mark.number
      ∧ (collectionEvent s).mark.reported = s.mark.reported
      ∧ (collectionEvent s).mark.needs = s.mark.needs
      ∧ (collectionEvent s).mark.quiet = s.mark.quiet
      ∧ (collectionEvent s).mark.leadWait = s.mark.leadWait
      ∧ (collectionEvent s).mark.captureRequested = s.mark.captureRequested
      ∧ (collectionEvent s).mark.serving = s.mark.serving
      ∧ (collectionEvent s).port.setup = s.port.setup
      ∧ (collectionEvent s).port.frozen = s.port.frozen
      ∧ (collectionEvent s).port.tau = s.port.tau
      ∧ (collectionEvent s).port.span = s.port.span
      ∧ (collectionEvent s).port.slot = s.port.slot
      ∧ (collectionEvent s).port.shifted = s.port.shifted
      ∧ (collectionEvent s).port.lastEnd = s.port.lastEnd
      ∧ (collectionEvent s).port.changedPeers = s.port.changedPeers := by
  unfold collectionEvent
  refine ⟨?_, ?_, ?_, ?_, ?_, ?_, ?_, ?_, ?_, ?_, ?_, ?_, ?_, ?_, ?_, ?_, ?_, ?_, ?_, ?_, ?_, ?_, ?_, ?_, ?_, ?_,
    ?_, ?_, ?_, ?_, ?_, ?_, ?_, ?_, ?_, ?_⟩ <;>
    first | rfl | ((try dsimp only); (repeat' split) <;> first | rfl | simp | simp_all)

@[simp] theorem leadWaitEvent_frame (s : State) :
    (leadWaitEvent s).ms = s.ms
      ∧ (leadWaitEvent s).straps = s.straps
      ∧ (leadWaitEvent s).levels = s.levels
      ∧ (leadWaitEvent s).sensor = s.sensor
      ∧ (leadWaitEvent s).zone = s.zone
      ∧ (leadWaitEvent s).pending = s.pending
      ∧ (leadWaitEvent s).reck.started = s.reck.started
      ∧ (leadWaitEvent s).reck.lastGood = s.reck.lastGood
      ∧ (leadWaitEvent s).reck.theta0 = s.reck.theta0
      ∧ (leadWaitEvent s).reck.sigma = s.reck.sigma
      ∧ (leadWaitEvent s).reck.calibrated = s.reck.calibrated
      ∧ (leadWaitEvent s).reck.thetaScale = s.reck.thetaScale
      ∧ (leadWaitEvent s).reck.atRest = s.reck.atRest
      ∧ (leadWaitEvent s).link.bitErrors = s.link.bitErrors
      ∧ (leadWaitEvent s).link.txErrors = s.link.txErrors
      ∧ (leadWaitEvent s).link.rxErrors = s.link.rxErrors
      ∧ (leadWaitEvent s).link.txFail = s.link.txFail
      ∧ (leadWaitEvent s).link.lastDuplicate = s.link.lastDuplicate
      ∧ (leadWaitEvent s).link.heartbeat = s.link.heartbeat
      ∧ (leadWaitEvent s).peers.entries = s.peers.entries
      ∧ (leadWaitEvent s).peers.digest = s.peers.digest
      ∧ (leadWaitEvent s).mark.number = s.mark.number
      ∧ (leadWaitEvent s).mark.reported = s.mark.reported
      ∧ (leadWaitEvent s).mark.quiet = s.mark.quiet
      ∧ (leadWaitEvent s).mark.captureRequested = s.mark.captureRequested
      ∧ (leadWaitEvent s).store.cellsA = s.store.cellsA
      ∧ (leadWaitEvent s).store.cellsB = s.store.cellsB
      ∧ (leadWaitEvent s).store.cellsCal = s.store.cellsCal
      ∧ (leadWaitEvent s).store.imageA = s.store.imageA
      ∧ (leadWaitEvent s).store.imageB = s.store.imageB
      ∧ (leadWaitEvent s).store.imageCal = s.store.imageCal
      ∧ (leadWaitEvent s).store.calSeq = s.store.calSeq
      ∧ (leadWaitEvent s).store.inFlight = s.store.inFlight
      ∧ (leadWaitEvent s).store.scanDone = s.store.scanDone
      ∧ (leadWaitEvent s).gradeUnit.chosen = s.gradeUnit.chosen
      ∧ (leadWaitEvent s).claim.purpose = s.claim.purpose
      ∧ (leadWaitEvent s).search.passes = s.search.passes
      ∧ (leadWaitEvent s).search.level = s.search.level
      ∧ (leadWaitEvent s).search.total = s.search.total
      ∧ (leadWaitEvent s).search.plus = s.search.plus
      ∧ (leadWaitEvent s).port.setup = s.port.setup
      ∧ (leadWaitEvent s).port.frozen = s.port.frozen
      ∧ (leadWaitEvent s).port.tau = s.port.tau
      ∧ (leadWaitEvent s).port.span = s.port.span
      ∧ (leadWaitEvent s).port.slot = s.port.slot
      ∧ (leadWaitEvent s).port.shifted = s.port.shifted
      ∧ (leadWaitEvent s).port.lastEnd = s.port.lastEnd
      ∧ (leadWaitEvent s).port.changedPeers = s.port.changedPeers := by
  unfold leadWaitEvent
  refine ⟨?_, ?_, ?_, ?_, ?_, ?_, ?_, ?_, ?_, ?_, ?_, ?_, ?_, ?_, ?_, ?_, ?_, ?_, ?_, ?_, ?_, ?_, ?_, ?_, ?_, ?_,
    ?_, ?_, ?_, ?_, ?_, ?_, ?_, ?_, ?_, ?_, ?_, ?_, ?_, ?_, ?_, ?_, ?_, ?_, ?_, ?_, ?_, ?_⟩ <;>
    first | rfl | ((try dsimp only); (repeat' split) <;> first | rfl | simp | simp_all)

@[simp] theorem untakenEvent_frame (s : State) :
    (untakenEvent s).ms = s.ms
      ∧ (untakenEvent s).straps = s.straps
      ∧ (untakenEvent s).levels = s.levels
      ∧ (untakenEvent s).sensor = s.sensor
      ∧ (untakenEvent s).zone = s.zone
      ∧ (untakenEvent s).free = s.free
      ∧ (untakenEvent s).pending = s.pending
      ∧ (untakenEvent s).reck.count = s.reck.count
      ∧ (untakenEvent s).reck.started = s.reck.started
      ∧ (untakenEvent s).reck.lastGood = s.reck.lastGood
      ∧ (untakenEvent s).reck.held = s.reck.held
      ∧ (untakenEvent s).reck.turnOffset = s.reck.turnOffset
      ∧ (untakenEvent s).reck.theta0 = s.reck.theta0
      ∧ (untakenEvent s).reck.sigma = s.reck.sigma
      ∧ (untakenEvent s).reck.calibrated = s.reck.calibrated
      ∧ (untakenEvent s).reck.thetaScale = s.reck.thetaScale
      ∧ (untakenEvent s).reck.anchor = s.reck.anchor
      ∧ (untakenEvent s).reck.atRest = s.reck.atRest
      ∧ (untakenEvent s).link.bitErrors = s.link.bitErrors
      ∧ (untakenEvent s).link.txErrors = s.link.txErrors
      ∧ (untakenEvent s).link.rxErrors = s.link.rxErrors
      ∧ (untakenEvent s).link.txFail = s.link.txFail
      ∧ (untakenEvent s).link.lastDuplicate = s.link.lastDuplicate
      ∧ (untakenEvent s).link.heartbeat = s.link.heartbeat
      ∧ (untakenEvent s).peers.entries = s.peers.entries
      ∧ (untakenEvent s).peers.digest = s.peers.digest
      ∧ (untakenEvent s).mark.number = s.mark.number
      ∧ (untakenEvent s).mark.reported = s.mark.reported
      ∧ (untakenEvent s).mark.quiet = s.mark.quiet
      ∧ (untakenEvent s).mark.captureRequested = s.mark.captureRequested
      ∧ (untakenEvent s).store.cellsA = s.store.cellsA
      ∧ (untakenEvent s).store.cellsB = s.store.cellsB
      ∧ (untakenEvent s).store.cellsCal = s.store.cellsCal
      ∧ (untakenEvent s).store.imageA = s.store.imageA
      ∧ (untakenEvent s).store.imageB = s.store.imageB
      ∧ (untakenEvent s).store.imageCal = s.store.imageCal
      ∧ (untakenEvent s).store.calSeq = s.store.calSeq
      ∧ (untakenEvent s).store.inFlight = s.store.inFlight
      ∧ (untakenEvent s).store.scanDone = s.store.scanDone
      ∧ (untakenEvent s).gradeUnit.chosen = s.gradeUnit.chosen
      ∧ (untakenEvent s).claim.purpose = s.claim.purpose
      ∧ (untakenEvent s).search.passes = s.search.passes
      ∧ (untakenEvent s).search.level = s.search.level
      ∧ (untakenEvent s).search.total = s.search.total
      ∧ (untakenEvent s).search.plus = s.search.plus
      ∧ (untakenEvent s).port.setup = s.port.setup
      ∧ (untakenEvent s).port.frozen = s.port.frozen
      ∧ (untakenEvent s).port.tau = s.port.tau
      ∧ (untakenEvent s).port.span = s.port.span
      ∧ (untakenEvent s).port.slot = s.port.slot
      ∧ (untakenEvent s).port.shifted = s.port.shifted
      ∧ (untakenEvent s).port.lastEnd = s.port.lastEnd
      ∧ (untakenEvent s).port.changedPeers = s.port.changedPeers := by
  unfold untakenEvent
  refine ⟨?_, ?_, ?_, ?_, ?_, ?_, ?_, ?_, ?_, ?_, ?_, ?_, ?_, ?_, ?_, ?_, ?_, ?_, ?_, ?_, ?_, ?_, ?_, ?_, ?_, ?_,
    ?_, ?_, ?_, ?_, ?_, ?_, ?_, ?_, ?_, ?_, ?_, ?_, ?_, ?_, ?_, ?_, ?_, ?_, ?_, ?_, ?_, ?_, ?_, ?_, ?_, ?_, ?_⟩ <;>
    first | rfl | ((try dsimp only); (repeat' split) <;> first | rfl | simp | simp_all)

@[simp] theorem allowanceEvent_frame (s : State) :
    (allowanceEvent s).ms = s.ms
      ∧ (allowanceEvent s).straps = s.straps
      ∧ (allowanceEvent s).levels = s.levels
      ∧ (allowanceEvent s).sensor = s.sensor
      ∧ (allowanceEvent s).zone = s.zone
      ∧ (allowanceEvent s).free = s.free
      ∧ (allowanceEvent s).pending = s.pending
      ∧ (allowanceEvent s).reck.count = s.reck.count
      ∧ (allowanceEvent s).reck.started = s.reck.started
      ∧ (allowanceEvent s).reck.lastGood = s.reck.lastGood
      ∧ (allowanceEvent s).reck.held = s.reck.held
      ∧ (allowanceEvent s).reck.turnOffset = s.reck.turnOffset
      ∧ (allowanceEvent s).reck.theta0 = s.reck.theta0
      ∧ (allowanceEvent s).reck.sigma = s.reck.sigma
      ∧ (allowanceEvent s).reck.calibrated = s.reck.calibrated
      ∧ (allowanceEvent s).reck.thetaScale = s.reck.thetaScale
      ∧ (allowanceEvent s).reck.anchor = s.reck.anchor
      ∧ (allowanceEvent s).reck.atRest = s.reck.atRest
      ∧ (allowanceEvent s).link.bitErrors = s.link.bitErrors
      ∧ (allowanceEvent s).link.txErrors = s.link.txErrors
      ∧ (allowanceEvent s).link.rxErrors = s.link.rxErrors
      ∧ (allowanceEvent s).link.txFail = s.link.txFail
      ∧ (allowanceEvent s).link.lastDuplicate = s.link.lastDuplicate
      ∧ (allowanceEvent s).link.heartbeat = s.link.heartbeat
      ∧ (allowanceEvent s).peers.entries = s.peers.entries
      ∧ (allowanceEvent s).peers.digest = s.peers.digest
      ∧ (allowanceEvent s).mark.number = s.mark.number
      ∧ (allowanceEvent s).mark.reported = s.mark.reported
      ∧ (allowanceEvent s).mark.quiet = s.mark.quiet
      ∧ (allowanceEvent s).mark.captureRequested = s.mark.captureRequested
      ∧ (allowanceEvent s).store.cellsA = s.store.cellsA
      ∧ (allowanceEvent s).store.cellsB = s.store.cellsB
      ∧ (allowanceEvent s).store.cellsCal = s.store.cellsCal
      ∧ (allowanceEvent s).store.imageA = s.store.imageA
      ∧ (allowanceEvent s).store.imageB = s.store.imageB
      ∧ (allowanceEvent s).store.imageCal = s.store.imageCal
      ∧ (allowanceEvent s).store.calSeq = s.store.calSeq
      ∧ (allowanceEvent s).store.inFlight = s.store.inFlight
      ∧ (allowanceEvent s).store.scanDone = s.store.scanDone
      ∧ (allowanceEvent s).gradeUnit.chosen = s.gradeUnit.chosen
      ∧ (allowanceEvent s).claim.purpose = s.claim.purpose
      ∧ (allowanceEvent s).search.passes = s.search.passes
      ∧ (allowanceEvent s).search.level = s.search.level
      ∧ (allowanceEvent s).search.total = s.search.total
      ∧ (allowanceEvent s).search.plus = s.search.plus
      ∧ (allowanceEvent s).port.setup = s.port.setup
      ∧ (allowanceEvent s).port.frozen = s.port.frozen
      ∧ (allowanceEvent s).port.tau = s.port.tau
      ∧ (allowanceEvent s).port.span = s.port.span
      ∧ (allowanceEvent s).port.slot = s.port.slot
      ∧ (allowanceEvent s).port.shifted = s.port.shifted
      ∧ (allowanceEvent s).port.lastEnd = s.port.lastEnd
      ∧ (allowanceEvent s).port.changedPeers = s.port.changedPeers := by
  unfold allowanceEvent
  refine ⟨?_, ?_, ?_, ?_, ?_, ?_, ?_, ?_, ?_, ?_, ?_, ?_, ?_, ?_, ?_, ?_, ?_, ?_, ?_, ?_, ?_, ?_, ?_, ?_, ?_, ?_,
    ?_, ?_, ?_, ?_, ?_, ?_, ?_, ?_, ?_, ?_, ?_, ?_, ?_, ?_, ?_, ?_, ?_, ?_, ?_, ?_, ?_, ?_, ?_, ?_, ?_, ?_, ?_⟩ <;>
    first | rfl | ((try dsimp only); (repeat' split) <;> first | rfl | simp | simp_all)

@[simp] theorem dwellEvent_frame (s : State) :
    (dwellEvent s).phase = s.phase
      ∧ (dwellEvent s).ms = s.ms
      ∧ (dwellEvent s).straps = s.straps
      ∧ (dwellEvent s).levels = s.levels
      ∧ (dwellEvent s).sensor = s.sensor
      ∧ (dwellEvent s).reck = s.reck
      ∧ (dwellEvent s).link = s.link
      ∧ (dwellEvent s).peers = s.peers
      ∧ (dwellEvent s).mark = s.mark
      ∧ (dwellEvent s).store = s.store
      ∧ (dwellEvent s).gradeUnit = s.gradeUnit
      ∧ (dwellEvent s).claim = s.claim
      ∧ (dwellEvent s).search = s.search
      ∧ (dwellEvent s).fault = s.fault
      ∧ (dwellEvent s).port = s.port
      ∧ (dwellEvent s).free = s.free
      ∧ (dwellEvent s).pending = s.pending := by
  unfold dwellEvent
  refine ⟨?_, ?_, ?_, ?_, ?_, ?_, ?_, ?_, ?_, ?_, ?_, ?_, ?_, ?_, ?_, ?_, ?_⟩ <;>
    first | rfl | ((try dsimp only); (repeat' split) <;> first | rfl | simp | simp_all)

@[simp] theorem prereqEvent_frame (s : State) :
    (prereqEvent s).ms = s.ms
      ∧ (prereqEvent s).straps = s.straps
      ∧ (prereqEvent s).levels = s.levels
      ∧ (prereqEvent s).sensor = s.sensor
      ∧ (prereqEvent s).gradeUnit = s.gradeUnit
      ∧ (prereqEvent s).zone = s.zone
      ∧ (prereqEvent s).free = s.free
      ∧ (prereqEvent s).pending = s.pending
      ∧ (prereqEvent s).reck.count = s.reck.count
      ∧ (prereqEvent s).reck.started = s.reck.started
      ∧ (prereqEvent s).reck.lastGood = s.reck.lastGood
      ∧ (prereqEvent s).reck.held = s.reck.held
      ∧ (prereqEvent s).reck.turnOffset = s.reck.turnOffset
      ∧ (prereqEvent s).reck.theta0 = s.reck.theta0
      ∧ (prereqEvent s).reck.sigma = s.reck.sigma
      ∧ (prereqEvent s).reck.calibrated = s.reck.calibrated
      ∧ (prereqEvent s).reck.basis = s.reck.basis
      ∧ (prereqEvent s).reck.thetaScale = s.reck.thetaScale
      ∧ (prereqEvent s).reck.anchor = s.reck.anchor
      ∧ (prereqEvent s).reck.atRest = s.reck.atRest
      ∧ (prereqEvent s).reck.drift = s.reck.drift
      ∧ (prereqEvent s).link.bitErrors = s.link.bitErrors
      ∧ (prereqEvent s).link.txErrors = s.link.txErrors
      ∧ (prereqEvent s).link.rxErrors = s.link.rxErrors
      ∧ (prereqEvent s).link.txFail = s.link.txFail
      ∧ (prereqEvent s).link.lastDuplicate = s.link.lastDuplicate
      ∧ (prereqEvent s).link.heartbeat = s.link.heartbeat
      ∧ (prereqEvent s).peers.entries = s.peers.entries
      ∧ (prereqEvent s).peers.digest = s.peers.digest
      ∧ (prereqEvent s).mark.state = s.mark.state
      ∧ (prereqEvent s).mark.number = s.mark.number
      ∧ (prereqEvent s).mark.reported = s.mark.reported
      ∧ (prereqEvent s).mark.quiet = s.mark.quiet
      ∧ (prereqEvent s).mark.leadWait = s.mark.leadWait
      ∧ (prereqEvent s).mark.captureRequested = s.mark.captureRequested
      ∧ (prereqEvent s).store.cellsA = s.store.cellsA
      ∧ (prereqEvent s).store.cellsB = s.store.cellsB
      ∧ (prereqEvent s).store.cellsCal = s.store.cellsCal
      ∧ (prereqEvent s).store.imageA = s.store.imageA
      ∧ (prereqEvent s).store.imageB = s.store.imageB
      ∧ (prereqEvent s).store.imageCal = s.store.imageCal
      ∧ (prereqEvent s).store.calSeq = s.store.calSeq
      ∧ (prereqEvent s).store.inFlight = s.store.inFlight
      ∧ (prereqEvent s).store.pendingSnap = s.store.pendingSnap
      ∧ (prereqEvent s).store.scanDone = s.store.scanDone
      ∧ (prereqEvent s).claim.purpose = s.claim.purpose
      ∧ (prereqEvent s).search.passes = s.search.passes
      ∧ (prereqEvent s).search.level = s.search.level
      ∧ (prereqEvent s).search.total = s.search.total
      ∧ (prereqEvent s).search.plus = s.search.plus
      ∧ (prereqEvent s).port.setup = s.port.setup
      ∧ (prereqEvent s).port.frozen = s.port.frozen
      ∧ (prereqEvent s).port.tau = s.port.tau
      ∧ (prereqEvent s).port.span = s.port.span
      ∧ (prereqEvent s).port.slot = s.port.slot
      ∧ (prereqEvent s).port.shifted = s.port.shifted
      ∧ (prereqEvent s).port.lastEnd = s.port.lastEnd
      ∧ (prereqEvent s).port.changedPeers = s.port.changedPeers := by
  unfold prereqEvent
  refine ⟨?_, ?_, ?_, ?_, ?_, ?_, ?_, ?_, ?_, ?_, ?_, ?_, ?_, ?_, ?_, ?_, ?_, ?_, ?_, ?_, ?_, ?_, ?_, ?_, ?_, ?_,
    ?_, ?_, ?_, ?_, ?_, ?_, ?_, ?_, ?_, ?_, ?_, ?_, ?_, ?_, ?_, ?_, ?_, ?_, ?_, ?_, ?_, ?_, ?_, ?_, ?_, ?_, ?_, ?_,
    ?_, ?_, ?_, ?_⟩ <;>
    first | rfl | ((try dsimp only); (repeat' split) <;> first | rfl | simp | simp_all)

@[simp] theorem settleFirstEvent_frame (s : State) :
    (settleFirstEvent s).phase = s.phase
      ∧ (settleFirstEvent s).ms = s.ms
      ∧ (settleFirstEvent s).straps = s.straps
      ∧ (settleFirstEvent s).levels = s.levels
      ∧ (settleFirstEvent s).sensor = s.sensor
      ∧ (settleFirstEvent s).reck = s.reck
      ∧ (settleFirstEvent s).link = s.link
      ∧ (settleFirstEvent s).peers = s.peers
      ∧ (settleFirstEvent s).mark = s.mark
      ∧ (settleFirstEvent s).store = s.store
      ∧ (settleFirstEvent s).gradeUnit = s.gradeUnit
      ∧ (settleFirstEvent s).claim = s.claim
      ∧ (settleFirstEvent s).zone = s.zone
      ∧ (settleFirstEvent s).fault = s.fault
      ∧ (settleFirstEvent s).port = s.port
      ∧ (settleFirstEvent s).free = s.free
      ∧ (settleFirstEvent s).pending = s.pending
      ∧ (settleFirstEvent s).search.sub = s.search.sub
      ∧ (settleFirstEvent s).search.leadHold = s.search.leadHold
      ∧ (settleFirstEvent s).search.outcome = s.search.outcome
      ∧ (settleFirstEvent s).search.passes = s.search.passes
      ∧ (settleFirstEvent s).search.level = s.search.level
      ∧ (settleFirstEvent s).search.total = s.search.total
      ∧ (settleFirstEvent s).search.plus = s.search.plus
      ∧ (settleFirstEvent s).search.stage = s.search.stage := by
  unfold settleFirstEvent
  refine ⟨?_, ?_, ?_, ?_, ?_, ?_, ?_, ?_, ?_, ?_, ?_, ?_, ?_, ?_, ?_, ?_, ?_, ?_, ?_, ?_, ?_, ?_, ?_, ?_, ?_⟩ <;>
    first | rfl | ((try dsimp only); (repeat' split) <;> first | rfl | simp | simp_all)

@[simp] theorem settleEndEvent_frame (s : State) :
    (settleEndEvent s).ms = s.ms
      ∧ (settleEndEvent s).straps = s.straps
      ∧ (settleEndEvent s).levels = s.levels
      ∧ (settleEndEvent s).sensor = s.sensor
      ∧ (settleEndEvent s).gradeUnit = s.gradeUnit
      ∧ (settleEndEvent s).zone = s.zone
      ∧ (settleEndEvent s).free = s.free
      ∧ (settleEndEvent s).pending = s.pending
      ∧ (settleEndEvent s).reck.count = s.reck.count
      ∧ (settleEndEvent s).reck.started = s.reck.started
      ∧ (settleEndEvent s).reck.lastGood = s.reck.lastGood
      ∧ (settleEndEvent s).reck.held = s.reck.held
      ∧ (settleEndEvent s).reck.turnOffset = s.reck.turnOffset
      ∧ (settleEndEvent s).reck.theta0 = s.reck.theta0
      ∧ (settleEndEvent s).reck.sigma = s.reck.sigma
      ∧ (settleEndEvent s).reck.calibrated = s.reck.calibrated
      ∧ (settleEndEvent s).reck.basis = s.reck.basis
      ∧ (settleEndEvent s).reck.thetaScale = s.reck.thetaScale
      ∧ (settleEndEvent s).reck.anchor = s.reck.anchor
      ∧ (settleEndEvent s).reck.atRest = s.reck.atRest
      ∧ (settleEndEvent s).reck.drift = s.reck.drift
      ∧ (settleEndEvent s).link.bitErrors = s.link.bitErrors
      ∧ (settleEndEvent s).link.txErrors = s.link.txErrors
      ∧ (settleEndEvent s).link.rxErrors = s.link.rxErrors
      ∧ (settleEndEvent s).link.txFail = s.link.txFail
      ∧ (settleEndEvent s).link.lastDuplicate = s.link.lastDuplicate
      ∧ (settleEndEvent s).link.heartbeat = s.link.heartbeat
      ∧ (settleEndEvent s).peers.entries = s.peers.entries
      ∧ (settleEndEvent s).peers.digest = s.peers.digest
      ∧ (settleEndEvent s).mark.state = s.mark.state
      ∧ (settleEndEvent s).mark.number = s.mark.number
      ∧ (settleEndEvent s).mark.reported = s.mark.reported
      ∧ (settleEndEvent s).mark.quiet = s.mark.quiet
      ∧ (settleEndEvent s).mark.leadWait = s.mark.leadWait
      ∧ (settleEndEvent s).mark.captureRequested = s.mark.captureRequested
      ∧ (settleEndEvent s).store.cellsA = s.store.cellsA
      ∧ (settleEndEvent s).store.cellsB = s.store.cellsB
      ∧ (settleEndEvent s).store.cellsCal = s.store.cellsCal
      ∧ (settleEndEvent s).store.imageA = s.store.imageA
      ∧ (settleEndEvent s).store.imageB = s.store.imageB
      ∧ (settleEndEvent s).store.imageCal = s.store.imageCal
      ∧ (settleEndEvent s).store.calSeq = s.store.calSeq
      ∧ (settleEndEvent s).store.inFlight = s.store.inFlight
      ∧ (settleEndEvent s).store.pendingSnap = s.store.pendingSnap
      ∧ (settleEndEvent s).store.scanDone = s.store.scanDone
      ∧ (settleEndEvent s).claim.purpose = s.claim.purpose
      ∧ (settleEndEvent s).search.plus = s.search.plus
      ∧ (settleEndEvent s).port.setup = s.port.setup
      ∧ (settleEndEvent s).port.frozen = s.port.frozen
      ∧ (settleEndEvent s).port.tau = s.port.tau
      ∧ (settleEndEvent s).port.span = s.port.span
      ∧ (settleEndEvent s).port.slot = s.port.slot
      ∧ (settleEndEvent s).port.shifted = s.port.shifted
      ∧ (settleEndEvent s).port.lastEnd = s.port.lastEnd
      ∧ (settleEndEvent s).port.changedPeers = s.port.changedPeers := by
  unfold settleEndEvent
  refine ⟨?_, ?_, ?_, ?_, ?_, ?_, ?_, ?_, ?_, ?_, ?_, ?_, ?_, ?_, ?_, ?_, ?_, ?_, ?_, ?_, ?_, ?_, ?_, ?_, ?_, ?_,
    ?_, ?_, ?_, ?_, ?_, ?_, ?_, ?_, ?_, ?_, ?_, ?_, ?_, ?_, ?_, ?_, ?_, ?_, ?_, ?_, ?_, ?_, ?_, ?_, ?_, ?_, ?_, ?_,
    ?_⟩ <;>
    first | rfl | ((try dsimp only); (repeat' split) <;> first | rfl | simp | simp_all)

/-! ### StoreEvents -/

@[simp] theorem scanEvent_frame (s : State) :
    (scanEvent s).phase = s.phase
      ∧ (scanEvent s).ms = s.ms
      ∧ (scanEvent s).straps = s.straps
      ∧ (scanEvent s).levels = s.levels
      ∧ (scanEvent s).sensor = s.sensor
      ∧ (scanEvent s).reck = s.reck
      ∧ (scanEvent s).link = s.link
      ∧ (scanEvent s).peers = s.peers
      ∧ (scanEvent s).mark = s.mark
      ∧ (scanEvent s).gradeUnit = s.gradeUnit
      ∧ (scanEvent s).claim = s.claim
      ∧ (scanEvent s).search = s.search
      ∧ (scanEvent s).zone = s.zone
      ∧ (scanEvent s).fault = s.fault
      ∧ (scanEvent s).port = s.port
      ∧ (scanEvent s).free = s.free
      ∧ (scanEvent s).pending = s.pending
      ∧ (scanEvent s).store.cellsA = s.store.cellsA
      ∧ (scanEvent s).store.cellsB = s.store.cellsB
      ∧ (scanEvent s).store.cellsCal = s.store.cellsCal
      ∧ (scanEvent s).store.inFlight = s.store.inFlight
      ∧ (scanEvent s).store.pendingSnap = s.store.pendingSnap
      ∧ (scanEvent s).store.pendingCal = s.store.pendingCal := by
  unfold scanEvent
  refine ⟨?_, ?_, ?_, ?_, ?_, ?_, ?_, ?_, ?_, ?_, ?_, ?_, ?_, ?_, ?_, ?_, ?_, ?_, ?_, ?_, ?_, ?_, ?_⟩ <;>
    (repeat' split) <;> rfl

@[simp] theorem finalWriteTest_frame (s : State) :
    (finalWriteTest s).phase = s.phase
      ∧ (finalWriteTest s).ms = s.ms
      ∧ (finalWriteTest s).straps = s.straps
      ∧ (finalWriteTest s).levels = s.levels
      ∧ (finalWriteTest s).sensor = s.sensor
      ∧ (finalWriteTest s).reck = s.reck
      ∧ (finalWriteTest s).link = s.link
      ∧ (finalWriteTest s).peers = s.peers
      ∧ (finalWriteTest s).mark = s.mark
      ∧ (finalWriteTest s).gradeUnit = s.gradeUnit
      ∧ (finalWriteTest s).claim = s.claim
      ∧ (finalWriteTest s).search = s.search
      ∧ (finalWriteTest s).zone = s.zone
      ∧ (finalWriteTest s).fault = s.fault
      ∧ (finalWriteTest s).port = s.port
      ∧ (finalWriteTest s).free = s.free
      ∧ (finalWriteTest s).pending = s.pending
      ∧ (finalWriteTest s).store.cellsA = s.store.cellsA
      ∧ (finalWriteTest s).store.cellsB = s.store.cellsB
      ∧ (finalWriteTest s).store.cellsCal = s.store.cellsCal
      ∧ (finalWriteTest s).store.imageA = s.store.imageA
      ∧ (finalWriteTest s).store.imageB = s.store.imageB
      ∧ (finalWriteTest s).store.imageCal = s.store.imageCal
      ∧ (finalWriteTest s).store.calSeq = s.store.calSeq
      ∧ (finalWriteTest s).store.inFlight = s.store.inFlight
      ∧ (finalWriteTest s).store.pendingSnap = s.store.pendingSnap
      ∧ (finalWriteTest s).store.pendingCal = s.store.pendingCal
      ∧ (finalWriteTest s).store.scanDone = s.store.scanDone := by
  unfold finalWriteTest
  refine ⟨?_, ?_, ?_, ?_, ?_, ?_, ?_, ?_, ?_, ?_, ?_, ?_, ?_, ?_, ?_, ?_, ?_, ?_, ?_, ?_, ?_, ?_, ?_, ?_, ?_, ?_,
    ?_, ?_⟩ <;>
    (repeat' split) <;> rfl

@[simp] theorem snapDone_frame (slot : Slot) (r : SnapRecord) (rb : ReadBack) (s : State) :
    (snapDone slot r rb s).phase = s.phase
      ∧ (snapDone slot r rb s).ms = s.ms
      ∧ (snapDone slot r rb s).straps = s.straps
      ∧ (snapDone slot r rb s).levels = s.levels
      ∧ (snapDone slot r rb s).sensor = s.sensor
      ∧ (snapDone slot r rb s).reck = s.reck
      ∧ (snapDone slot r rb s).link = s.link
      ∧ (snapDone slot r rb s).peers = s.peers
      ∧ (snapDone slot r rb s).mark = s.mark
      ∧ (snapDone slot r rb s).gradeUnit = s.gradeUnit
      ∧ (snapDone slot r rb s).claim = s.claim
      ∧ (snapDone slot r rb s).zone = s.zone
      ∧ (snapDone slot r rb s).free = s.free
      ∧ (snapDone slot r rb s).pending = s.pending
      ∧ (snapDone slot r rb s).search.sub = s.search.sub
      ∧ (snapDone slot r rb s).search.leadHold = s.search.leadHold
      ∧ (snapDone slot r rb s).search.outcome = s.search.outcome
      ∧ (snapDone slot r rb s).search.passes = s.search.passes
      ∧ (snapDone slot r rb s).search.level = s.search.level
      ∧ (snapDone slot r rb s).search.total = s.search.total
      ∧ (snapDone slot r rb s).search.plus = s.search.plus
      ∧ (snapDone slot r rb s).search.stage = s.search.stage
      ∧ (snapDone slot r rb s).fault.stopSet = s.fault.stopSet
      ∧ (snapDone slot r rb s).port.setup = s.port.setup
      ∧ (snapDone slot r rb s).port.frozen = s.port.frozen
      ∧ (snapDone slot r rb s).port.tau = s.port.tau
      ∧ (snapDone slot r rb s).port.span = s.port.span
      ∧ (snapDone slot r rb s).port.slot = s.port.slot
      ∧ (snapDone slot r rb s).port.shifted = s.port.shifted
      ∧ (snapDone slot r rb s).port.lastEnd = s.port.lastEnd
      ∧ (snapDone slot r rb s).port.changedPeers = s.port.changedPeers := by
  unfold snapDone
  refine ⟨?_, ?_, ?_, ?_, ?_, ?_, ?_, ?_, ?_, ?_, ?_, ?_, ?_, ?_, ?_, ?_, ?_, ?_, ?_, ?_, ?_, ?_, ?_, ?_, ?_, ?_,
    ?_, ?_, ?_, ?_, ?_⟩ <;>
    (dsimp only; (repeat' split) <;> first | rfl | simp)

@[simp] theorem readEvent_frame (s : State) :
    (readEvent s).ms = s.ms
      ∧ (readEvent s).straps = s.straps
      ∧ (readEvent s).levels = s.levels
      ∧ (readEvent s).sensor = s.sensor
      ∧ (readEvent s).zone = s.zone
      ∧ (readEvent s).pending = s.pending
      ∧ (readEvent s).reck.started = s.reck.started
      ∧ (readEvent s).reck.lastGood = s.reck.lastGood
      ∧ (readEvent s).reck.atRest = s.reck.atRest
      ∧ (readEvent s).link.bitErrors = s.link.bitErrors
      ∧ (readEvent s).link.txErrors = s.link.txErrors
      ∧ (readEvent s).link.rxErrors = s.link.rxErrors
      ∧ (readEvent s).link.txFail = s.link.txFail
      ∧ (readEvent s).link.lastDuplicate = s.link.lastDuplicate
      ∧ (readEvent s).link.heartbeat = s.link.heartbeat
      ∧ (readEvent s).peers.entries = s.peers.entries
      ∧ (readEvent s).peers.digest = s.peers.digest
      ∧ (readEvent s).mark.number = s.mark.number
      ∧ (readEvent s).mark.reported = s.mark.reported
      ∧ (readEvent s).mark.quiet = s.mark.quiet
      ∧ (readEvent s).mark.captureRequested = s.mark.captureRequested
      ∧ (readEvent s).store.cellsA = s.store.cellsA
      ∧ (readEvent s).store.cellsB = s.store.cellsB
      ∧ (readEvent s).store.cellsCal = s.store.cellsCal
      ∧ (readEvent s).store.imageA = s.store.imageA
      ∧ (readEvent s).store.imageB = s.store.imageB
      ∧ (readEvent s).store.imageCal = s.store.imageCal
      ∧ (readEvent s).store.calSeq = s.store.calSeq
      ∧ (readEvent s).store.inFlight = s.store.inFlight
      ∧ (readEvent s).store.scanDone = s.store.scanDone
      ∧ (readEvent s).claim.purpose = s.claim.purpose
      ∧ (readEvent s).search.passes = s.search.passes
      ∧ (readEvent s).search.level = s.search.level
      ∧ (readEvent s).search.total = s.search.total
      ∧ (readEvent s).search.plus = s.search.plus
      ∧ (readEvent s).port.setup = s.port.setup
      ∧ (readEvent s).port.frozen = s.port.frozen
      ∧ (readEvent s).port.tau = s.port.tau
      ∧ (readEvent s).port.span = s.port.span
      ∧ (readEvent s).port.slot = s.port.slot
      ∧ (readEvent s).port.shifted = s.port.shifted
      ∧ (readEvent s).port.lastEnd = s.port.lastEnd
      ∧ (readEvent s).port.changedPeers = s.port.changedPeers := by
  unfold readEvent
  refine ⟨?_, ?_, ?_, ?_, ?_, ?_, ?_, ?_, ?_, ?_, ?_, ?_, ?_, ?_, ?_, ?_, ?_, ?_, ?_, ?_, ?_, ?_, ?_, ?_, ?_, ?_,
    ?_, ?_, ?_, ?_, ?_, ?_, ?_, ?_, ?_, ?_, ?_, ?_, ?_, ?_, ?_, ?_, ?_⟩ <;>
    (repeat' split) <;> simp

@[simp] theorem pfailEvent_ms_frame (s : State) :
    (pfailEvent s).ms = s.ms := by
  unfold pfailEvent
  first | rfl | ((try dsimp only); (repeat' split) <;> first | rfl | simp | simp_all)

@[simp] theorem pfailEvent_straps_frame (s : State) :
    (pfailEvent s).straps = s.straps := by
  unfold pfailEvent
  first | rfl | ((try dsimp only); (repeat' split) <;> first | rfl | simp | simp_all)

@[simp] theorem pfailEvent_sensor_frame (s : State) :
    (pfailEvent s).sensor = s.sensor := by
  unfold pfailEvent
  first | rfl | ((try dsimp only); (repeat' split) <;> first | rfl | simp | simp_all)

@[simp] theorem pfailEvent_zone_frame (s : State) :
    (pfailEvent s).zone = s.zone := by
  unfold pfailEvent
  first | rfl | ((try dsimp only); (repeat' split) <;> first | rfl | simp | simp_all)

@[simp] theorem pfailEvent_free_frame (s : State) :
    (pfailEvent s).free = s.free := by
  unfold pfailEvent
  first | rfl | ((try dsimp only); (repeat' split) <;> first | rfl | simp | simp_all)

@[simp] theorem pfailEvent_pending_frame (s : State) :
    (pfailEvent s).pending = s.pending := by
  unfold pfailEvent
  first | rfl | ((try dsimp only); (repeat' split) <;> first | rfl | simp | simp_all)

@[simp] theorem pfailEvent_levels_alhHigh_frame (s : State) :
    (pfailEvent s).levels.alhHigh = s.levels.alhHigh := by
  unfold pfailEvent
  first | rfl | ((try dsimp only); (repeat' split) <;> first | rfl | simp | simp_all)

@[simp] theorem pfailEvent_levels_rstLow_frame (s : State) :
    (pfailEvent s).levels.rstLow = s.levels.rstLow := by
  unfold pfailEvent
  first | rfl | ((try dsimp only); (repeat' split) <;> first | rfl | simp | simp_all)

@[simp] theorem pfailEvent_levels_porInLow_frame (s : State) :
    (pfailEvent s).levels.porInLow = s.levels.porInLow := by
  unfold pfailEvent
  first | rfl | ((try dsimp only); (repeat' split) <;> first | rfl | simp | simp_all)

@[simp] theorem pfailEvent_reck_count_frame (s : State) :
    (pfailEvent s).reck.count = s.reck.count := by
  unfold pfailEvent
  first | rfl | ((try dsimp only); (repeat' split) <;> first | rfl | simp | simp_all)

@[simp] theorem pfailEvent_reck_started_frame (s : State) :
    (pfailEvent s).reck.started = s.reck.started := by
  unfold pfailEvent
  first | rfl | ((try dsimp only); (repeat' split) <;> first | rfl | simp | simp_all)

@[simp] theorem pfailEvent_reck_lastGood_frame (s : State) :
    (pfailEvent s).reck.lastGood = s.reck.lastGood := by
  unfold pfailEvent
  first | rfl | ((try dsimp only); (repeat' split) <;> first | rfl | simp | simp_all)

@[simp] theorem pfailEvent_reck_held_frame (s : State) :
    (pfailEvent s).reck.held = s.reck.held := by
  unfold pfailEvent
  first | rfl | ((try dsimp only); (repeat' split) <;> first | rfl | simp | simp_all)

@[simp] theorem pfailEvent_reck_turnOffset_frame (s : State) :
    (pfailEvent s).reck.turnOffset = s.reck.turnOffset := by
  unfold pfailEvent
  first | rfl | ((try dsimp only); (repeat' split) <;> first | rfl | simp | simp_all)

@[simp] theorem pfailEvent_reck_theta0_frame (s : State) :
    (pfailEvent s).reck.theta0 = s.reck.theta0 := by
  unfold pfailEvent
  first | rfl | ((try dsimp only); (repeat' split) <;> first | rfl | simp | simp_all)

@[simp] theorem pfailEvent_reck_sigma_frame (s : State) :
    (pfailEvent s).reck.sigma = s.reck.sigma := by
  unfold pfailEvent
  first | rfl | ((try dsimp only); (repeat' split) <;> first | rfl | simp | simp_all)

@[simp] theorem pfailEvent_reck_calibrated_frame (s : State) :
    (pfailEvent s).reck.calibrated = s.reck.calibrated := by
  unfold pfailEvent
  first | rfl | ((try dsimp only); (repeat' split) <;> first | rfl | simp | simp_all)

@[simp] theorem pfailEvent_reck_basis_frame (s : State) :
    (pfailEvent s).reck.basis = s.reck.basis := by
  unfold pfailEvent
  first | rfl | ((try dsimp only); (repeat' split) <;> first | rfl | simp | simp_all)

@[simp] theorem pfailEvent_reck_thetaScale_frame (s : State) :
    (pfailEvent s).reck.thetaScale = s.reck.thetaScale := by
  unfold pfailEvent
  first | rfl | ((try dsimp only); (repeat' split) <;> first | rfl | simp | simp_all)

@[simp] theorem pfailEvent_reck_anchor_frame (s : State) :
    (pfailEvent s).reck.anchor = s.reck.anchor := by
  unfold pfailEvent
  first | rfl | ((try dsimp only); (repeat' split) <;> first | rfl | simp | simp_all)

@[simp] theorem pfailEvent_reck_atRest_frame (s : State) :
    (pfailEvent s).reck.atRest = s.reck.atRest := by
  unfold pfailEvent
  first | rfl | ((try dsimp only); (repeat' split) <;> first | rfl | simp | simp_all)

@[simp] theorem pfailEvent_reck_drift_frame (s : State) :
    (pfailEvent s).reck.drift = s.reck.drift := by
  unfold pfailEvent
  first | rfl | ((try dsimp only); (repeat' split) <;> first | rfl | simp | simp_all)

@[simp] theorem pfailEvent_link_bitErrors_frame (s : State) :
    (pfailEvent s).link.bitErrors = s.link.bitErrors := by
  unfold pfailEvent
  first | rfl | ((try dsimp only); (repeat' split) <;> first | rfl | simp | simp_all)

@[simp] theorem pfailEvent_link_txErrors_frame (s : State) :
    (pfailEvent s).link.txErrors = s.link.txErrors := by
  unfold pfailEvent
  first | rfl | ((try dsimp only); (repeat' split) <;> first | rfl | simp | simp_all)

@[simp] theorem pfailEvent_link_rxErrors_frame (s : State) :
    (pfailEvent s).link.rxErrors = s.link.rxErrors := by
  unfold pfailEvent
  first | rfl | ((try dsimp only); (repeat' split) <;> first | rfl | simp | simp_all)

@[simp] theorem pfailEvent_link_txFail_frame (s : State) :
    (pfailEvent s).link.txFail = s.link.txFail := by
  unfold pfailEvent
  first | rfl | ((try dsimp only); (repeat' split) <;> first | rfl | simp | simp_all)

@[simp] theorem pfailEvent_link_lastDuplicate_frame (s : State) :
    (pfailEvent s).link.lastDuplicate = s.link.lastDuplicate := by
  unfold pfailEvent
  first | rfl | ((try dsimp only); (repeat' split) <;> first | rfl | simp | simp_all)

@[simp] theorem pfailEvent_link_heartbeat_frame (s : State) :
    (pfailEvent s).link.heartbeat = s.link.heartbeat := by
  unfold pfailEvent
  first | rfl | ((try dsimp only); (repeat' split) <;> first | rfl | simp | simp_all)

@[simp] theorem pfailEvent_peers_entries_frame (s : State) :
    (pfailEvent s).peers.entries = s.peers.entries := by
  unfold pfailEvent
  first | rfl | ((try dsimp only); (repeat' split) <;> first | rfl | simp | simp_all)

@[simp] theorem pfailEvent_peers_digest_frame (s : State) :
    (pfailEvent s).peers.digest = s.peers.digest := by
  unfold pfailEvent
  first | rfl | ((try dsimp only); (repeat' split) <;> first | rfl | simp | simp_all)

@[simp] theorem pfailEvent_mark_number_frame (s : State) :
    (pfailEvent s).mark.number = s.mark.number := by
  unfold pfailEvent
  first | rfl | ((try dsimp only); (repeat' split) <;> first | rfl | simp | simp_all)

@[simp] theorem pfailEvent_mark_reported_frame (s : State) :
    (pfailEvent s).mark.reported = s.mark.reported := by
  unfold pfailEvent
  first | rfl | ((try dsimp only); (repeat' split) <;> first | rfl | simp | simp_all)

@[simp] theorem pfailEvent_mark_quiet_frame (s : State) :
    (pfailEvent s).mark.quiet = s.mark.quiet := by
  unfold pfailEvent
  first | rfl | ((try dsimp only); (repeat' split) <;> first | rfl | simp | simp_all)

@[simp] theorem pfailEvent_store_cellsA_frame (s : State) :
    (pfailEvent s).store.cellsA = s.store.cellsA := by
  unfold pfailEvent
  first | rfl | ((try dsimp only); (repeat' split) <;> first | rfl | simp | simp_all)

@[simp] theorem pfailEvent_store_cellsB_frame (s : State) :
    (pfailEvent s).store.cellsB = s.store.cellsB := by
  unfold pfailEvent
  first | rfl | ((try dsimp only); (repeat' split) <;> first | rfl | simp | simp_all)

@[simp] theorem pfailEvent_store_cellsCal_frame (s : State) :
    (pfailEvent s).store.cellsCal = s.store.cellsCal := by
  unfold pfailEvent
  first | rfl | ((try dsimp only); (repeat' split) <;> first | rfl | simp | simp_all)

@[simp] theorem pfailEvent_store_imageA_frame (s : State) :
    (pfailEvent s).store.imageA = s.store.imageA := by
  unfold pfailEvent
  first | rfl | ((try dsimp only); (repeat' split) <;> first | rfl | simp | simp_all)

@[simp] theorem pfailEvent_store_imageB_frame (s : State) :
    (pfailEvent s).store.imageB = s.store.imageB := by
  unfold pfailEvent
  first | rfl | ((try dsimp only); (repeat' split) <;> first | rfl | simp | simp_all)

@[simp] theorem pfailEvent_store_imageCal_frame (s : State) :
    (pfailEvent s).store.imageCal = s.store.imageCal := by
  unfold pfailEvent
  first | rfl | ((try dsimp only); (repeat' split) <;> first | rfl | simp | simp_all)

@[simp] theorem pfailEvent_store_calSeq_frame (s : State) :
    (pfailEvent s).store.calSeq = s.store.calSeq := by
  unfold pfailEvent
  first | rfl | ((try dsimp only); (repeat' split) <;> first | rfl | simp | simp_all)

@[simp] theorem pfailEvent_store_inFlight_frame (s : State) :
    (pfailEvent s).store.inFlight = s.store.inFlight := by
  unfold pfailEvent
  first | rfl | ((try dsimp only); (repeat' split) <;> first | rfl | simp | simp_all)

@[simp] theorem pfailEvent_store_pendingCal_frame (s : State) :
    (pfailEvent s).store.pendingCal = s.store.pendingCal := by
  unfold pfailEvent
  first | rfl | ((try dsimp only); (repeat' split) <;> first | rfl | simp | simp_all)

@[simp] theorem pfailEvent_store_scanDone_frame (s : State) :
    (pfailEvent s).store.scanDone = s.store.scanDone := by
  unfold pfailEvent
  first | rfl | ((try dsimp only); (repeat' split) <;> first | rfl | simp | simp_all)

@[simp] theorem pfailEvent_gradeUnit_grade_frame (s : State) :
    (pfailEvent s).gradeUnit.grade = s.gradeUnit.grade := by
  unfold pfailEvent
  first | rfl | ((try dsimp only); (repeat' split) <;> first | rfl | simp | simp_all)

@[simp] theorem pfailEvent_gradeUnit_chosen_frame (s : State) :
    (pfailEvent s).gradeUnit.chosen = s.gradeUnit.chosen := by
  unfold pfailEvent
  first | rfl | ((try dsimp only); (repeat' split) <;> first | rfl | simp | simp_all)

@[simp] theorem pfailEvent_claim_purpose_frame (s : State) :
    (pfailEvent s).claim.purpose = s.claim.purpose := by
  unfold pfailEvent
  first | rfl | ((try dsimp only); (repeat' split) <;> first | rfl | simp | simp_all)

@[simp] theorem pfailEvent_search_passes_frame (s : State) :
    (pfailEvent s).search.passes = s.search.passes := by
  unfold pfailEvent
  first | rfl | ((try dsimp only); (repeat' split) <;> first | rfl | simp | simp_all)

@[simp] theorem pfailEvent_search_level_frame (s : State) :
    (pfailEvent s).search.level = s.search.level := by
  unfold pfailEvent
  first | rfl | ((try dsimp only); (repeat' split) <;> first | rfl | simp | simp_all)

@[simp] theorem pfailEvent_search_total_frame (s : State) :
    (pfailEvent s).search.total = s.search.total := by
  unfold pfailEvent
  first | rfl | ((try dsimp only); (repeat' split) <;> first | rfl | simp | simp_all)

@[simp] theorem pfailEvent_search_plus_frame (s : State) :
    (pfailEvent s).search.plus = s.search.plus := by
  unfold pfailEvent
  first | rfl | ((try dsimp only); (repeat' split) <;> first | rfl | simp | simp_all)

@[simp] theorem pfailEvent_port_setup_frame (s : State) :
    (pfailEvent s).port.setup = s.port.setup := by
  unfold pfailEvent
  first | rfl | ((try dsimp only); (repeat' split) <;> first | rfl | simp | simp_all)

@[simp] theorem pfailEvent_port_frozen_frame (s : State) :
    (pfailEvent s).port.frozen = s.port.frozen := by
  unfold pfailEvent
  first | rfl | ((try dsimp only); (repeat' split) <;> first | rfl | simp | simp_all)

@[simp] theorem pfailEvent_port_tau_frame (s : State) :
    (pfailEvent s).port.tau = s.port.tau := by
  unfold pfailEvent
  first | rfl | ((try dsimp only); (repeat' split) <;> first | rfl | simp | simp_all)

@[simp] theorem pfailEvent_port_span_frame (s : State) :
    (pfailEvent s).port.span = s.port.span := by
  unfold pfailEvent
  first | rfl | ((try dsimp only); (repeat' split) <;> first | rfl | simp | simp_all)

@[simp] theorem pfailEvent_port_slot_frame (s : State) :
    (pfailEvent s).port.slot = s.port.slot := by
  unfold pfailEvent
  first | rfl | ((try dsimp only); (repeat' split) <;> first | rfl | simp | simp_all)

@[simp] theorem pfailEvent_port_shifted_frame (s : State) :
    (pfailEvent s).port.shifted = s.port.shifted := by
  unfold pfailEvent
  first | rfl | ((try dsimp only); (repeat' split) <;> first | rfl | simp | simp_all)

@[simp] theorem pfailEvent_port_lastEnd_frame (s : State) :
    (pfailEvent s).port.lastEnd = s.port.lastEnd := by
  unfold pfailEvent
  first | rfl | ((try dsimp only); (repeat' split) <;> first | rfl | simp | simp_all)

@[simp] theorem pfailEvent_port_changedPeers_frame (s : State) :
    (pfailEvent s).port.changedPeers = s.port.changedPeers := by
  unfold pfailEvent
  first | rfl | ((try dsimp only); (repeat' split) <;> first | rfl | simp | simp_all)

/-! ### Resets -/

@[simp] theorem resetBlocks_frame (straps : Straps) (levels : Levels) (store : Store) (record : FaultRecord) (port : Port) (s : State) :
    (resetBlocks straps levels store record port s).free = s.free
      ∧ (resetBlocks straps levels store record port s).pending = s.pending := by
  unfold resetBlocks
  refine ⟨?_, ?_⟩ <;>
    rfl

@[simp] theorem strapTest_frame (s : State) :
    (strapTest s).phase = s.phase
      ∧ (strapTest s).ms = s.ms
      ∧ (strapTest s).straps = s.straps
      ∧ (strapTest s).levels = s.levels
      ∧ (strapTest s).sensor = s.sensor
      ∧ (strapTest s).reck = s.reck
      ∧ (strapTest s).link = s.link
      ∧ (strapTest s).peers = s.peers
      ∧ (strapTest s).mark = s.mark
      ∧ (strapTest s).store = s.store
      ∧ (strapTest s).gradeUnit = s.gradeUnit
      ∧ (strapTest s).claim = s.claim
      ∧ (strapTest s).search = s.search
      ∧ (strapTest s).zone = s.zone
      ∧ (strapTest s).free = s.free
      ∧ (strapTest s).pending = s.pending
      ∧ (strapTest s).fault.stopSet = s.fault.stopSet
      ∧ (strapTest s).port.setup = s.port.setup
      ∧ (strapTest s).port.frozen = s.port.frozen
      ∧ (strapTest s).port.tau = s.port.tau
      ∧ (strapTest s).port.span = s.port.span
      ∧ (strapTest s).port.slot = s.port.slot
      ∧ (strapTest s).port.shifted = s.port.shifted
      ∧ (strapTest s).port.lastEnd = s.port.lastEnd
      ∧ (strapTest s).port.changedPeers = s.port.changedPeers := by
  unfold strapTest
  refine ⟨?_, ?_, ?_, ?_, ?_, ?_, ?_, ?_, ?_, ?_, ?_, ?_, ?_, ?_, ?_, ?_, ?_, ?_, ?_, ?_, ?_, ?_, ?_, ?_, ?_⟩ <;>
    (repeat' split) <;> rfl

@[simp] theorem endReset_frame (kind : ResetKind) (pins : Pins) (cut : CutResidue) (shifted : ShiftedOut) (s : State) :
    (endReset kind pins cut shifted s).free = s.free
      ∧ (endReset kind pins cut shifted s).pending = s.pending := by
  unfold endReset
  refine ⟨?_, ?_⟩ <;>
    simp

/-! ### Operands -/

@[simp] theorem openTransaction_frame (s : State) :
    (openTransaction s).phase = s.phase
      ∧ (openTransaction s).ms = s.ms
      ∧ (openTransaction s).straps = s.straps
      ∧ (openTransaction s).levels = s.levels
      ∧ (openTransaction s).sensor = s.sensor
      ∧ (openTransaction s).reck = s.reck
      ∧ (openTransaction s).link = s.link
      ∧ (openTransaction s).peers = s.peers
      ∧ (openTransaction s).mark = s.mark
      ∧ (openTransaction s).store = s.store
      ∧ (openTransaction s).gradeUnit = s.gradeUnit
      ∧ (openTransaction s).claim = s.claim
      ∧ (openTransaction s).search = s.search
      ∧ (openTransaction s).zone = s.zone
      ∧ (openTransaction s).fault = s.fault
      ∧ (openTransaction s).free = s.free
      ∧ (openTransaction s).pending = s.pending
      ∧ (openTransaction s).port.setup = s.port.setup
      ∧ (openTransaction s).port.frozen = s.port.frozen
      ∧ (openTransaction s).port.tau = s.port.tau
      ∧ (openTransaction s).port.span = s.port.span
      ∧ (openTransaction s).port.slot = s.port.slot
      ∧ (openTransaction s).port.changedPeers = s.port.changedPeers
      ∧ (openTransaction s).port.attention = s.port.attention := by
  unfold openTransaction
  refine ⟨?_, ?_, ?_, ?_, ?_, ?_, ?_, ?_, ?_, ?_, ?_, ?_, ?_, ?_, ?_, ?_, ?_, ?_, ?_, ?_, ?_, ?_, ?_, ?_⟩ <;>
    rfl

@[simp] theorem answer_frame (code : Nat) (st : Status) (reason : Reason) (d : ResponseData) (s : State) :
    (answer code st reason d s).phase = s.phase
      ∧ (answer code st reason d s).ms = s.ms
      ∧ (answer code st reason d s).straps = s.straps
      ∧ (answer code st reason d s).levels = s.levels
      ∧ (answer code st reason d s).sensor = s.sensor
      ∧ (answer code st reason d s).reck = s.reck
      ∧ (answer code st reason d s).link = s.link
      ∧ (answer code st reason d s).peers = s.peers
      ∧ (answer code st reason d s).mark = s.mark
      ∧ (answer code st reason d s).store = s.store
      ∧ (answer code st reason d s).gradeUnit = s.gradeUnit
      ∧ (answer code st reason d s).claim = s.claim
      ∧ (answer code st reason d s).search = s.search
      ∧ (answer code st reason d s).zone = s.zone
      ∧ (answer code st reason d s).fault = s.fault
      ∧ (answer code st reason d s).free = s.free
      ∧ (answer code st reason d s).pending = s.pending
      ∧ (answer code st reason d s).port.setup = s.port.setup
      ∧ (answer code st reason d s).port.frozen = s.port.frozen
      ∧ (answer code st reason d s).port.tau = s.port.tau
      ∧ (answer code st reason d s).port.span = s.port.span
      ∧ (answer code st reason d s).port.shifted = s.port.shifted
      ∧ (answer code st reason d s).port.lastEnd = s.port.lastEnd
      ∧ (answer code st reason d s).port.changedPeers = s.port.changedPeers
      ∧ (answer code st reason d s).port.attention = s.port.attention := by
  unfold answer
  refine ⟨?_, ?_, ?_, ?_, ?_, ?_, ?_, ?_, ?_, ?_, ?_, ?_, ?_, ?_, ?_, ?_, ?_, ?_, ?_, ?_, ?_, ?_, ?_, ?_, ?_⟩ <;>
    rfl

@[simp] theorem answerOk_frame (code : Nat) (d : ResponseData) (s : State) :
    (answerOk code d s).phase = s.phase
      ∧ (answerOk code d s).ms = s.ms
      ∧ (answerOk code d s).straps = s.straps
      ∧ (answerOk code d s).levels = s.levels
      ∧ (answerOk code d s).sensor = s.sensor
      ∧ (answerOk code d s).reck = s.reck
      ∧ (answerOk code d s).link = s.link
      ∧ (answerOk code d s).peers = s.peers
      ∧ (answerOk code d s).mark = s.mark
      ∧ (answerOk code d s).store = s.store
      ∧ (answerOk code d s).gradeUnit = s.gradeUnit
      ∧ (answerOk code d s).claim = s.claim
      ∧ (answerOk code d s).search = s.search
      ∧ (answerOk code d s).zone = s.zone
      ∧ (answerOk code d s).fault = s.fault
      ∧ (answerOk code d s).free = s.free
      ∧ (answerOk code d s).pending = s.pending
      ∧ (answerOk code d s).port.setup = s.port.setup
      ∧ (answerOk code d s).port.frozen = s.port.frozen
      ∧ (answerOk code d s).port.tau = s.port.tau
      ∧ (answerOk code d s).port.span = s.port.span
      ∧ (answerOk code d s).port.shifted = s.port.shifted
      ∧ (answerOk code d s).port.lastEnd = s.port.lastEnd
      ∧ (answerOk code d s).port.changedPeers = s.port.changedPeers
      ∧ (answerOk code d s).port.attention = s.port.attention := by
  unfold answerOk
  refine ⟨?_, ?_, ?_, ?_, ?_, ?_, ?_, ?_, ?_, ?_, ?_, ?_, ?_, ?_, ?_, ?_, ?_, ?_, ?_, ?_, ?_, ?_, ?_, ?_, ?_⟩ <;>
    rfl

@[simp] theorem refuse_frame (code : Nat) (reason : Reason) (s : State) :
    (refuse code reason s).phase = s.phase
      ∧ (refuse code reason s).ms = s.ms
      ∧ (refuse code reason s).straps = s.straps
      ∧ (refuse code reason s).levels = s.levels
      ∧ (refuse code reason s).sensor = s.sensor
      ∧ (refuse code reason s).reck = s.reck
      ∧ (refuse code reason s).link = s.link
      ∧ (refuse code reason s).peers = s.peers
      ∧ (refuse code reason s).mark = s.mark
      ∧ (refuse code reason s).store = s.store
      ∧ (refuse code reason s).gradeUnit = s.gradeUnit
      ∧ (refuse code reason s).claim = s.claim
      ∧ (refuse code reason s).search = s.search
      ∧ (refuse code reason s).zone = s.zone
      ∧ (refuse code reason s).fault = s.fault
      ∧ (refuse code reason s).free = s.free
      ∧ (refuse code reason s).pending = s.pending
      ∧ (refuse code reason s).port.setup = s.port.setup
      ∧ (refuse code reason s).port.frozen = s.port.frozen
      ∧ (refuse code reason s).port.tau = s.port.tau
      ∧ (refuse code reason s).port.span = s.port.span
      ∧ (refuse code reason s).port.shifted = s.port.shifted
      ∧ (refuse code reason s).port.lastEnd = s.port.lastEnd
      ∧ (refuse code reason s).port.changedPeers = s.port.changedPeers
      ∧ (refuse code reason s).port.attention = s.port.attention := by
  unfold refuse
  refine ⟨?_, ?_, ?_, ?_, ?_, ?_, ?_, ?_, ?_, ?_, ?_, ?_, ?_, ?_, ?_, ?_, ?_, ?_, ?_, ?_, ?_, ?_, ?_, ?_, ?_⟩ <;>
    rfl

/-! ### Start -/

@[simp] theorem freezeSetup_frame (s : State) :
    (freezeSetup s).phase = s.phase
      ∧ (freezeSetup s).ms = s.ms
      ∧ (freezeSetup s).straps = s.straps
      ∧ (freezeSetup s).levels = s.levels
      ∧ (freezeSetup s).sensor = s.sensor
      ∧ (freezeSetup s).reck = s.reck
      ∧ (freezeSetup s).link = s.link
      ∧ (freezeSetup s).peers = s.peers
      ∧ (freezeSetup s).mark = s.mark
      ∧ (freezeSetup s).store = s.store
      ∧ (freezeSetup s).gradeUnit = s.gradeUnit
      ∧ (freezeSetup s).claim = s.claim
      ∧ (freezeSetup s).search = s.search
      ∧ (freezeSetup s).zone = s.zone
      ∧ (freezeSetup s).fault = s.fault
      ∧ (freezeSetup s).free = s.free
      ∧ (freezeSetup s).pending = s.pending
      ∧ (freezeSetup s).port.slot = s.port.slot
      ∧ (freezeSetup s).port.shifted = s.port.shifted
      ∧ (freezeSetup s).port.lastEnd = s.port.lastEnd
      ∧ (freezeSetup s).port.changedPeers = s.port.changedPeers
      ∧ (freezeSetup s).port.attention = s.port.attention := by
  unfold freezeSetup
  refine ⟨?_, ?_, ?_, ?_, ?_, ?_, ?_, ?_, ?_, ?_, ?_, ?_, ?_, ?_, ?_, ?_, ?_, ?_, ?_, ?_, ?_, ?_⟩ <;>
    rfl

/-! ### Port -/

@[simp] theorem clearStatusCauses_frame (s : State) :
    (clearStatusCauses s).phase = s.phase
      ∧ (clearStatusCauses s).ms = s.ms
      ∧ (clearStatusCauses s).straps = s.straps
      ∧ (clearStatusCauses s).levels = s.levels
      ∧ (clearStatusCauses s).sensor = s.sensor
      ∧ (clearStatusCauses s).reck = s.reck
      ∧ (clearStatusCauses s).link = s.link
      ∧ (clearStatusCauses s).peers = s.peers
      ∧ (clearStatusCauses s).mark = s.mark
      ∧ (clearStatusCauses s).store = s.store
      ∧ (clearStatusCauses s).gradeUnit = s.gradeUnit
      ∧ (clearStatusCauses s).claim = s.claim
      ∧ (clearStatusCauses s).search = s.search
      ∧ (clearStatusCauses s).zone = s.zone
      ∧ (clearStatusCauses s).fault = s.fault
      ∧ (clearStatusCauses s).free = s.free
      ∧ (clearStatusCauses s).pending = s.pending
      ∧ (clearStatusCauses s).port.setup = s.port.setup
      ∧ (clearStatusCauses s).port.frozen = s.port.frozen
      ∧ (clearStatusCauses s).port.tau = s.port.tau
      ∧ (clearStatusCauses s).port.span = s.port.span
      ∧ (clearStatusCauses s).port.slot = s.port.slot
      ∧ (clearStatusCauses s).port.shifted = s.port.shifted
      ∧ (clearStatusCauses s).port.lastEnd = s.port.lastEnd
      ∧ (clearStatusCauses s).port.changedPeers = s.port.changedPeers := by
  unfold clearStatusCauses
  refine ⟨?_, ?_, ?_, ?_, ?_, ?_, ?_, ?_, ?_, ?_, ?_, ?_, ?_, ?_, ?_, ?_, ?_, ?_, ?_, ?_, ?_, ?_, ?_, ?_, ?_⟩ <;>
    rfl

@[simp] theorem statusReadAct_frame (s : State) :
    (statusReadAct s).phase = s.phase
      ∧ (statusReadAct s).ms = s.ms
      ∧ (statusReadAct s).straps = s.straps
      ∧ (statusReadAct s).levels = s.levels
      ∧ (statusReadAct s).sensor = s.sensor
      ∧ (statusReadAct s).reck = s.reck
      ∧ (statusReadAct s).link = s.link
      ∧ (statusReadAct s).peers = s.peers
      ∧ (statusReadAct s).mark = s.mark
      ∧ (statusReadAct s).store = s.store
      ∧ (statusReadAct s).gradeUnit = s.gradeUnit
      ∧ (statusReadAct s).claim = s.claim
      ∧ (statusReadAct s).search = s.search
      ∧ (statusReadAct s).zone = s.zone
      ∧ (statusReadAct s).fault = s.fault
      ∧ (statusReadAct s).free = s.free
      ∧ (statusReadAct s).pending = s.pending
      ∧ (statusReadAct s).port.setup = s.port.setup
      ∧ (statusReadAct s).port.frozen = s.port.frozen
      ∧ (statusReadAct s).port.tau = s.port.tau
      ∧ (statusReadAct s).port.span = s.port.span
      ∧ (statusReadAct s).port.shifted = s.port.shifted
      ∧ (statusReadAct s).port.lastEnd = s.port.lastEnd
      ∧ (statusReadAct s).port.changedPeers = s.port.changedPeers := by
  unfold statusReadAct
  refine ⟨?_, ?_, ?_, ?_, ?_, ?_, ?_, ?_, ?_, ?_, ?_, ?_, ?_, ?_, ?_, ?_, ?_, ?_, ?_, ?_, ?_, ?_, ?_, ?_⟩ <;>
    rfl

@[simp] theorem peerReadAct_frame (ps : List Byte) (s : State) :
    (peerReadAct ps s).phase = s.phase
      ∧ (peerReadAct ps s).ms = s.ms
      ∧ (peerReadAct ps s).straps = s.straps
      ∧ (peerReadAct ps s).levels = s.levels
      ∧ (peerReadAct ps s).sensor = s.sensor
      ∧ (peerReadAct ps s).reck = s.reck
      ∧ (peerReadAct ps s).link = s.link
      ∧ (peerReadAct ps s).peers = s.peers
      ∧ (peerReadAct ps s).mark = s.mark
      ∧ (peerReadAct ps s).store = s.store
      ∧ (peerReadAct ps s).gradeUnit = s.gradeUnit
      ∧ (peerReadAct ps s).claim = s.claim
      ∧ (peerReadAct ps s).search = s.search
      ∧ (peerReadAct ps s).zone = s.zone
      ∧ (peerReadAct ps s).fault = s.fault
      ∧ (peerReadAct ps s).free = s.free
      ∧ (peerReadAct ps s).pending = s.pending
      ∧ (peerReadAct ps s).port.setup = s.port.setup
      ∧ (peerReadAct ps s).port.frozen = s.port.frozen
      ∧ (peerReadAct ps s).port.tau = s.port.tau
      ∧ (peerReadAct ps s).port.span = s.port.span
      ∧ (peerReadAct ps s).port.shifted = s.port.shifted
      ∧ (peerReadAct ps s).port.lastEnd = s.port.lastEnd
      ∧ (peerReadAct ps s).port.attention = s.port.attention := by
  unfold peerReadAct
  refine ⟨?_, ?_, ?_, ?_, ?_, ?_, ?_, ?_, ?_, ?_, ?_, ?_, ?_, ?_, ?_, ?_, ?_, ?_, ?_, ?_, ?_, ?_, ?_, ?_⟩ <;>
    (repeat' split) <;> rfl

@[simp] theorem clearFaultCause_frame (s : State) :
    (clearFaultCause s).phase = s.phase
      ∧ (clearFaultCause s).ms = s.ms
      ∧ (clearFaultCause s).straps = s.straps
      ∧ (clearFaultCause s).levels = s.levels
      ∧ (clearFaultCause s).sensor = s.sensor
      ∧ (clearFaultCause s).reck = s.reck
      ∧ (clearFaultCause s).link = s.link
      ∧ (clearFaultCause s).peers = s.peers
      ∧ (clearFaultCause s).mark = s.mark
      ∧ (clearFaultCause s).store = s.store
      ∧ (clearFaultCause s).gradeUnit = s.gradeUnit
      ∧ (clearFaultCause s).claim = s.claim
      ∧ (clearFaultCause s).search = s.search
      ∧ (clearFaultCause s).zone = s.zone
      ∧ (clearFaultCause s).fault = s.fault
      ∧ (clearFaultCause s).free = s.free
      ∧ (clearFaultCause s).pending = s.pending
      ∧ (clearFaultCause s).port.setup = s.port.setup
      ∧ (clearFaultCause s).port.frozen = s.port.frozen
      ∧ (clearFaultCause s).port.tau = s.port.tau
      ∧ (clearFaultCause s).port.span = s.port.span
      ∧ (clearFaultCause s).port.slot = s.port.slot
      ∧ (clearFaultCause s).port.shifted = s.port.shifted
      ∧ (clearFaultCause s).port.lastEnd = s.port.lastEnd
      ∧ (clearFaultCause s).port.changedPeers = s.port.changedPeers := by
  unfold clearFaultCause
  refine ⟨?_, ?_, ?_, ?_, ?_, ?_, ?_, ?_, ?_, ?_, ?_, ?_, ?_, ?_, ?_, ?_, ?_, ?_, ?_, ?_, ?_, ?_, ?_, ?_, ?_⟩ <;>
    rfl

@[simp] theorem faultReadAct_frame (s : State) :
    (faultReadAct s).phase = s.phase
      ∧ (faultReadAct s).ms = s.ms
      ∧ (faultReadAct s).straps = s.straps
      ∧ (faultReadAct s).levels = s.levels
      ∧ (faultReadAct s).sensor = s.sensor
      ∧ (faultReadAct s).reck = s.reck
      ∧ (faultReadAct s).link = s.link
      ∧ (faultReadAct s).peers = s.peers
      ∧ (faultReadAct s).mark = s.mark
      ∧ (faultReadAct s).store = s.store
      ∧ (faultReadAct s).gradeUnit = s.gradeUnit
      ∧ (faultReadAct s).claim = s.claim
      ∧ (faultReadAct s).search = s.search
      ∧ (faultReadAct s).zone = s.zone
      ∧ (faultReadAct s).fault = s.fault
      ∧ (faultReadAct s).free = s.free
      ∧ (faultReadAct s).pending = s.pending
      ∧ (faultReadAct s).port.setup = s.port.setup
      ∧ (faultReadAct s).port.frozen = s.port.frozen
      ∧ (faultReadAct s).port.tau = s.port.tau
      ∧ (faultReadAct s).port.span = s.port.span
      ∧ (faultReadAct s).port.shifted = s.port.shifted
      ∧ (faultReadAct s).port.lastEnd = s.port.lastEnd
      ∧ (faultReadAct s).port.changedPeers = s.port.changedPeers := by
  unfold faultReadAct
  refine ⟨?_, ?_, ?_, ?_, ?_, ?_, ?_, ?_, ?_, ?_, ?_, ?_, ?_, ?_, ?_, ?_, ?_, ?_, ?_, ?_, ?_, ?_, ?_, ?_⟩ <;>
    rfl

@[simp] theorem storeReadAct_frame (ps : List Byte) (s : State) :
    (storeReadAct ps s).phase = s.phase
      ∧ (storeReadAct ps s).ms = s.ms
      ∧ (storeReadAct ps s).straps = s.straps
      ∧ (storeReadAct ps s).levels = s.levels
      ∧ (storeReadAct ps s).sensor = s.sensor
      ∧ (storeReadAct ps s).reck = s.reck
      ∧ (storeReadAct ps s).link = s.link
      ∧ (storeReadAct ps s).peers = s.peers
      ∧ (storeReadAct ps s).mark = s.mark
      ∧ (storeReadAct ps s).store = s.store
      ∧ (storeReadAct ps s).gradeUnit = s.gradeUnit
      ∧ (storeReadAct ps s).claim = s.claim
      ∧ (storeReadAct ps s).search = s.search
      ∧ (storeReadAct ps s).zone = s.zone
      ∧ (storeReadAct ps s).fault = s.fault
      ∧ (storeReadAct ps s).free = s.free
      ∧ (storeReadAct ps s).pending = s.pending
      ∧ (storeReadAct ps s).port.setup = s.port.setup
      ∧ (storeReadAct ps s).port.frozen = s.port.frozen
      ∧ (storeReadAct ps s).port.tau = s.port.tau
      ∧ (storeReadAct ps s).port.span = s.port.span
      ∧ (storeReadAct ps s).port.shifted = s.port.shifted
      ∧ (storeReadAct ps s).port.lastEnd = s.port.lastEnd
      ∧ (storeReadAct ps s).port.changedPeers = s.port.changedPeers
      ∧ (storeReadAct ps s).port.attention = s.port.attention := by
  unfold storeReadAct
  refine ⟨?_, ?_, ?_, ?_, ?_, ?_, ?_, ?_, ?_, ?_, ?_, ?_, ?_, ?_, ?_, ?_, ?_, ?_, ?_, ?_, ?_, ?_, ?_, ?_, ?_⟩ <;>
    (repeat' split) <;> rfl

@[simp] theorem clearRecord_frame (s : State) :
    (clearRecord s).phase = s.phase
      ∧ (clearRecord s).ms = s.ms
      ∧ (clearRecord s).straps = s.straps
      ∧ (clearRecord s).levels = s.levels
      ∧ (clearRecord s).sensor = s.sensor
      ∧ (clearRecord s).reck = s.reck
      ∧ (clearRecord s).link = s.link
      ∧ (clearRecord s).peers = s.peers
      ∧ (clearRecord s).mark = s.mark
      ∧ (clearRecord s).store = s.store
      ∧ (clearRecord s).gradeUnit = s.gradeUnit
      ∧ (clearRecord s).claim = s.claim
      ∧ (clearRecord s).search = s.search
      ∧ (clearRecord s).zone = s.zone
      ∧ (clearRecord s).free = s.free
      ∧ (clearRecord s).pending = s.pending
      ∧ (clearRecord s).fault.stopSet = s.fault.stopSet
      ∧ (clearRecord s).port.setup = s.port.setup
      ∧ (clearRecord s).port.frozen = s.port.frozen
      ∧ (clearRecord s).port.tau = s.port.tau
      ∧ (clearRecord s).port.span = s.port.span
      ∧ (clearRecord s).port.slot = s.port.slot
      ∧ (clearRecord s).port.shifted = s.port.shifted
      ∧ (clearRecord s).port.lastEnd = s.port.lastEnd
      ∧ (clearRecord s).port.changedPeers = s.port.changedPeers := by
  unfold clearRecord
  refine ⟨?_, ?_, ?_, ?_, ?_, ?_, ?_, ?_, ?_, ?_, ?_, ?_, ?_, ?_, ?_, ?_, ?_, ?_, ?_, ?_, ?_, ?_, ?_, ?_, ?_⟩ <;>
    rfl

@[simp] theorem leaveFaulted_frame (s : State) :
    (leaveFaulted s).ms = s.ms
      ∧ (leaveFaulted s).straps = s.straps
      ∧ (leaveFaulted s).levels = s.levels
      ∧ (leaveFaulted s).sensor = s.sensor
      ∧ (leaveFaulted s).reck = s.reck
      ∧ (leaveFaulted s).link = s.link
      ∧ (leaveFaulted s).claim = s.claim
      ∧ (leaveFaulted s).search = s.search
      ∧ (leaveFaulted s).zone = s.zone
      ∧ (leaveFaulted s).port = s.port
      ∧ (leaveFaulted s).free = s.free
      ∧ (leaveFaulted s).pending = s.pending
      ∧ (leaveFaulted s).peers.entries = s.peers.entries
      ∧ (leaveFaulted s).peers.digest = s.peers.digest
      ∧ (leaveFaulted s).mark.state = s.mark.state
      ∧ (leaveFaulted s).mark.number = s.mark.number
      ∧ (leaveFaulted s).mark.reported = s.mark.reported
      ∧ (leaveFaulted s).mark.leadWait = s.mark.leadWait
      ∧ (leaveFaulted s).mark.captureRequested = s.mark.captureRequested
      ∧ (leaveFaulted s).mark.serving = s.mark.serving
      ∧ (leaveFaulted s).store.cellsA = s.store.cellsA
      ∧ (leaveFaulted s).store.cellsB = s.store.cellsB
      ∧ (leaveFaulted s).store.cellsCal = s.store.cellsCal
      ∧ (leaveFaulted s).store.imageA = s.store.imageA
      ∧ (leaveFaulted s).store.imageB = s.store.imageB
      ∧ (leaveFaulted s).store.imageCal = s.store.imageCal
      ∧ (leaveFaulted s).store.calSeq = s.store.calSeq
      ∧ (leaveFaulted s).store.inFlight = s.store.inFlight
      ∧ (leaveFaulted s).store.pendingSnap = s.store.pendingSnap
      ∧ (leaveFaulted s).store.pendingCal = s.store.pendingCal
      ∧ (leaveFaulted s).store.scanDone = s.store.scanDone
      ∧ (leaveFaulted s).gradeUnit.grade = s.gradeUnit.grade
      ∧ (leaveFaulted s).fault.record = s.fault.record := by
  unfold leaveFaulted
  refine ⟨?_, ?_, ?_, ?_, ?_, ?_, ?_, ?_, ?_, ?_, ?_, ?_, ?_, ?_, ?_, ?_, ?_, ?_, ?_, ?_, ?_, ?_, ?_, ?_, ?_, ?_,
    ?_, ?_, ?_, ?_, ?_, ?_, ?_⟩ <;>
    (repeat' split) <;> simp

@[simp] theorem faultClearAct_frame (s : State) :
    (faultClearAct s).ms = s.ms
      ∧ (faultClearAct s).straps = s.straps
      ∧ (faultClearAct s).levels = s.levels
      ∧ (faultClearAct s).sensor = s.sensor
      ∧ (faultClearAct s).reck = s.reck
      ∧ (faultClearAct s).link = s.link
      ∧ (faultClearAct s).claim = s.claim
      ∧ (faultClearAct s).search = s.search
      ∧ (faultClearAct s).zone = s.zone
      ∧ (faultClearAct s).free = s.free
      ∧ (faultClearAct s).pending = s.pending
      ∧ (faultClearAct s).peers.entries = s.peers.entries
      ∧ (faultClearAct s).peers.digest = s.peers.digest
      ∧ (faultClearAct s).mark.state = s.mark.state
      ∧ (faultClearAct s).mark.number = s.mark.number
      ∧ (faultClearAct s).mark.reported = s.mark.reported
      ∧ (faultClearAct s).mark.leadWait = s.mark.leadWait
      ∧ (faultClearAct s).mark.captureRequested = s.mark.captureRequested
      ∧ (faultClearAct s).mark.serving = s.mark.serving
      ∧ (faultClearAct s).store.cellsA = s.store.cellsA
      ∧ (faultClearAct s).store.cellsB = s.store.cellsB
      ∧ (faultClearAct s).store.cellsCal = s.store.cellsCal
      ∧ (faultClearAct s).store.imageA = s.store.imageA
      ∧ (faultClearAct s).store.imageB = s.store.imageB
      ∧ (faultClearAct s).store.imageCal = s.store.imageCal
      ∧ (faultClearAct s).store.calSeq = s.store.calSeq
      ∧ (faultClearAct s).store.inFlight = s.store.inFlight
      ∧ (faultClearAct s).store.pendingSnap = s.store.pendingSnap
      ∧ (faultClearAct s).store.pendingCal = s.store.pendingCal
      ∧ (faultClearAct s).store.scanDone = s.store.scanDone
      ∧ (faultClearAct s).gradeUnit.grade = s.gradeUnit.grade
      ∧ (faultClearAct s).port.setup = s.port.setup
      ∧ (faultClearAct s).port.frozen = s.port.frozen
      ∧ (faultClearAct s).port.tau = s.port.tau
      ∧ (faultClearAct s).port.span = s.port.span
      ∧ (faultClearAct s).port.shifted = s.port.shifted
      ∧ (faultClearAct s).port.lastEnd = s.port.lastEnd
      ∧ (faultClearAct s).port.changedPeers = s.port.changedPeers := by
  unfold faultClearAct
  refine ⟨?_, ?_, ?_, ?_, ?_, ?_, ?_, ?_, ?_, ?_, ?_, ?_, ?_, ?_, ?_, ?_, ?_, ?_, ?_, ?_, ?_, ?_, ?_, ?_, ?_, ?_,
    ?_, ?_, ?_, ?_, ?_, ?_, ?_, ?_, ?_, ?_, ?_, ?_⟩ <;>
    (repeat' split) <;> simp

@[simp] theorem beginChecks_frame (s : State) :
    (beginChecks s).phase = s.phase
      ∧ (beginChecks s).ms = s.ms
      ∧ (beginChecks s).straps = s.straps
      ∧ (beginChecks s).levels = s.levels
      ∧ (beginChecks s).sensor = s.sensor
      ∧ (beginChecks s).reck = s.reck
      ∧ (beginChecks s).link = s.link
      ∧ (beginChecks s).peers = s.peers
      ∧ (beginChecks s).mark = s.mark
      ∧ (beginChecks s).store = s.store
      ∧ (beginChecks s).gradeUnit = s.gradeUnit
      ∧ (beginChecks s).zone = s.zone
      ∧ (beginChecks s).fault = s.fault
      ∧ (beginChecks s).port = s.port
      ∧ (beginChecks s).pending = s.pending
      ∧ (beginChecks s).claim.state = s.claim.state
      ∧ (beginChecks s).claim.wanted = s.claim.wanted
      ∧ (beginChecks s).claim.purpose = s.claim.purpose
      ∧ (beginChecks s).claim.dirState = s.claim.dirState
      ∧ (beginChecks s).claim.dir = s.claim.dir
      ∧ (beginChecks s).claim.lastNumber = s.claim.lastNumber
      ∧ (beginChecks s).claim.untakenOpen = s.claim.untakenOpen
      ∧ (beginChecks s).claim.untakenTimer = s.claim.untakenTimer
      ∧ (beginChecks s).search.sub = s.search.sub
      ∧ (beginChecks s).search.leadHold = s.search.leadHold
      ∧ (beginChecks s).search.outcome = s.search.outcome
      ∧ (beginChecks s).search.passes = s.search.passes
      ∧ (beginChecks s).search.level = s.search.level
      ∧ (beginChecks s).search.total = s.search.total
      ∧ (beginChecks s).search.plus = s.search.plus
      ∧ (beginChecks s).search.stage = s.search.stage := by
  unfold beginChecks
  refine ⟨?_, ?_, ?_, ?_, ?_, ?_, ?_, ?_, ?_, ?_, ?_, ?_, ?_, ?_, ?_, ?_, ?_, ?_, ?_, ?_, ?_, ?_, ?_, ?_, ?_, ?_,
    ?_, ?_, ?_, ?_, ?_⟩ <;>
    first | rfl | ((try dsimp only); (repeat' split) <;> first | rfl | simp | simp_all)

@[simp] theorem takePosted_frame (s : State) :
    (takePosted s).ms = s.ms
      ∧ (takePosted s).straps = s.straps
      ∧ (takePosted s).levels = s.levels
      ∧ (takePosted s).sensor = s.sensor
      ∧ (takePosted s).reck = s.reck
      ∧ (takePosted s).mark = s.mark
      ∧ (takePosted s).gradeUnit = s.gradeUnit
      ∧ (takePosted s).zone = s.zone
      ∧ (takePosted s).pending = s.pending
      ∧ (takePosted s).link.bitErrors = s.link.bitErrors
      ∧ (takePosted s).link.txErrors = s.link.txErrors
      ∧ (takePosted s).link.rxErrors = s.link.rxErrors
      ∧ (takePosted s).link.txFail = s.link.txFail
      ∧ (takePosted s).link.lastDuplicate = s.link.lastDuplicate
      ∧ (takePosted s).link.heartbeat = s.link.heartbeat
      ∧ (takePosted s).peers.entries = s.peers.entries
      ∧ (takePosted s).peers.digest = s.peers.digest
      ∧ (takePosted s).store.cellsA = s.store.cellsA
      ∧ (takePosted s).store.cellsB = s.store.cellsB
      ∧ (takePosted s).store.cellsCal = s.store.cellsCal
      ∧ (takePosted s).store.imageA = s.store.imageA
      ∧ (takePosted s).store.imageB = s.store.imageB
      ∧ (takePosted s).store.imageCal = s.store.imageCal
      ∧ (takePosted s).store.calSeq = s.store.calSeq
      ∧ (takePosted s).store.inFlight = s.store.inFlight
      ∧ (takePosted s).store.pendingSnap = s.store.pendingSnap
      ∧ (takePosted s).store.pendingCal = s.store.pendingCal
      ∧ (takePosted s).store.scanDone = s.store.scanDone
      ∧ (takePosted s).claim.purpose = s.claim.purpose
      ∧ (takePosted s).search.leadHold = s.search.leadHold
      ∧ (takePosted s).search.passes = s.search.passes
      ∧ (takePosted s).search.level = s.search.level
      ∧ (takePosted s).search.total = s.search.total
      ∧ (takePosted s).search.plus = s.search.plus
      ∧ (takePosted s).fault.record = s.fault.record
      ∧ (takePosted s).port.setup = s.port.setup
      ∧ (takePosted s).port.frozen = s.port.frozen
      ∧ (takePosted s).port.tau = s.port.tau
      ∧ (takePosted s).port.span = s.port.span
      ∧ (takePosted s).port.slot = s.port.slot
      ∧ (takePosted s).port.shifted = s.port.shifted
      ∧ (takePosted s).port.lastEnd = s.port.lastEnd
      ∧ (takePosted s).port.changedPeers = s.port.changedPeers := by
  unfold takePosted
  refine ⟨?_, ?_, ?_, ?_, ?_, ?_, ?_, ?_, ?_, ?_, ?_, ?_, ?_, ?_, ?_, ?_, ?_, ?_, ?_, ?_, ?_, ?_, ?_, ?_, ?_, ?_,
    ?_, ?_, ?_, ?_, ?_, ?_, ?_, ?_, ?_, ?_, ?_, ?_, ?_, ?_, ?_, ?_, ?_⟩ <;>
    first | rfl | ((try dsimp only); (repeat' split) <;> first | rfl | simp | simp_all)

@[simp] theorem directiveTakeAct_frame (s : State) :
    (directiveTakeAct s).ms = s.ms
      ∧ (directiveTakeAct s).straps = s.straps
      ∧ (directiveTakeAct s).levels = s.levels
      ∧ (directiveTakeAct s).sensor = s.sensor
      ∧ (directiveTakeAct s).reck = s.reck
      ∧ (directiveTakeAct s).mark = s.mark
      ∧ (directiveTakeAct s).gradeUnit = s.gradeUnit
      ∧ (directiveTakeAct s).zone = s.zone
      ∧ (directiveTakeAct s).pending = s.pending
      ∧ (directiveTakeAct s).link.bitErrors = s.link.bitErrors
      ∧ (directiveTakeAct s).link.txErrors = s.link.txErrors
      ∧ (directiveTakeAct s).link.rxErrors = s.link.rxErrors
      ∧ (directiveTakeAct s).link.txFail = s.link.txFail
      ∧ (directiveTakeAct s).link.lastDuplicate = s.link.lastDuplicate
      ∧ (directiveTakeAct s).link.heartbeat = s.link.heartbeat
      ∧ (directiveTakeAct s).peers.entries = s.peers.entries
      ∧ (directiveTakeAct s).peers.digest = s.peers.digest
      ∧ (directiveTakeAct s).store.cellsA = s.store.cellsA
      ∧ (directiveTakeAct s).store.cellsB = s.store.cellsB
      ∧ (directiveTakeAct s).store.cellsCal = s.store.cellsCal
      ∧ (directiveTakeAct s).store.imageA = s.store.imageA
      ∧ (directiveTakeAct s).store.imageB = s.store.imageB
      ∧ (directiveTakeAct s).store.imageCal = s.store.imageCal
      ∧ (directiveTakeAct s).store.calSeq = s.store.calSeq
      ∧ (directiveTakeAct s).store.inFlight = s.store.inFlight
      ∧ (directiveTakeAct s).store.pendingSnap = s.store.pendingSnap
      ∧ (directiveTakeAct s).store.pendingCal = s.store.pendingCal
      ∧ (directiveTakeAct s).store.scanDone = s.store.scanDone
      ∧ (directiveTakeAct s).claim.purpose = s.claim.purpose
      ∧ (directiveTakeAct s).search.leadHold = s.search.leadHold
      ∧ (directiveTakeAct s).search.passes = s.search.passes
      ∧ (directiveTakeAct s).search.level = s.search.level
      ∧ (directiveTakeAct s).search.total = s.search.total
      ∧ (directiveTakeAct s).search.plus = s.search.plus
      ∧ (directiveTakeAct s).fault.record = s.fault.record
      ∧ (directiveTakeAct s).port.setup = s.port.setup
      ∧ (directiveTakeAct s).port.frozen = s.port.frozen
      ∧ (directiveTakeAct s).port.tau = s.port.tau
      ∧ (directiveTakeAct s).port.span = s.port.span
      ∧ (directiveTakeAct s).port.shifted = s.port.shifted
      ∧ (directiveTakeAct s).port.lastEnd = s.port.lastEnd
      ∧ (directiveTakeAct s).port.changedPeers = s.port.changedPeers := by
  unfold directiveTakeAct
  refine ⟨?_, ?_, ?_, ?_, ?_, ?_, ?_, ?_, ?_, ?_, ?_, ?_, ?_, ?_, ?_, ?_, ?_, ?_, ?_, ?_, ?_, ?_, ?_, ?_, ?_, ?_,
    ?_, ?_, ?_, ?_, ?_, ?_, ?_, ?_, ?_, ?_, ?_, ?_, ?_, ?_, ?_, ?_⟩ <;>
    first | rfl | ((try dsimp only); (repeat' split) <;> first | rfl | simp | simp_all)

@[simp] theorem markRequestAct_frame (s : State) :
    (markRequestAct s).phase = s.phase
      ∧ (markRequestAct s).ms = s.ms
      ∧ (markRequestAct s).straps = s.straps
      ∧ (markRequestAct s).levels = s.levels
      ∧ (markRequestAct s).sensor = s.sensor
      ∧ (markRequestAct s).reck = s.reck
      ∧ (markRequestAct s).link = s.link
      ∧ (markRequestAct s).peers = s.peers
      ∧ (markRequestAct s).store = s.store
      ∧ (markRequestAct s).gradeUnit = s.gradeUnit
      ∧ (markRequestAct s).claim = s.claim
      ∧ (markRequestAct s).search = s.search
      ∧ (markRequestAct s).zone = s.zone
      ∧ (markRequestAct s).fault = s.fault
      ∧ (markRequestAct s).free = s.free
      ∧ (markRequestAct s).pending = s.pending
      ∧ (markRequestAct s).mark.state = s.mark.state
      ∧ (markRequestAct s).mark.number = s.mark.number
      ∧ (markRequestAct s).mark.reported = s.mark.reported
      ∧ (markRequestAct s).mark.quiet = s.mark.quiet
      ∧ (markRequestAct s).mark.leadWait = s.mark.leadWait
      ∧ (markRequestAct s).mark.captureRequested = s.mark.captureRequested
      ∧ (markRequestAct s).mark.serving = s.mark.serving
      ∧ (markRequestAct s).port.setup = s.port.setup
      ∧ (markRequestAct s).port.frozen = s.port.frozen
      ∧ (markRequestAct s).port.tau = s.port.tau
      ∧ (markRequestAct s).port.span = s.port.span
      ∧ (markRequestAct s).port.shifted = s.port.shifted
      ∧ (markRequestAct s).port.lastEnd = s.port.lastEnd
      ∧ (markRequestAct s).port.changedPeers = s.port.changedPeers
      ∧ (markRequestAct s).port.attention = s.port.attention := by
  unfold markRequestAct
  refine ⟨?_, ?_, ?_, ?_, ?_, ?_, ?_, ?_, ?_, ?_, ?_, ?_, ?_, ?_, ?_, ?_, ?_, ?_, ?_, ?_, ?_, ?_, ?_, ?_, ?_, ?_,
    ?_, ?_, ?_, ?_, ?_⟩ <;>
    first | rfl | ((try dsimp only); (repeat' split) <;> first | rfl | simp | simp_all)

@[simp] theorem referenceStartAct_frame (s : State) :
    (referenceStartAct s).ms = s.ms
      ∧ (referenceStartAct s).straps = s.straps
      ∧ (referenceStartAct s).levels = s.levels
      ∧ (referenceStartAct s).sensor = s.sensor
      ∧ (referenceStartAct s).reck = s.reck
      ∧ (referenceStartAct s).zone = s.zone
      ∧ (referenceStartAct s).free = s.free
      ∧ (referenceStartAct s).pending = s.pending
      ∧ (referenceStartAct s).link.bitErrors = s.link.bitErrors
      ∧ (referenceStartAct s).link.txErrors = s.link.txErrors
      ∧ (referenceStartAct s).link.rxErrors = s.link.rxErrors
      ∧ (referenceStartAct s).link.txFail = s.link.txFail
      ∧ (referenceStartAct s).link.lastDuplicate = s.link.lastDuplicate
      ∧ (referenceStartAct s).link.heartbeat = s.link.heartbeat
      ∧ (referenceStartAct s).peers.entries = s.peers.entries
      ∧ (referenceStartAct s).peers.digest = s.peers.digest
      ∧ (referenceStartAct s).mark.state = s.mark.state
      ∧ (referenceStartAct s).mark.number = s.mark.number
      ∧ (referenceStartAct s).mark.reported = s.mark.reported
      ∧ (referenceStartAct s).mark.quiet = s.mark.quiet
      ∧ (referenceStartAct s).mark.captureRequested = s.mark.captureRequested
      ∧ (referenceStartAct s).store.cellsA = s.store.cellsA
      ∧ (referenceStartAct s).store.cellsB = s.store.cellsB
      ∧ (referenceStartAct s).store.cellsCal = s.store.cellsCal
      ∧ (referenceStartAct s).store.imageA = s.store.imageA
      ∧ (referenceStartAct s).store.imageB = s.store.imageB
      ∧ (referenceStartAct s).store.imageCal = s.store.imageCal
      ∧ (referenceStartAct s).store.calSeq = s.store.calSeq
      ∧ (referenceStartAct s).store.inFlight = s.store.inFlight
      ∧ (referenceStartAct s).store.pendingSnap = s.store.pendingSnap
      ∧ (referenceStartAct s).store.pendingCal = s.store.pendingCal
      ∧ (referenceStartAct s).store.scanDone = s.store.scanDone
      ∧ (referenceStartAct s).gradeUnit.grade = s.gradeUnit.grade
      ∧ (referenceStartAct s).gradeUnit.candidates = s.gradeUnit.candidates
      ∧ (referenceStartAct s).gradeUnit.chosen = s.gradeUnit.chosen
      ∧ (referenceStartAct s).claim.state = s.claim.state
      ∧ (referenceStartAct s).claim.wanted = s.claim.wanted
      ∧ (referenceStartAct s).claim.purpose = s.claim.purpose
      ∧ (referenceStartAct s).claim.dirState = s.claim.dirState
      ∧ (referenceStartAct s).claim.dir = s.claim.dir
      ∧ (referenceStartAct s).claim.lastNumber = s.claim.lastNumber
      ∧ (referenceStartAct s).claim.untakenOpen = s.claim.untakenOpen
      ∧ (referenceStartAct s).claim.untakenTimer = s.claim.untakenTimer
      ∧ (referenceStartAct s).claim.allowance = s.claim.allowance
      ∧ (referenceStartAct s).fault.record = s.fault.record
      ∧ (referenceStartAct s).port.setup = s.port.setup
      ∧ (referenceStartAct s).port.frozen = s.port.frozen
      ∧ (referenceStartAct s).port.tau = s.port.tau
      ∧ (referenceStartAct s).port.span = s.port.span
      ∧ (referenceStartAct s).port.shifted = s.port.shifted
      ∧ (referenceStartAct s).port.lastEnd = s.port.lastEnd
      ∧ (referenceStartAct s).port.changedPeers = s.port.changedPeers
      ∧ (referenceStartAct s).port.attention = s.port.attention := by
  unfold referenceStartAct
  refine ⟨?_, ?_, ?_, ?_, ?_, ?_, ?_, ?_, ?_, ?_, ?_, ?_, ?_, ?_, ?_, ?_, ?_, ?_, ?_, ?_, ?_, ?_, ?_, ?_, ?_, ?_,
    ?_, ?_, ?_, ?_, ?_, ?_, ?_, ?_, ?_, ?_, ?_, ?_, ?_, ?_, ?_, ?_, ?_, ?_, ?_, ?_, ?_, ?_, ?_, ?_, ?_, ?_, ?_⟩ <;>
    first | rfl | ((try dsimp only); (repeat' split) <;> first | rfl | simp | simp_all)

@[simp] theorem referenceAbortAct_frame (s : State) :
    (referenceAbortAct s).ms = s.ms
      ∧ (referenceAbortAct s).straps = s.straps
      ∧ (referenceAbortAct s).levels = s.levels
      ∧ (referenceAbortAct s).sensor = s.sensor
      ∧ (referenceAbortAct s).gradeUnit = s.gradeUnit
      ∧ (referenceAbortAct s).zone = s.zone
      ∧ (referenceAbortAct s).free = s.free
      ∧ (referenceAbortAct s).pending = s.pending
      ∧ (referenceAbortAct s).reck.count = s.reck.count
      ∧ (referenceAbortAct s).reck.started = s.reck.started
      ∧ (referenceAbortAct s).reck.lastGood = s.reck.lastGood
      ∧ (referenceAbortAct s).reck.held = s.reck.held
      ∧ (referenceAbortAct s).reck.turnOffset = s.reck.turnOffset
      ∧ (referenceAbortAct s).reck.theta0 = s.reck.theta0
      ∧ (referenceAbortAct s).reck.sigma = s.reck.sigma
      ∧ (referenceAbortAct s).reck.calibrated = s.reck.calibrated
      ∧ (referenceAbortAct s).reck.basis = s.reck.basis
      ∧ (referenceAbortAct s).reck.thetaScale = s.reck.thetaScale
      ∧ (referenceAbortAct s).reck.anchor = s.reck.anchor
      ∧ (referenceAbortAct s).reck.atRest = s.reck.atRest
      ∧ (referenceAbortAct s).reck.drift = s.reck.drift
      ∧ (referenceAbortAct s).link.bitErrors = s.link.bitErrors
      ∧ (referenceAbortAct s).link.txErrors = s.link.txErrors
      ∧ (referenceAbortAct s).link.rxErrors = s.link.rxErrors
      ∧ (referenceAbortAct s).link.txFail = s.link.txFail
      ∧ (referenceAbortAct s).link.lastDuplicate = s.link.lastDuplicate
      ∧ (referenceAbortAct s).link.heartbeat = s.link.heartbeat
      ∧ (referenceAbortAct s).peers.entries = s.peers.entries
      ∧ (referenceAbortAct s).peers.digest = s.peers.digest
      ∧ (referenceAbortAct s).mark.state = s.mark.state
      ∧ (referenceAbortAct s).mark.number = s.mark.number
      ∧ (referenceAbortAct s).mark.reported = s.mark.reported
      ∧ (referenceAbortAct s).mark.quiet = s.mark.quiet
      ∧ (referenceAbortAct s).mark.leadWait = s.mark.leadWait
      ∧ (referenceAbortAct s).mark.captureRequested = s.mark.captureRequested
      ∧ (referenceAbortAct s).store.cellsA = s.store.cellsA
      ∧ (referenceAbortAct s).store.cellsB = s.store.cellsB
      ∧ (referenceAbortAct s).store.cellsCal = s.store.cellsCal
      ∧ (referenceAbortAct s).store.imageA = s.store.imageA
      ∧ (referenceAbortAct s).store.imageB = s.store.imageB
      ∧ (referenceAbortAct s).store.imageCal = s.store.imageCal
      ∧ (referenceAbortAct s).store.calSeq = s.store.calSeq
      ∧ (referenceAbortAct s).store.inFlight = s.store.inFlight
      ∧ (referenceAbortAct s).store.pendingSnap = s.store.pendingSnap
      ∧ (referenceAbortAct s).store.scanDone = s.store.scanDone
      ∧ (referenceAbortAct s).claim.purpose = s.claim.purpose
      ∧ (referenceAbortAct s).search.passes = s.search.passes
      ∧ (referenceAbortAct s).search.level = s.search.level
      ∧ (referenceAbortAct s).search.total = s.search.total
      ∧ (referenceAbortAct s).search.plus = s.search.plus
      ∧ (referenceAbortAct s).port.setup = s.port.setup
      ∧ (referenceAbortAct s).port.frozen = s.port.frozen
      ∧ (referenceAbortAct s).port.tau = s.port.tau
      ∧ (referenceAbortAct s).port.span = s.port.span
      ∧ (referenceAbortAct s).port.shifted = s.port.shifted
      ∧ (referenceAbortAct s).port.lastEnd = s.port.lastEnd
      ∧ (referenceAbortAct s).port.changedPeers = s.port.changedPeers := by
  unfold referenceAbortAct
  refine ⟨?_, ?_, ?_, ?_, ?_, ?_, ?_, ?_, ?_, ?_, ?_, ?_, ?_, ?_, ?_, ?_, ?_, ?_, ?_, ?_, ?_, ?_, ?_, ?_, ?_, ?_,
    ?_, ?_, ?_, ?_, ?_, ?_, ?_, ?_, ?_, ?_, ?_, ?_, ?_, ?_, ?_, ?_, ?_, ?_, ?_, ?_, ?_, ?_, ?_, ?_, ?_, ?_, ?_, ?_,
    ?_, ?_, ?_⟩ <;>
    first | rfl | ((try dsimp only); (repeat' split) <;> first | rfl | simp | simp_all)

@[simp] theorem confirmTurn_frame (c : Candidate) (cap : Capture) (s : State) :
    (confirmTurn c cap s).ms = s.ms
      ∧ (confirmTurn c cap s).straps = s.straps
      ∧ (confirmTurn c cap s).levels = s.levels
      ∧ (confirmTurn c cap s).sensor = s.sensor
      ∧ (confirmTurn c cap s).zone = s.zone
      ∧ (confirmTurn c cap s).pending = s.pending
      ∧ (confirmTurn c cap s).reck.started = s.reck.started
      ∧ (confirmTurn c cap s).reck.lastGood = s.reck.lastGood
      ∧ (confirmTurn c cap s).reck.theta0 = s.reck.theta0
      ∧ (confirmTurn c cap s).reck.sigma = s.reck.sigma
      ∧ (confirmTurn c cap s).reck.calibrated = s.reck.calibrated
      ∧ (confirmTurn c cap s).reck.thetaScale = s.reck.thetaScale
      ∧ (confirmTurn c cap s).reck.atRest = s.reck.atRest
      ∧ (confirmTurn c cap s).link.bitErrors = s.link.bitErrors
      ∧ (confirmTurn c cap s).link.txErrors = s.link.txErrors
      ∧ (confirmTurn c cap s).link.rxErrors = s.link.rxErrors
      ∧ (confirmTurn c cap s).link.txFail = s.link.txFail
      ∧ (confirmTurn c cap s).link.lastDuplicate = s.link.lastDuplicate
      ∧ (confirmTurn c cap s).link.heartbeat = s.link.heartbeat
      ∧ (confirmTurn c cap s).peers.entries = s.peers.entries
      ∧ (confirmTurn c cap s).peers.digest = s.peers.digest
      ∧ (confirmTurn c cap s).mark.number = s.mark.number
      ∧ (confirmTurn c cap s).mark.reported = s.mark.reported
      ∧ (confirmTurn c cap s).mark.quiet = s.mark.quiet
      ∧ (confirmTurn c cap s).mark.captureRequested = s.mark.captureRequested
      ∧ (confirmTurn c cap s).store.cellsA = s.store.cellsA
      ∧ (confirmTurn c cap s).store.cellsB = s.store.cellsB
      ∧ (confirmTurn c cap s).store.cellsCal = s.store.cellsCal
      ∧ (confirmTurn c cap s).store.imageA = s.store.imageA
      ∧ (confirmTurn c cap s).store.imageB = s.store.imageB
      ∧ (confirmTurn c cap s).store.imageCal = s.store.imageCal
      ∧ (confirmTurn c cap s).store.calSeq = s.store.calSeq
      ∧ (confirmTurn c cap s).store.inFlight = s.store.inFlight
      ∧ (confirmTurn c cap s).store.scanDone = s.store.scanDone
      ∧ (confirmTurn c cap s).gradeUnit.chosen = s.gradeUnit.chosen
      ∧ (confirmTurn c cap s).claim.purpose = s.claim.purpose
      ∧ (confirmTurn c cap s).search.passes = s.search.passes
      ∧ (confirmTurn c cap s).search.level = s.search.level
      ∧ (confirmTurn c cap s).search.total = s.search.total
      ∧ (confirmTurn c cap s).search.plus = s.search.plus
      ∧ (confirmTurn c cap s).port.setup = s.port.setup
      ∧ (confirmTurn c cap s).port.frozen = s.port.frozen
      ∧ (confirmTurn c cap s).port.tau = s.port.tau
      ∧ (confirmTurn c cap s).port.span = s.port.span
      ∧ (confirmTurn c cap s).port.slot = s.port.slot
      ∧ (confirmTurn c cap s).port.shifted = s.port.shifted
      ∧ (confirmTurn c cap s).port.lastEnd = s.port.lastEnd
      ∧ (confirmTurn c cap s).port.changedPeers = s.port.changedPeers := by
  unfold confirmTurn
  refine ⟨?_, ?_, ?_, ?_, ?_, ?_, ?_, ?_, ?_, ?_, ?_, ?_, ?_, ?_, ?_, ?_, ?_, ?_, ?_, ?_, ?_, ?_, ?_, ?_, ?_, ?_,
    ?_, ?_, ?_, ?_, ?_, ?_, ?_, ?_, ?_, ?_, ?_, ?_, ?_, ?_, ?_, ?_, ?_, ?_, ?_, ?_, ?_, ?_⟩ <;>
    first | rfl | ((try dsimp only); (repeat' split) <;> first | rfl | simp | simp_all)

@[simp] theorem turnConfirmAct_frame (ps : List Byte) (s : State) :
    (turnConfirmAct ps s).ms = s.ms
      ∧ (turnConfirmAct ps s).straps = s.straps
      ∧ (turnConfirmAct ps s).levels = s.levels
      ∧ (turnConfirmAct ps s).sensor = s.sensor
      ∧ (turnConfirmAct ps s).zone = s.zone
      ∧ (turnConfirmAct ps s).pending = s.pending
      ∧ (turnConfirmAct ps s).reck.started = s.reck.started
      ∧ (turnConfirmAct ps s).reck.lastGood = s.reck.lastGood
      ∧ (turnConfirmAct ps s).reck.theta0 = s.reck.theta0
      ∧ (turnConfirmAct ps s).reck.sigma = s.reck.sigma
      ∧ (turnConfirmAct ps s).reck.calibrated = s.reck.calibrated
      ∧ (turnConfirmAct ps s).reck.thetaScale = s.reck.thetaScale
      ∧ (turnConfirmAct ps s).reck.atRest = s.reck.atRest
      ∧ (turnConfirmAct ps s).link.bitErrors = s.link.bitErrors
      ∧ (turnConfirmAct ps s).link.txErrors = s.link.txErrors
      ∧ (turnConfirmAct ps s).link.rxErrors = s.link.rxErrors
      ∧ (turnConfirmAct ps s).link.txFail = s.link.txFail
      ∧ (turnConfirmAct ps s).link.lastDuplicate = s.link.lastDuplicate
      ∧ (turnConfirmAct ps s).link.heartbeat = s.link.heartbeat
      ∧ (turnConfirmAct ps s).peers.entries = s.peers.entries
      ∧ (turnConfirmAct ps s).peers.digest = s.peers.digest
      ∧ (turnConfirmAct ps s).mark.number = s.mark.number
      ∧ (turnConfirmAct ps s).mark.reported = s.mark.reported
      ∧ (turnConfirmAct ps s).mark.quiet = s.mark.quiet
      ∧ (turnConfirmAct ps s).mark.captureRequested = s.mark.captureRequested
      ∧ (turnConfirmAct ps s).store.cellsA = s.store.cellsA
      ∧ (turnConfirmAct ps s).store.cellsB = s.store.cellsB
      ∧ (turnConfirmAct ps s).store.cellsCal = s.store.cellsCal
      ∧ (turnConfirmAct ps s).store.imageA = s.store.imageA
      ∧ (turnConfirmAct ps s).store.imageB = s.store.imageB
      ∧ (turnConfirmAct ps s).store.imageCal = s.store.imageCal
      ∧ (turnConfirmAct ps s).store.calSeq = s.store.calSeq
      ∧ (turnConfirmAct ps s).store.inFlight = s.store.inFlight
      ∧ (turnConfirmAct ps s).store.scanDone = s.store.scanDone
      ∧ (turnConfirmAct ps s).gradeUnit.chosen = s.gradeUnit.chosen
      ∧ (turnConfirmAct ps s).claim.purpose = s.claim.purpose
      ∧ (turnConfirmAct ps s).search.passes = s.search.passes
      ∧ (turnConfirmAct ps s).search.level = s.search.level
      ∧ (turnConfirmAct ps s).search.total = s.search.total
      ∧ (turnConfirmAct ps s).search.plus = s.search.plus
      ∧ (turnConfirmAct ps s).port.setup = s.port.setup
      ∧ (turnConfirmAct ps s).port.frozen = s.port.frozen
      ∧ (turnConfirmAct ps s).port.tau = s.port.tau
      ∧ (turnConfirmAct ps s).port.span = s.port.span
      ∧ (turnConfirmAct ps s).port.shifted = s.port.shifted
      ∧ (turnConfirmAct ps s).port.lastEnd = s.port.lastEnd
      ∧ (turnConfirmAct ps s).port.changedPeers = s.port.changedPeers := by
  unfold turnConfirmAct
  refine ⟨?_, ?_, ?_, ?_, ?_, ?_, ?_, ?_, ?_, ?_, ?_, ?_, ?_, ?_, ?_, ?_, ?_, ?_, ?_, ?_, ?_, ?_, ?_, ?_, ?_, ?_,
    ?_, ?_, ?_, ?_, ?_, ?_, ?_, ?_, ?_, ?_, ?_, ?_, ?_, ?_, ?_, ?_, ?_, ?_, ?_, ?_, ?_⟩ <;>
    first | rfl | ((try dsimp only); (repeat' split) <;> first | rfl | simp | simp_all)

@[simp] theorem peerForgetAct_frame (ps : List Byte) (s : State) :
    (peerForgetAct ps s).phase = s.phase
      ∧ (peerForgetAct ps s).ms = s.ms
      ∧ (peerForgetAct ps s).straps = s.straps
      ∧ (peerForgetAct ps s).levels = s.levels
      ∧ (peerForgetAct ps s).sensor = s.sensor
      ∧ (peerForgetAct ps s).reck = s.reck
      ∧ (peerForgetAct ps s).link = s.link
      ∧ (peerForgetAct ps s).mark = s.mark
      ∧ (peerForgetAct ps s).store = s.store
      ∧ (peerForgetAct ps s).gradeUnit = s.gradeUnit
      ∧ (peerForgetAct ps s).claim = s.claim
      ∧ (peerForgetAct ps s).search = s.search
      ∧ (peerForgetAct ps s).zone = s.zone
      ∧ (peerForgetAct ps s).fault = s.fault
      ∧ (peerForgetAct ps s).free = s.free
      ∧ (peerForgetAct ps s).pending = s.pending
      ∧ (peerForgetAct ps s).peers.musterTimer = s.peers.musterTimer
      ∧ (peerForgetAct ps s).peers.digest = s.peers.digest
      ∧ (peerForgetAct ps s).port.setup = s.port.setup
      ∧ (peerForgetAct ps s).port.frozen = s.port.frozen
      ∧ (peerForgetAct ps s).port.tau = s.port.tau
      ∧ (peerForgetAct ps s).port.span = s.port.span
      ∧ (peerForgetAct ps s).port.shifted = s.port.shifted
      ∧ (peerForgetAct ps s).port.lastEnd = s.port.lastEnd
      ∧ (peerForgetAct ps s).port.attention = s.port.attention := by
  unfold peerForgetAct
  refine ⟨?_, ?_, ?_, ?_, ?_, ?_, ?_, ?_, ?_, ?_, ?_, ?_, ?_, ?_, ?_, ?_, ?_, ?_, ?_, ?_, ?_, ?_, ?_, ?_, ?_⟩ <;>
    first | rfl | ((try dsimp only); (repeat' split) <;> first | rfl | simp | simp_all)

@[simp] theorem setupEffect_frame (item : Nat) (s : State) :
    (setupEffect item s).phase = s.phase
      ∧ (setupEffect item s).ms = s.ms
      ∧ (setupEffect item s).straps = s.straps
      ∧ (setupEffect item s).levels = s.levels
      ∧ (setupEffect item s).sensor = s.sensor
      ∧ (setupEffect item s).link = s.link
      ∧ (setupEffect item s).peers = s.peers
      ∧ (setupEffect item s).mark = s.mark
      ∧ (setupEffect item s).gradeUnit = s.gradeUnit
      ∧ (setupEffect item s).claim = s.claim
      ∧ (setupEffect item s).search = s.search
      ∧ (setupEffect item s).zone = s.zone
      ∧ (setupEffect item s).free = s.free
      ∧ (setupEffect item s).pending = s.pending
      ∧ (setupEffect item s).reck.theta0 = s.reck.theta0
      ∧ (setupEffect item s).reck.calibrated = s.reck.calibrated
      ∧ (setupEffect item s).reck.lambda = s.reck.lambda
      ∧ (setupEffect item s).reck.basis = s.reck.basis
      ∧ (setupEffect item s).store.cellsA = s.store.cellsA
      ∧ (setupEffect item s).store.cellsB = s.store.cellsB
      ∧ (setupEffect item s).store.cellsCal = s.store.cellsCal
      ∧ (setupEffect item s).store.imageA = s.store.imageA
      ∧ (setupEffect item s).store.imageB = s.store.imageB
      ∧ (setupEffect item s).store.imageCal = s.store.imageCal
      ∧ (setupEffect item s).store.calSeq = s.store.calSeq
      ∧ (setupEffect item s).store.inFlight = s.store.inFlight
      ∧ (setupEffect item s).store.pendingSnap = s.store.pendingSnap
      ∧ (setupEffect item s).store.pendingCal = s.store.pendingCal
      ∧ (setupEffect item s).store.scanDone = s.store.scanDone
      ∧ (setupEffect item s).fault.stopSet = s.fault.stopSet
      ∧ (setupEffect item s).port.setup = s.port.setup
      ∧ (setupEffect item s).port.frozen = s.port.frozen
      ∧ (setupEffect item s).port.tau = s.port.tau
      ∧ (setupEffect item s).port.span = s.port.span
      ∧ (setupEffect item s).port.slot = s.port.slot
      ∧ (setupEffect item s).port.shifted = s.port.shifted
      ∧ (setupEffect item s).port.lastEnd = s.port.lastEnd
      ∧ (setupEffect item s).port.changedPeers = s.port.changedPeers := by
  unfold setupEffect
  refine ⟨?_, ?_, ?_, ?_, ?_, ?_, ?_, ?_, ?_, ?_, ?_, ?_, ?_, ?_, ?_, ?_, ?_, ?_, ?_, ?_, ?_, ?_, ?_, ?_, ?_, ?_,
    ?_, ?_, ?_, ?_, ?_, ?_, ?_, ?_, ?_, ?_, ?_, ?_⟩ <;>
    first | rfl | ((try dsimp only); (repeat' split) <;> first | rfl | simp | simp_all)

@[simp] theorem storeItem_frame (item index : Nat) (v : Int) (changed : Bool) (s : State) :
    (storeItem item index v changed s).phase = s.phase
      ∧ (storeItem item index v changed s).ms = s.ms
      ∧ (storeItem item index v changed s).straps = s.straps
      ∧ (storeItem item index v changed s).levels = s.levels
      ∧ (storeItem item index v changed s).sensor = s.sensor
      ∧ (storeItem item index v changed s).link = s.link
      ∧ (storeItem item index v changed s).peers = s.peers
      ∧ (storeItem item index v changed s).mark = s.mark
      ∧ (storeItem item index v changed s).gradeUnit = s.gradeUnit
      ∧ (storeItem item index v changed s).claim = s.claim
      ∧ (storeItem item index v changed s).search = s.search
      ∧ (storeItem item index v changed s).zone = s.zone
      ∧ (storeItem item index v changed s).free = s.free
      ∧ (storeItem item index v changed s).pending = s.pending
      ∧ (storeItem item index v changed s).reck.theta0 = s.reck.theta0
      ∧ (storeItem item index v changed s).reck.calibrated = s.reck.calibrated
      ∧ (storeItem item index v changed s).reck.lambda = s.reck.lambda
      ∧ (storeItem item index v changed s).reck.basis = s.reck.basis
      ∧ (storeItem item index v changed s).store.cellsA = s.store.cellsA
      ∧ (storeItem item index v changed s).store.cellsB = s.store.cellsB
      ∧ (storeItem item index v changed s).store.cellsCal = s.store.cellsCal
      ∧ (storeItem item index v changed s).store.imageA = s.store.imageA
      ∧ (storeItem item index v changed s).store.imageB = s.store.imageB
      ∧ (storeItem item index v changed s).store.imageCal = s.store.imageCal
      ∧ (storeItem item index v changed s).store.calSeq = s.store.calSeq
      ∧ (storeItem item index v changed s).store.inFlight = s.store.inFlight
      ∧ (storeItem item index v changed s).store.pendingSnap = s.store.pendingSnap
      ∧ (storeItem item index v changed s).store.pendingCal = s.store.pendingCal
      ∧ (storeItem item index v changed s).store.scanDone = s.store.scanDone
      ∧ (storeItem item index v changed s).fault.stopSet = s.fault.stopSet
      ∧ (storeItem item index v changed s).port.frozen = s.port.frozen
      ∧ (storeItem item index v changed s).port.tau = s.port.tau
      ∧ (storeItem item index v changed s).port.span = s.port.span
      ∧ (storeItem item index v changed s).port.shifted = s.port.shifted
      ∧ (storeItem item index v changed s).port.lastEnd = s.port.lastEnd
      ∧ (storeItem item index v changed s).port.changedPeers = s.port.changedPeers := by
  unfold storeItem
  refine ⟨?_, ?_, ?_, ?_, ?_, ?_, ?_, ?_, ?_, ?_, ?_, ?_, ?_, ?_, ?_, ?_, ?_, ?_, ?_, ?_, ?_, ?_, ?_, ?_, ?_, ?_,
    ?_, ?_, ?_, ?_, ?_, ?_, ?_, ?_, ?_, ?_⟩ <;>
    first | rfl | ((try dsimp only); (repeat' split) <;> first | rfl | simp | simp_all)

@[simp] theorem setupAct_frame (ps : List Byte) (s : State) :
    (setupAct ps s).phase = s.phase
      ∧ (setupAct ps s).ms = s.ms
      ∧ (setupAct ps s).straps = s.straps
      ∧ (setupAct ps s).levels = s.levels
      ∧ (setupAct ps s).sensor = s.sensor
      ∧ (setupAct ps s).link = s.link
      ∧ (setupAct ps s).peers = s.peers
      ∧ (setupAct ps s).mark = s.mark
      ∧ (setupAct ps s).gradeUnit = s.gradeUnit
      ∧ (setupAct ps s).claim = s.claim
      ∧ (setupAct ps s).search = s.search
      ∧ (setupAct ps s).zone = s.zone
      ∧ (setupAct ps s).free = s.free
      ∧ (setupAct ps s).pending = s.pending
      ∧ (setupAct ps s).reck.theta0 = s.reck.theta0
      ∧ (setupAct ps s).reck.calibrated = s.reck.calibrated
      ∧ (setupAct ps s).reck.lambda = s.reck.lambda
      ∧ (setupAct ps s).reck.basis = s.reck.basis
      ∧ (setupAct ps s).store.cellsA = s.store.cellsA
      ∧ (setupAct ps s).store.cellsB = s.store.cellsB
      ∧ (setupAct ps s).store.cellsCal = s.store.cellsCal
      ∧ (setupAct ps s).store.imageA = s.store.imageA
      ∧ (setupAct ps s).store.imageB = s.store.imageB
      ∧ (setupAct ps s).store.imageCal = s.store.imageCal
      ∧ (setupAct ps s).store.calSeq = s.store.calSeq
      ∧ (setupAct ps s).store.inFlight = s.store.inFlight
      ∧ (setupAct ps s).store.pendingSnap = s.store.pendingSnap
      ∧ (setupAct ps s).store.pendingCal = s.store.pendingCal
      ∧ (setupAct ps s).store.scanDone = s.store.scanDone
      ∧ (setupAct ps s).fault.stopSet = s.fault.stopSet
      ∧ (setupAct ps s).port.frozen = s.port.frozen
      ∧ (setupAct ps s).port.tau = s.port.tau
      ∧ (setupAct ps s).port.span = s.port.span
      ∧ (setupAct ps s).port.shifted = s.port.shifted
      ∧ (setupAct ps s).port.lastEnd = s.port.lastEnd
      ∧ (setupAct ps s).port.changedPeers = s.port.changedPeers := by
  unfold setupAct
  refine ⟨?_, ?_, ?_, ?_, ?_, ?_, ?_, ?_, ?_, ?_, ?_, ?_, ?_, ?_, ?_, ?_, ?_, ?_, ?_, ?_, ?_, ?_, ?_, ?_, ?_, ?_,
    ?_, ?_, ?_, ?_, ?_, ?_, ?_, ?_, ?_, ?_⟩ <;>
    first | rfl | ((try dsimp only); (repeat' split) <;> first | rfl | simp | simp_all)

@[simp] theorem resetAct_frame (pins : Pins) (cut : CutResidue) (s : State) :
    (resetAct pins cut s).free = s.free
      ∧ (resetAct pins cut s).pending = s.pending := by
  unfold resetAct
  refine ⟨?_, ?_⟩ <;>
    first | rfl | ((try dsimp only); (repeat' split) <;> first | rfl | simp | simp_all)

@[simp] theorem emptyTransaction_frame (s : State) :
    (emptyTransaction s).phase = s.phase
      ∧ (emptyTransaction s).ms = s.ms
      ∧ (emptyTransaction s).straps = s.straps
      ∧ (emptyTransaction s).levels = s.levels
      ∧ (emptyTransaction s).sensor = s.sensor
      ∧ (emptyTransaction s).reck = s.reck
      ∧ (emptyTransaction s).link = s.link
      ∧ (emptyTransaction s).peers = s.peers
      ∧ (emptyTransaction s).mark = s.mark
      ∧ (emptyTransaction s).store = s.store
      ∧ (emptyTransaction s).gradeUnit = s.gradeUnit
      ∧ (emptyTransaction s).claim = s.claim
      ∧ (emptyTransaction s).search = s.search
      ∧ (emptyTransaction s).zone = s.zone
      ∧ (emptyTransaction s).fault = s.fault
      ∧ (emptyTransaction s).pending = s.pending
      ∧ (emptyTransaction s).port.setup = s.port.setup
      ∧ (emptyTransaction s).port.frozen = s.port.frozen
      ∧ (emptyTransaction s).port.tau = s.port.tau
      ∧ (emptyTransaction s).port.span = s.port.span
      ∧ (emptyTransaction s).port.shifted = s.port.shifted
      ∧ (emptyTransaction s).port.lastEnd = s.port.lastEnd
      ∧ (emptyTransaction s).port.changedPeers = s.port.changedPeers
      ∧ (emptyTransaction s).port.attention = s.port.attention := by
  unfold emptyTransaction
  refine ⟨?_, ?_, ?_, ?_, ?_, ?_, ?_, ?_, ?_, ?_, ?_, ?_, ?_, ?_, ?_, ?_, ?_, ?_, ?_, ?_, ?_, ?_, ?_, ?_⟩ <;>
    rfl

@[simp] theorem unknownAct_frame (chars : List Byte) (s : State) :
    (unknownAct chars s).phase = s.phase
      ∧ (unknownAct chars s).ms = s.ms
      ∧ (unknownAct chars s).straps = s.straps
      ∧ (unknownAct chars s).levels = s.levels
      ∧ (unknownAct chars s).sensor = s.sensor
      ∧ (unknownAct chars s).reck = s.reck
      ∧ (unknownAct chars s).link = s.link
      ∧ (unknownAct chars s).peers = s.peers
      ∧ (unknownAct chars s).mark = s.mark
      ∧ (unknownAct chars s).store = s.store
      ∧ (unknownAct chars s).gradeUnit = s.gradeUnit
      ∧ (unknownAct chars s).claim = s.claim
      ∧ (unknownAct chars s).search = s.search
      ∧ (unknownAct chars s).zone = s.zone
      ∧ (unknownAct chars s).fault = s.fault
      ∧ (unknownAct chars s).pending = s.pending
      ∧ (unknownAct chars s).port.setup = s.port.setup
      ∧ (unknownAct chars s).port.frozen = s.port.frozen
      ∧ (unknownAct chars s).port.tau = s.port.tau
      ∧ (unknownAct chars s).port.span = s.port.span
      ∧ (unknownAct chars s).port.shifted = s.port.shifted
      ∧ (unknownAct chars s).port.lastEnd = s.port.lastEnd
      ∧ (unknownAct chars s).port.changedPeers = s.port.changedPeers
      ∧ (unknownAct chars s).port.attention = s.port.attention := by
  unfold unknownAct
  refine ⟨?_, ?_, ?_, ?_, ?_, ?_, ?_, ?_, ?_, ?_, ?_, ?_, ?_, ?_, ?_, ?_, ?_, ?_, ?_, ?_, ?_, ?_, ?_, ?_⟩ <;>
    first | rfl | ((try dsimp only); (repeat' split) <;> first | rfl | simp | simp_all)

end Sys2Proof.Machine
end

