-- ==== Sys2Proof/Tests/Slice0.lean ====
section
/-! SUPPORT. Tests: the checks of WellFormed on ill-formed commands, the manual's worked cases, small runs of one command,
and for each obligation with hypotheses a state that meets them. -/

-- One test at a time: many small kernel evaluations at once exhaust the threads of a compile of the whole package.
set_option Elab.async false

namespace Sys2Proof.Tests

open Sys2Proof Sys2Proof.Machine

/-! ### Helpers -/

/-- An instant, with PFAIL not asserted. -/
def ms (t : Nat) : Instant := { ms := BitVec.ofNat 32 t, pfail := false }

/-- The state that a command leaves. -/
def after (c : Instr) (s : State) : State :=
  match exec c s with
  | .next t => t
  | _ => s

/-- The characters after the code of a well-framed drive port command. -/
def framed (code : Nat) (ps : List Byte) : List Byte :=
  byte ps.length :: ps ++ [checkSum (byte code :: byte ps.length :: ps)]

/-- The reset state in another phase. -/
def phaseOf (p : Phase) : State := { State.reset with phase := p }

/-- The reset state in REFERENCE with a search in a sub-state. -/
def searchIn (sub : SearchSub) : State := { phaseOf .reference with search := { searchReset with sub := sub } }

/-- A state with another mark unit, claim unit and so on. -/
def withMark (m : Mark) (s : State) : State := { s with mark := m }
def withClaim (c : Claim) (s : State) : State := { s with claim := c }
def withGrade (g : Grade) (s : State) : State := { s with gradeUnit := { s.gradeUnit with grade := g } }
def withSetup (su : Setup) (s : State) : State := { s with port := { s.port with setup := su } }
def low (s : State) : State := { s with levels := { s.levels with rstLow := true } }

/-- A STATUS frame of a station in READY. -/
def statusFrame : StatusFrame :=
  { phase := .ready, grade := .restored, atRest := true, claim := false, fault := false, saturated := false
    zone := .default, markNumber := 3#8, digest := 7#16, theta := some 5 }

/-! ### WellFormed: one ill-formed command for each check -/

theorem test_wellFormed_refuses_angle_with_lost :
    wellFormed (.powerDownArrival (ms 0) .j2 { grade := .lost, theta := some 0 }) = false := by decide

theorem test_wellFormed_refuses_angle_out_of_range :
    wellFormed (.statusArrival (ms 0) .j2 { statusFrame with theta := some 67108864 }) = false := by decide +kernel

theorem test_wellFormed_refuses_acceptable_discard :
    wellFormed (.frameDiscard (ms 0) (.chars (encodeFrame .j3 .release))) = false := by decide +kernel

theorem test_wellFormed_refuses_long_discard :
    wellFormed (.frameDiscard (ms 0) (.chars (List.replicate 17 0#8))) = false := by decide +kernel

theorem test_wellFormed_refuses_short_residue : wellFormed (.rstNLow (.torn [1#8])) = false := by decide

theorem test_wellFormed_refuses_short_readback :
    wellFormed (.writeCompletion (ms 0) (.differs [1#8])) = false := by decide

theorem test_wellFormed_refuses_fetch_as_unknown : wellFormed (.unknownCommand (ms 0) [0#8]) = false := by decide

theorem test_wellFormed_refuses_known_as_unknown : wellFormed (.unknownCommand (ms 0) [16#8]) = false := by decide

theorem test_wellFormed_admits : wellFormed (.statusArrival (ms 0) .j2 statusFrame) = true
    ∧ wellFormed (.unknownCommand (ms 0) [0x55#8]) = true := by decide

/-! ### The link: R28, R29 and the worked sequence of 2.2 -/

theorem test_crc_of_the_digits :
    crc16 [0x31#8, 0x32#8, 0x33#8, 0x34#8, 0x35#8, 0x36#8, 0x37#8, 0x38#8, 0x39#8] = 0x29B1#16 := by decide +kernel

theorem test_arbitration_characters :
    arbitrationChar .j3 .status = 207#8 ∧ arbitrationChar .j3 .claim = 0b10001111#8
      ∧ arbitrationChar .j5 .claim = 0b10010111#8 ∧ arbitrationChar .j6 .status = 0b11011011#8 := by decide

/-! ### Reckoning: the worked cases of 1.3 and 1.4 -/

/-- The wrist station of the worked case of 1.3. -/
def wrist : Setup := { setupDefault with gearNum := 120, coupleNum := -3, coupleDen := 2 }

theorem test_worked_angle : leadTerm wrist true 4194304 = -6144 ∧ leadTerm wrist true 4194305 = -6144
    ∧ angleOfCount wrist 0 (-6144) 491520 = 4246733 := by decide +kernel

theorem test_unwrap_across_the_wrap : unwrapStep 16384 120 16300 = 204 ∧ unwrapStep 16384 6000 120 = 5880 := by
  decide +kernel

/-- The wrist's motor count before the two samples of the worked case. -/
def wristCounting : State :=
  withSetup wrist
    { State.reset with
      reck := { reckoningReset with count := 491520, started := true, lastGood := some 16300 } }

theorem test_motorSample_wraps :
    (after (.motorSample (ms 1) (.good 120#16) false) wristCounting).reck.count = 491724 := by decide +kernel

theorem test_motorSample_jumps :
    let s := after (.motorSample (ms 2) (.good 6000#16) false)
      (after (.motorSample (ms 1) (.good 120#16) false) wristCounting)
    s.reck.count = 497604 ∧ s.fault.record.cause = some (.stop .motorJump) ∧ s.fault.record.a = 5880 := by
  decide +kernel

theorem test_scaleSample_of_the_worked_case :
    (after (.scaleSample (ms 1) (.good 1234#12))
        { State.reset with reck := { reckoningReset with sigma := -3000 } }).reck.thetaScale = some 5051464
      ∧ (after (.scaleSample (ms 1) (.good 4095#12)) State.reset).reck.thetaScale = some (-4096) := by decide +kernel

theorem test_wrapping_distance :
    scaleDistance { setupDefault with scaleWraps := true } 16773000 (-4096) = 120 := by decide +kernel

/-! ### Turn resolution: the worked case of 6.4 -/

def jointSetup : Setup := { setupDefault with gearNum := 120, travelLow := -8388608, travelHigh := 8388607 }

theorem test_worked_candidates :
    candidatesOf jointSetup 100000 0 0 5051464 5000 = [{ n := 36, theta := 5075831, jointTurn := 0 }]
      ∧ candidatesOf jointSetup 120000 0 0 5051464 5000
        = [{ n := 35, theta := 4936021, jointTurn := 0 }, { n := 36, theta := 5075831, jointTurn := 0 }] := by
  decide +kernel

theorem test_worked_results :
    (tableOf jointSetup false 0 5000 (candidatesOf jointSetup 100000 0 0 5051464 5000)
        (some { theta := 5075200, lambda := 0, tau := 2000 })).grade = .restored
      ∧ (tableOf jointSetup false 0 5000 (candidatesOf jointSetup 120000 0 0 5051464 5000)
        (some { theta := 5075200, lambda := 0, tau := 140000 })).grade = .coarse
      ∧ (tableOf jointSetup false 0 5000 (candidatesOf jointSetup 100000 0 0 5051464 5000) none).grade
        = .resolved := by decide +kernel

/-! ### The plan: Table 3-3 -/

def rawPlan : Plan :=
  { setupDefault.plan with
    lead := ⟨none, none, some .j2, some .j4, none, some .j5⟩
    prereq := ⟨1#6, 3#6, 2#6, 0#6, 0#6, 16#6⟩
    conflict := ⟨2#6, 4#6, 0#6, 0#6, 48#6, 0#6⟩ }

theorem test_normalised_plan_of_Table_3_3 :
    normalise rawPlan =
        { rawPlan with
          lead := ⟨none, none, some .j2, none, none, some .j5⟩
          prereq := ⟨0#6, 1#6, 2#6, 0#6, 0#6, 16#6⟩
          conflict := ⟨2#6, 5#6, 2#6, 0#6, 32#6, 16#6⟩ }
      ∧ planCycle (normalise rawPlan) = false
      ∧ planCycle (normalise { rawPlan with prereq := ⟨4#6, 3#6, 2#6, 0#6, 0#6, 16#6⟩ }) = true := by decide +kernel

/-! ### The search: the worked sequence of 8.9 -/

theorem test_worked_passes :
    passCentre setupDefault
        { searchReset with e1 := some 594004, e2 := some 594396, e3 := some 594382, e4 := some 593992, chatter := 2 }
        = none
      ∧ passCentre setupDefault
        { searchReset with e1 := some 594000, e2 := some 594400, e3 := some 594380, e4 := some 593990 }
        = some 594193
      ∧ rdiv (594193 + 594190) 2 = 594192 := by decide +kernel

/-- SETTLE with the edges of the worked pass 3 and the centre of pass 2. -/
def settling : State :=
  withSetup { setupDefault with gearNum := 120, homeAngle := 5000000 }
    { searchIn .settle with
      search :=
        { searchReset with
          sub := .settle, level := 1, passes := 2, total := 2, prevCentre := some 594193, e1 := some 593998
          e2 := some 594390, e3 := some 594384, e4 := some 593988, settleSecond := .running 0#32 50 } }

theorem test_settleEnd_converges :
    let s := after (.settleEnd (ms 50)) settling
    s.search.sub = .calibrate ∧ s.search.centre = some 594192 ∧ s.search.lastDelta = some 3
      ∧ s.search.theta0 = some (-70438) := by decide +kernel

/-! ### The drive port: the worked sequence of 11.4 -/

def config5 : State := { State.reset with straps := { st := 5#3, lr := false, lastReset := .por } }

def setupOne (item : Nat) (v : Int) (s : State) : State :=
  after (.setup (ms 1) (framed 16 ([byte item, 0#8] ++ bytes32 v))) s

theorem test_go_of_the_worked_sequence :
    let s := after (.go (ms 2) (framed 17 []))
      (setupOne 8 200000 (setupOne 14 8388607 (setupOne 13 (-8388608) config5)))
    s.phase = .muster ∧ s.port.slot.status = .clamped ∧ s.port.tau = some 167771 ∧ s.port.span = some 167772 := by
  decide +kernel

theorem test_go_refused_with_travel :
    let s := after (.go (ms 2) (framed 17 [])) (setupOne 13 (-8388608) config5)
    s.phase = .config ∧ s.port.slot.status = .refused ∧ s.port.slot.reason = .travel := by decide +kernel

theorem test_setup_clamps :
    (setupOne 1 99 State.reset).port.setup.motorBits = 16
      ∧ (setupOne 1 99 State.reset).port.slot.status = .clamped := by decide +kernel

theorem test_command_with_wrong_check :
    (after (.statusRead (ms 1) [0#8, 9#8]) State.reset).port.slot.status = .checkError := by decide +kernel

/-! ### The store: the worked sequence of 5.3 -/

/-- Slot A SOUND with sequence 0, slot B SOUND with 65535. -/
def snapRequest : SnapRequest :=
  { state := .sound, cause := .rest, grade := .restored, atRest := true, count := 5, theta := some 6, lambda := none
    calSeq := some 12#16, markNumber := 0#8 }

theorem test_newest_across_the_wrap :
    newestOf (.valid { seq := 0#16, body := snapRequest }) (.valid { seq := 65535#16, body := snapRequest })
        = some (.a, { seq := 0#16, body := snapRequest })
      ∧ newestOf (.valid { seq := 65535#16, body := snapRequest }) (.valid { seq := 1#16, body := snapRequest })
        = some (.b, { seq := 1#16, body := snapRequest })
      ∧ newestOf .torn .writing = none := by decide +kernel

/-- A write of a snapshot to slot A in flight. -/
def writing : State :=
  { phaseOf .ready with
    store := { storeReset (erasedCells 23) (erasedCells 23) (erasedCells 20) with
      scanDone := true, imageA := .writing, imageB := .empty, imageCal := .empty
      inFlight := some (.snap .a { seq := 0#16, body := snapRequest }) } }

theorem test_writeCompletion_verified :
    (after (.writeCompletion (ms 3) .agrees) writing).store.imageA = .valid { seq := 0#16, body := snapRequest } := by
  decide +kernel

theorem test_writeCompletion_failed :
    let s := after (.writeCompletion (ms 3) (.differs (erasedCells 23))) writing
    s.store.imageA = .torn ∧ s.fault.record.cause = some (.note .storeVerify) ∧ s.fault.record.a = 1 := by
  decide +kernel

/-! ### Zones: the worked case of 9.7 -/

def zonedSetup : Setup :=
  { setupDefault with
    zone1 := { low := 0, high := 4194304, attr := { cap := .full, homing := true, plus := true } }
    zone2 := { low := 4194304, high := 6291456, attr := { cap := .creep, homing := true, plus := false } }
    defaultZone := { cap := .reduced, homing := false, plus := true } }

/-- COARSE from the scale, at an angle. -/
def coarseAt (a : Int) : State :=
  withGrade .coarse
    { withSetup zonedSetup (phaseOf .ready) with
      port := { State.reset.port with setup := zonedSetup, tau := some 65536 }
      reck := { reckoningReset with basis := .scale, theta := some a, thetaScale := some a } }

theorem test_zone_boundary :
    (effective (coarseAt 4200000)).cap = .creep ∧ (effective (coarseAt 4200000)).homing = false
      ∧ (effective (coarseAt 5000000)).homing = true ∧ (effective (coarseAt 5000000)).plus = false
      ∧ (effective (coarseAt 6250000)).cap = .creep ∧ (effective (coarseAt 6250000)).homing = false := by
  decide +kernel

/-! ### States that meet the hypotheses of the obligations -/

/-- The command answers a next state. -/
def answers (c : Instr) (s : State) : Bool :=
  match exec c s with
  | .next _ => true
  | _ => false

theorem next_of {c : Instr} {s : State} (h : answers c s = true) : exec c s = .next (after c s) := by
  unfold answers at h
  unfold after
  split at h
  · next t ht => rw [ht]
  · cases h

theorem step_of {c : Instr} {s : State} (h : answers c s = true) (hq : s.pending = []) :
    step (s.withPending [c]) = .next (after c s) := by
  have hs : (s.withPending [c]).withPending [] = s := by
    cases s
    cases hq
    rfl
  have : step (s.withPending [c]) = exec c ((s.withPending [c]).withPending []) := rfl
  rw [this, hs, next_of h]

/-- Without a wait for the lead's report none is cut short. -/
theorem leadHeard_of {s : State} (h : timerRunning s.mark.leadWait = false) : LeadHeard s := by
  intro k _ hw
  simp [leadWaiting, h] at hw

/-- A station that waits for no lead and holds none is steady. -/
theorem steady_of {s : State} (hr : s.levels.rstLow = false) (hw : timerRunning s.mark.leadWait = false)
    (hh : s.search.leadHold = false) : Steady s := ⟨hr, leadHeard_of hw, by simp [hh]⟩

/-- A state whose counts and angle lie in their ranges. -/
theorem countsBounded_of {s : State} (ha : (s.reck.theta.all fun a => decide (angleMin ≤ a ∧ a ≤ angleMax)) = true)
    (hc : (countInRange s.reck.count && decide (s.reck.drift ≤ 7 ∧ s.sensor.badMotor ≤ 3 ∧ s.sensor.badScale ≤ 3)) = true) :
    CountsBounded s := by
  simp only [Bool.and_eq_true, decide_eq_true_eq, countInRange] at hc
  exact ⟨fun a h => by simpa [h] using ha, hc.1, hc.2⟩

/-- A state in which no entry takes its grade as lead from a MARK_REPORT. -/
theorem downWithoutReport_of {s : State} (h : (Station.all.any fun k => (entry s k).gradeFromReport) = false) :
    DownWithoutReport s := by
  intro k _ _
  cases k <;> simp_all [Station.all]

/-- Station 2 in READY, RESTORED on the counts, at rest, with ALH high, between two idles of the line. -/
def ready : State :=
  { phaseOf .ready with
    straps := { st := 2#3, lr := false, lastReset := .por }
    levels := { State.reset.levels with alhHigh := true }
    port := { State.reset.port with frozen := true, tau := some 65536, span := some 167772 }
    gradeUnit := { gradeReset with grade := .restored }
    reck :=
      { reckoningReset with
        started := true, lastGood := some 0, calibrated := true, basis := .counts, theta := some 5, atRest := true
        anchor := some { count := 0, time := 0#32 } }
    zone := { zoneReset with capInForce := .full }
    link := { linkReset with line := .receiving } }

/-- The same station in a search, in a sub-state. -/
def inSearch (sub : SearchSub) : State :=
  { ready with phase := .reference, search := { searchReset with sub := sub, level := 1 } }

/-- The same station with a timer of the mark unit running, and so on: parts of `ready` replaced. -/
def readyMark (m : Mark) : State := { ready with mark := m }
def readyClaim (c : Claim) : State := { ready with claim := c }
def readyLink (l : Link) : State := { ready with link := l }
def readyEntry (k : Station) (e : PeerEntry) (s : State) : State :=
  { s with peers := { s.peers with entries := s.peers.entries.set k e } }
def locked (lost : Nat) (s : State) : State :=
  { s with fault := { s.fault with record := { recordReset with cause := some (.note .markClash), locked := true, lost := lost } } }

/-- A running timer. -/
def running : Timer := .running 0#32 10

/-- The line with an attempt on it. -/
def sending (f : Frame) : Link :=
  { linkReset with line := .sending { frame := f, chars := encodeFrame .j2 f, replaced := false } }

theorem test_witness_StepRunsFrontCommand :
    (ready.withPending [.fetch (ms 1)]).pending = .fetch (ms 1) :: [] ∧ ready.pending = [] := by decide

theorem test_witness_RstLowHoldsTheStation :
    (low ready).levels.rstLow = true
      ∧ (low { ready with levels := { ready.levels with porInLow := true } }).levels.rstLow = true := by decide

theorem test_witness_PhaseGraph :
    ((ready.phase = .reference ↔ ready.search.sub ≠ .none) ∧ CountsBounded ready
        ∧ exec (.pfailAsserted (ms 1)) ready = .next (after (.pfailAsserted (ms 1)) ready)
        ∧ (after (.pfailAsserted (ms 1)) ready).phase = .down)
      ∧ (((inSearch .settle).phase = .reference ↔ (inSearch .settle).search.sub ≠ .none)
        ∧ CountsBounded (inSearch .settle)
        ∧ exec (.alhFall (ms 1)) (inSearch .settle) = .next (after (.alhFall (ms 1)) (inSearch .settle))) := by
  and_intros <;>
    first | exact countsBounded_of rfl rfl | decide +kernel | exact next_of (by decide +kernel)

theorem test_witness_FrameFrontEndAndLink :
    exec (.fetch (ms 1)) ready = .next (after (.fetch (ms 1)) ready) ∧ isReset (.fetch (ms 1)) = false
      ∧ (∀ now r f, Instr.fetch (ms 1) ≠ .motorSample now r f) ∧ (∀ now r, Instr.fetch (ms 1) ≠ .scaleSample now r)
      ∧ (∀ now, Instr.fetch (ms 1) ≠ .alhFall now) ∧ (∀ now, Instr.fetch (ms 1) ≠ .alhRise now)
      ∧ isLinkEvent (.fetch (ms 1)) = false ∧ (∀ now, Instr.fetch (ms 1) ≠ .heartbeatExpiry now)
      ∧ ∀ now r, Instr.fetch (ms 1) ≠ .go now r := by
  and_intros <;> first | decide +kernel | exact next_of (by decide +kernel) | nofun

theorem test_witness_FrameStoreAndCalibration :
    exec (.pfailAsserted (ms 1)) ready = .next (after (.pfailAsserted (ms 1)) ready)
      ∧ isReset (.pfailAsserted (ms 1)) = false
      ∧ (∀ now rb, Instr.pfailAsserted (ms 1) ≠ .writeCompletion now rb)
      ∧ (∀ now, Instr.pfailAsserted (ms 1) ≠ .startupScanEnd now)
      ∧ (∀ now, Instr.pfailAsserted (ms 1) ≠ .recoveryRead now)
      ∧ ∀ now r, Instr.pfailAsserted (ms 1) ≠ .setup now r := by
  and_intros <;> first | decide +kernel | exact next_of (by decide +kernel) | nofun

theorem test_witness_FrameTableAndPort :
    let c := Instr.statusArrival (ms 1) .j3 statusFrame
    exec c ready = .next (after c ready) ∧ isReset c = false ∧ (∀ now r, c ≠ .go now r)
      ∧ arrivalOf c = some (ms 1, .j3, .status statusFrame) ∧ Station.j1 ≠ Station.j3
      ∧ parameters 11 (framed 11 [6#8]) ≠ some [byte (stationNumber .j1)] := by
  dsimp only
  and_intros <;> first | decide +kernel | exact next_of (by decide +kernel) | nofun

theorem test_witness_FrameTableAndPort_port :
    let c := Instr.alhFall (ms 1)
    exec c ready = .next (after c ready) ∧ isReset c = false ∧ (∀ now r, c ≠ .setup now r) ∧ (∀ now r, c ≠ .go now r)
      ∧ isPortCommand c = false := by
  dsimp only
  and_intros <;> first | decide +kernel | exact next_of (by decide +kernel) | nofun

theorem test_witness_RecordsStand :
    let c := Instr.markTimeoutExpiry (ms 1)
    let s := locked 255 (readyMark { markReset with state := .holding, timeout := running })
    exec c s = .next (after c s) ∧ s.fault.record.locked = true ∧ s.fault.record.lost ≤ 255
      ∧ s.levels.porInLow = false ∧ (∀ now r, c ≠ .faultClear now r) ∧ (∀ pins cut, c ≠ .por pins cut)
      ∧ isReset c = false ∧ (∀ now k n, c ≠ .markCallArrival now k n) ∧ (∀ now r, c ≠ .referenceStart now r)
      ∧ (∀ now rb, c ≠ .writeCompletion now rb) ∧ s.search.sub = .none ∧ s.phase ≠ .reference := by
  dsimp only
  and_intros <;> first | decide +kernel | exact next_of (by decide +kernel) | nofun

/-- A carried record stays carried, and a search that has ended keeps its park outcome and its calibration write's outcome. -/
theorem test_witness_RecordsStand_carried :
    let s : State :=
      { locked 3 ready with
        fault := { (locked 3 ready).fault with record := { (locked 3 ready).fault.record with carried := true } }
        search := { searchReset with parkOutcome := .reached, calWrite := .verified } }
    let t := after (.alhFall (ms 1)) s
    answers (.alhFall (ms 1)) s = true ∧ s.fault.record.locked = true ∧ t.fault.record.carried = true
      ∧ (after (.rstNLow .programmed) s).fault.record.carried = true
      ∧ t.search.parkOutcome = .reached ∧ t.search.calWrite = .verified := by decide +kernel

/-- A search that waits for its prerequisites, PREREQ_WAIT running. -/
def waitingPrereq : State :=
  { inSearch .waitPrereq with search := { searchReset with sub := .waitPrereq, prereqTimer := running } }

/-- The timer of an aborted search stays in the record, and its expiry changes nothing (R142, log 71). -/
theorem test_witness_RecordsStand_timer :
    let s := after (.referenceAbort (ms 1) (framed 9 [])) waitingPrereq
    let c := Instr.prereqWaitExpiry (ms 11)
    s.phase = .ready ∧ s.search.sub = .none ∧ s.search.prereqTimer = running ∧ exec c s = .next (after c s)
      ∧ (after c s).search = s.search ∧ (after c s).phase = .ready
      ∧ (after (.prereqWaitExpiry (ms 11)) waitingPrereq).search.prereqTimer = .stopped := by
  dsimp only
  and_intros <;> first | decide +kernel | exact next_of (by decide +kernel)

theorem test_witness_RaisesHaveTheirCauses :
    let c := Instr.scaleSample (ms 1) .bad
    let s := { ready with sensor := { sensorReset with badScale := 2 }, gradeUnit := { gradeReset with grade := .referenced } }
    exec c s = .next (after c s) ∧ (¬ ∃ now rb, c = .writeCompletion now rb) ∧ s.gradeUnit.held = none
      ∧ (∀ now r f, c ≠ .motorSample now r f) ∧ (∀ now r, c ≠ .turnConfirm now r) ∧ (∀ now r, c ≠ .setup now r)
      ∧ isReset c = false ∧ (after c s).gradeUnit.grade = .resolved := by
  dsimp only
  and_intros <;> first | decide +kernel | exact next_of (by decide +kernel) | nofun

theorem test_witness_RaisesHaveTheirCauses_snapshot :
    let c := Instr.writeCompletion (ms 1) .agrees
    exec c writing = .next (after c writing) ∧ (∀ r, writing.store.inFlight ≠ some (.cal r))
      ∧ writing.gradeUnit.held = none ∧ (∀ now r f, c ≠ .motorSample now r f) ∧ (∀ now r, c ≠ .turnConfirm now r)
      ∧ (∀ now r, c ≠ .setup now r) ∧ isReset c = false ∧ ownCalibration writing = false := by
  dsimp only
  and_intros <;> first | decide +kernel | exact next_of (by decide +kernel) | nofun

theorem test_witness_ChangesQueueStatus :
    let c := Instr.scaleSample (ms 1) .bad
    let s := { ready with sensor := { sensorReset with badScale := 2 }, gradeUnit := { gradeReset with grade := .referenced } }
    exec c s = .next (after c s) ∧ (after c s).phase ≠ .config ∧ (after c s).phase ≠ .down
      ∧ s.gradeUnit.grade ≠ (after c s).gradeUnit.grade := by
  dsimp only
  and_intros <;> first | decide +kernel | exact next_of (by decide +kernel)

/-- READY with both slots valid, the newest in slot B, across the wrap of the sequence. -/
def stored : State :=
  { ready with
    store := { State.reset.store with
      scanDone := true, imageA := .valid { seq := 65534#16, body := snapRequest }
      imageB := .valid { seq := 65535#16, body := snapRequest }, imageCal := .empty } }

theorem test_witness_WritesSpareTheNewest :
    let c := Instr.pfailAsserted (ms 1)
    exec c stored = .next (after c stored) ∧ stored.store.inFlight = none
      ∧ (match (after c stored).store.inFlight with
        | some (.snap slot r) => decide (slot = .a ∧ r.seq = 0#16)
        | _ => false) = true
      ∧ newestOf (imagesAtStart c stored).1 (imagesAtStart c stored).2 = newest stored := by
  dsimp only
  and_intros <;> first | decide +kernel | exact next_of (by decide +kernel)

/-- A write to slot A in flight, the newest in slot B, and another snapshot asked for. -/
def writingNext : State :=
  { writing with
    store := { writing.store with
      imageB := .valid { seq := 65535#16, body := snapRequest }, pendingSnap := some snapRequest } }

/-- The write that starts at a completion goes to slot B when slot A was verified, and to slot A again when it failed. -/
theorem test_witness_WritesSpareTheNewest_after_a_completion :
    let c (rb : ReadBack) := Instr.writeCompletion (ms 1) rb
    let t (rb : ReadBack) := (after (c rb) writingNext).store
    exec (c .agrees) writingNext = .next (after (c .agrees) writingNext) ∧ writingNext.levels.rstLow = false
      ∧ (t .agrees).inFlight = some (.snap .b { seq := 1#16, body := snapRequest }) ∧ (t .agrees).imageB = .writing
      ∧ (t (.differs (erasedCells 23))).inFlight = some (.snap .a { seq := 0#16, body := snapRequest })
      ∧ (t (.differs (erasedCells 23))).imageA = .writing
      ∧ (imagesAtStart (c .agrees) writingNext).1 = .valid { seq := 0#16, body := snapRequest }
      ∧ (imagesAtStart (c (.differs (erasedCells 23))) writingNext).1 = .torn
      ∧ (after (c (.differs (erasedCells 23))) writingNext).fault.record.cause = some (.note .storeVerify) := by
  dsimp only
  and_intros <;> first | decide +kernel | exact next_of (by decide +kernel)

/-- The scan finds slot B with sequence 65535 and slot A erased, and the write that waits goes to slot A. -/
theorem test_witness_WritesSpareTheNewest_after_the_scan :
    let c := Instr.startupScanEnd (ms 1)
    let r : SnapRecord := { seq := 65535#16, body := snapRequest }
    let s := { stored with
      store := { State.reset.store with scanDone := false, cellsB := encodeSnap r, pendingSnap := some snapRequest } }
    exec c s = .next (after c s) ∧ s.store.inFlight = none ∧ imagesAtStart c s = (.empty, .valid r)
      ∧ (after c s).store.inFlight = some (.snap .a { seq := 0#16, body := snapRequest })
      ∧ (after c s).store.imageB = .valid r := by
  dsimp only
  and_intros <;> first | decide +kernel | exact next_of (by decide +kernel)

/-- A search in CALIBRATE whose calibration write is in flight. -/
def calibrating : State :=
  let s := inSearch .calibrate
  { s with
    search := { s.search with awaitingWrite := true }
    store := { stored.store with
      imageCal := .writing
      inFlight :=
        some (.cal { seq := 0#16, body := { theta0 := -70438, sigma := 3, centre := 594192, level := 3, passes := 12, lastDelta := 1024 } }) }
    claim := { claimReset with state := .held, wanted := true, purpose := some .search } }

theorem test_witness_GradeBackedKept :
    GradeBacked ready ∧ step (ready.withPending [.pfailAsserted (ms 1)]) = .next (after (.pfailAsserted (ms 1)) ready) := by
  unfold GradeBacked
  and_intros <;> first | decide +kernel | exact step_of (by decide +kernel) rfl

/-- Table 6-2 gives the basis SCALE with MOTOR_JUMP at a valid scale even when the grade was LOST (R105, log 20). -/
theorem test_jump_at_lost_takes_the_scale :
    let s := { withGrade .lost ready with
      reck := { ready.reck with basis := .none, theta := none }
      sensor := { sensorReset with latestScale := some 16 } }
    let t := after (.motorSample (ms 1) (.good 4097#16) false) s
    (s.gradeUnit.grade = .lost ∧ s.reck.basis ≠ .counts) ∧ t.gradeUnit.grade = .lost ∧ t.reck.basis = .scale
      ∧ t.phase = .faulted := by decide +kernel

theorem test_witness_MotionPermittedKept :
    MotionPermitted calibrating
      ∧ step (calibrating.withPending [.writeCompletion (ms 1) .agrees])
        = .next (after (.writeCompletion (ms 1) .agrees) calibrating) := by
  unfold MotionPermitted
  and_intros <;> first | decide +kernel | exact step_of (by decide +kernel) rfl

theorem test_witness_ImagesWritingKept :
    ImagesWriting writing
      ∧ step (writing.withPending [.writeCompletion (ms 1) .agrees])
        = .next (after (.writeCompletion (ms 1) .agrees) writing) := by
  refine ⟨⟨⟨fun _ => ⟨_, rfl⟩, fun _ => rfl⟩, ⟨nofun, ?_⟩, ⟨nofun, ?_⟩, nofun⟩, step_of (by decide +kernel) rfl⟩
  · rintro ⟨r, h⟩
    cases h
  · rintro ⟨r, h⟩
    cases h

theorem test_witness_FaultCaptureKept :
    LostBounded (locked 255 ready) ∧ StopSetFaulted (locked 255 ready)
      ∧ step ((locked 255 ready).withPending [.alhFall (ms 1)]) = .next (after (.alhFall (ms 1)) (locked 255 ready)) := by
  unfold LostBounded StopSetFaulted
  and_intros <;> first | decide +kernel | exact step_of (by decide +kernel) rfl

/-- READY with M at its greatest value and θ at its. -/
def atTheEnds : State :=
  { ready with
    reck := { ready.reck with count := countMax, theta := some angleMax, drift := 7 }
    sensor := { sensorReset with badMotor := 3, badScale := 3 } }

theorem test_witness_CountsBoundedKept :
    CountsBounded atTheEnds
      ∧ step (atTheEnds.withPending [.motorSample (ms 1) (.good 1#16) false])
        = .next (after (.motorSample (ms 1) (.good 1#16) false) atTheEnds) := by
  unfold CountsBounded
  refine ⟨⟨?_, ?_, ?_⟩, step_of (by decide +kernel) rfl⟩
  · intro a h
    cases h
    decide
  · decide +kernel
  · decide +kernel

theorem test_witness_UnderCeilingKept :
    UnderCeiling ready ∧ step (ready.withPending [.alhFall (ms 1)]) = .next (after (.alhFall (ms 1)) ready) := by
  unfold UnderCeiling
  and_intros <;> first | decide +kernel | exact step_of (by decide +kernel) rfl

theorem test_witness_CapUnderZoneKept :
    CapUnderZone ready ∧ step (ready.withPending [.alhFall (ms 1)]) = .next (after (.alhFall (ms 1)) ready) := by
  unfold CapUnderZone
  and_intros <;> first | decide +kernel | exact step_of (by decide +kernel) rfl

theorem test_witness_QueueByPhaseKept :
    QueueByPhase State.reset ∧ QueueByPhase ready
      ∧ step (ready.withPending [.pfailAsserted (ms 1)]) = .next (after (.pfailAsserted (ms 1)) ready) := by
  unfold QueueByPhase
  refine ⟨⟨fun _ k => ?_, nofun⟩, ⟨nofun, nofun⟩, step_of (by decide +kernel) rfl⟩
  cases k <;> rfl

theorem test_witness_FramesRoundTrip :
    frameContentOk (.status { statusFrame with theta := some angleMin }) = true
      ∧ frameContentOk (.hello { digest := 0#16, interval := 50#8 }) = true
      ∧ frameContentOk (.hello { digest := 0#16, interval := 5#8 }) = true
      ∧ 1 < (encodeFrame .j6 (.markCall 0x5A#8)).length
      ∧ readBits (lineBits (encodeFrame .j6 (.markCall 0x5A#8))) = some (encodeFrame .j6 (.markCall 0x5A#8))
      ∧ readBits ((lineBits (encodeFrame .j6 (.markCall 0x5A#8))).set 10 .recessive) = none := by decide +kernel

theorem test_witness_FramesRoundTrip_check :
    let cs := encodeFrame .j6 (.markCall 0x5A#8)
    receiveFrame cs = some (.j6, .markCall 0x5A#8) ∧ receiveFrame (cs.dropLast ++ [0#8]) = none
      ∧ cs.length = 5 ∧ crc16 [0x31#8] ≠ crc16 [0x32#8] := by
  dsimp only
  and_intros <;> decide +kernel

theorem test_witness_RecordsRoundTrip :
    let r : SnapRecord := { seq := 65535#16, body := { snapRequest with count := countMin, theta := some countMax } }
    let q : CalRecord := { seq := 1#16, body := { theta0 := countMin, sigma := countMax, centre := 0, level := 3, passes := 12, lastDelta := 1024 } }
    countInRange r.body.count = true ∧ (r.body.theta.all countInRange) = true ∧ (r.body.lambda.all countInRange) = true
      ∧ countInRange q.body.theta0 = true ∧ countInRange q.body.sigma = true ∧ countInRange q.body.centre = true
      ∧ q.body.level ≤ 3 ∧ q.body.passes ≤ 12 ∧ q.body.lastDelta ≤ 1024 := by decide +kernel

theorem test_witness_PassIsJudged :
    passCentre setupDefault { searchReset with e1 := some 0, e2 := some 65536, e3 := some 65536, e4 := some 65472, chatter := 1 }
        = some 49136
      ∧ passCentre setupDefault { searchReset with e1 := some 0, e2 := some 63, e3 := some 64, e4 := some 0 } = none := by
  decide +kernel

theorem test_witness_NewestSlot :
    (∀ r, SlotImage.writing ≠ .valid r) ∧ (∀ r, SlotImage.unread ≠ .valid r)
      ∧ newestOf (setImage .b .writing stored.store).imageA (setImage .b .writing stored.store).imageB
        = some (.a, { seq := 65534#16, body := snapRequest })
      ∧ newest stored = some (.b, { seq := 65535#16, body := snapRequest }) := by
  refine ⟨fun _ h => ?_, fun _ h => ?_, by decide +kernel, by decide +kernel⟩ <;> cases h

/-- Station 2 coupled to station 3, which is ALIVE. -/
def coupledTo3 : State :=
  readyEntry .j3 { entryReset with presence := .alive, grade := .resolved, angle := some 9, atRest := true }
    { ready with
      port := { ready.port with
        setup := { setupDefault with
          coupleNum := 1
          plan := { setupDefault.plan with lead := (PerStation.all none).set .j2 (some .j3) } } } }

/-- READY with the calibration of sequence 12 in force and the newest slot SOUND. -/
def recoverable : State :=
  { ready with
    phase := .recovery
    store := { stored.store with
      imageCal := .valid { seq := 12#16, body := { theta0 := 7, sigma := -9, centre := 0, level := 1, passes := 2, lastDelta := 3 } }
      calSeq := some 12#16 }
    gradeUnit := { gradeReset with sub := .reading, readPending := true }
    mark := { markReset with needs := onlyRecovery } }

theorem test_witness_NewestSlot_chosen :
    chooseSnapshot { recoverable with reck := { recoverable.reck with calibrated := true } }
      = some { slot := .b, r := { seq := 65535#16, body := snapRequest } } := by decide +kernel

theorem test_witness_BrakeAndSpeedPermits :
    brkEn ready = true ∧ ready.phase = (locked 1 ready).phase ∧ ready.gradeUnit.grade = (locked 1 ready).gradeUnit.grade
      ∧ ready.levels.pfail = (locked 1 ready).levels.pfail := by decide +kernel

theorem test_witness_BrakeAndSpeedPermits_speed :
    State.reset.phase ≠ .ready ∧ State.reset.phase ≠ .reference ∧ ready.phase = .ready
      ∧ (inSearch .settle).phase = .reference ∧ maskHas (concernSet ready) .j6 = true ∧ concernSet ready ≠ 0#6
      ∧ own ready = some .j2 ∧ own ready ≠ some .j6 := by decide +kernel

/-- Table 9-3. -/
theorem test_speed_lines :
    speedLines .none = { spd1 := false, spd0 := false } ∧ speedLines .creep = { spd1 := false, spd0 := true }
      ∧ speedLines .reduced = { spd1 := true, spd0 := false } ∧ speedLines .full = { spd1 := true, spd0 := true } := by
  decide

/-- RESOLVED on the counts, at an angle, among the zones of 9.7. -/
def resolvedAt (a : Int) : State := withGrade .resolved (coarseAt a)

theorem test_witness_ZoneAttributes :
    (withGrade .lost ready).gradeUnit.grade = .lost ∧ gradeCode .resolved ≤ gradeCode (resolvedAt 4194304).gradeUnit.grade
      ∧ (resolvedAt 4194304).reck.theta = some 4194304
      ∧ (effective (resolvedAt 4194304)).index = .z2 ∧ (effective (resolvedAt 4194303)).index = .z1
      ∧ (effective (resolvedAt 6291456)).index = .default ∧ (resolvedAt 4194304).reck.saturated = false
      ∧ zonesOf zonedSetup = [(.z1, 2#5, zonedSetup.zone1)] ++ (.z2, 4#5, zonedSetup.zone2)
          :: [(.z3, 8#5, zonedSetup.zone3), (.z4, 16#5, zonedSetup.zone4)] := by decide +kernel

/-- A saturated angle in DOWN has the default zone, also where zone 1 reaches down to the limit of the angle. -/
theorem test_witness_ZoneAttributes_saturated :
    let wide := { zonedSetup with zone1 := { zonedSetup.zone1 with low := angleMin } }
    let s (sat : Bool) : State :=
      { withSetup wide (resolvedAt angleMin) with
        phase := .down, reck := { (resolvedAt angleMin).reck with saturated := sat } }
    (s true).reck.saturated = true ∧ gradeCode .resolved ≤ gradeCode (s true).gradeUnit.grade
      ∧ (s true).reck.theta = some angleMin ∧ (effective (s true)).index = .default
      ∧ (effective (s false)).index = .z1 := by decide +kernel

theorem test_witness_ZoneAttributes_combined :
    let ms (a : Int) := membersOf (setupOf (coarseAt a)) (a - 65536) (a + 65536)
    (coarseAt 4200000).gradeUnit.grade = .coarse ∧ (coarseAt 4200000).reck.theta = some 4200000
      ∧ 0 ≤ (coarseAt 4200000).port.tau.getD 0 ∧ (4134464 : Int) ≤ 4265536 ∧ (ms 4200000).length = 2
      ∧ ms 5000000 = [(.z2, 4#5, zonedSetup.zone2.attr)] ∧ (ms 6250000).length = 2
      ∧ (effective (coarseAt 4200000)).plus = true := by decide +kernel

theorem test_witness_TurnCandidates :
    let su := jointSetup
    0 < su.gearNum ∧ 0 < su.gearDen ∧ (139809 : Int) ≤ spanOf su - 1 ∧ (139809 : Int) ≤ 4194304
      ∧ angleMin ≤ su.travelLow ∧ su.travelHigh ≤ angleMax ∧ travelMid su - 8388608 ≤ 5051464
      ∧ (5051464 : Int) < travelMid su + 8388608 ∧ su.scaleWraps = false
      ∧ (candidatesOf su 139809 0 0 5051464 5000).length = 2 := by decide +kernel

/-- A tested count at a distance of τ_s is a candidate and one a unit beyond is not; a wrapping scale stands one turn lower
too. -/
theorem test_witness_TurnCandidates_kept :
    let su := { jointSetup with scaleWraps := true }
    let estimate (target : Int) := rdiv (inCounts jointSetup (target - 0) + 0 - 5000) (cprOf jointSetup : Int)
    estimate 5051464 = 36 ∧ angleOfCount jointSetup 0 0 (35 * (cprOf jointSetup : Int) + 5000) = 4936021
      ∧ Machine.dist 4936021 5051464 = 115443
      ∧ ((candidatesOf jointSetup 115443 0 0 5051464 5000).map fun c => c.n) = [35, 36]
      ∧ ((candidatesOf jointSetup 115442 0 0 5051464 5000).map fun c => c.n) = [36]
      ∧ estimate (8388607 + -1 * turn) = -60 ∧ su.travelLow - 139809 ≤ 8388607 + -1 * turn
      ∧ ((candidatesOf su 139809 0 0 8388607 5000).map fun c => c.n) = [-60, 59]
      ∧ ((candidatesOf jointSetup 139809 0 0 8388607 5000).map fun c => c.n) = [59] := by decide +kernel

theorem test_witness_ResolutionTable :
    let a : Candidate := { n := 35, theta := 4936021, jointTurn := 0 }
    let b : Candidate := { n := 36, theta := 5075831, jointTurn := 0 }
    let near : SnapTest := { theta := 5075200, lambda := 0, tau := 2000 }
    let wide : SnapTest := { theta := 5075200, lambda := 0, tau := 140000 }
    [a, b].filter (snapAgrees jointSetup false 0 5000 near) = [b]
      ∧ [a, b].filter (snapAgrees jointSetup false 0 5000 wide) = [a, b]
      ∧ [a].filter (snapAgrees jointSetup false 0 5000 near) = [] := by decide +kernel

/-- At τ and one unit beyond it; a coupled candidate lies 6144 counts off its own angle, 52428.8 units; half a turn on a wrapping scale. -/
theorem test_witness_ResolutionTable_snapshot :
    let record (atRest : Bool) (theta lambda : Option Int) : ChosenSnapshot :=
      { slot := .a, r := { seq := 1#16, body := { snapRequest with atRest := atRest, theta := theta, lambda := lambda } } }
    let a : Candidate := { n := 35, theta := 4936021, jointTurn := 0 }
    let at_ (d tau : Nat) : SnapTest := { theta := 4936021 + (d : Int), lambda := 4194304, tau := tau }
    let wraps := { jointSetup with scaleWraps := true }
    (snapTestOf jointSetup false (record true (some 5) none)).map (fun x => x.tau) = some 4096
      ∧ (snapTestOf jointSetup false (record false (some 5) none)).map (fun x => x.tau) = some 65536
      ∧ snapTestOf jointSetup false (record true none (some 7)) = none
      ∧ snapTestOf jointSetup true (record true (some 5) none) = none
      ∧ snapTestOf jointSetup true (record true (some 5) (some 7)) = some { theta := 5, lambda := 7, tau := 4096 }
      ∧ snapAgrees jointSetup false 0 5000 (at_ 9 9) a = true ∧ snapAgrees jointSetup false 0 5000 (at_ 10 9) a = false
      ∧ snapDistance { wrist with gearNum := 120 } true 0 5000 (at_ 0 9) a = 52429
      ∧ scaleDistance wraps 8388608 0 = 8388608 ∧ scaleDistance wraps 8388609 0 = 8388607
      ∧ scaleDistance jointSetup 8388609 0 = 8388609 := by
  dsimp only
  and_intros <;> decide +kernel

theorem test_witness_StopEffects :
    stopsIn ready.phase = true ∧ ready.fault.record.locked = false ∧ stopsIn (inSearch .forward).phase = true
      ∧ searching (inSearch .forward) = true := by decide

theorem test_witness_StopEffects_keeps_a_stop :
    stopCurrent (readyClaim { claimReset with dirState := .posted, dir := { directiveReset with number := 1, kind := some .stop } })
      = true := by decide

theorem test_witness_StopEffects_locked :
    let lost (n : Nat) := (raiseStop .linkTxFail 0 0 (locked n ready)).fault.record.lost
    (locked 254 ready).fault.record.locked = true ∧ fallOf (locked 254 ready) .linkTxFail = none
      ∧ (locked 254 ready).search.leadHold = false ∧ lost 0 = 1 ∧ lost 254 = 255 ∧ lost 255 = 255 := by decide +kernel

/-- In CONFIG and DOWN a STOP fault only records; in FAULTED a MOTOR_JUMP drops RESTORED to LOST without a scale, with the
VOID request, and queues no HALT. -/
theorem test_witness_StopEffects_other_phases :
    let s : State := { ready with phase := .faulted }
    let t := raiseStop .motorJump 5 4096 s
    stopsIn State.reset.phase = false ∧ stopsIn s.phase = false ∧ s.fault.record.locked = false
      ∧ (raiseStop .duplicateStation 0 0 State.reset).fault.stopSet = []
      ∧ (raiseStop .duplicateStation 0 0 State.reset).fault.record.cause = some (.stop .duplicateStation)
      ∧ (raiseStop .motorJump 0 0 { s with phase := .down }).gradeUnit.grade = .restored
      ∧ fallOf s .motorJump = some (.lost, some .none) ∧ fallOf s .linkTxFail = none
      ∧ gradeCode .resolved ≤ gradeCode s.gradeUnit.grade
      ∧ t.fault.stopSet = [.motorJump] ∧ t.gradeUnit.grade = .lost ∧ t.phase = .faulted ∧ t.link.queue.halt = none
      ∧ (t.store.pendingSnap.map fun q => (q.cause, q.state)) = some (.gradeLoss, .void)
      ∧ fallOf s .scaleFault = some (.resolved, none) ∧ (raiseStop .scaleFault 3 0 s).store.pendingSnap = none
      ∧ (locked 254 s).fault.record.locked = true
      ∧ (raiseStop .linkTxFail 0 0 (locked 254 s)).fault.record.lost = 255 := by decide +kernel

/-- Table 6-2, row by row: on a valid scale, on a wrapping one, on a failed one; and at a grade of LOST (log 20). -/
theorem test_witness_StopEffects_rows :
    let on (wraps : Bool) (bad : Nat) (g : Grade) (p : Phase) : State :=
      { withSetup { setupDefault with scaleWraps := wraps } (withGrade g ready) with
        phase := p, sensor := { sensorReset with latestScale := some 16, badScale := bad } }
    let left (c : StopCause) (s : State) :=
      let t := raiseStop c 0 0 s
      (t.gradeUnit.grade, t.reck.basis, t.store.pendingSnap.map fun q => (q.cause, q.state))
    let loss : Option (SnapCause × SnapState) := some (.gradeLoss, .void)
    left .motorJump (on false 0 .restored .ready) = (.coarse, .scale, loss)
      ∧ left .motorSensorFault (on false 2 .restored .reference) = (.coarse, .scale, loss)
      ∧ left .motorJump (on false 3 .restored .ready) = (.lost, .none, loss)
      ∧ left .motorSensorFault (on true 0 .restored .ready) = (.lost, .none, loss)
      ∧ left .motorCountOverflow (on false 0 .resolved .ready) = (.lost, .none, loss)
      ∧ left .scaleFault (on false 0 .referenced .ready) = (.resolved, .counts, none)
      ∧ left .scaleDrift (on false 0 .resolved .ready) = (.coarse, .scale, loss)
      ∧ left .scaleDrift (on true 0 .resolved .ready) = (.lost, .none, loss)
      ∧ left .linkTxFail (on false 0 .resolved .ready) = (.resolved, .counts, none)
      ∧ left .motorJump (on false 0 .coarse .muster) = (.coarse, .scale, none)
      ∧ left .motorJump (on false 0 .lost .recovery) = (.lost, .scale, none) := by
  dsimp only
  and_intros <;> decide +kernel

/-- The falls to the ceiling: under the lead, by saturation, by a failed scale, with a lead of LOST; and none. -/
theorem test_witness_StopEffects_ceiling :
    let under (g : Grade) : State := readyEntry .j3 { entryReset with presence := .alive, grade := g } coupledTo3
    let left (s : State) := (s.gradeUnit.grade, s.reck.basis, s.gradeUnit.capped, s.gradeUnit.recordedLead)
    left (applyCeiling (under .coarse)) = (.coarse, .counts, true, some .coarse)
      ∧ left (applyCeiling (under .lost)) = (.lost, .none, true, some .lost)
      ∧ left (applyCeiling { ready with reck := { ready.reck with saturated := true } }) = (.coarse, .counts, false, none)
      ∧ left (applyCeiling { ready with sensor := { sensorReset with badScale := 3 } }) = (.resolved, .counts, false, none)
      ∧ left (applyCeiling { under .coarse with reck := { ready.reck with saturated := true } })
        = (.coarse, .counts, true, some .coarse)
      ∧ applyCeiling (under .restored) = under .restored ∧ applyCeiling ready = ready := by
  dsimp only
  and_intros <;> decide +kernel

theorem test_witness_MotorSampleTaken :
    0 < (16384 : Nat) ∧ ready.levels.rstLow = false ∧ LeadHeard ready
      ∧ (after (.motorSample (ms 1) (.good 16384#16) false) ready).sensor.latestMotor = some 0
      ∧ (after (.motorSample (ms 1) (.good 16383#16) false) ready).sensor.latestMotor = some 16383
      ∧ ready.mark.captureRequested = false ∧ ready.reck.started = true
      ∧ ready.reck.anchor = some { count := 0, time := 0#32 } ∧ ready.sensor.badMotor < 3
      ∧ State.reset.reck.started = false ∧ LeadHeard State.reset ∧ State.reset.mark.captureRequested = false
      ∧ (after (.motorSample (ms 200) (.good 16#16) true) ready).reck.anchor = some { count := 0, time := 0#32 }
      ∧ (after (.motorSample (ms 200) (.good 17#16) true) ready).reck.anchor = some { count := 17, time := 200#32 } := by
  and_intros <;> first | exact leadHeard_of rfl | exact steady_of rfl rfl rfl | decide +kernel

/-- The angle of M is 10 at 16 counts, far from the limits, so that no saturation is entered before the jump. -/
theorem test_witness_MotorSampleTaken_jump :
    let d := unwrapStep (cprOf (setupOf ready)) 4097 (ready.reck.lastGood.getD 4097)
    LeadHeard ready ∧ ready.mark.captureRequested = false
      ∧ ready.reck.started = true ∧ cprOf (setupOf ready) < 4 * d.natAbs ∧ stopsIn ready.phase = true
      ∧ scaleValid ready = false ∧ ready.fault.record.locked = false ∧ ready.reck.basis = .counts
      ∧ leadGrade ready ≠ some .lost
      ∧ (formedAngle { ready with reck := { ready.reck with count := 4097 } }).all angleInRange = true
      ∧ (after (.motorSample (ms 1) (.good 4097#16) false) ready).fault.record.cause = some (.stop .motorJump)
      ∧ (after (.motorSample (ms 1) (.good 4096#16) false) ready).phase = .ready := by
  dsimp only
  and_intros <;> first | exact leadHeard_of rfl | exact steady_of rfl rfl rfl | decide +kernel

/-- READY with M at its greatest value. -/
def atTheTop (held : Bool) : State := { ready with reck := { ready.reck with count := countMax, held := held } }

theorem test_witness_MotorSampleTaken_overflow :
    LeadHeard (atTheTop false) ∧ (atTheTop false).reck.started = true ∧ (atTheTop false).reck.held = false
      ∧ countInRange (countMax + unwrapStep 16384 1 0) = false ∧ stopsIn (atTheTop false).phase = true
      ∧ (after (.motorSample (ms 1) (.good 1#16) false) (atTheTop false)).reck.held = true
      ∧ (after (.motorSample (ms 1) (.good 1#16) false) (atTheTop false)).fault.stopSet = [.motorCountOverflow]
      ∧ (after (.motorSample (ms 1) (.good 1#16) false)
          { atTheTop false with reck := { (atTheTop false).reck with saturated := true } }).fault.record.cause
        = some (.stop .motorCountOverflow)
      ∧ (after (.motorSample (ms 1) (.good 0#16) false) (atTheTop true)).reck.held = true
      ∧ (after (.motorSample (ms 1) (.good 16383#16) false) (atTheTop true)).reck.held = false := by
  and_intros <;> first | exact leadHeard_of rfl | exact steady_of rfl rfl rfl | decide +kernel

/-- READY, a capture requested at the edge of a mark that only another station needed. -/
def capturing (bad : Nat) : State :=
  { readyMark { markReset with state := .collecting, number := 7#8, captureRequested := true } with
    sensor := { sensorReset with badMotor := bad, latestScale := some 4095 } }

theorem test_witness_MotorSampleTaken_capture :
    (capturing 0).mark.captureRequested = true
      ∧ (capturing 0).reck.started = true ∧ (capturing 0).phase ≠ .config ∧ (capturing 0).phase ≠ .down
      ∧ (capturing 0).mark.serving.recovery = false ∧ (capturing 0).mark.serving.reMark = false
      ∧ LeadHeard (capturing 0)
      ∧ (after (.motorSample (ms 1) (.good 16383#16) false) (capturing 0)).mark.lastCapture
        = some { good := true, pM := 16383, count := -1, theta := some (-10), lambda := none, scaleCount := some 4095
                 scaleValid := true, atRest := true } := by
  and_intros <;> first | exact leadHeard_of rfl | exact steady_of rfl rfl rfl | decide +kernel

/-- The own report of that capture: RESTORED with the angle captured, COARSE after a jump, and without values after the
third bad sample, with the grade as fallen; a lead of LOST leaves LOST (R72, R103, R105; logs 19, 52). -/
theorem test_witness_MotorSampleTaken_report :
    let sent (x : MotorReading) (s : State) := (after (.motorSample (ms 1) x false) s).link.queue.markReport
    let report : MarkReport :=
      { number := 7#8, grade := .restored, captureGood := true, scaleValid := true, pM := 16383#16, sM := 4095#16
        thetaM := some (-10) }
    let led (bad : Nat) : State :=
      readyEntry .j3 { entryReset with presence := .alive }
        { coupledTo3 with sensor := (capturing bad).sensor, mark := (capturing bad).mark }
    sent (.good 16383#16) (capturing 0) = some (.markReport report)
      ∧ (match sent (.good 4097#16) (capturing 0) with
          | some (.markReport r) => decide (r.grade = .coarse ∧ r.pM = 4097#16)
          | _ => false) = true
      ∧ sent .bad (capturing 2)
        = some (.markReport
            { number := 7#8, grade := .coarse, captureGood := false, scaleValid := false, pM := 0#16, sM := 0#16
              thetaM := none })
      ∧ (after (.motorSample (ms 1) .bad false) (capturing 2)).fault.record.a = 3
      ∧ leadGrade (led 0) = some .lost
      ∧ (after (.motorSample (ms 1) (.good 4097#16) false) (led 0)).gradeUnit.grade = .lost
      ∧ (after (.motorSample (ms 1) .bad false) (led 2)).gradeUnit.grade = .lost := by
  dsimp only
  and_intros <;> decide +kernel

/-- A capture at the sample by which θ enters saturation: the report carries RESTORED, and the grade then falls (log 92). -/
theorem test_witness_MotorSampleTaken_saturating :
    let s : State := { capturing 0 with reck := { ready.reck with theta0 := angleMax - 9 } }
    let t := after (.motorSample (ms 1) (.good 1#16) false) s
    s.reck.saturated = false ∧ t.reck.saturated = true ∧ t.gradeUnit.grade = .coarse
      ∧ (match t.link.queue.markReport with
          | some (.markReport r) => decide (r.grade = .restored ∧ r.thetaM = some angleMax)
          | _ => false) = true := by decide +kernel

/-- The first good sample of all answers a capture too, with M equal to its value. -/
theorem test_witness_MotorSampleTaken_first_capture :
    let s := { capturing 0 with reck := reckoningReset }
    s.mark.captureRequested = true ∧ s.reck.started = false
      ∧ ((after (.motorSample (ms 1) (.good 16389#16) false) s).mark.lastCapture.map fun c => (c.pM, c.count))
        = some (5, 5) := by decide +kernel

theorem test_witness_MotorSampleTaken_third_bad :
    let s := capturing 2
    s.levels.rstLow = false ∧ s.sensor.badMotor = 2 ∧ stopsIn s.phase = true ∧ s.mark.captureRequested = true
      ∧ ((after (.motorSample (ms 1) .bad false) s).mark.lastCapture.any fun c => !c.good) = true := by decide +kernel

/-- A bad sample leaves M; the first good one after a failure sets the anchor and leaves the at-rest flag. -/
theorem test_witness_MotorSampleTaken_after_failure :
    let failed := { ready with
      sensor := { sensorReset with badMotor := 3 }
      reck := { ready.reck with atRest := false, anchor := some { count := 1000, time := 0#32 } } }
    let t := after (.motorSample (ms 500) (.good 5#16) false) failed
    LeadHeard failed ∧ failed.reck.started = true ∧ failed.reck.anchor ≠ none ∧ 3 ≤ failed.sensor.badMotor
      ∧ failed.mark.captureRequested = false
      ∧ t.reck.anchor = some { count := 5, time := 500#32 } ∧ t.reck.atRest = false
      ∧ ready.sensor.badMotor ≠ 2 ∧ (after (.motorSample (ms 500) .bad false) ready).reck.atRest = true
      ∧ (after (.motorSample (ms 500) .bad false) ready).reck.count = 0 := by
  dsimp only
  and_intros <;> first | exact leadHeard_of rfl | exact steady_of rfl rfl rfl | decide +kernel

/-- A count is 10.24 units of angle: ten units below the limit a count more reaches it, and nine below it saturates. -/
theorem test_witness_MotorSampleTaken_angle :
    let s (theta0 : Int) : State := { ready with reck := { ready.reck with theta0 := theta0 } }
    let t (theta0 : Int) (p : BitVec 16) := after (.motorSample (ms 1) (.good p) false) (s theta0)
    Steady (s 7) ∧ UnderCeiling (s 7) ∧ (s 7).reck.basis = .counts ∧ (s 7).mark.captureRequested = false
      ∧ (s 7).search.leadHold = false ∧ (s 7).reck.saturated = false ∧ (s 7).fault.record.locked = false
      ∧ (t 7 1#16).reck.basis = .counts ∧ (t 7 1#16).reck.theta = some 17 ∧ (t 7 16383#16).reck.theta = some (-3)
      ∧ (t (angleMax - 10) 1#16).reck.theta = some angleMax ∧ (t (angleMax - 10) 1#16).reck.saturated = false
      ∧ (t (angleMax - 9) 1#16).reck.theta = some angleMax ∧ (t (angleMax - 9) 1#16).reck.saturated = true
      ∧ (t (angleMax - 9) 1#16).fault.record.cause = some (.note .angleSaturated)
      ∧ (t (angleMax - 9) 1#16).fault.record.a = 1
      ∧ (t (angleMin + 10) 16383#16).reck.saturated = false ∧ (t (angleMin + 9) 16383#16).reck.saturated = true
      ∧ (t (angleMin + 9) 16383#16).fault.record.a = 2 := by
  dsimp only
  and_intros <;> first | exact fun _ _ => by decide +kernel | exact leadHeard_of rfl | exact steady_of rfl rfl rfl | decide +kernel

/-- CALIBRATE at the capture of its need, with the scale at 100 and the store free or not. -/
def calibrationCapture (badScale : Nat) (scanned : Bool) : State :=
  let s := inSearch .calibrate
  { s with
    search := { s.search with theta0 := some 1000, centre := some 594192, total := 3, lastDelta := some 4, level := 2 }
    mark :=
      { markReset with
        state := .collecting, captureRequested := true, needs := onlyCalibrate, serving := onlyCalibrate }
    sensor := { sensorReset with latestScale := some 100, badScale := badScale }
    store := { stored.store with scanDone := scanned }
    claim := { claimReset with state := .held, wanted := true, purpose := some .search } }

theorem test_witness_MotorSampleTaken_calibrate :
    let t (badScale : Nat) (scanned : Bool) :=
      after (.motorSample (ms 1) (.good 1#16) false) (calibrationCapture badScale scanned)
    let s := calibrationCapture 2 true
    let request : CalRequest :=
      { theta0 := 1000, sigma := 1010 - 409600, centre := 594192, level := 2, passes := 3, lastDelta := 4 }
    Steady s ∧ s.phase = .reference ∧ s.search.sub = .calibrate ∧ s.mark.captureRequested = true
      ∧ s.mark.serving.calibrate = true ∧ s.mark.needs.calibrate = true ∧ s.mark.serving.recovery = false
      ∧ s.mark.serving.reMark = false ∧ s.search.theta0 = some 1000 ∧ s.search.centre = some 594192
      ∧ coupled s = false ∧ s.reck.started = true ∧ scaleValid s = true ∧ s.sensor.latestScale = some 100
      ∧ s.store.inFlight = none ∧ (t 2 true).phase = .reference ∧ (t 2 true).search.sigma = some (-408590)
      ∧ (t 2 true).store.inFlight = some (.cal { seq := nextCalSeq s, body := request })
      ∧ (t 2 true).mark.needs.calibrate = false ∧ (t 2 false).store.pendingCal = some request
      ∧ scaleValid (calibrationCapture 3 true) = false ∧ (t 3 true).mark.needs.calibrate = true
      ∧ (t 3 true).store.pendingCal = none ∧ (t 3 true).store.inFlight = none ∧ (t 3 true).phase = .reference := by
  dsimp only
  and_intros <;> first | exact leadHeard_of rfl | exact steady_of rfl rfl rfl | decide +kernel

theorem test_witness_ScaleSampleTaken :
    let s := { ready with sensor := { sensorReset with badScale := 2 } }
    s.levels.rstLow = false ∧ s.sensor.badScale = 2 ∧ stopsIn s.phase = true := by decide

/-- READY with the drift check active and a number of distant samples in a row; θ is 5, so that a scale count of 16
lies 65531 from it, within τ_s, and one of 17 lies 69627. -/
def drifting (n : Nat) : State := { ready with reck := { ready.reck with drift := n } }

theorem test_witness_ScaleSampleTaken_drift :
    let s := drifting 7
    s.levels.rstLow = false ∧ s.phase = .ready ∧ gradeCode .resolved ≤ gradeCode s.gradeUnit.grade
      ∧ s.reck.basis = .counts ∧ s.reck.theta = some 5 ∧ leadAtRest s = true ∧ Steady s
      ∧ gradeCode s.gradeUnit.grade ≤ gradeCode (ceiling s) ∧ s.fault.record.locked = false
      ∧ (after (.scaleSample (ms 1) (.good 16#12)) s).reck.drift = 0
      ∧ (after (.scaleSample (ms 1) (.good 17#12)) (drifting 6)).reck.drift = 7
      ∧ (after (.scaleSample (ms 1) (.good 17#12)) s).fault.stopSet = [.scaleDrift]
      ∧ (after (.scaleSample (ms 1) .bad) { s with sensor := { sensorReset with latestScale := some 17 } }).reck.drift = 7
      ∧ (after (.scaleSample (ms 1) (.good 17#12)) { s with phase := .faulted }).reck.drift = 0 := by
  dsimp only
  and_intros <;> first | exact leadHeard_of rfl | exact steady_of rfl rfl rfl | decide +kernel

/-- Travel at the upper limit of the angle: the greatest angle, and one above it. -/
theorem test_witness_ScaleSampleTaken_angle :
    let s (sigma : Int) : State :=
      { withSetup { setupDefault with travelLow := angleMax - 1, travelHigh := angleMax } (withGrade .coarse ready) with
        reck := { ready.reck with basis := .scale, sigma := sigma, theta := none } }
    let t (sigma : Int) := after (.scaleSample (ms 1) (.good 0#12)) (s sigma)
    let failed := { s 0 with sensor := { sensorReset with badScale := 2 } }
    Steady (s 0) ∧ UnderCeiling (s 0) ∧ (s 0).reck.basis = .scale ∧ (s 0).reck.saturated = false
      ∧ (s 0).fault.record.locked = false ∧ (t (-1)).reck.basis = .scale ∧ (t (-1)).reck.theta = some angleMax
      ∧ (t (-1)).reck.saturated = false ∧ (t 0).reck.thetaScale = some (angleMax + 1)
      ∧ (t 0).reck.theta = some angleMax ∧ (t 0).reck.saturated = true
      ∧ (t 0).fault.record.cause = some (.note .angleSaturated) ∧ (t 0).fault.record.a = 1
      ∧ (after (.scaleSample (ms 1) .bad) failed).reck.theta = none
      ∧ (after (.scaleSample (ms 1) .bad) failed).reck.basis = .scale := by
  dsimp only
  and_intros <;> first | exact fun _ _ => by decide +kernel | exact leadHeard_of rfl | exact steady_of rfl rfl rfl | decide +kernel

/-- RECOVERY at its capture: no snapshot, one candidate within τ_s. -/
def deciding : State :=
  { recoverable with
    port := { recoverable.port with setup := jointSetup, tau := some 100000 }
    reck := { reckoningReset with started := true, lastGood := some 5000, calibrated := true, sigma := -3000 }
    sensor := { sensorReset with latestScale := some 1234, flagLevel := some false }
    gradeUnit := { gradeReset with sub := .marking }
    mark :=
      { markReset with
        state := .collecting, number := 7#8, captureRequested := true, needs := onlyRecovery, serving := onlyRecovery } }

theorem test_witness_RecoveryDecision :
    let s := deciding
    let su := setupOf s
    let v := (5000#16).toNat
    let d := unwrapStep (cprOf su) v (s.reck.lastGood.getD v)
    let k : Candidate := { n := 36, theta := 5075831, jointTurn := 0 }
    s.levels.rstLow = false ∧ v < cprOf su ∧ s.phase = .recovery ∧ s.search.sub = .none
      ∧ lead s = none ∧ s.reck.calibrated = true ∧ s.reck.started = true ∧ s.reck.held = false
      ∧ s.mark.captureRequested = true ∧ s.mark.serving = onlyRecovery ∧ s.mark.needs = onlyRecovery
      ∧ s.gradeUnit.readPending = false ∧ s.sensor.latestScale = some 1234 ∧ s.sensor.badScale < 3
      ∧ moving s = false
      ∧ 4 * d.natAbs ≤ cprOf su ∧ countInRange (s.reck.count + d) = true
      ∧ (tableOf su false s.reck.theta0 v
          (candidatesOf su (s.port.tau.getD 0) s.reck.theta0 0 (scaleAngle su s.reck.sigma 1234) v)
          (s.gradeUnit.chosen.bind (snapTestOf su false))).n = some k
      ∧ countInRange (k.n * (cprOf su : Int) + (v : Int)) = true ∧ angleInRange k.theta = true := by decide +kernel

/-- The same decision from what FAULTED leaves: a directive SETTLED, a still point, and a count not yet started. -/
theorem test_witness_RecoveryDecision_from_faulted :
    let s : State :=
      { deciding with
        claim :=
          { claimReset with
            dirState := .settled, still := some 3, dir := { directiveReset with number := 9, kind := some .stop } }
        reck := { deciding.reck with started := false, lastGood := none }
        sensor := { deciding.sensor with flagLevel := none } }
    let t := after (.motorSample (ms 1) (.good 21384#16) true) s
    s.levels.rstLow = false ∧ moving s = false ∧ lead s = none ∧ s.mark.serving.recovery = true
      ∧ s.mark.needs.recovery = true ∧ s.reck.started = false ∧ t.phase = .ready ∧ t.reck.count = 36 * 16384 + 5000
      ∧ t.reck.turnOffset = 36 * 16384 ∧ t.gradeUnit.grade = .resolved ∧ t.reck.theta = some 5075831
      ∧ t.link.queue.markReport
        = some (.markReport
            { number := 7#8, grade := .resolved, captureGood := true, scaleValid := true, pM := 5000#16, sM := 1234#16
              thetaM := some 5075831 }) := by decide +kernel

/-- `deciding` with a wrapping scale, with a tolerance that admits two candidates, with none, and without calibration. -/
def decidingBy (calibrated wraps : Bool) (tau : Int) : State :=
  { deciding with
    port := { deciding.port with setup := { jointSetup with scaleWraps := wraps }, tau := some tau }
    reck := { deciding.reck with calibrated := calibrated, thetaScale := some 5051464 } }

theorem test_witness_RecoveryDecision_unfixed :
    let t (s : State) := after (.motorSample (ms 1) (.good 5000#16) false) s
    let decided (s : State) := (t s).gradeUnit.lastDecision.map fun d => (d.course, d.k, d.result, d.n)
    decided (decidingBy true false 120000) = some (some .resolution, 2, .coarse, none)
      ∧ (t (decidingBy true false 120000)).reck.theta = some 5051464
      ∧ decided (decidingBy true true 120000) = some (some .resolution, 2, .lost, none)
      ∧ (t (decidingBy true true 120000)).gradeUnit.candidates.length = 2
      ∧ decided (decidingBy true false 10) = some (some .resolution, 0, .lost, none)
      ∧ (t (decidingBy true false 10)).fault.record.cause = some (.note .scaleDisagree)
      ∧ decided (decidingBy false false 120000) = some (some .noCalibration, 0, .coarse, none)
      ∧ decided (decidingBy false true 100000) = some (some .noCalibration, 1, .lost, none)
      ∧ (t (decidingBy false true 100000)).gradeUnit.candidates.length = 1 := by
  dsimp only
  and_intros <;> decide +kernel

/-- The pins at the end of a reset, at a strap. -/
def strapped (n : Nat) : Pins := { st := BitVec.ofNat 3 n, lr := true, alhHigh := false, pfail := false }

theorem test_witness_ResetsEndInConfig :
    ready.levels.rstLow = false ∧ writing.levels.rstLow = false ∧ stationOf (strapped 6).st.toNat ≠ none
      ∧ stationOf (strapped 7).st.toNat = none ∧ stationOf (strapped 0).st.toNat = none
      ∧ ready.levels.porInLow = false ∧ (locked 255 ready).fault.record.locked = true
      ∧ (locked 255 ready).fault.record.lost ≤ 255 ∧ ready.fault.record.locked = false
      ∧ (locked 255 (low ready)).levels.porInLow = false
      ∧ (after (.por (strapped 6) .erased) writing).store.cellsB = writing.store.cellsB := by decide +kernel

/-- A write to slot A is cut: the cells read the record, a torn half of it, or the erased value. -/
theorem test_witness_ResetsEndInConfig_cut :
    let half := (encodeSnap { seq := 0#16, body := snapRequest }).take 12 ++ List.replicate 11 0xFF#8
    let left (cut : CutResidue) := (after (.rstNLow cut) writing).store.cellsA
    writing.store.inFlight = some (.snap .a { seq := 0#16, body := snapRequest })
      ∧ classifySnap (fitCells snapLength half) = .torn ∧ left (.torn half) = fitCells snapLength half
      ∧ left .programmed = encodeSnap { seq := 0#16, body := snapRequest } ∧ left .erased = erasedCells snapLength := by
  decide +kernel

/-- The attention causes are clear after a reset, a locked record counts STRAP_INVALID, and a POR in the low of RST_N makes
its rise the end of a POR. -/
theorem test_witness_ResetsEndInConfig_causes :
    let noisy := { ready with port := { ready.port with
      attention := { ready.port.attention with directive := true, grade := true, mark := true, referenceDone := true } } }
    let inLow := after (.por (strapped 6) .erased) (low ready)
    let counted := after (.pinReset (strapped 0) .erased) (locked 254 ready)
    (after (.pinReset (strapped 6) .erased) noisy).port.attention = State.reset.port.attention
      ∧ inLow.levels.porInLow = true ∧ (after (.pinReset (strapped 6) .erased) inLow).straps.lastReset = .por
      ∧ counted.fault.record.lost = 255 ∧ counted.fault.record.cause = some (.note .markClash)
      ∧ (after (.reset (ms 1) [0#8, 31#8] (strapped 7) .erased) ready).fault.record.cause = some .strapInvalid := by
  decide +kernel

theorem test_witness_ScanAndSnapshotWrite :
    State.reset.levels.rstLow = false ∧ LeadHeard State.reset ∧ State.reset.phase = .config
      ∧ State.reset.search.sub = .none ∧ State.reset.store.scanDone = false ∧ State.reset.store.pendingCal = none
      ∧ State.reset.store.pendingSnap = none
      ∧ writing.store.inFlight = some (.snap .a { seq := 0#16, body := snapRequest })
      ∧ writing.levels.rstLow = false
      ∧ fitCells snapLength (erasedCells 23) ≠ encodeSnap { seq := 0#16, body := snapRequest } := by
  and_intros <;> first | exact leadHeard_of rfl | exact steady_of rfl rfl rfl | decide +kernel

theorem test_witness_ScanAndSnapshotWrite_images :
    let t (rb : ReadBack) (s : State) := after (.writeCompletion (ms 1) rb) s
    writing.phase = .ready ∧ writing.fault.record.locked = false ∧ (t .agrees writing).store.inFlight = none
      ∧ (t .agrees writing).store.imageB = .empty
      ∧ (t (.differs (erasedCells 23)) writing).fault.record.b = 0
      ∧ (t (.differs (erasedCells 23)) writing).store.imageA = .torn := by decide +kernel

/-- The write of a REFERENCE snapshot records its outcome; one of another cause leaves it (R158). -/
theorem test_witness_ScanAndSnapshotWrite_reference :
    let s (cause : SnapCause) : State :=
      { writing with
        gradeUnit := ready.gradeUnit
        reck := ready.reck
        store := { writing.store with
          inFlight := some (.snap .a { seq := 0#16, body := { snapRequest with cause := cause } }) } }
    let left (cause : SnapCause) (rb : ReadBack) := (after (.writeCompletion (ms 1) rb) (s cause)).search.refSnapshot
    Steady (s .reference) ∧ UnderCeiling (s .reference) ∧ left .reference .agrees = .verified
      ∧ left .reference (.differs (erasedCells 23)) = .failed ∧ left .rest .agrees = .none := by
  dsimp only
  and_intros <;> first
    | exact fun _ _ => by decide +kernel
    | exact leadHeard_of rfl
    | decide +kernel

theorem test_witness_ScanAndSnapshotWrite_down :
    let s := { writing with phase := .down }
    s.levels.rstLow = false ∧ s.phase = .down ∧ s.search.sub = .none ∧ LeadHeard s
      ∧ s.store.pendingCal = none ∧ s.store.pendingSnap = none ∧ s.fault.record.locked = false := by
  dsimp only
  and_intros <;> first | exact leadHeard_of rfl | exact steady_of rfl rfl rfl | decide +kernel

/-- A REST write that fails sets the block, which holds the trigger back; a verified one does not (R91, R94). -/
theorem test_witness_ScanAndSnapshotWrite_retry :
    let failed := after (.writeCompletion (ms 1) (.differs (erasedCells 23))) writing
    let calm := { writing with gradeUnit := ready.gradeUnit, reck := ready.reck }
    let held := after (.writeCompletion (ms 1) (.differs (erasedCells 23))) calm
    failed.phase = writing.phase ∧ failed.gradeUnit.grade = writing.gradeUnit.grade ∧ failed.store.restRetry = true
      ∧ (after (.writeCompletion (ms 1) .agrees) writing).store.restRetry = false
      ∧ held.store.inFlight = none ∧ held.store.pendingSnap = none ∧ held.store.restRetry = true := by decide +kernel

/-- A fall from RESTORED by the failing motor sensor asks for a GRADE_LOSS snapshot, VOID, which replaces a REFERENCE request,
and a joint at rest in READY asks for a REST snapshot (R93, R94, R158). -/
theorem test_witness_ScanAndSnapshotWrite_triggers :
    let s := { ready with
      sensor := { ready.sensor with badMotor := 2 }
      store := { ready.store with pendingSnap := some { snapRequest with cause := .reference } } }
    let c := Instr.motorSample (ms 1) .bad false
    let d := Instr.alhFall (ms 1)
    exec c s = .next (after c s) ∧ isReset c = false ∧ gradeCode .resolved ≤ gradeCode s.gradeUnit.grade
      ∧ gradeCode (after c s).gradeUnit.grade < gradeCode .resolved
      ∧ (after c s).store.pendingSnap.map (fun q => (q.cause, q.state)) = some (.gradeLoss, .void)
      ∧ (after c s).search.refSnapshot = .replaced
      ∧ exec d ready = .next (after d ready) ∧ (after d ready).phase = .ready ∧ ready.store.pendingSnap = none
      ∧ (after d ready).store.pendingSnap.map (fun q => (q.cause, q.state, q.grade, q.theta))
        = some (.rest, .sound, .restored, some 5) := by
  dsimp only
  and_intros <;> first | decide +kernel | exact next_of (by decide +kernel)

theorem test_witness_CalibrationCompletes :
    let s := calibrating
    Steady s ∧ s.store.inFlight.isSome = true ∧ s.phase = .reference
      ∧ s.search.sub = .calibrate ∧ s.search.awaitingWrite = true ∧ s.store.pendingCal = none
      ∧ (setupOf s).parkAngle = none ∧ s.sensor.badScale < 3
      ∧ angleInRange (angleOfCount (setupOf s) (-70438) 0 s.reck.count) = true
      ∧ (after (.writeCompletion (ms 1) .agrees) s).reck.saturated = false
      ∧ (after (.writeCompletion (ms 1) .agrees) s).gradeUnit.grade = .referenced := by
  dsimp only
  and_intros <;> first | exact leadHeard_of rfl | exact steady_of rfl rfl rfl | decide +kernel

/-- A calibration write that no search waits for, in READY and in DOWN, on either outcome (R91, R100, R163). -/
theorem test_witness_CalibrationCompletes_without_a_search :
    let s : State := { ready with store := { calibrating.store with scanDone := true } }
    let down : State := { s with phase := .down }
    let t (rb : ReadBack) := after (.writeCompletion (ms 1) rb) s
    let blank := erasedCells calLength
    let u := after (.writeCompletion (ms 1) .agrees) down
    LeadHeard s ∧ LeadHeard down ∧ s.levels.rstLow = false ∧ s.search.sub = .none ∧ s.store.pendingCal = none
      ∧ s.store.pendingSnap = none ∧ s.fault.record.locked = false
      ∧ (t .agrees).store.calSeq = some 0#16 ∧ (t .agrees).reck.sigma = 3 ∧ (t .agrees).search.calWrite = .verified
      ∧ (t .agrees).gradeUnit.grade = .restored ∧ (t .agrees).store.pendingSnap = none
      ∧ (t (.differs blank)).store.imageCal = .torn ∧ (t (.differs blank)).search.calWrite = .failed
      ∧ (t (.differs blank)).fault.record.cause = some (.note .storeVerify) ∧ (t (.differs blank)).fault.record.a = 3
      ∧ (t (.differs blank)).reck.theta0 = -70438
      ∧ u.store.finalWrite = true ∧ u.gradeUnit.grade = .restored := by
  dsimp only
  and_intros <;> first | exact leadHeard_of rfl | exact steady_of rfl rfl rfl | decide +kernel

/-- The search of `calibrating` with a θ0 in its calibration write and the REFERENCE snapshot of an earlier search pending. -/
def calibratingAgain (scanned : Bool) (theta0 : Int) : State :=
  { calibrating with
    store := { calibrating.store with
      scanDone := scanned
      pendingSnap := some { snapRequest with cause := .reference }
      inFlight :=
        some (.cal { seq := 0#16, body := { theta0 := theta0, sigma := 3, centre := 0, level := 0, passes := 2, lastDelta := 0 } }) } }

/-- The snapshot request in flight. -/
def snapInFlight (s : State) : Option SnapRequest :=
  match s.store.inFlight with
  | some (.snap _ q) => some q.body
  | _ => none

/-- The REFERENCE snapshot of a calibration, started or pending; and that of one whose θ0 saturates the angle (R84, R93, R158). -/
theorem test_witness_CalibrationCompletes_snapshot :
    let t (scanned : Bool) (theta0 : Int) := after (.writeCompletion (ms 1) .agrees) (calibratingAgain scanned theta0)
    Steady (calibratingAgain true 7) ∧ Steady (calibratingAgain false 7) ∧ (calibratingAgain true 7).reck.started = true
      ∧ lead (calibratingAgain true 7) = none
      ∧ gradeCode .resolved ≤ gradeCode (calibratingAgain true 7).gradeUnit.grade
      ∧ (snapInFlight (t true 7)).map (fun q => (q.cause, q.state)) = some (.reference, .sound)
      ∧ (snapInFlight (t true 7)).map (fun q => (q.theta, q.calSeq)) = some (some 7, some 0#16)
      ∧ (t true 7).store.pendingSnap = none ∧ (t true 7).search.refSnapshot = .none
      ∧ (t false 7).store.inFlight = none ∧ (t false 7).store.pendingSnap.map (fun q => q.cause) = some .reference
      ∧ (snapInFlight (t true (angleMax + 1))).map (fun q => (q.cause, q.state)) = some (.reference, .void)
      ∧ (snapInFlight (t true (angleMax + 1))).map (fun q => (q.theta, q.grade)) = some (some angleMax, .coarse)
      ∧ (t true (angleMax + 1)).search.refSnapshot = .replaced := by
  dsimp only
  and_intros <;> first | exact leadHeard_of rfl | exact steady_of rfl rfl rfl | decide +kernel

theorem test_witness_RecoveryReadAnswered :
    let s := recoverable
    s.levels.rstLow = false ∧ LeadHeard s ∧ s.phase = .recovery
      ∧ s.gradeUnit.readPending = true ∧ s.gradeUnit.held = none ∧ storeQuiet s = true
      ∧ (after (.recoveryRead (ms 1)) s).reck.theta0 = 7
      ∧ (after (.recoveryRead (ms 1)) s).gradeUnit.chosen
        = some { slot := .b, r := { seq := 65535#16, body := snapRequest } } := by
  dsimp only
  and_intros <;> first | exact leadHeard_of rfl | exact steady_of rfl rfl rfl | decide +kernel

theorem test_witness_RecoveryReadAnswered_without_calibration :
    let s := { recoverable with store := { recoverable.store with imageCal := .torn } }
    s.levels.rstLow = false ∧ LeadHeard s ∧ s.phase = .recovery
      ∧ s.gradeUnit.readPending = true ∧ s.gradeUnit.held = none ∧ storeQuiet s = true
      ∧ s.store.imageCal = .torn := by
  dsimp only
  and_intros <;> first | exact leadHeard_of rfl | exact steady_of rfl rfl rfl | decide +kernel

/-- CAL_ABSENT with the record's class, and STORE_TORN before it, slot A's first (R96, R108, log 54). -/
theorem test_witness_RecoveryReadAnswered_notes :
    let images (a b : SlotImage) (cal : CalImage) : State :=
      { recoverable with
        reck := { recoverable.reck with basis := .none }
        store := { recoverable.store with imageA := a, imageB := b, imageCal := cal } }
    let noted (s : State) :=
      let r := (after (.recoveryRead (ms 1)) s).fault.record
      (r.cause, r.a, r.b)
    (images .empty .empty .torn).reck.basis = .none
      ∧ noted (images .empty .empty .torn) = (some (.note .calAbsent), 2, 0)
      ∧ noted (images .empty .empty .empty) = (some (.note .calAbsent), 1, 0)
      ∧ noted (images .torn .torn .torn) = (some (.note .storeTorn), 1, 0)
      ∧ noted (images .empty .torn .empty) = (some (.note .storeTorn), 2, 0) := by decide +kernel

/-- The answer finds a capture held: the decision is made, unless the lead's report is awaited (R109). -/
theorem test_witness_RecoveryReadAnswered_held :
    let c : Capture :=
      { good := true, pM := 0, count := 0, theta := none, lambda := none, scaleCount := some 0, scaleValid := true
        atRest := true }
    let s : State := { recoverable with gradeUnit := { recoverable.gradeUnit with held := some c } }
    let u : State := { s with port := coupledTo3.port, peers := coupledTo3.peers }
    let blank (s : State) : State := { s with store := { s.store with imageCal := .empty } }
    let missing (s : State) : State := { s with gradeUnit := { s.gradeUnit with leadReport := .missing } }
    let t (s : State) := after (.recoveryRead (ms 1)) s
    let course (s : State) := (t s).gradeUnit.lastDecision.map fun d => (d.kind, d.course)
    coupled s = false ∧ coupled u = true ∧ u.gradeUnit.leadReport = .awaited ∧ LeadHeard u ∧ storeQuiet u = true
      ∧ (t s).phase = .ready ∧ course s = some (.recovery, some .resolution)
      ∧ course (blank s) = some (.recovery, some .noCalibration)
      ∧ course (missing u) = some (.recovery, some .noLead)
      ∧ (t u).phase = .recovery ∧ (t u).gradeUnit.sub = .leadWait ∧ (t u).gradeUnit.held = some c := by
  dsimp only
  and_intros <;> first | exact leadHeard_of rfl | decide +kernel

/-- A JOG, taken, under a held claim, in FORWARD. -/
def jogging : State :=
  let s := inSearch .forward
  { s with
    search := { s.search with stage := .underway, passStart := some 0, moveStart := some 0, level := 3, passes := 2 }
    claim :=
      { claimReset with
        state := .held, wanted := true, purpose := some .search, dirState := .taken, lastNumber := 255
        dir := { directiveReset with number := 255, kind := some .jogPos, speed := some 2, taken := true } } }

/-- `jogging` seen from a furthest point. -/
def joggingFrom (f : Int) : State :=
  { jogging with claim := { jogging.claim with furthest := some f }, reck := { ready.reck with basis := .none } }

theorem test_witness_ObedienceChecks_jog :
    let s := joggingFrom 33
    let d := unwrapStep (cprOf (setupOf s)) (16 % cprOf (setupOf s)) (s.reck.lastGood.getD (16 % cprOf (setupOf s)))
    Steady s ∧ s.mark.captureRequested = false ∧ s.reck.started = true
      ∧ stopsIn s.phase = true ∧ 4 * d.natAbs ≤ cprOf (setupOf s) ∧ 16 = s.reck.count + d ∧ countInRange 16 = true
      ∧ s.claim.dirState = .taken ∧ s.claim.dir.kind = some .jogPos ∧ s.fault.record.locked = false
      ∧ s.reck.saturated = false
      ∧ (formedAngle { s with reck := { s.reck with count := 16 } }).all angleInRange = true
      ∧ (after (.motorSample (ms 1) (.good 16#16) false) s).fault.record.cause = some (.stop .wrongDirection)
      ∧ (after (.motorSample (ms 1) (.good 16#16) false) (joggingFrom 32)).claim.furthest = some 32
      ∧ (after (.motorSample (ms 1) (.good 16#16) false) (joggingFrom 15)).claim.furthest = some 16 := by
  dsimp only
  and_intros <;> first | exact leadHeard_of rfl | exact steady_of rfl rfl rfl | decide +kernel

/-- A search with nothing current, seen from a still point. -/
def stillAt (q : Int) : State :=
  { inSearch .settle with claim := { claimReset with still := some q } }

theorem test_witness_ObedienceChecks_still :
    Steady (stillAt 33) ∧ (stillAt 33).phase = .reference ∧ moving (stillAt 33) = false
      ∧ stopCurrent (stillAt 33) = false ∧ (stillAt 33).mark.captureRequested = false
      ∧ 16 = (stillAt 33).reck.count + unwrapStep (cprOf (setupOf (stillAt 33))) 16 0
      ∧ (formedAngle { stillAt 33 with reck := { (stillAt 33).reck with count := 16 } }).all angleInRange = true
      ∧ (after (.motorSample (ms 1) (.good 16#16) false) (stillAt 33)).fault.record.cause = some (.stop .unbiddenMotion)
      ∧ (after (.motorSample (ms 1) (.good 16#16) false) (stillAt 33)).fault.record.a = 2
      ∧ (after (.motorSample (ms 1) (.good 16#16) false) (stillAt 32)).phase = .reference := by
  and_intros <;> first | exact leadHeard_of rfl | exact steady_of rfl rfl rfl | decide +kernel

/-- A MOVE_TO of a search that parks, taken, at rest at θ = 0; REST_TOL is 164 units seen at the joint. -/
def parkingTo (target : Int) : State :=
  let s := inSearch .park
  { s with
    search := { s.search with stage := .underway }
    claim :=
      { jogging.claim with
        purpose := some .park, dir := { directiveReset with number := 255, kind := some .moveTo, target := some target, taken := true } } }

theorem test_witness_ObedienceChecks_park :
    let s := parkingTo 164
    Steady s ∧ UnderCeiling s ∧ s.phase = .reference ∧ s.search.sub = .park ∧ s.search.stage = .underway
      ∧ s.claim.dirState = .taken
      ∧ s.claim.dir.kind = some .moveTo ∧ s.claim.dir.target = some 164 ∧ s.mark.captureRequested = false
      ∧ 0 = s.reck.count + unwrapStep (cprOf (setupOf s)) 0 0 ∧ restTolAngle (setupOf s) = 164
      ∧ (after (.motorSample (ms 1) (.good 0#16) false) s).reck.theta = some 0
      ∧ (after (.motorSample (ms 1) (.good 0#16) false) s).reck.atRest = true
      ∧ (after (.motorSample (ms 1) (.good 0#16) false) s).search.parkOutcome = .reached
      ∧ (after (.motorSample (ms 1) (.good 0#16) false) (parkingTo 165)).search.parkOutcome = .none := by
  dsimp only
  and_intros <;> first | exact fun _ _ => by decide +kernel | exact leadHeard_of rfl | exact steady_of rfl rfl rfl | decide +kernel

/-- A travel of 100 counts, at a limit of 100 and of 99; |5000 − 5| units are 487.8 counts. -/
theorem test_witness_ObedienceChecks_limits :
    let s (limit : Nat) : State :=
      let u := parkingTo 5000
      { u with
        claim := { u.claim with takePoint := some (-100) }, search := { u.search with parkLimit := some limit } }
    let t (limit : Nat) := after (.motorSample (ms 1) (.good 0#16) false) (s limit)
    let p := { parkingTo 5000 with claim := { (parkingTo 5000).claim with dirState := .posted } }
    let u := after (.directiveTake (ms 1) (framed 5 [])) p
    Steady (s 99) ∧ UnderCeiling (s 99) ∧ (t 99).search.parkOutcome = .overtravel ∧ (t 99).search.stage = .stopping
      ∧ (t 100).search.parkOutcome = .none ∧ (t 100).search.stage = .underway ∧ (t 99).reck.atRest = true
      ∧ restTolAngle (setupOf (s 99)) < (5000 : Int) ∧ Steady p ∧ parameters 5 (framed 5 []) = some []
      ∧ p.phase ≠ .down ∧ p.reck.theta = some 5 ∧ u.search.parkLimit = some (488 + 4194304)
      ∧ u.claim.takePoint = some 0 := by
  dsimp only
  and_intros <;> first | exact fun _ _ => by decide +kernel | exact leadHeard_of rfl | exact steady_of rfl rfl rfl | decide +kernel

theorem test_witness_ObedienceChecks_stop :
    let s (atRest : Bool) : State :=
      { readyClaim { claimReset with dirState := .taken, dir := { directiveReset with number := 1, kind := some .stop }
                                     allowance := running, allowanceStop := some 1 } with
        reck := { ready.reck with atRest := atRest } }
    let t (atRest : Bool) := after (.motorSample (ms 1) (.good 16#16) false) (s atRest)
    Steady (s true) ∧ (s true).mark.captureRequested = false ∧ (s true).reck.started = true ∧ (s true).phase ≠ .down
      ∧ (s true).search.sub = .none ∧ countInRange 16 = true
      ∧ 16 = (s true).reck.count + unwrapStep (cprOf (setupOf (s true))) 16 0
      ∧ (t true).reck.atRest = true ∧ (t true).claim.dirState = .settled ∧ (t true).claim.allowance = .stopped
      ∧ (t false).reck.atRest = false ∧ (t false).claim.dirState = .taken ∧ (t false).claim.allowance = running := by
  dsimp only
  and_intros <;> first | exact leadHeard_of rfl | exact steady_of rfl rfl rfl | decide +kernel

/-- A search whose move is ended by a posted STOP, at rest. -/
def stoppingIn (sub : SearchSub) : State :=
  { jogging with
    search := { jogging.search with sub := sub, stage := .stopping, e1 := some 3 }
    claim := { jogging.claim with dirState := .posted, dir := { directiveReset with number := 1, kind := some .stop } } }

theorem test_witness_SearchMoves :
    let s := stoppingIn .clear
    let dark := { stoppingIn .forward with levels := { ready.levels with alhHigh := false } }
    let take := Instr.directiveTake (ms 1) (framed 5 [])
    Steady s ∧ parameters 5 (framed 5 []) = some [] ∧ s.phase = .reference ∧ s.claim.state = .held
      ∧ s.claim.dirState = .posted ∧ s.claim.dir.kind = some .stop ∧ s.reck.atRest = true
      ∧ s.search.restartPending = false ∧ s.search.returning = false ∧ s.search.stage = .stopping
      ∧ s.levels.alhHigh = true ∧ (after take s).claim.dir.kind = some .jogPos ∧ (after take s).search.e1 = none
      ∧ (after take (stoppingIn .forward)).claim.dir.kind = some .jogNeg
      ∧ (after take (stoppingIn .forward)).search.e1 = some 3
      ∧ Steady dark ∧ (after take dark).search.stage = .due
      ∧ (after take (stoppingIn .reverse)).search.sub = .settle := by
  dsimp only
  and_intros <;> first | exact leadHeard_of rfl | exact steady_of rfl rfl rfl | decide +kernel

theorem test_witness_SearchMoves_park :
    let s := { stoppingIn .park with search := { (stoppingIn .park).search with parkOutcome := .overtravel } }
    let t := after (.directiveTake (ms 1) (framed 5 [])) s
    Steady s ∧ s.phase = .reference ∧ s.claim.state = .held ∧ s.claim.dirState = .posted
      ∧ s.search.stage = .stopping ∧ t.phase = .ready ∧ t.search.outcome = .completed
      ∧ t.search.parkOutcome = .overtravel ∧ t.link.queue.release = some .release := by
  dsimp only
  and_intros <;> first | exact leadHeard_of rfl | exact steady_of rfl rfl rfl | decide +kernel

/-- A search whose STOP is taken, with a restart pending or in a return move, and a pass start point. -/
def settlingIn (sub : SearchSub) (restart returning : Bool) (start : Int) : State :=
  let s := stoppingIn sub
  { s with
    claim := { s.claim with dirState := .taken }
    search := { s.search with restartPending := restart, returning := returning, passStart := some start } }

theorem test_witness_SearchMoves_settled :
    let s := settlingIn .clear false false 0
    let t (sub : SearchSub) (restart returning : Bool) (start : Int) (flag : Bool) :=
      after (.motorSample (ms 1) (.good 16#16) flag) (settlingIn sub restart returning start)
    let moved : State := after (.motorSample (ms 1) (.good 17#16) false) s
    Steady s ∧ s.phase = .reference ∧ s.mark.captureRequested = false ∧ s.reck.started = true ∧ s.claim.state = .held
      ∧ s.claim.dirState = .taken ∧ s.claim.dir.kind = some .stop ∧ s.search.stage = .stopping
      ∧ 4 * (unwrapStep (cprOf (setupOf s)) 16 0).natAbs ≤ cprOf (setupOf s) ∧ countInRange 16 = true
      ∧ s.search.e4 = none ∧ s.levels.alhHigh = true
      ∧ moved.reck.atRest = false ∧ moved.claim.dirState = .taken
      ∧ (t .clear false false 0 false).search.sub = .forward
      ∧ (t .clear false false 0 false).search.passStart = some 16
      ∧ (t .forward false false 0 false).search.sub = .reverse
      ∧ (t .reverse false false 0 false).search.sub = .settle
      ∧ (t .reverse false true 3 false).search.sub = .forward
      ∧ (t .reverse false true 3 false).search.passStart = some 3
      ∧ (t .park false false 0 false).search.outcome = .completed
      ∧ exec (.motorSample (ms 1) (.good 16#16) true) (settlingIn .reverse false true 3)
        = .next (after (.motorSample (ms 1) (.good 16#16) true) (settlingIn .reverse false true 3))
      ∧ (settlingIn .reverse false true 3).search.sub ≠ .forward := by
  dsimp only
  and_intros <;> first | exact leadHeard_of rfl | exact steady_of rfl rfl rfl | decide +kernel | exact next_of (by decide +kernel)

/-- M is 16: past a pass start point of 15 and not of 16; with ALH low the restart waits. -/
theorem test_witness_SearchMoves_settled_restarts :
    let t (sub : SearchSub) (start : Int) (flag : Bool) :=
      after (.motorSample (ms 1) (.good 16#16) flag) (settlingIn sub true false start)
    let dark : State := { settlingIn .forward true false 0 with levels := { ready.levels with alhHigh := false } }
    (t .clear 0 true).search.sub = .clear ∧ (t .clear 0 false).search.sub = .forward
      ∧ (t .reverse 15 false).search.returning = true ∧ (t .reverse 15 false).search.sub = .reverse
      ∧ (t .reverse 16 false).search.returning = false ∧ (t .reverse 16 false).search.sub = .forward
      ∧ (t .forward 16 false).search.restartPending = false ∧ Steady dark
      ∧ (after (.motorSample (ms 1) (.good 16#16) false) dark).search.restartPending = true
      ∧ (after (.motorSample (ms 1) (.good 16#16) false) dark).claim.dirState = .settled := by
  dsimp only
  and_intros <;> first | exact leadHeard_of rfl | exact steady_of rfl rfl rfl | decide +kernel

/-- A return move with M at 16: at its end, one count short of it, and at a travel of SEARCH_SPAN and one more. -/
theorem test_witness_SearchMoves_return :
    let s (q r : Int) : State :=
      { jogging with
        claim := { jogging.claim with dir := { jogging.claim.dir with kind := some .jogNeg } }
        search := { jogging.search with sub := .reverse, returning := true, passStart := some q, moveStart := some r } }
    let t (q r : Int) := after (.motorSample (ms 1) (.good 16#16) true) (s q r)
    Steady (s 16 0) ∧ (s 16 0).phase = .reference ∧ (s 16 0).search.stage = .underway
      ∧ (s 16 0).search.returning = true ∧ moving (s 16 0) = true ∧ (s 16 0).search.sub = .reverse
      ∧ (s 16 0).search.passStart = some 16 ∧ (s 16 0).fault.record.locked = false
      ∧ (formedAngle { s 16 0 with reck := { (s 16 0).reck with count := 16 } }).all angleInRange = true
      ∧ (t 16 0).search.stage = .stopping ∧ (t 16 0).search.e3 = none ∧ (t 15 0).search.stage = .underway
      ∧ (t 15 (16 + 4194304)).search.stage = .underway
      ∧ (t 15 (17 + 4194304)).search.outcome = .failed .flagNotFound
      ∧ (t 15 (17 + 4194304)).fault.record.a = 2 ∧ (t 15 (17 + 4194304)).phase = .ready := by
  dsimp only
  and_intros <;> first | exact leadHeard_of rfl | exact steady_of rfl rfl rfl | decide +kernel

/-- FORWARD with the flag at a level and edges taken. -/
def sweeping (flag : Bool) (e1 e2 : Option Int) (start : Int) : State :=
  { jogging with
    sensor := { sensorReset with flagLevel := some flag }
    search := { jogging.search with e1 := e1, e2 := e2, moveStart := some start } }

theorem test_witness_SearchMoves_sampled :
    let s := sweeping false none none 0
    let d := unwrapStep (cprOf (setupOf s)) (2048#16).toNat (s.reck.lastGood.getD (2048#16).toNat)
    let sample (s : State) (flag : Bool) := after (.motorSample (ms 1) (.good 2048#16) flag) s
    Steady s ∧ s.phase = .reference ∧ (2048#16).toNat < cprOf (setupOf s) ∧ s.mark.captureRequested = false
      ∧ s.reck.started = true ∧ s.search.stage = .underway ∧ s.search.returning = false ∧ moving s = true
      ∧ s.search.sub = .forward ∧ 4 * d.natAbs ≤ cprOf (setupOf s) ∧ countInRange (s.reck.count + d) = true
      ∧ (sample s true).search.e1 = some 2048 ∧ (sample (sweeping true (some 7) none 0) false).search.e2 = some 2048
      ∧ (sample (sweeping false (some 7) (some 0) 0) false).search.stage = .stopping
      ∧ (sample (sweeping false (some 7) (some 1) 0) false).search.stage = .underway
      ∧ (sample (sweeping false none none (-4192256)) false).search.stage = .underway
      ∧ (sample (sweeping false none none (-4192257)) false).search.outcome = .failed .flagNotFound := by
  dsimp only
  and_intros <;> first | exact leadHeard_of rfl | exact steady_of rfl rfl rfl | decide +kernel

theorem test_witness_PowerFailure :
    let holding := readyMark { markReset with state := .awaitEdge, number := 7#8 }
    let collecting := readyMark { markReset with state := .collecting, number := 7#8 }
    jogging.levels.rstLow = false ∧ jogging.phase ≠ .config ∧ jogging.phase ≠ .down ∧ moving jogging = true
      ∧ (after (.pfailAsserted (ms 1)) jogging).claim.dir.number = 1
      ∧ State.reset.levels.rstLow = false ∧ State.reset.search.sub = .none ∧ State.reset.phase = .config
      ∧ holding.mark.state ≠ .idle ∧ collecting.mark.state ≠ .idle
      ∧ (after (.pfailAsserted (ms 1)) holding).mark.outcome = .abandoned
      ∧ (after (.pfailAsserted (ms 1)) holding).port.attention.mark = false
      ∧ (after (.pfailAsserted (ms 1)) collecting).port.attention.mark = true := by decide +kernel

theorem test_witness_LinkEvents_idle :
    let s := readyLink { linkReset with queue := (PerKind.all none).set .status (some (.status statusFrame)) }
    s.levels.rstLow = false ∧ (∀ a, s.link.line ≠ .sending a) ∧ own s = some .j2
      ∧ s.link.queue.get .status = some (.status statusFrame)
      ∧ (∀ j, frameClass j < frameClass .status → s.link.queue.get j = none) ∧ ready.link.queue = PerKind.all none := by
  refine ⟨rfl, fun _ h => ?_, rfl, rfl, fun j => ?_, rfl⟩
  · change LineState.waitingForIdle = _ at h
    cases h
  · cases j <;> decide

/-- MARK_CALL has class 2 and station 2 the arbitration character 4Bh: bit 1 is dominant and bit 2 recessive, bit 9 the
recessive stop bit of that character; bit 19 is the recessive stop bit of the next. -/
theorem test_witness_LinkEvents_attempt :
    let a : Attempt := { frame := .markCall 3#8, chars := encodeFrame .j2 (.markCall 3#8), replaced := false }
    let s := readyLink { sending (.markCall 3#8) with bitErrors := (PerKind.all 0).set .markCall 2 }
    Steady s ∧ s.link.line = .sending a ∧ (lineBits a.chars)[2]? = some .recessive
      ∧ (lineBits a.chars)[9]? = some .recessive ∧ (lineBits a.chars)[1]? = some .dominant
      ∧ (lineBits a.chars)[10]? = some .dominant ∧ (lineBits a.chars)[19]? = some .recessive
      ∧ 3 ≤ s.link.bitErrors.get .markCall + 1 ∧ ready.link.bitErrors.get .markCall + 1 < 3 ∧ stopsIn s.phase = true
      ∧ statusDue s (after (.arbitrationLost ⟨ms 1, 9⟩) s) = false
      ∧ (after (.arbitrationLost ⟨ms 1, 9⟩) s).link.line = .receiving
      ∧ (after (.arbitrationLost ⟨ms 1, 10⟩) s).link.line = s.link.line := by
  dsimp only
  and_intros <;> first | exact leadHeard_of rfl | exact steady_of rfl rfl rfl | decide +kernel

/-- A discard during an attempt leaves the frame in its slot (log 17), and so does a bit error below the third, which empties
it (R33, R34). -/
theorem test_witness_LinkEvents_slots :
    let s (errors : Nat) : State :=
      readyLink { sending (.markCall 3#8) with
        queue := (PerKind.all none).set .markCall (some (.markCall 3#8)), bitErrors := (PerKind.all 0).set .markCall errors }
    let kept (c : Instr) (e : Nat) := (after c (s e)).link.queue.markCall
    Steady (s 1) ∧ (s 1).link.queue.get .markCall = some (.markCall 3#8)
      ∧ kept (.frameDiscard (ms 1) .framingFailure) 0 = some (.markCall 3#8)
      ∧ (after (.frameDiscard (ms 1) .framingFailure) (s 0)).link.line = .waitingForIdle
      ∧ kept (.bitError ⟨ms 1, 10⟩) 1 = some (.markCall 3#8) ∧ kept (.bitError ⟨ms 1, 10⟩) 2 = none
      ∧ (after (.bitError ⟨ms 1, 10⟩) (s 2)).link.queue.halt = some (.halt .linkTxFail) := by
  dsimp only
  and_intros <;> first | exact leadHeard_of rfl | exact steady_of rfl rfl rfl | decide +kernel

theorem test_witness_LinkEvents_discard :
    discardOk .lengthAbove12 = true ∧ discardOk (.chars [1#8]) = true
      ∧ (after (.frameDiscard (ms 1) (.chars [1#8])) (readyLink { linkReset with line := .abandoned })).link.rxErrors = 0
      ∧ (after (.frameDiscard (ms 1) (.chars [1#8])) (readyLink linkReset)).link.rxErrors = 0
      ∧ (after (.frameDiscard (ms 1) (.chars [1#8])) (readyLink { linkReset with line := .idle, rxErrors := 255 })).link.rxErrors
        = 255
      ∧ (after (.frameDiscard (ms 1) .framingFailure)
          (readyLink { linkReset with line := .receiving, rxErrors := 16 })).fault.record.cause
        = some (.note .linkRxErrors) := by decide +kernel

/-- The search of `calibrating` at the coupled station, λ held. -/
def calibratingCoupled : State :=
  { calibrating with
    port := coupledTo3.port, peers := coupledTo3.peers
    search := { calibrating.search with leadHold := true, heldLambda := some 0 } }

/-- The search of `calibrating` with a park angle, 7. -/
def calibratingToPark (alh : Bool) : State :=
  { withSetup { setupDefault with parkAngle := some 7 } calibrating with
    levels := { calibrating.levels with alhHigh := alh } }

theorem test_witness_CalibrationCompletes_park :
    let t (alh : Bool) := after (.writeCompletion (ms 1) .agrees) (calibratingToPark alh)
    Steady (calibratingToPark true) ∧ Steady (calibratingToPark false)
      ∧ (setupOf (calibratingToPark true)).parkAngle = some 7 ∧ (calibratingToPark true).claim.state = .held
      ∧ (t true).search.sub = .park ∧ (t true).claim.dir.target = some 7 ∧ (t true).claim.dir.kind = some .moveTo
      ∧ (t true).link.queue.claim = some (.claim .park) ∧ (t false).search.stage = .due
      ∧ moving (t false) = false := by
  dsimp only
  and_intros <;> first | exact leadHeard_of rfl | exact steady_of rfl rfl rfl | decide +kernel

theorem test_witness_CalibrationCompletes_coupled :
    let s := calibratingCoupled
    s.levels.rstLow = false ∧ leadSettled s = true ∧ leadGrade s = some .resolved ∧ (setupOf s).parkAngle = none
      ∧ s.search.sub = .calibrate ∧ s.search.awaitingWrite = true
      ∧ (after (.writeCompletion (ms 1) .agrees) s).gradeUnit.grade = .resolved
      ∧ (after (.writeCompletion (ms 1) .agrees) s).search.leadHold = false := by decide +kernel

theorem test_witness_ArrivalReachesTheEntry :
    let c := Instr.statusArrival (ms 1) .j3 statusFrame
    arrivalOf c = some (ms 1, .j3, .status statusFrame) ∧ coupledTo3.levels.rstLow = false
      ∧ own coupledTo3 ≠ some .j3 ∧ frameContentOk (.status statusFrame) = true ∧ statusFrame.theta = some 5
      ∧ lead coupledTo3 = some .j3 ∧ coupledTo3.search.leadHold = false ∧ (after c coupledTo3).reck.lambda = 5 := by
  decide +kernel

theorem test_witness_ArrivalReachesTheEntry_powerDown :
    let f : PowerDownFrame := { grade := .coarse, theta := some angleMin }
    let c := Instr.powerDownArrival (ms 1) .j3 f
    arrivalOf c = some (ms 1, .j3, .powerDown f) ∧ frameContentOk (.powerDown f) = true
      ∧ (after c coupledTo3).reck.lambda = angleMin := by decide +kernel

/-- The arrivals of the other kinds, with what the entry then holds. -/
theorem test_witness_ArrivalReachesTheEntry_kinds :
    let hello := Instr.helloArrival (ms 1) .j3 { digest := 7#16, interval := 50#8 }
    let halt := Instr.haltArrival (ms 1) .j3 .motorJump
    let claim := Instr.claimArrival (ms 1) .j3 .park
    let release := Instr.releaseArrival (ms 1) .j3
    arrivalOf hello = some (ms 1, .j3, .hello { digest := 7#16, interval := 50#8 })
      ∧ frameContentOk (.hello { digest := 7#16, interval := 50#8 }) = true
      ∧ coupledTo3.link.line ≠ .waitingForIdle ∧ own coupledTo3 ≠ some .j3
      ∧ (after hello coupledTo3).link.queue.status = some (.status (statusContent (after hello coupledTo3)))
      ∧ arrivalOf halt = some (ms 1, .j3, .halt .motorJump) ∧ (entry (after halt ready) .j3).haltCause = some .motorJump
      ∧ arrivalOf claim = some (ms 1, .j3, .claim .park) ∧ (entry (after claim ready) .j3).purpose = some .park
      ∧ arrivalOf release = some (ms 1, .j3, .release)
      ∧ (entry (after release (readyEntry .j3 { entryReset with presence := .alive, claim := true } ready)) .j3).claim
        = false := by decide +kernel

/-- A report of mark 7. -/
def lateReport : MarkReport :=
  { number := 7#8, grade := .lost, captureGood := true, scaleValid := true, pM := 0#16, sM := 4095#16, thetaM := none }

/-- A HELLO from station 3, shown in REFERENCE with a claim, a report and a mismatch mark, is a restart (R48, R55); a STATUS of
a peer heard before is none and changes no presence. -/
theorem test_witness_ArrivalReachesTheEntry_restart :
    let e : PeerEntry :=
      { entryReset with
        presence := .alive, phase := .reference, claim := true, purpose := some .search, report := some lateReport
        mismatchReported := true }
    let s := { readyEntry .j3 e (readyMark { markReset with reported := 63#6 }) with link := ready.link }
    let t := after (.helloArrival (ms 1) .j3 { digest := 7#16, interval := 50#8 }) s
    let u := after (.releaseArrival (ms 1) .j3) s
    (entry t .j3).claim = false ∧ (entry t .j3).purpose = none ∧ (entry t .j3).report = none
      ∧ (entry t .j3).mismatchReported = false ∧ maskHas t.mark.reported .j3 = false ∧ t.port.changedPeers = 4#6
      ∧ (entry u .j3).report = some lateReport ∧ u.port.changedPeers = 0#6
      ∧ (after (.powerDownArrival (ms 1) .j3 { grade := .coarse, theta := none }) s).port.changedPeers = 4#6 := by
  decide +kernel

/-- A CLAIM from a station last shown in CONFIG, and a STATUS in READY with its claim flag set (R49). -/
theorem test_witness_ArrivalReachesTheEntry_inconsistent :
    let s := readyEntry .j3 { entryReset with presence := .alive } ready
    let noted (c : Instr) := (after c s).fault.record
    s.fault.record.locked = false ∧ (entry s .j3).phase = .config ∧ s.peers.digest = none
      ∧ (noted (.claimArrival (ms 1) .j3 .park)).cause = some (.note .peerInconsistent)
      ∧ (noted (.claimArrival (ms 1) .j3 .park)).a = 4
      ∧ (noted (.statusArrival (ms 1) .j3 { statusFrame with claim := true })).a = 6
      ∧ (noted (.statusArrival (ms 1) .j3 { statusFrame with claim := true })).station = some .j3 := by decide +kernel

/-- PLAN_MISMATCH at a STATUS and at a HELLO, once, and again after a restart (R48, R59). -/
theorem test_witness_ArrivalReachesTheEntry_mismatch :
    let s (reported : Bool) : State :=
      readyEntry .j3 { entryReset with presence := .alive, phase := .ready, mismatchReported := reported }
        { ready with peers := { ready.peers with digest := some 9#16 } }
    let noted (c : Instr) (b : Bool) :=
      let r := (after c (s b)).fault.record
      (r.cause, r.station, r.a, r.b)
    let mismatch := (some (FaultCause.note .planMismatch), some Station.j3, (7 : Int), (9 : Int))
    let hello := Instr.helloArrival (ms 1) .j3 { digest := 7#16, interval := 10#8 }
    (s false).fault.record.locked = false ∧ (s false).link.line ≠ .waitingForIdle ∧ own (s false) ≠ some .j3
      ∧ noted (.statusArrival (ms 1) .j3 statusFrame) false = mismatch
      ∧ noted (.statusArrival (ms 1) .j3 statusFrame) true = (none, none, 0, 0)
      ∧ noted hello true = mismatch
      ∧ noted (.statusArrival (ms 1) .j3 { statusFrame with digest := 9#16 }) false = (none, none, 0, 0) := by
  dsimp only
  and_intros <;> decide +kernel

/-- MUSTER at station 2, with its peers ALIVE, of the same digest and heard in MUSTER, but for station 3. -/
def mustering (heard3 : Bool) : State :=
  let e : PeerEntry := { entryReset with presence := .alive, digest := some 7#16, digestMatch := true, heard := true, heardInMuster := true }
  { ready with
    phase := .muster
    link := { ready.link with heartbeat := running }
    peers :=
      { entries := (PerStation.all e).set .j3 { e with heardInMuster := heard3 }
        musterTimer := running, digest := some 7#16 } }

theorem test_witness_ArrivalReachesTheEntry_muster :
    let s := mustering false
    let t := after (.statusArrival (ms 1) .j3 statusFrame) s
    let u := after (.statusArrival (ms 1) .j4 statusFrame) s
    s.phase = .muster ∧ s.gradeUnit.sub = .idle ∧ s.search.sub = .none ∧ own s ≠ some .j3
      ∧ s.link.line ≠ .waitingForIdle ∧ musterMissing t = 0#6 ∧ t.phase = .recovery ∧ musterMissing u ≠ 0#6
      ∧ u.phase = .muster := by decide +kernel

theorem test_witness_ArrivalReachesTheEntry_echo :
    let s := readyLink (sending (.claim .search))
    let d := readyLink { linkReset with line := .receiving }
    own s = some .j2 ∧ s.link.line = .sending { frame := .claim .search, chars := encodeFrame .j2 (.claim .search), replaced := false }
      ∧ (entry (after (.claimArrival (ms 1) .j2 .search) s) .j2).purpose = some .search
      ∧ d.link.line ≠ .waitingForIdle ∧ (∀ a, d.link.line = .sending a → a.frame ≠ .claim .search)
      ∧ stopsIn d.phase = true ∧ d.fault.record.locked = false
      ∧ (after (.claimArrival (ms 1) .j2 .search) d).fault.record.cause = some (.stop .duplicateStation)
      ∧ (readyLink linkReset).link.line = .waitingForIdle
      ∧ (entry (after (.statusArrival (ms 1) .j3 statusFrame) (readyLink linkReset)) .j3).presence = .absent := by
  dsimp only
  and_intros <;> first | decide +kernel | (intro a h; change LineState.receiving = _ at h; cases h)

/-- The slot after a completed attempt, with a newer frame in it and without one (R33, R34). -/
theorem test_witness_ArrivalReachesTheEntry_slots :
    let a (replaced : Bool) : Attempt :=
      { frame := .claim .search, chars := encodeFrame .j2 (.claim .search), replaced := replaced }
    let s (replaced : Bool) : State :=
      readyLink
        { linkReset with
          line := .sending (a replaced), txFail := true, bitErrors := PerKind.all 16
          queue := (PerKind.all none).set .claim (some (.claim .park)) }
    let t (replaced : Bool) := after (.claimArrival (ms 1) .j2 .search) (s replaced)
    let status := after (.statusArrival (ms 1) .j2 statusFrame) (readyLink (sending (.status statusFrame)))
    let call := after (.markCallArrival (ms 1) .j2 1#8) (readyLink (sending (.markCall 1#8)))
    Steady (s true) ∧ lead (s true) ≠ some .j2 ∧ own (s true) = some .j2 ∧ (s true).link.line = .sending (a true)
      ∧ (t true).link.queue.claim = some (.claim .park) ∧ (t false).link.queue.claim = none
      ∧ (t true).link.txFail = false ∧ (t true).link.bitErrors.claim = 0
      ∧ status.link.queue.status = none ∧ call.link.queue.markCall = none ∧ call.mark.state = .holding := by
  dsimp only
  and_intros <;> first | exact leadHeard_of rfl | exact steady_of rfl rfl rfl | decide +kernel

theorem test_witness_MarkFramesTaken :
    let held := readyMark { markReset with state := .holding, number := 7#8 }
    ready.levels.rstLow = false ∧ LeadHeard ready ∧ own ready ≠ some .j5 ∧ ready.link.line ≠ .waitingForIdle
      ∧ takesCalls ready.phase = true ∧ ready.mark.state = .idle ∧ takesCalls State.reset.phase = false
      ∧ held.mark.state ≠ .idle ∧ (255#8 : Byte) ≠ held.mark.number ∧ held.fault.record.locked = false
      ∧ (readyLink (sending (.markCall 9#8))).link.line
        = .sending { frame := .markCall 9#8, chars := encodeFrame .j2 (.markCall 9#8), replaced := false }
      ∧ (after (.markCallArrival (ms 1) .j2 9#8) (readyLink (sending (.markCall 9#8)))).mark.state = .holding
      ∧ (after (.markCallArrival (ms 1) .j5 9#8) ready).mark.quiet = .running 1#32 10
      ∧ (after (.markCallArrival (ms 1) .j5 7#8) held).mark.quiet = .stopped
      ∧ (after (.markCallArrival (ms 1) .j5 255#8) held).mark.quiet = .running 1#32 10
      ∧ (after (.markCallArrival (ms 1) .j5 255#8) held).fault.record.cause = some (.note .markClash) := by
  dsimp only
  and_intros <;> first | exact leadHeard_of rfl | exact steady_of rfl rfl rfl | decide +kernel

/-- A call that R69 ignores starts the quiet timer while the line is high, and not while it is low; it leaves the collection
timer. -/
theorem test_witness_MarkFramesTaken_ignored :
    let quiet (p : Phase) (s : State) : State :=
      { s with phase := p, mark := { markReset with quiet := running, state := .collecting, collection := running } }
    let dark (s : State) : State := { s with levels := { s.levels with alhHigh := false } }
    let t (s : State) := after (.markCallArrival (ms 1) .j5 9#8) s
    takesCalls (quiet .faulted ready).phase = false
      ∧ (t (quiet .faulted ready)).mark.quiet = .running 1#32 10
      ∧ (t (dark (quiet .faulted ready))).mark.quiet = running
      ∧ (t (quiet .muster (mustering true))).mark.quiet = .running 1#32 10
      ∧ takesCalls (quiet .ready ready).phase = true ∧ (quiet .ready ready).mark.state ≠ .idle
      ∧ (t (quiet .ready ready)).mark.state = .collecting ∧ (t (quiet .ready ready)).mark.collection = running := by
  decide +kernel

/-- Station 2's report of mark 7, its mark ended PARTIAL without it. -/
theorem test_witness_MarkFramesTaken_report :
    let s := { readyMark { markReset with number := 7#8, outcome := .partialMark, outcomeNumber := 7#8, missing := 6#6 } with
      link := sending (.markReport lateReport) }
    s.levels.rstLow = false ∧ own s = some .j2 ∧ frameContentOk (.markReport lateReport) = true
      ∧ s.link.line = .sending { frame := .markReport lateReport, chars := encodeFrame .j2 (.markReport lateReport), replaced := false }
      ∧ s.mark.outcome = .partialMark ∧ s.mark.outcomeNumber = lateReport.number
      ∧ (after (.markReportArrival (ms 1) .j2 lateReport) s).mark.missing = 4#6
      ∧ maskHas (after (.markReportArrival (ms 1) .j5 lateReport)
          (readyMark { markReset with number := 7#8, state := .collecting })).mark.reported .j5 = true
      ∧ lateReport.number ≠ ready.mark.number := by decide +kernel

/-- The report of the last ALIVE station completes the mark, and that of another does not (R75). -/
theorem test_witness_MarkFramesTaken_complete :
    let s (others : StationMask) : State :=
      readyEntry .j3 { entryReset with presence := .alive }
        (readyMark { markReset with state := .collecting, number := 7#8, reported := others, collection := running })
    let t (others : StationMask) := after (.markReportArrival (ms 1) .j5 lateReport) (s others)
    lateReport.number = (s 4#6).mark.number ∧ (entry (s 4#6) .j5).presence ≠ .alive
      ∧ (∀ j ∈ Station.all, j ≠ .j5 → (entry (s 4#6) j).presence = .alive → maskHas (s 4#6).mark.reported j = true)
      ∧ (t 4#6).mark.outcome = .complete ∧ (t 4#6).mark.state = .idle ∧ (t 4#6).port.attention.mark = true
      ∧ (t 0#6).mark.state = .collecting ∧ (t 0#6).mark.collection = running := by
  dsimp only
  and_intros <;> decide +kernel

/-- Station 2 in CLAIMING, its conflict set station 3, its own CLAIM on the line. -/
def claimingSearch (claimOf3 : Bool) (st : ClaimState) (f : Frame) : State :=
  readyEntry .j3 { entryReset with presence := .alive, claim := claimOf3, atRest := true }
    { inSearch .claiming with
      port := { ready.port with
        setup := { setupDefault with plan := { setupDefault.plan with conflict := (PerStation.all 0#6).set .j2 4#6 } } }
      claim := { claimReset with state := st, wanted := true, purpose := some .search }
      link := sending f }

theorem test_witness_ClaimsDecided_echo :
    let s := claimingSearch false .queued (.claim .search)
    let b := claimingSearch true .queued (.claim .search)
    Steady s ∧ own s = some .j2 ∧ s.claim.state = .queued ∧ leadSettled s = true
      ∧ s.link.line = .sending { frame := .claim .search, chars := encodeFrame .j2 (.claim .search), replaced := false }
      ∧ maskHas (conflictSet s) .j2 = false ∧ blockingClaims s = 0#6
      ∧ Steady b ∧ blockingClaims b ≠ 0#6 ∧ b.phase = .reference
      ∧ claimFlag (after (.claimArrival (ms 1) .j2 .search) s) = true := by
  dsimp only
  and_intros <;> first | exact leadHeard_of rfl | exact steady_of rfl rfl rfl | decide +kernel

/-- The grant by the flag and the line: CLEAR, or FORWARD as a new pass, its JOG posted or due. -/
theorem test_witness_ClaimsDecided_grant :
    let s := claimingSearch false .queued (.claim .search)
    let lit := { s with sensor := { sensorReset with flagLevel := some true } }
    let dark := { s with levels := { s.levels with alhHigh := false } }
    let grant := after (.claimArrival (ms 1) .j2 .search)
    s.search.sub = .claiming ∧ s.phase = .reference ∧ s.search.plus = true
      ∧ (grant s).search.sub = .forward ∧ (grant s).claim.dir.kind = some .jogPos
      ∧ (grant s).claim.dir.speed = some 1 ∧ (grant s).search.passStart = some 0
      ∧ (grant lit).search.sub = .clear ∧ (grant lit).claim.dir.kind = some .jogNeg
      ∧ Steady dark ∧ (grant dark).search.stage = .due ∧ moving (grant dark) = false
      ∧ (grant dark).claim.state = .held := by
  dsimp only
  and_intros <;> first | exact leadHeard_of rfl | exact steady_of rfl rfl rfl | decide +kernel

theorem test_witness_ClaimsDecided_lead_hold :
    let s := { claimingSearch false .queued (.claim .search) with port := coupledTo3.port, peers := coupledTo3.peers }
    Steady s ∧ leadSettled s = true ∧ coupled s = true ∧ s.search.sub = .claiming ∧ blockingClaims s = 0#6
      ∧ maskHas (conflictSet s) .j2 = false
      ∧ (after (.claimArrival (ms 1) .j2 .search) s).search.leadHold = true := by
  dsimp only
  and_intros <;> first | exact leadHeard_of rfl | exact steady_of rfl rfl rfl | decide +kernel

/-- The same station between two idles of the line. -/
def claimingOpen (claimOf3 : Bool) (st : ClaimState) : State :=
  { claimingSearch claimOf3 st .release with link := ready.link }

theorem test_witness_ClaimsDecided_conflict :
    let s := claimingOpen false .queued
    Steady s ∧ own s ≠ some .j3 ∧ s.link.line ≠ .waitingForIdle ∧ maskHas (conflictSet s) .j3 = true
      ∧ s.claim.state = .queued ∧ Steady (claimingOpen false .held) ∧ (claimingOpen false .held).claim.state = .held
      ∧ DownWithoutReport s ∧ DownWithoutReport (claimingOpen false .held) := by
  dsimp only
  and_intros <;> first | exact downWithoutReport_of rfl | exact leadHeard_of rfl | exact steady_of rfl rfl rfl | decide +kernel

theorem test_witness_ClaimsDecided_waiting :
    let s := claimingOpen true .waiting
    Steady s ∧ own s ≠ some .j3 ∧ own s ≠ some .j4 ∧ s.link.line ≠ .waitingForIdle ∧ s.phase = .reference
      ∧ s.claim.state = .waiting ∧ DownWithoutReport s
      ∧ exec (.releaseArrival (ms 1) .j3) s = .next (after (.releaseArrival (ms 1) .j3) s)
      ∧ (after (.releaseArrival (ms 1) .j3) s).link.queue.claim = some (.claim .search)
      ∧ blockingClaims (after (.releaseArrival (ms 1) .j4) s) ≠ 0#6
      ∧ (after (.releaseArrival (ms 1) .j4) s).claim.state = .waiting := by
  dsimp only
  and_intros <;> first | exact downWithoutReport_of rfl | exact next_of (by decide +kernel) | exact leadHeard_of rfl | exact steady_of rfl rfl rfl | decide +kernel

/-- Of two holders, station 3 is conflicting with station 2, which keeps its claim, and with station 5, which yields. -/
theorem test_witness_ClaimsDecided_yield :
    let x : StatusFrame := { statusFrame with phase := .reference, claim := true }
    let s := { claimingOpen false .held with peers := { (claimingOpen false .held).peers with digest := some 7#16 } }
    let y := { s with
      straps := { s.straps with st := 5#3 }
      port := { s.port with
        setup := { setupDefault with plan := { setupDefault.plan with conflict := (PerStation.all 0#6).set .j5 4#6 } } } }
    Steady s ∧ own s = some .j2 ∧ own y = some .j5 ∧ s.link.line ≠ .waitingForIdle
      ∧ frameContentOk (.status x) = true ∧ lead s ≠ some .j3 ∧ s.phase = .reference ∧ s.claim.state = .held
      ∧ maskHas (conflictSet s) .j3 = true ∧ maskHas (conflictSet y) .j3 = true ∧ Steady y
      ∧ s.fault.record.locked = false ∧ some x.digest = s.peers.digest ∧ y.search.sub ≠ .none ∧ s.search.sub ≠ .waitPrereq
      ∧ (after (.statusArrival (ms 1) .j3 x) s).claim.state = .held
      ∧ (after (.statusArrival (ms 1) .j3 x) s).fault.record.cause = some (.note .claimConflict)
      ∧ (after (.statusArrival (ms 1) .j3 x) y).search.outcome = .aborted .claimConflict := by
  dsimp only
  and_intros <;> first | exact leadHeard_of rfl | exact steady_of rfl rfl rfl | decide +kernel

theorem test_witness_ClaimsDecided_release :
    let s := { readyClaim { claimReset with state := .releasing } with link := sending .release }
    let w := claimingSearch false .releasing .release
    Steady s ∧ own s = some .j2
      ∧ s.link.line = .sending { frame := .release, chars := encodeFrame .j2 .release, replaced := false }
      ∧ s.claim.state = .releasing ∧ s.claim.wanted = false ∧ s.search.sub = .none
      ∧ Steady w ∧ w.claim.wanted = true ∧ w.phase = .reference
      ∧ (after (.releaseArrival (ms 1) .j2) w).claim.state = .queued
      ∧ (after (.releaseArrival (ms 1) .j2) (claimingSearch true .releasing .release)).claim.state = .waiting := by
  dsimp only
  and_intros <;> first | exact leadHeard_of rfl | exact steady_of rfl rfl rfl | decide +kernel

theorem test_witness_HoldLineMoves :
    let last := { jogging with search := { jogging.search with interruptions := 4 } }
    Steady jogging ∧ jogging.levels.alhHigh = true ∧ moving jogging = true ∧ jogging.search.sub = .forward
      ∧ jogging.search.interruptions < 4 ∧ Steady last ∧ 4 ≤ last.search.interruptions ∧ moving last = true
      ∧ (after (.alhFall (ms 1)) last).search.outcome = .failed .interrupted :=
  ⟨steady_of rfl rfl rfl, rfl, rfl, rfl, by decide, steady_of rfl rfl rfl, by decide, rfl, by decide +kernel⟩

theorem test_witness_HoldLineMoves_park :
    let s := parkingTo 500
    let t := after (.alhFall (ms 1)) s
    Steady s ∧ s.levels.alhHigh = true ∧ moving s = true ∧ s.search.sub = .park
      ∧ t.search.parkOutcome = .interrupted ∧ stopCurrent t = true ∧ t.search.stage = .stopping := by
  dsimp only
  and_intros <;> first | exact leadHeard_of rfl | exact steady_of rfl rfl rfl | decide +kernel

/-- An edge at which every ALIVE station has reported completes the mark at once; with one awaited it collects (R71, R75). -/
theorem test_witness_HoldLineMoves_edge :
    let s (p : Presence) : State :=
      readyEntry .j3 { entryReset with presence := p }
        { readyMark { markReset with state := .awaitEdge } with levels := { ready.levels with alhHigh := false } }
    let t (p : Presence) := (after (.alhRise (ms 1)) (s p)).mark
    (s .alive).levels.rstLow = false ∧ aliveStations (s .alive) &&& ~~~ (s .alive).mark.reported ≠ 0#6
      ∧ aliveStations (s .silent) &&& ~~~ (s .silent).mark.reported = 0#6 ∧ (t .alive).state = .collecting
      ∧ (t .silent).state = .idle ∧ (t .silent).outcome = .complete ∧ (t .silent).captureRequested = true := by
  decide +kernel

/-- `jogging` with its move due, ALH low. -/
def dueIn (sub : SearchSub) : State :=
  { withSetup { setupDefault with parkAngle := some 7 } jogging with
    levels := { ready.levels with alhHigh := false }
    search := { jogging.search with sub := sub, stage := .due }
    claim := { jogging.claim with dirState := .settled, dir := { directiveReset with number := 1, kind := some .stop } } }

/-- The same station interrupted, its STOP settled, with a pass start point and the flag at a level. -/
def interruptedIn (sub : SearchSub) (start : Int) (flag : Bool) : State :=
  { dueIn sub with
    sensor := { sensorReset with flagLevel := some flag }
    search := { jogging.search with sub := sub, stage := .stopping, restartPending := true, passStart := some start } }

theorem test_witness_HoldLineMoves_due :
    let t (sub : SearchSub) := after (.alhRise (ms 1)) (dueIn sub)
    Steady (dueIn .forward) ∧ (dueIn .forward).levels.alhHigh = false ∧ (dueIn .forward).phase = .reference
      ∧ (dueIn .forward).gradeUnit.sub = .idle ∧ (dueIn .forward).claim.state = .held
      ∧ (dueIn .forward).search.stage = .due ∧ (dueIn .forward).search.restartPending = false
      ∧ (t .forward).claim.dir.kind = some .jogPos ∧ (t .reverse).claim.dir.kind = some .jogNeg
      ∧ (t .clear).claim.dir.kind = some .jogNeg ∧ (t .clear).claim.dir.speed = some 3
      ∧ (t .park).claim.dir.kind = some .moveTo ∧ (t .park).claim.dir.target = some 7
      ∧ (t .park).search.moveStart = some 0 := by
  dsimp only
  and_intros <;> first | exact leadHeard_of rfl | exact steady_of rfl rfl rfl | decide +kernel

/-- M is 0: not past a pass start point of 0, and past one of −1. -/
theorem test_witness_HoldLineMoves_restart :
    let t (sub : SearchSub) (start : Int) (flag : Bool) := after (.alhRise (ms 1)) (interruptedIn sub start flag)
    let s := interruptedIn .reverse 0 false
    Steady s ∧ s.phase = .reference ∧ s.gradeUnit.sub = .idle ∧ s.claim.state = .held
      ∧ s.search.restartPending = true ∧ s.search.stage ≠ .due ∧ s.claim.dirState = .settled
      ∧ (t .reverse 0 false).search.sub = .forward ∧ (t .reverse 0 false).claim.dir.kind = some .jogPos
      ∧ (t .reverse (-1) false).search.sub = .reverse ∧ (t .reverse (-1) false).search.returning = true
      ∧ (t .forward (-1) false).claim.dir.kind = some .jogNeg
      ∧ (t .clear 5 true).search.sub = .clear ∧ (t .clear 5 false).search.sub = .forward
      ∧ (t .clear 5 false).search.passStart = some 0
      ∧ (t .clear 5 false).search.restartPending = false := by
  dsimp only
  and_intros <;> first | exact leadHeard_of rfl | exact steady_of rfl rfl rfl | decide +kernel

theorem test_witness_HoldLineMoves_rise :
    let s := readyEntry .j3 { entryReset with presence := .alive }
      { readyMark { markReset with state := .awaitEdge } with levels := State.reset.levels }
    s.levels.rstLow = false ∧ s.levels.alhHigh = false ∧ s.mark.state = .awaitEdge
      ∧ aliveStations s &&& ~~~ s.mark.reported ≠ 0#6 := by decide

theorem test_witness_HeartbeatAndMuster :
    let s := readyEntry .j3 { entryReset with presence := .stale, silence := 7 }
      { ready with link := { linkReset with heartbeat := running }, peers := { peersReset with musterTimer := running } }
    s.levels.rstLow = false ∧ timerRunning s.link.heartbeat = true ∧ timerRunning s.peers.musterTimer = true
      ∧ s.fault.record.locked = false ∧ (entry (after (.heartbeatExpiry (ms 10)) s) .j3).presence = .silent := by
  decide +kernel

/-- Stations 3 and 5 become SILENT, station 5 with its claim flag set, and station 6 stays DOWN with its own (R53). -/
theorem test_witness_HeartbeatAndMuster_stale :
    let e : PeerEntry := { entryReset with presence := .stale, silence := 7 }
    let s := readyEntry .j3 e (readyEntry .j5 { e with claim := true, purpose := some .park }
      (readyEntry .j6 { e with presence := .down, claim := true, purpose := some .search }
        { ready with link := { linkReset with heartbeat := running } }))
    let t := after (.heartbeatExpiry (ms 10)) s
    own s ≠ some .j5 ∧ (entry s .j5).heard = false ∧ s.fault.record.locked = false
      ∧ s.fault.record.cause ≠ some (.note .claimStale)
      ∧ (entry t .j5).presence = .silent ∧ (entry t .j6).presence = .down
      ∧ t.fault.record.cause = some (.note .claimStale) ∧ t.fault.record.station = some .j5
      ∧ t.fault.record.a = (purposeCode .park : Int) ∧ t.fault.record.b = 8 ∧ t.fault.record.lost = 0 := by
  decide +kernel

theorem test_witness_HeartbeatAndMuster_complete :
    let s := mustering true
    let u := mustering false
    timerRunning s.link.heartbeat = true ∧ s.phase = .muster ∧ s.gradeUnit.sub = .idle ∧ s.search.sub = .none
      ∧ musterMissing (after (.heartbeatExpiry (ms 10)) s) = 0#6
      ∧ (after (.heartbeatExpiry (ms 10)) s).phase = .recovery ∧ musterMissing (after (.heartbeatExpiry (ms 10)) u) = 4#6
      ∧ (after (.heartbeatExpiry (ms 10)) u).phase = .muster := by decide +kernel

theorem test_witness_MarkTimers_quiet :
    let s := { readyMark { markReset with quiet := running, needs := onlyRecovery, number := 255#8 } with phase := .recovery }
    Steady s ∧ timerRunning s.mark.quiet = true ∧ s.phase = .recovery ∧ s.mark.state = .idle
      ∧ s.mark.needs.recovery = true ∧ s.link.queue.markCall = none :=
  ⟨steady_of rfl rfl rfl, rfl, rfl, rfl, rfl, rfl⟩

/-- A call for each need, and none for CALIBRATE while ALH is low or for RECOVERY without the quiet condition (R66). -/
theorem test_witness_MarkTimers_call :
    let s (needs : Needs) (alh : Bool) : State :=
      { readyMark { markReset with needs := needs, number := 255#8 } with
        levels := { ready.levels with alhHigh := alh } }
    let quiet : State :=
      { readyMark { markReset with needs := onlyRecovery, quiet := .expired } with phase := .recovery }
    let c := Instr.holdoffExpiry (ms 1)
    let call (s : State) := (after c s).link.queue.markCall
    isReset c = false ∧ readsOnly c = false ∧ (s onlyDrive false).levels.rstLow = false
      ∧ (s onlyDrive false).link.queue.markCall = none ∧ (after c (s onlyDrive false)).phase = .ready
      ∧ (after c (s onlyDrive false)).mark.state = .idle ∧ exec c quiet = .next (after c quiet)
      ∧ call (s onlyDrive false) = some (.markCall 0#8) ∧ call (s onlyCalibrate true) = some (.markCall 0#8)
      ∧ call (s onlyCalibrate false) = none ∧ call quiet = some (.markCall 1#8)
      ∧ call { quiet with mark := { quiet.mark with quiet := .stopped } } = none := by
  dsimp only
  and_intros <;> first | decide +kernel | exact next_of (by decide +kernel)

theorem test_witness_MarkTimers :
    let s := readyMark { markReset with state := .holding, holdoff := running, timeout := running, collection := running }
    s.levels.rstLow = false ∧ LeadHeard s ∧ timerRunning s.mark.holdoff = true
      ∧ s.mark.state = .holding ∧ s.search.sub = .none ∧ moving s = false ∧ timerRunning s.mark.timeout = true
      ∧ timerRunning s.mark.collection = true := by
  dsimp only
  and_intros <;> first | exact leadHeard_of rfl | exact steady_of rfl rfl rfl | decide +kernel

/-- A report that still awaits its decision when the collection timer expires is queued then (R76). -/
theorem test_witness_MarkTimers_report :
    let c : Capture :=
      { good := true, pM := 9, count := 9, theta := some 11, lambda := none, scaleCount := some 4, scaleValid := true, atRest := true }
    let s (g : Grade) := withGrade g
      (readyMark { markReset with
        state := .collecting, number := 7#8, collection := running, reportAwaiting := true, lastCapture := some c })
    let sent (g : Grade) := (after (.collectionTimerExpiry (ms 9)) (s g)).link.queue.markReport
    let report : MarkReport :=
      { number := 7#8, grade := .coarse, captureGood := true, scaleValid := true, pM := 9#16, sM := 4#16, thetaM := some 11 }
    (s .coarse).levels.rstLow = false ∧ timerRunning (s .coarse).mark.collection = true
      ∧ sent .coarse = some (.markReport report)
      ∧ sent .lost = some (.markReport { report with grade := .lost, thetaM := none }) := by decide +kernel

/-- The hold of a mark, released at HOLDOFF's expiry or at the sample that shows rest, and ended by a lapse (R63, R70, R77). -/
theorem test_witness_MarkTimers_release :
    let held (rest : Bool) (h : Timer) : State :=
      { readyMark { markReset with state := .holding, holdoff := h, timeout := running } with
        reck := { ready.reck with atRest := rest } }
    let sample := Instr.motorSample (ms 200) (.good 0#16) false
    let pulls (c : Instr) (s : State) := ((after c s).mark.state, ownPull (after c s))
    answers sample (held false .expired) = true ∧ isReset sample = false ∧ readsOnly sample = false
      ∧ ownPull (held true running) = true ∧ ownPull ready = false ∧ ownPull State.reset = true
      ∧ pulls (.holdoffExpiry (ms 9)) (held true running) = (.awaitEdge, false)
      ∧ pulls (.holdoffExpiry (ms 9)) (held false running) = (.holding, true)
      ∧ pulls sample (held false .expired) = (.awaitEdge, false)
      ∧ pulls (.markTimeoutExpiry (ms 9)) (held false running) = (.idle, false) := by
  dsimp only
  and_intros <;> decide +kernel

/-- The last awaited station becomes STALE at a heartbeat: the mark is complete (R51, R75). -/
theorem test_witness_MarkTimers_complete :
    let s : State :=
      readyEntry .j3 { entryReset with presence := .alive, silence := 2 }
        { readyMark { markReset with state := .collecting, number := 7#8, collection := running } with
          link := { ready.link with heartbeat := running } }
    let c := Instr.heartbeatExpiry (ms 10)
    let t := after c s
    exec c s = .next t ∧ s.mark.state = .collecting ∧ t.mark.state ≠ .collecting ∧ t.phase ≠ .down
      ∧ isReset c = false ∧ readsOnly c = false ∧ (∀ now, c ≠ .markTimeoutExpiry now ∧ c ≠ .collectionTimerExpiry now)
      ∧ t.mark.outcome = .complete ∧ t.mark.outcomeNumber = 7#8 ∧ t.mark.collection = .stopped := by
  dsimp only
  and_intros <;> first
    | decide +kernel
    | exact next_of (by decide +kernel)
    | exact fun _ => ⟨nofun, nofun⟩

theorem test_witness_MarkTimers_lapse :
    let s := readyMark { markReset with state := .holding, timeout := running, number := 200#8, lapses := 255, completedMark := true }
    let u := readyMark { markReset with state := .holding, timeout := running }
    let t := after (.markTimeoutExpiry (ms 9)) s
    s.levels.rstLow = false ∧ timerRunning s.mark.timeout = true ∧ s.mark.completedMark = true
      ∧ s.fault.record.locked = false ∧ t.fault.record.cause = some (.note .markLapse) ∧ t.fault.record.a = 200
      ∧ t.fault.record.b = 255 ∧ Steady u ∧ u.mark.completedMark = false
      ∧ (after (.markTimeoutExpiry (ms 9)) u).fault.record = recordReset := by
  dsimp only
  and_intros <;> first | exact leadHeard_of rfl | exact steady_of rfl rfl rfl | decide +kernel

/-- A coupled station in RECOVERY that has its capture and awaits its lead's report. -/
def leadAwaiting : State :=
  { coupledTo3 with
    phase := .recovery
    gradeUnit :=
      { gradeReset with
        sub := .leadWait
        held := some
          { good := true, pM := 5000, count := 5000, theta := none, lambda := none, scaleCount := some 1234
            scaleValid := true, atRest := true } }
    mark := { markReset with state := .collecting, needs := onlyRecovery, leadWait := running, reportAwaiting := true } }

theorem test_witness_LeadReportMissing :
    let s := leadAwaiting
    s.levels.rstLow = false ∧ leadWaiting s = true ∧ s.gradeUnit.sub = .leadWait ∧ s.gradeUnit.held.isSome = true
      ∧ s.gradeUnit.readPending = false ∧ s.phase = .recovery ∧ s.search.sub = .none ∧ s.reck.calibrated = true
      ∧ coupled s = true ∧ countInRange s.reck.count = true
      ∧ (after (.leadReportWaitExpiry (ms 20)) s).phase = .ready := by decide +kernel

/-- The lead's report of mark 7, of a grade. -/
def leadsReport (g : Grade) : MarkReport :=
  { number := 7#8, grade := g, captureGood := true, scaleValid := true, pM := 0#16, sM := 0#16, thetaM := some 9 }

/-- The station of `leadAwaiting` at the mark 7 of `deciding`, with a calibration or not, a scale that wraps or not, and τ_s. -/
def awaitingReport (calibrated wraps : Bool) (tau : Int) : State :=
  { leadAwaiting with
    port := { leadAwaiting.port with
      setup := { leadAwaiting.port.setup with
        gearNum := 120, travelLow := -8388608, travelHigh := 8388607, scaleWraps := wraps }
      tau := some tau }
    reck := { deciding.reck with count := 5000, calibrated := calibrated, thetaScale := some 5051464 }
    sensor := deciding.sensor
    mark := { leadAwaiting.mark with number := 7#8 } }

/-- Its lead's report of RESOLVED makes the decision of its recovery (R110, R115). -/
theorem test_witness_RecoveryDecision_coupled :
    let s := awaitingReport true false 100000
    let su := setupOf s
    let r := leadsReport .resolved
    let t := after (.markReportArrival (ms 1) .j3 r) s
    own s ≠ some .j3 ∧ lead s = some .j3 ∧ frameContentOk (.markReport r) = true ∧ leadWaiting s = true
      ∧ r.number = s.mark.number ∧ gradeCode .resolved ≤ gradeCode r.grade ∧ r.thetaM = some 9
      ∧ s.phase = .recovery ∧ s.gradeUnit.sub = .leadWait ∧ s.gradeUnit.held.isSome = true
      ∧ s.gradeUnit.readPending = false ∧ s.reck.calibrated = true ∧ s.reck.started = true
      ∧ s.sensor.latestScale ≠ none ∧ s.sensor.badScale < 3 ∧ s.search.sub = .none
      ∧ ((tableOf su true 0 5000
          (candidatesOf su 100000 0 (leadTerm su true 9) (scaleAngle su (-3000) 1234) 5000) none).n.map fun k => k.n)
        = some 36
      ∧ t.phase = .ready ∧ t.reck.count = 36 * 16384 + 5000 ∧ t.gradeUnit.grade = .resolved ∧ t.reck.lambda = 9 := by
  decide +kernel

/-- Its other courses: no count fixed, a lead below RESOLVED, no calibration; each with the own report (R72, R110, R115). -/
theorem test_witness_RecoveryDecision_coupled_unfixed :
    let decided (calibrated wraps : Bool) (tau : Int) (g : Grade) :=
      let t := after (.markReportArrival (ms 1) .j3 (leadsReport g)) (awaitingReport calibrated wraps tau)
      (t.gradeUnit.lastDecision.map fun d => (d.course, d.k, d.result), t.gradeUnit.capped,
        match t.link.queue.markReport with
        | some (.markReport r) => some (r.grade, r.thetaM)
        | _ => none)
    let s := awaitingReport true false 100000
    s.levels.rstLow = false ∧ s.link.line ≠ .waitingForIdle ∧ s.mark.reportAwaiting = true
      ∧ countInRange s.reck.count = true
      ∧ decided true false 100000 .restored
        = (some (some .resolution, 1, .resolved), false, some (.resolved, some 5075831))
      ∧ decided true false 120000 .resolved
        = (some (some .resolution, 2, .coarse), false, some (.coarse, some 5051464))
      ∧ decided true true 120000 .resolved = (some (some .resolution, 2, .lost), false, some (.lost, none))
      ∧ decided true false 100000 .coarse = (some (some .noLead, 0, .coarse), true, some (.coarse, some 5051464))
      ∧ decided true true 100000 .coarse = (some (some .noLead, 0, .lost), true, some (.lost, none))
      ∧ decided false false 100000 .resolved
        = (some (some .noCalibration, 0, .coarse), false, some (.coarse, some 5051464))
      ∧ decided false true 100000 .coarse = (some (some .noCalibration, 1, .lost), false, some (.lost, none)) := by
  dsimp only
  and_intros <;> decide +kernel

/-- A capture that no decision uses yet: not usable, its lead's report awaited, the reading of the snapshots pending (R109). -/
theorem test_witness_RecoveryDecision_held :
    let unusable := { deciding with sensor := { deciding.sensor with badScale := 3 } }
    let reading := { deciding with gradeUnit := { deciding.gradeUnit with sub := .reading, readPending := true } }
    let led : State :=
      { awaitingReport true false 100000 with
        gradeUnit := { gradeReset with sub := .marking, leadReport := .awaited }
        mark := { deciding.mark with leadWait := running } }
    let t (s : State) := after (.motorSample (ms 1) (.good 5000#16) false) s
    LeadHeard unusable ∧ LeadHeard reading ∧ LeadHeard led ∧ coupled led = true ∧ moving led = false
      ∧ scaleValid unusable = false ∧ (t unusable).phase = .recovery ∧ (t unusable).gradeUnit.sub = .marking
      ∧ (t unusable).mark.needs.recovery = true ∧ (t unusable).link.queue.markReport ≠ none
      ∧ scaleValid reading = true ∧ (t reading).gradeUnit.sub = .reading ∧ (t reading).gradeUnit.held.isSome = true
      ∧ (t reading).mark.reportAwaiting = true ∧ (t reading).link.queue.markReport = none
      ∧ (t led).gradeUnit.sub = .leadWait ∧ (t led).gradeUnit.held.isSome = true
      ∧ (t led).link.queue.markReport = none := by
  dsimp only
  and_intros <;> first
    | exact leadHeard_of rfl
    | decide +kernel
    | exact fun k h _ => by cases k <;> first | rfl | exact absurd h (by decide +kernel)

/-- A decision by its course: in RECOVERY, at a re-mark near the recovery anchor, and at one far from it. -/
theorem test_witness_RecoveryDecision_courses :
    let c : Capture :=
      { good := true, pM := 5000, count := 5000, theta := none, lambda := none, scaleCount := some 1234, scaleValid := true
        atRest := true }
    let near (s : State) (anchor : Int) : State :=
      { s with
        phase := .ready
        gradeUnit := { s.gradeUnit with
          recoveryAnchor := some anchor
          chosen := some { slot := .a, r := { seq := 1#16, body := { snapRequest with theta := some 5075200 } } } } }
    let made (s : State) :=
      let t := decideOn c s
      (t.gradeUnit.lastDecision.map fun d => (d.kind, d.course, d.result, d.n), t.gradeUnit.recoveryAnchor)
    countInRange (5000 + (36 * 16384 + 5000 - 5000)) = true
      ∧ made (decidingBy true false 100000) = (some (.recovery, some .resolution, .resolved, some 36), some (36 * 16384 + 5000))
      ∧ made (near (decidingBy true false 100000) 5016)
        = (some (.reMark, some .resolution, .restored, some 36), some (36 * 16384 + 5016))
      ∧ made (near (decidingBy true false 100000) 5017)
        = (some (.reMark, some .resolution, .resolved, some 36), some (36 * 16384 + 5017))
      ∧ made (near (decidingBy false false 100000) 5016) = (some (.reMark, some .noCalibration, .coarse, none), some 5016)
      ∧ made (awaitingReport true false 100000) = (some (.recovery, some .noLead, .coarse, none), some 5000) := by
  dsimp only
  and_intros <;> decide +kernel

theorem test_witness_LeadReportMissing_before_the_capture :
    let s := { leadAwaiting with gradeUnit := { gradeReset with sub := .marking } }
    s.levels.rstLow = false ∧ leadWaiting s = true ∧ s.gradeUnit.sub ≠ .leadWait ∧ s.phase ≠ .muster := by decide

/-- The own report of that decision: COARSE with θ_scale, and LOST without an angle under a lead of LOST (R72, R104). -/
theorem test_witness_LeadReportMissing_report :
    let sent (g : Grade) :=
      let s := readyEntry .j3 { entryReset with presence := .alive, grade := g } (awaitingReport true false 100000)
      let t := after (.leadReportWaitExpiry (ms 20)) s
      (t.gradeUnit.grade, t.reck.basis, t.gradeUnit.recordedLead,
        match t.link.queue.markReport with
        | some (.markReport r) => some (r.grade, r.thetaM)
        | _ => none)
    (awaitingReport true false 100000).mark.reportAwaiting = true
      ∧ sent .resolved = (.coarse, .scale, some .resolved, some (.coarse, some 5051464))
      ∧ sent .lost = (.lost, .none, some .lost, some (.lost, none)) := by
  dsimp only
  and_intros <;> decide +kernel

/-- A coupled station in READY, capped by its lead at COARSE, at rest. -/
def cappedAt (lead : Grade) : State :=
  readyEntry .j3 { entryReset with presence := .alive, grade := lead, atRest := true, digest := some 7#16, digestMatch := true }
    { coupledTo3 with
      gradeUnit := { gradeReset with grade := .coarse, capped := true, recordedLead := some .coarse }
      peers := { coupledTo3.peers with digest := some 7#16 } }

theorem test_witness_ReMark_need :
    let s := { cappedAt .resolved with mark := { markReset with needs := { needsNone with reMark := true } } }
    let c := Instr.alhFall (ms 1)
    s.mark.needs.reMark = true ∧ leadGrade s = some .resolved ∧ s.gradeUnit.recordedLead = some .coarse
      ∧ exec c s = .next (after c s) ∧ (after c s).mark.needs.reMark = true := by
  dsimp only
  and_intros <;> first | decide +kernel | exact next_of (by decide +kernel)

theorem test_witness_ReMark_registered :
    let s := cappedAt .coarse
    let c := Instr.statusArrival (ms 1) .j3 statusFrame
    let t := after c s
    exec c s = .next t ∧ isReset c = false ∧ t.phase = .ready ∧ coupled t = true ∧ t.gradeUnit.capped = true
      ∧ leadGrade t = some .restored ∧ t.gradeUnit.recordedLead = some .coarse ∧ t.reck.atRest = true
      ∧ leadGrade s ≠ leadGrade t ∧ t.mark.needs.reMark = true := by
  dsimp only
  and_intros <;> first | decide +kernel | exact next_of (by decide +kernel)

/-- The same station with its capture of re-mark 7, its lead's report awaited. -/
def reMarking (calibrated : Bool) : State :=
  { cappedAt .resolved with
    reck := { ready.reck with calibrated := calibrated }
    gradeUnit := { (cappedAt .resolved).gradeUnit with
      sub := .leadWait, leadReport := .awaited, held := leadAwaiting.gradeUnit.held }
    mark := { leadAwaiting.mark with number := 7#8 } }

theorem test_witness_ReMark_decided :
    let s := reMarking true
    let made (g : Grade) (b : Bool) := (after (.markReportArrival (ms 1) .j3 (leadsReport g)) (reMarking b)).gradeUnit
    s.levels.rstLow = false ∧ own s ≠ some .j3 ∧ lead s = some .j3 ∧ s.link.line ≠ .waitingForIdle
      ∧ frameContentOk (.markReport (leadsReport .resolved)) = true ∧ leadWaiting s = true
      ∧ (leadsReport .resolved).number = s.mark.number ∧ s.phase = .ready ∧ s.search.sub = .none
      ∧ s.gradeUnit.sub = .leadWait ∧ s.gradeUnit.held.isSome = true ∧ s.gradeUnit.readPending = false
      ∧ (made .resolved true).lastDecision.map (fun d => (d.kind, d.course)) = some (.reMark, some .resolution)
      ∧ (made .coarse true).lastDecision.map (fun d => (d.kind, d.course)) = some (.reMark, some .noLead)
      ∧ (made .resolved false).lastDecision.map (fun d => (d.kind, d.course)) = some (.reMark, some .noCalibration)
      ∧ (made .resolved true).recordedLead = some .resolved := by decide +kernel

/-- A report with an angle and one without it; the recovery anchor moves by 36 turns and by none (R110, R115, R118). -/
theorem test_witness_ReMark_angle_and_anchor :
    let s : State :=
      let u := reMarking true
      { u with
        port := { u.port with
          setup := { u.port.setup with gearNum := 120, travelLow := -8388608, travelHigh := 8388607 }, tau := some 100000 }
        reck := { deciding.reck with count := 5000, lambda := 3 }
        sensor := deciding.sensor
        gradeUnit := { u.gradeUnit with recoveryAnchor := some 100 } }
    let t (r : MarkReport) := after (.markReportArrival (ms 1) .j3 r) s
    let with_ := t (leadsReport .resolved)
    let without := t { leadsReport .lost with thetaM := none }
    leadWaiting s = true ∧ s.phase = .ready ∧ frameContentOk (.markReport { leadsReport .lost with thetaM := none }) = true
      ∧ with_.reck.lambda = 9 ∧ without.reck.lambda = 3
      ∧ s.mark.reportAwaiting = true ∧ with_.phase = .ready ∧ with_.gradeUnit.grade = .resolved
      ∧ (match with_.link.queue.markReport with
          | some (.markReport r) => decide (r.grade = .resolved ∧ r.thetaM = some 5075831)
          | _ => false) = true
      ∧ (after (.leadReportWaitExpiry (ms 20)) s).gradeUnit.grade = .coarse
      ∧ with_.gradeUnit.lastDecision.map (fun d => d.n) = some (some 36)
      ∧ with_.gradeUnit.recoveryAnchor = some (100 + 36 * 16384)
      ∧ without.gradeUnit.lastDecision.map (fun d => d.n) = some none
      ∧ without.gradeUnit.recoveryAnchor = some 100 := by
  dsimp only
  and_intros <;> decide +kernel

theorem test_witness_ReMark_snapshot :
    let c : Capture :=
      { good := true, pM := 0, count := 116, theta := none, lambda := none, scaleCount := none, scaleValid := false, atRest := true }
    let s := { ready with gradeUnit := { gradeReset with
      chosen := some { slot := .b, r := { seq := 1#16, body := snapRequest } }, recoveryAnchor := some 100 } }
    s.gradeUnit.recoveryAnchor = some 100 ∧ snapshotFor s .reMark c = s.gradeUnit.chosen
      ∧ snapshotFor s .reMark { c with count := 117 } = none ∧ ready.gradeUnit.recoveryAnchor = none := by decide +kernel

theorem test_witness_DirectiveAndDwellTimers :
    let s := readyClaim { claimReset with untakenOpen := true, untakenTimer := running, dir := { directiveReset with number := 255 } }
    s.levels.rstLow = false ∧ timerRunning s.claim.untakenTimer = true ∧ s.claim.untakenOpen = true
      ∧ stopsIn s.phase = true ∧ s.fault.record.locked = false ∧ s.claim.dir.number ≤ 255
      ∧ (setupOf s).directiveTimeout ≤ 500 := by decide

theorem test_witness_DirectiveAndDwellTimers_allowance :
    let s := readyClaim
      { claimReset with allowance := running, dirState := .taken, dir := { directiveReset with number := 1, kind := some .stop } }
    let u := { s with sensor := { sensorReset with badMotor := 3 } }
    s.levels.rstLow = false ∧ timerRunning s.claim.allowance = true ∧ s.sensor.badMotor < 3 ∧ s.reck.started = true
      ∧ stopsIn s.phase = true ∧ s.fault.record.locked = false ∧ Steady u ∧ 3 ≤ u.sensor.badMotor ∧ u.phase ≠ .muster :=
  ⟨rfl, rfl, by decide, rfl, rfl, rfl, steady_of rfl rfl rfl, by decide, by decide⟩

theorem test_witness_DirectiveAndDwellTimers_dwell :
    let s := { ready with zone := { capInForce := .creep, pendingCap := some .full, dwell := running } }
    Steady s ∧ timerRunning s.zone.dwell = true ∧ s.zone.pendingCap = some .full ∧ (effective s).cap = .full
      ∧ gradeCode s.gradeUnit.grade ≤ gradeCode (ceiling s) :=
  ⟨steady_of rfl rfl rfl, rfl, rfl, by decide +kernel, by decide +kernel⟩

/-- The rows of R169: a lower cap, the cap in force, the pending cap, another one, and that with ZONE_DWELL 0; and the expiry. -/
theorem test_witness_DirectiveAndDwellTimers_caps :
    let zoned (z : Zone) (cap : Speed) (dwell : Nat) : State :=
      { withSetup { setupDefault with defaultZone := { setupDefault.defaultZone with cap := cap }, zoneDwell := dwell } ready with
        zone := z }
    let z : Zone := { capInForce := .creep, pendingCap := some .full, dwell := running }
    let c := Instr.holdoffExpiry (ms 1)
    let e := Instr.dwellTimerExpiry (ms 1)
    let only (cap : Speed) : Zone := { capInForce := cap, pendingCap := none, dwell := .stopped }
    let waits : Zone := { capInForce := .creep, pendingCap := some .reduced, dwell := .running 1#32 200 }
    isReset c = false ∧ readsOnly c = false ∧ (zoned z .none 200).levels.rstLow = false
      ∧ (effective (after c (zoned z .none 200))).cap = .none ∧ (after c (zoned z .none 200)).zone = only .none
      ∧ (after c (zoned z .creep 200)).zone = only .creep ∧ (after c (zoned z .full 200)).zone = z
      ∧ (after c (zoned z .reduced 200)).zone = waits ∧ (after c (zoned z .reduced 0)).zone = only .reduced
      ∧ (after e (zoned z .full 200)).zone = only .full ∧ (after e (zoned z .reduced 200)).zone = only .reduced := by
  dsimp only
  and_intros <;> decide +kernel

theorem test_witness_SearchTimers :
    let w := waitingPrereq
    let f := { inSearch .settle with search := { searchReset with sub := .settle, settleFirst := running } }
    Steady w ∧ timerRunning w.search.prereqTimer = true ∧ w.search.sub = .waitPrereq ∧ w.fault.record.locked = false
      ∧ Steady f ∧ timerRunning f.search.settleFirst = true ∧ f.search.sub = .settle := by
  dsimp only
  and_intros <;> first | exact leadHeard_of rfl | exact steady_of rfl rfl rfl | decide +kernel

/-- SETTLE at a level, with a number of passes, and the centre of the pass before, 594193. -/
def settlingAt (level passes prev : Nat) : State :=
  { settling with search := { settling.search with level := level, passes := passes, prevCentre := some (prev : Int) } }

theorem test_witness_SearchTimers_evaluation :
    Steady settling ∧ timerRunning settling.search.settleSecond = true ∧ settling.search.sub = .settle
      ∧ passCentre (setupOf settling) settling.search = some 594190
      ∧ Machine.dist 594190 594198 ≤ (setupOf settling).agree ∧ (setupOf settling).agree < Machine.dist 594190 594199
      ∧ (after (.settleEnd (ms 50)) (settlingAt 1 2 594198)).search.sub = .calibrate
      ∧ (after (.settleEnd (ms 50)) (settlingAt 1 1 594199)).search.level = 1
      ∧ (after (.settleEnd (ms 50)) (settlingAt 1 2 594199)).search.level = 2
      ∧ (after (.settleEnd (ms 50)) (settlingAt 3 2 594199)).search.outcome = .failed .noConvergence :=
  ⟨steady_of rfl rfl rfl, rfl, rfl, by decide +kernel, by decide, by decide, by decide +kernel, by decide +kernel,
    by decide +kernel, by decide +kernel⟩

/-! The drive port: parameters that pass and that fail the tests of R188. -/

theorem test_witness_ReadingCommands :
    ready.levels.rstLow = false ∧ parameters 1 (framed 1 []) = some []
      ∧ parameters 2 (framed 2 [1#8]) = some [byte (stationNumber .j1)]
      ∧ parameters 2 (framed 2 [6#8]) = some [byte (stationNumber .j6)] ∧ parameters 3 (framed 3 []) = some []
      ∧ parameters 6 (framed 6 [1#8]) = some [byte 1] ∧ parameters 6 (framed 6 [3#8]) = some [byte 3] := by
  decide +kernel

/-- ATN with no cause, with PEER alone, and with another (R192). -/
theorem test_witness_ReadingCommands_atn :
    atn ready = false ∧ atn { ready with port := { ready.port with changedPeers := 32#6 } } = true
      ∧ maskHas 32#6 .j6 = true
      ∧ atn { ready with port := { ready.port with attention := { ready.port.attention with mark := true } } } = true := by
  decide +kernel

/-- The fields of a record are answered with its check word, and all zero without one (R85, R97). -/
theorem test_storeRead_answers_the_fields :
    let r : SnapRecord := { seq := 65535#16, body := snapRequest }
    (after (.storeRead (ms 3) (framed 6 [2#8])) stored).port.slot.data
        = .store (.slot .b { cls := .sound, fields := encodeSnap r } true)
      ∧ (encodeSnap r).drop 21 = bytes16 (crc16 (snapBody r))
      ∧ (after (.storeRead (ms 3) (framed 6 [3#8])) stored).port.slot.data
        = .store (.calibration { cls := .empty, fields := List.replicate 20 0#8 }) := by decide +kernel

/-- What is absent is answered as 0 (R55, R184). -/
theorem test_absent_answers_are_zero :
    let never := { ready with fault := { ready.fault with record := recordReset } }
    (match (after (.peerRead (ms 3) (framed 2 [6#8])) ready).port.slot.data with
        | .peer d => decide (d.purpose = 0 ∧ d.haltCause = 0 ∧ d.reportPresent = false ∧ d.report = reportAbsent)
        | _ => false) = true
      ∧ (match (after (.faultRead (ms 3) (framed 3 [])) never).port.slot.data with
        | .fault d => decide (d.station = 0 ∧ d.cause = none)
        | _ => false) = true
      ∧ (match (after (.statusRead (ms 3) (framed 1 [])) ready).port.slot.data with
        | .status d => decide (d.grade.leadGrade = 0)
        | _ => false) = true := by decide +kernel

theorem test_witness_CommandTests :
    portCommandOf (.turnConfirm (ms 1) [0#8]) = some (ms 1, 10, [0#8]) ∧ ready.levels.rstLow = false
      ∧ parameters 10 [0#8] = none ∧ parameters 10 (framed 10 []) = some [] ∧ tableLength 10 [] = false
      ∧ parameters 10 (framed 10 [4#8]) = some [4#8] ∧ tableLength 10 [4#8] = true ∧ tableDomain 10 [4#8] = false
      ∧ tableDomain 10 [3#8] = true ∧ tableDomain 10 [252#8] = true ∧ tablePhase 10 State.reset.phase = false
      ∧ portCommandOf (.setup (ms 1) (framed 16 [24#8, 0#8])) = some (ms 1, 16, framed 16 [24#8, 0#8])
      ∧ tablePhase 16 ready.phase = false ∧ tableDomain 16 [40#8, 0#8] = false
      ∧ (31#8).toNat ∈ commandCodes ∧ (0x20#8).toNat ∉ commandCodes ∧ unknownOk (0x20#8 :: framed 32 []) = true
      ∧ unknownOk [255#8] = true := by decide +kernel

/-- The reset response of R187, from a pin reset at station 2 with LR high, and what is shifted out after it. -/
theorem test_response_characters :
    let r : Response := { status := .ok, echo := 0x1F#8, reason := .none, data := .reset .pin 2#3 true }
    responseChars r = [0#8, 0x1F#8, 0#8, 0#8, 3#8, 2#8, 2#8, 1#8, 0x27#8]
      ∧ shiftedChar (.response r) 8 = some 0x27#8 ∧ shiftedChar (.response r) 9 = some 0xFF#8
      ∧ responseChars { status := .refused, echo := 7#8, reason := .markBusy, data := .none }
        = [3#8, 7#8, 2#8, 0#8, 0#8, 12#8] := by decide +kernel

/-- FAULTED with a stop set. -/
def faultedWith (set : List StopCause) (bad : Nat) (g : Grade) : State :=
  withGrade g
    { locked 0 ready with
      phase := .faulted
      sensor := { sensorReset with badMotor := bad, badScale := bad }
      fault := { (locked 0 ready).fault with stopSet := set } }

theorem test_witness_FaultClear :
    let s := faultedWith [.scaleFault, .motorSensorFault] 3 .coarse
    Steady s ∧ parameters 4 (framed 4 []) = some [] ∧ s.phase = .faulted ∧ .motorSensorFault ∈ s.fault.stopSet
      ∧ causePresent { s with ms := (ms 1).ms } .motorSensorFault = true
      ∧ (∀ d, d ∈ s.fault.stopSet → causePresent { s with ms := (ms 1).ms } d = true → stopCode .motorSensorFault ≤ stopCode d) :=
  ⟨steady_of rfl rfl rfl, by decide +kernel, rfl, by decide, by decide +kernel, by decide +kernel⟩

theorem test_witness_FaultClear_accepted :
    let s := faultedWith [.motorJump] 0 .coarse
    Steady s ∧ s.phase = .faulted ∧ (∀ c, c ∈ s.fault.stopSet → causePresent { s with ms := (ms 1).ms } c = false)
      ∧ gradeLt s.gradeUnit.grade .resolved = true ∧ ready.phase ≠ .faulted ∧ ready.phase ≠ .muster
      ∧ (after (.faultClear (ms 1) (framed 4 [])) s).phase = .recovery
      ∧ (after (.faultClear (ms 1) (framed 4 [])) (faultedWith [.motorJump] 0 .resolved)).phase = .ready :=
  ⟨steady_of rfl rfl rfl, rfl, by decide +kernel, by decide, by decide, by decide, by decide +kernel, by decide +kernel⟩

/-- In MUSTER the record is cleared, and MUSTER is left where no peer fails its condition (R61, R183). -/
theorem test_witness_FaultClear_muster :
    let s (heard3 : Bool) := locked 3 (mustering heard3)
    let t (heard3 : Bool) := after (.faultClear (ms 1) (framed 4 [])) (s heard3)
    Steady (s true) ∧ Steady (s false) ∧ (s true).phase ≠ .faulted ∧ musterMissing (s true) = 0#6
      ∧ musterMissing (s false) ≠ 0#6 ∧ (t true).phase = .recovery ∧ (t false).phase = .muster
      ∧ (t true).fault.record = recordReset ∧ (t false).fault.record = recordReset := by
  dsimp only
  and_intros <;> first | exact leadHeard_of rfl | exact steady_of rfl rfl rfl | decide +kernel

/-- A posted directive of a kind. -/
def postedDir (k : DirKind) (rest : Bool) : State :=
  { readyClaim
      { claimReset with
        dirState := .posted, untakenOpen := true, untakenTimer := running
        dir := { directiveReset with number := 1, kind := some k } } with
    reck := { ready.reck with atRest := rest } }

theorem test_witness_DirectiveTake :
    Steady ready ∧ parameters 5 (framed 5 []) = some [] ∧ ready.claim.dirState ≠ .posted
      ∧ Steady (postedDir .jogNeg true) ∧ (postedDir .jogNeg true).claim.dirState = .posted
      ∧ (postedDir .jogNeg true).claim.dir.kind ≠ some .stop ∧ (postedDir .jogNeg true).phase ≠ .down
      ∧ (postedDir .jogNeg true).claim.dir.kind = some .jogNeg
      ∧ (postedDir .stop false).claim.dir.kind = some .stop ∧ (postedDir .stop false).reck.atRest = false
      ∧ (postedDir .stop true).reck.atRest = true ∧ (postedDir .stop true).search.sub = .none :=
  ⟨steady_of rfl rfl rfl, by decide +kernel, by decide, steady_of rfl rfl rfl, rfl, by decide, by decide, rfl, rfl, rfl, rfl, rfl⟩

/-- A STOP posted before POWER_DOWN and taken in DOWN (R140). -/
theorem test_witness_DirectiveTake_down :
    let s : State := { postedDir .stop false with phase := .down }
    let t := after (.directiveTake (ms 1) (framed 5 [])) s
    Steady s ∧ s.claim.dirState = .posted ∧ s.phase = .down ∧ t.claim.dirState = .taken ∧ t.claim.untakenOpen = false
      ∧ t.claim.untakenTimer = .stopped ∧ t.claim.allowance = s.claim.allowance ∧ t.claim.still = none
      ∧ (after (.directiveTake (ms 1) (framed 5 [])) { postedDir .stop true with phase := .down }).claim.dirState = .taken := by
  dsimp only
  and_intros <;> first | exact leadHeard_of rfl | exact steady_of rfl rfl rfl | decide +kernel

theorem test_witness_MarkRequestAndPeerForget :
    let busy := readyMark { markReset with state := .collecting }
    Steady ready ∧ parameters 7 (framed 7 []) = some [] ∧ ready.phase = .ready ∧ ready.mark.state = .idle
      ∧ ready.link.queue.markCall = none ∧ Steady busy ∧ busy.mark.state ≠ .idle ∧ busy.phase = .ready :=
  ⟨steady_of rfl rfl rfl, by decide +kernel, rfl, rfl, rfl, steady_of rfl rfl rfl, by decide, rfl⟩

theorem test_witness_ReferenceStart :
    ready.levels.rstLow = false ∧ MotionPermitted ready ∧ parameters 8 (framed 8 []) = some [] ∧ ready.phase = .ready
      ∧ ready.gradeUnit.grade ≠ .lost ∧ (effective ready).homing = true ∧ leadGrade coupledTo3 = some .resolved
      ∧ MotionPermitted coupledTo3 ∧ coupledTo3.phase = .ready ∧ (effective coupledTo3).homing = true
      ∧ unsettled ready = 0#6 := by
  unfold MotionPermitted
  and_intros <;> decide +kernel

/-- Its claim: queued, waited with, wanted behind a release, and not yet asked for while the lead is not at rest (R124, R146). -/
theorem test_witness_ReferenceStart_claim :
    let start (s : State) := (after (.referenceStart (ms 1) (framed 8 [])) s).claim
    let conflict (e : PeerEntry) : State :=
      readyEntry .j4 e
        (withSetup
          { setupDefault with
            plan := { setupDefault.plan with conflict := (PerStation.all 0#6).set .j2 8#6 } } ready)
    let blocked := conflict { entryReset with presence := .alive, claim := true, atRest := true }
    let restless := readyEntry .j3 { entryReset with presence := .alive, grade := .resolved, angle := some 9 } coupledTo3
    let releasing := readyClaim { claimReset with state := .releasing }
    UnderCeiling ready ∧ blockingClaims ready = 0#6 ∧ blockingMotion ready = 0#6 ∧ ready.claim.state = .none
      ∧ (start ready).state = .queued ∧ (start ready).purpose = some .search
      ∧ unsettled blocked = 0#6 ∧ blockingClaims blocked ≠ 0#6 ∧ (start blocked).state = .waiting
      ∧ unsettled releasing = 0#6 ∧ (start releasing).state = .releasing ∧ (start releasing).wanted = true
      ∧ unsettled restless ≠ 0#6 ∧ (start restless).state = .none ∧ (start restless).wanted = false := by
  dsimp only
  and_intros <;> first | exact fun _ _ => by decide +kernel | decide +kernel

theorem test_witness_ReferenceStart_refused :
    let low := readyEntry .j3 { entryReset with presence := .alive, grade := .coarse } coupledTo3
    let lost := withGrade .lost ready
    let noHoming := withSetup { setupDefault with defaultZone := { cap := .none, homing := true, plus := true } } ready
    leadGrade low = some .coarse ∧ gradeCode .coarse < gradeCode .resolved ∧ lost.gradeUnit.grade = .lost
      ∧ ¬ (effective noHoming).homing = true ∧ (after (.referenceStart (ms 1) (framed 8 [])) low).port.slot.reason = .lead
      ∧ (after (.referenceStart (ms 1) (framed 8 [])) lost).port.slot.reason = .grade
      ∧ (after (.referenceStart (ms 1) (framed 8 [])) noHoming).port.slot.reason = .zone := by decide +kernel

theorem test_witness_SearchAborted :
    let s := inSearch .calibrate
    s.levels.rstLow = false ∧ LeadHeard s ∧ parameters 9 (framed 9 []) = some []
      ∧ s.phase = .reference ∧ s.claim.state ≠ .held ∧ moving s = false ∧ s.fault.record.locked = false
      ∧ jogging.levels.rstLow = false ∧ LeadHeard jogging ∧ jogging.phase = .reference
      ∧ jogging.claim.state = .held ∧ moving jogging = true ∧ own jogging ≠ some .j6 ∧ jogging.search.sub ≠ .none
      ∧ jogging.link.line ≠ .waitingForIdle := by
  dsimp only
  and_intros <;> first | exact leadHeard_of rfl | exact steady_of rfl rfl rfl | decide +kernel

/-- LOST with a list of turn-confirm candidates, joint turns −1 and 0. -/
def listing : State :=
  let s := withSetup { jointSetup with scaleWraps := true } ready
  { s with
    port := { s.port with frozen := true, tau := some 65536 }
    reck := { reckoningReset with started := true, lastGood := some 5000, count := 5000, calibrated := true }
    gradeUnit :=
      { gradeReset with
        candidates := [{ n := -84, theta := -11701415, jointTurn := -1 }, { n := 36, theta := 5075831, jointTurn := 0 }]
        candidateCapture := some
          { good := true, pM := 5000, count := 5000, theta := none, lambda := none, scaleCount := some 1234
            scaleValid := true, atRest := true } } }

theorem test_witness_TurnConfirm :
    let s := listing
    let d : Int := 36 * (cprOf (setupOf s) : Int) + 5000 - 5000
    Steady s ∧ parameters 10 (framed 10 [0#8]) = some [0#8] ∧ parameters 10 (framed 10 [252#8]) = some [252#8]
      ∧ -4 ≤ (252#8).toInt ∧ (3#8).toInt ≤ 3 ∧ s.phase = .ready
      ∧ (setupOf s).scaleWraps = true ∧ s.gradeUnit.grade = .lost ∧ s.gradeUnit.candidates ≠ []
      ∧ s.gradeUnit.sub = .idle ∧ ceiling s ≠ .lost
      ∧ (s.gradeUnit.candidates.filter fun c => c.jointTurn == (0#8).toInt) = [{ n := 36, theta := 5075831, jointTurn := 0 }]
      ∧ (s.gradeUnit.candidates.filter fun c => c.jointTurn == (252#8).toInt).length ≠ 1
      ∧ s.gradeUnit.candidateCapture.isSome = true ∧ countInRange (s.reck.count + d) = true
      ∧ (after (.turnConfirm (ms 1) (framed 10 [0#8])) s).gradeUnit.grade = .coarse :=
  ⟨steady_of rfl rfl rfl, by decide +kernel, by decide +kernel, by decide, by decide, rfl, rfl, rfl, by decide, rfl,
    by decide +kernel, by decide +kernel, by decide +kernel, rfl, by decide +kernel, by decide +kernel⟩

theorem test_witness_TurnConfirm_refused :
    let busy := { listing with gradeUnit := { listing.gradeUnit with sub := .marking } }
    let capped := readyEntry .j3 { entryReset with presence := .alive, grade := .lost }
      { coupledTo3 with
        port := { coupledTo3.port with setup := { coupledTo3.port.setup with scaleWraps := true } }
        gradeUnit := listing.gradeUnit }
    Steady busy ∧ busy.gradeUnit.sub ≠ .idle ∧ Steady capped ∧ ceiling capped = .lost ∧ capped.gradeUnit.sub = .idle
      ∧ (setupOf capped).scaleWraps = true ∧ capped.gradeUnit.grade = .lost ∧ capped.gradeUnit.candidates ≠ []
      ∧ ready.gradeUnit.candidates = [] :=
  ⟨steady_of rfl rfl rfl, by decide, steady_of rfl rfl rfl, by decide +kernel, rfl, rfl, rfl, by decide, rfl⟩

theorem test_witness_MarkRequestAndPeerForget_forget :
    ready.levels.rstLow = false ∧ parameters 11 (framed 11 [1#8]) = some [byte (stationNumber .j1)]
      ∧ parameters 11 (framed 11 [6#8]) = some [byte (stationNumber .j6)] ∧ (entry ready .j6).presence = .absent
      ∧ (entry coupledTo3 .j3).presence = .alive
      ∧ (entry (readyEntry .j3 { entryReset with presence := .silent } ready) .j3).presence = .silent := by decide +kernel

theorem test_witness_SetupStores :
    State.reset.levels.rstLow = false ∧ State.reset.phase = .config ∧ LeadHeard State.reset
      ∧ indexOk (1#8).toNat (0#8).toNat = true ∧ numericRange (1#8).toNat = some (10, 16)
      ∧ parameters 16 (framed 16 [1#8, 0#8, 0#8, 0#8, 0#8, 17#8]) = some [1#8, 0#8, 0#8, 0#8, 0#8, 17#8]
      ∧ indexOk (39#8).toNat (6#8).toNat = true
      ∧ parameters 16 (framed 16 [39#8, 6#8, 255#8, 255#8, 255#8, 255#8]) = some [39#8, 6#8, 255#8, 255#8, 255#8, 255#8]
      ∧ indexOk (30#8).toNat (4#8).toNat = true
      ∧ parameters 16 (framed 16 [30#8, 4#8, 0#8, 1#8, 1#8, 3#8]) = some [30#8, 4#8, 0#8, 1#8, 1#8, 3#8]
      ∧ indexOk (24#8).toNat (0#8).toNat = true
      ∧ parameters 16 (framed 16 [24#8, 0#8]) = some [24#8, 0#8] := by
  and_intros <;> first | exact leadHeard_of rfl | exact steady_of rfl rfl rfl | decide +kernel

/-- CONFIG with a travel range that GO accepts. -/
def travelSet : State :=
  withSetup { setupDefault with travelLow := -8388608, travelHigh := 8388607 } State.reset

theorem test_witness_GoStarts :
    let unstrapped := { travelSet with straps := { travelSet.straps with st := 7#3 } }
    let cyclic := withSetup
      { travelSet.port.setup with plan := { setupDefault.plan with lead := ⟨some .j2, some .j1, none, none, none, none⟩ } } State.reset
    Steady travelSet ∧ CountsBounded travelSet ∧ travelSet.search.sub = .none ∧ parameters 17 (framed 17 []) = some [] ∧ travelSet.phase = .config
      ∧ own travelSet = some .j1 ∧ goRefusal travelSet = none ∧ goRefusal State.reset = some .travel
      ∧ own unstrapped = none ∧ planCycle (normalise (setupOf cyclic).plan) = true ∧ own cyclic ≠ none
      ∧ planCycle (normalise (setupOf State.reset).plan) = false ∧ travelBad (setupOf State.reset) = true
      ∧ (after (.go (ms 1) (framed 17 [])) travelSet).phase = .muster :=
  ⟨steady_of rfl rfl rfl, countsBounded_of rfl rfl, rfl, by decide +kernel, rfl, rfl, by decide +kernel,
    by decide +kernel, rfl, by decide +kernel, by decide, by decide +kernel, by decide +kernel, by decide +kernel⟩

/-- Two peers heard in CONFIG with other digests: both reported, the first recorded (R59, log 48). -/
theorem test_witness_GoStarts_mismatch :
    let s := readyEntry .j5 { entryReset with digest := some 8#16 } (readyEntry .j3 { entryReset with digest := some 7#16 } travelSet)
    let t := after (.go (ms 1) (framed 17 [])) s
    Steady s ∧ CountsBounded s ∧ goRefusal s = none ∧ own s = some .j1 ∧ s.fault.record.locked = false
      ∧ t.fault.record.cause = some (.note .planMismatch) ∧ t.fault.record.station = some .j3 ∧ t.fault.record.a = 7
      ∧ (entry t .j5).mismatchReported = true ∧ (entry t .j3).digestMatch = false := by
  dsimp only
  and_intros <;> first | exact countsBounded_of rfl rfl | exact leadHeard_of rfl | decide +kernel

/-- Zone 4 ends at TRAVEL_HIGH + 1, which GO admits, and one above it. -/
theorem test_witness_GoStarts_zone :
    let zoned (high : Int) := withSetup
      { travelSet.port.setup with zone4 := { low := -8388608, high := high, attr := setupDefault.defaultZone } } travelSet
    let s := zoned 8388609
    Steady s ∧ CountsBounded s ∧ s.search.sub = .none ∧ s.phase = .config ∧ own s ≠ none
      ∧ planCycle (normalise (setupOf s).plan) = false ∧ travelBad (setupOf s) = false
      ∧ goRefusal s = some .zone ∧ goRefusal (zoned 8388608) = none
      ∧ (after (.go (ms 1) (framed 17 [])) s).port.slot.reason = .zone := by
  dsimp only
  and_intros <;> first | exact countsBounded_of rfl rfl | exact leadHeard_of rfl | exact steady_of rfl rfl rfl | decide +kernel

theorem test_witness_GoStarts_in_power_failure :
    let s := { travelSet with levels := { travelSet.levels with pfail := true } }
    Steady s ∧ CountsBounded s ∧ s.levels.pfail = true
      ∧ (after (.go { ms := 1#32, pfail := true } (framed 17 [])) s).phase = .down :=
  ⟨steady_of rfl rfl rfl, countsBounded_of rfl rfl, rfl, by decide +kernel⟩

/-! ### One step of the commands not run above -/

theorem test_por_with_invalid_strap :
    let s := after (.por (strapped 7) .erased) ready
    s.phase = .config ∧ s.fault.record.cause = some .strapInvalid ∧ s.fault.record.a = 7 ∧ atn s = true := by decide +kernel

theorem test_pinReset_carries_the_record :
    let s := after (.pinReset (strapped 2) .erased) (locked 3 ready)
    s.fault.record.locked = true ∧ s.fault.record.carried = true ∧ s.straps.lastReset = .pin := by decide +kernel

theorem test_reset_command_answers :
    (after (.reset (ms 1) (framed 31 []) (strapped 3) .erased) ready).port.slot.data = .reset .command 3#3 true := by
  decide +kernel

theorem test_rstNLow_then_a_command :
    (after (.linkIdle (ms 1)) (after (.rstNLow .erased) ready)).link.line = .waitingForIdle
      ∧ (after (.rstNLow .erased) ready).levels.rstLow = true := by decide +kernel

theorem test_startupScanEnd_of_erased_cells :
    (after (.startupScanEnd (ms 1)) State.reset).store.imageA = .empty
      ∧ (after (.startupScanEnd (ms 1)) State.reset).store.imageCal = .empty := by decide +kernel

theorem test_arbitrationLost_keeps_the_frame :
    let s := after (.arbitrationLost ⟨ms 1, 9⟩)
      (readyLink { sending (.status statusFrame) with queue := (PerKind.all none).set .status (some (.status statusFrame)) })
    s.link.line = .receiving ∧ s.link.queue.status = some (.status statusFrame) ∧ s.link.txErrors = 0 := by decide +kernel

theorem test_third_bitError_fails_the_link :
    let s := after (.bitError ⟨ms 1, 10⟩)
      (readyLink { sending (.markCall 3#8) with bitErrors := (PerKind.all 0).set .markCall 2, txErrors := 255 })
    s.phase = .faulted ∧ s.fault.stopSet = [.linkTxFail] ∧ s.link.txErrors = 255 ∧ brkEn s = false := by decide +kernel

/-- The worked rule of R39: the damaged frame of an abandoned attempt is not counted, and the next discarded one is. -/
theorem test_frameDiscard_counts :
    let s := after (.bitError ⟨ms 1, 1⟩) (readyLink (sending (.markCall 3#8)))
    let u := after (.linkIdle (ms 3)) (after (.frameDiscard (ms 2) .framingFailure) s)
    s.link.line = .abandoned ∧ u.link.rxErrors = 0
      ∧ (after (.frameDiscard (ms 4) .framingFailure) { u with link := { u.link with line := .idle } }).link.rxErrors = 1 := by
  decide +kernel

theorem test_haltArrival_ends_the_search :
    let s := after (.haltArrival (ms 1) .j6 .motorJump) jogging
    s.phase = .ready ∧ s.search.outcome = .aborted .halt ∧ (entry s .j6).haltCause = some .motorJump
      ∧ stopCurrent s = true := by decide +kernel

theorem test_markCallArrival_adopted :
    let s := after (.markCallArrival (ms 5) .j5 9#8) ready
    s.mark.state = .holding ∧ s.mark.number = 9#8 ∧ ownPull s = true
      ∧ s.mark.timeout = .running 5#32 250 ∧ s.mark.holdoff = .running 5#32 4 := by decide +kernel

theorem test_markReportArrival_counts :
    let r : MarkReport :=
      { number := 9#8, grade := .restored, captureGood := true, scaleValid := true, pM := 1#16, sM := 2#16, thetaM := some 3 }
    let s := after (.markReportArrival (ms 5) .j5 r) (readyMark { markReset with state := .collecting, number := 9#8 })
    (entry s .j5).report = some r := by decide +kernel

theorem test_releaseArrival_clears_the_flag :
    (entry (after (.releaseArrival (ms 1) .j3) (readyEntry .j3 { entryReset with presence := .alive, claim := true } ready))
      .j3).claim = false := by decide +kernel

theorem test_helloArrival_answered :
    let s := after (.helloArrival (ms 1) .j4 { digest := 3#16, interval := 10#8 }) ready
    (entry s .j4).presence = .alive ∧ (entry s .j4).digest = some 3#16 ∧ s.link.queue.status.isSome = true := by
  decide +kernel

theorem test_alhRise_is_the_edge :
    let s := after (.alhRise (ms 77))
      (readyEntry .j3 { entryReset with presence := .alive }
        { readyMark { markReset with state := .awaitEdge, timeout := running } with levels := State.reset.levels })
    s.mark.state = .collecting ∧ s.mark.edgeTime = some 77#32 ∧ s.mark.timeout = .stopped
      ∧ s.mark.collection = .running 77#32 40 ∧ motInh s = false := by decide +kernel

theorem test_musterTimerExpiry_notes :
    let s := after (.musterTimerExpiry (ms 80)) { phaseOf .muster with
      peers := { peersReset with musterTimer := running } }
    s.fault.record.cause = some (.note .musterIncomplete) ∧ s.phase = .muster := by decide +kernel

theorem test_untakenTimerExpiry_stops :
    let s := after (.untakenTimerExpiry (ms 50)) (postedDir .jogPos true)
    s.phase = .faulted ∧ s.fault.record.cause = some (.stop .directiveUntaken) ∧ s.fault.record.a = 1
      ∧ s.fault.record.b = 50 := by decide +kernel

theorem test_dwellTimerExpiry_raises_the_cap :
    (after (.dwellTimerExpiry (ms 10))
      { ready with zone := { capInForce := .creep, pendingCap := some .full, dwell := running } }).zone
      = { capInForce := .full, pendingCap := none, dwell := .stopped } := by decide +kernel

theorem test_prereqWaitExpiry_fails :
    let s := after (.prereqWaitExpiry (ms 10))
      { inSearch .waitPrereq with search := { searchReset with sub := .waitPrereq, prereqTimer := running } }
    s.phase = .ready ∧ s.search.outcome = .failed .prereqTimeout ∧ s.fault.record.cause = some (.note .referenceFail) := by
  decide +kernel

theorem test_statusRead_answers :
    (after (.statusRead (ms 3) (framed 1 [])) ready).port.slot.status = .ok
      ∧ (after (.statusRead (ms 3) (framed 1 [0#8])) ready).port.slot.status = .checkError := by decide +kernel

theorem test_peerForget_refused_while_alive :
    (after (.peerForget (ms 3) (framed 11 [3#8])) coupledTo3).port.slot.reason = .present
      ∧ (entry (after (.peerForget (ms 3) (framed 11 [3#8]))
          (readyEntry .j3 { entryReset with presence := .down } ready)) .j3).presence = .absent := by decide +kernel

theorem test_directiveTake_takes :
    let s := after (.directiveTake (ms 3) (framed 5 [])) (postedDir .stop false)
    s.claim.dirState = .taken ∧ s.claim.allowance = .running 3#32 300 ∧ s.port.attention.directive = false := by
  decide +kernel

theorem test_markRequest_busy :
    (after (.markRequest (ms 3) (framed 7 [])) (readyMark { markReset with state := .holding })).port.slot.reason = .markBusy
      ∧ (after (.markRequest (ms 3) (framed 7 [])) ready).link.queue.markCall = some (.markCall 1#8) := by decide +kernel

theorem test_unknownCommand :
    (after (.unknownCommand (ms 3) (0x55#8 :: framed 0x55 [])) ready).port.slot.status = .unknown := by decide +kernel

end Sys2Proof.Tests
end

section
/-! PROOFS. The shape of every command: what it does between the tick and the tests at the end of a command, and what those
tests leave as they are. -/

namespace Sys2Proof.Machine

/-! ### Every command as an effect between the tick and the closing tests -/

/-- The instant of a command that is no reset. -/
def instantOf : Instr → Instant
  | .motorSample now _ _ | .scaleSample now _ | .startupScanEnd now | .writeCompletion now _ | .recoveryRead now
  | .pfailAsserted now | .linkIdle now | .frameDiscard now _ | .haltArrival now _ _ | .powerDownArrival now _ _
  | .markCallArrival now _ _ | .markReportArrival now _ _ | .claimArrival now _ _ | .releaseArrival now _
  | .statusArrival now _ _ | .helloArrival now _ _ | .alhFall now | .alhRise now | .heartbeatExpiry now
  | .musterTimerExpiry now | .quietTimerExpiry now | .holdoffExpiry now | .markTimeoutExpiry now
  | .collectionTimerExpiry now | .leadReportWaitExpiry now | .untakenTimerExpiry now | .allowanceTimerExpiry now
  | .dwellTimerExpiry now | .prereqWaitExpiry now | .settleFirstIntervalEnd now | .settleEnd now
  | .transactionIgnored now | .fetch now | .statusRead now _ | .peerRead now _ | .faultRead now _ | .faultClear now _
  | .directiveTake now _ | .storeRead now _ | .markRequest now _ | .referenceStart now _ | .referenceAbort now _
  | .turnConfirm now _ | .peerForget now _ | .setup now _ | .go now _ | .reset now _ _ _ | .unknownCommand now _ => now
  | .arbitrationLost at_ | .bitError at_ => at_.now
  | .por _ _ | .pinReset _ _ | .rstNLow _ => { ms := 0#32, pfail := false }

/-- What a command that is no reset does between the tick and the tests at its end. -/
def effectOf : Instr → State → State
  | .motorSample _ (.good p) flag, s => goodMotorSample (p.toNat % cprOf (setupOf s)) flag s
  | .motorSample _ .bad flag, s => badMotorSample flag s
  | .scaleSample _ (.good v), s => goodScaleSample v.toNat s
  | .scaleSample _ .bad, s => badScaleSample s
  | .startupScanEnd _, s => scanEvent s
  | .writeCompletion _ rb, s => writeEvent rb s
  | .recoveryRead _, s => readEvent s
  | .pfailAsserted _, s => pfailEvent s
  | .linkIdle _, s => idleEvent s
  | .arbitrationLost at_, s => loseArbitration at_.bit s
  | .bitError at_, s => bitErrorEvent at_.bit s
  | .frameDiscard _ r, s => discardEvent r s
  | .haltArrival _ k c, s => arrive k (.halt c) noMore (haltFromPeer k) s
  | .powerDownArrival _ k f, s => arrive k (.powerDown f) noMore (leadAngle k f.theta) s
  | .markCallArrival _ k n, s => arrive k (.markCall n) (takeCall k n) (takeCall k n) s
  | .markReportArrival _ k r, s => arrive k (.markReport r) (reportEcho k r.number) (reportFromPeer k r) s
  | .claimArrival _ k p, s => arrive k (.claim p) claimEcho (claimFromPeer k) s
  | .releaseArrival _ k, s => arrive k .release releaseEcho noMore s
  | .statusArrival _ k f, s => arrive k (.status f) noMore (statusFromPeer k f) s
  | .helloArrival _ k f, s => arrive k (.hello f) noMore noMore s
  | .alhFall _, s => fallEvent s
  | .alhRise _, s => riseEvent s
  | .heartbeatExpiry _, s => heartbeatEvent s
  | .musterTimerExpiry _, s => musterTimerEvent s
  | .quietTimerExpiry _, s => quietEvent s
  | .holdoffExpiry _, s => holdoffEvent s
  | .markTimeoutExpiry _, s => markTimeoutEvent s
  | .collectionTimerExpiry _, s => collectionEvent s
  | .leadReportWaitExpiry _, s => leadWaitEvent s
  | .untakenTimerExpiry _, s => untakenEvent s
  | .allowanceTimerExpiry _, s => allowanceEvent s
  | .dwellTimerExpiry _, s => dwellEvent s
  | .prereqWaitExpiry _, s => prereqEvent s
  | .settleFirstIntervalEnd _, s => settleFirstEvent s
  | .settleEnd _, s => settleEndEvent s
  | .transactionIgnored _, s => { s with port := { s.port with shifted := .allOnes } }
  | .fetch _, s => openTransaction s
  | .statusRead _ r, s => command 1 r noParameters anyDomain everyPhase (fun _ => statusReadAct) s
  | .peerRead _ r, s => command 2 r oneParameter stationDomain everyPhase peerReadAct s
  | .faultRead _ r, s => command 3 r noParameters anyDomain everyPhase (fun _ => faultReadAct) s
  | .faultClear _ r, s => command 4 r noParameters anyDomain everyPhase (fun _ => faultClearAct) s
  | .directiveTake _ r, s => command 5 r noParameters anyDomain everyPhase (fun _ => directiveTakeAct) s
  | .storeRead _ r, s => command 6 r oneParameter recordDomain everyPhase storeReadAct s
  | .markRequest _ r, s => command 7 r noParameters anyDomain readyOnly (fun _ => markRequestAct) s
  | .referenceStart _ r, s => command 8 r noParameters anyDomain readyOnly (fun _ => referenceStartAct) s
  | .referenceAbort _ r, s => command 9 r noParameters anyDomain referenceOnly (fun _ => referenceAbortAct) s
  | .turnConfirm _ r, s => command 10 r oneParameter turnDomain readyOnly turnConfirmAct s
  | .peerForget _ r, s => command 11 r oneParameter stationDomain everyPhase peerForgetAct s
  | .setup _ r, s => command 16 r setupLength setupDomain configOnly setupAct s
  | .go _ r, s => command 17 r noParameters anyDomain configOnly (fun _ => goAct) s
  | .unknownCommand _ cs, s => unknownAct cs (openTransaction s)
  | .por _ _, s | .pinReset _ _, s | .reset _ _ _ _, s | .rstNLow _, s => s

/-- Whether a command asks for a STATUS whatever has changed. -/
def forcesStatus : Instr → State → Bool
  | .heartbeatExpiry _, s => timerRunning s.link.heartbeat
  | .helloArrival _ k f, s => helloFromPeer k f s
  | _, _ => false

/-- A command that changes the station runs its effect between the tick and the tests at the end. -/
theorem exec_running (c : Instr) (s : State) (hr : isReset c = false) (hd : readsOnly c = false) :
    exec c s = .next (running (instantOf c) s (effectOf c) (forcesStatus c s)) := by
  cases c with
  | motorSample now r f => cases r <;> rfl
  | scaleSample now r => cases r <;> rfl
  | _ => first | rfl | exact absurd hr Bool.noConfusion | exact absurd hd Bool.noConfusion

/-- A command that only reads runs its effect after the tick, and nothing follows. -/
theorem exec_reading (c : Instr) (s : State) (hd : readsOnly c = true) :
    exec c s = .next (reading (instantOf c) s (effectOf c)) := by
  cases c <;> first | rfl | exact absurd hd Bool.noConfusion

/-- What a command that is no reset can answer: the state it found while RST_N is low, its effect after the tick if it only
reads, and otherwise its effect followed by the tests at the end. -/
theorem exec_cases {c : Instr} {s t : State} (h : exec c s = .next t) (hr : isReset c = false) :
    t = s ∨ readsOnly c = true ∧ t = effectOf c (tick (instantOf c) s)
      ∨ readsOnly c = false ∧ s.levels.rstLow = false
        ∧ t = finish (forcesStatus c s) (tick (instantOf c) s) (effectOf c (tick (instantOf c) s)) := by
  cases hd : readsOnly c with
  | true =>
    rw [exec_reading c s hd] at h
    cases h
    unfold reading
    split <;> simp
  | false =>
    rw [exec_running c s hr hd] at h
    cases h
    unfold running
    split <;> simp_all

/-- A property that the tick, the effect and the closing tests keep holds after every command that is no reset. -/
theorem exec_keeps {P : State → Prop} {c : Instr} {s t : State} (h : exec c s = .next t) (hr : isReset c = false)
    (hs : P s) (htick : P (tick (instantOf c) s)) (heffect : ∀ u, P u → P (effectOf c u))
    (hfinish : ∀ force s0 u, P u → P (finish force s0 u)) : P t := by
  obtain rfl | ⟨-, rfl⟩ | ⟨-, -, rfl⟩ := exec_cases h hr
  · exact hs
  · exact heffect _ htick
  · exact hfinish _ _ _ (heffect _ htick)

/-- What an arrival can come to: nothing while the receiver waits for idle, a discard, the own echo, a duplicate's frame, or a
peer's frame. -/
theorem arrive_keeps {P : State → Prop} (k : Station) (f : Frame) (onEcho onPeer : State → State) (s : State) (hs : P s)
    (hdiscard : P (discardFrame s)) (hecho : ∀ a, P (onEcho (ownArrival k f (completeAttempt a s))))
    (hduplicate : P (duplicate k f s)) (hpeer : P (onPeer (peerArrival k f (setLine .waitingForIdle s)))) :
    P (arrive k f onEcho onPeer s) := by
  unfold arrive
  split_ifs
  · exact hs
  · exact hdiscard
  · split
    · exact hecho _
    · exact hduplicate
  · exact hpeer

/-- What a command of the drive port can come to: an answer that refuses it, or its own rule. -/
theorem command_keeps {P : State → Prop} (code : Nat) (rest : List Byte) (lengthOk domainOk : List Byte → Bool)
    (phaseOk : Phase → Bool) (act : List Byte → State → State) (s : State)
    (hanswer : ∀ st, P (answer code st .none .none (openTransaction s)))
    (hact : ∀ ps, parameters code rest = some ps → phaseOk s.phase = true → P (act ps (openTransaction s))) :
    P (command code rest lengthOk domainOk phaseOk act s) := by
  unfold command
  split
  · exact hanswer _
  · next ps hps =>
    dsimp only
    split_ifs with hl hd hp
    · exact hanswer _
    · exact hanswer _
    · exact hanswer _
    · exact hact ps hps (by simpa using hp)

/-! ### The tests at the end of a command -/

@[simp] theorem finish_frame (force : Bool) (s0 s : State) :
    (finish force s0 s).ms = s.ms
      ∧ (finish force s0 s).straps = s.straps
      ∧ (finish force s0 s).levels = s.levels
      ∧ (finish force s0 s).sensor = s.sensor
      ∧ (finish force s0 s).port.setup = s.port.setup
      ∧ (finish force s0 s).port.frozen = s.port.frozen
      ∧ (finish force s0 s).port.tau = s.port.tau
      ∧ (finish force s0 s).port.span = s.port.span
      ∧ (finish force s0 s).port.slot = s.port.slot
      ∧ (finish force s0 s).port.shifted = s.port.shifted
      ∧ (finish force s0 s).port.lastEnd = s.port.lastEnd
      ∧ (finish force s0 s).port.changedPeers = s.port.changedPeers
      ∧ (finish force s0 s).pending = s.pending
      ∧ (finish force s0 s).reck.started = s.reck.started
      ∧ (finish force s0 s).reck.lastGood = s.reck.lastGood
      ∧ (finish force s0 s).reck.theta0 = s.reck.theta0
      ∧ (finish force s0 s).reck.sigma = s.reck.sigma
      ∧ (finish force s0 s).reck.calibrated = s.reck.calibrated
      ∧ (finish force s0 s).reck.thetaScale = s.reck.thetaScale
      ∧ (finish force s0 s).reck.atRest = s.reck.atRest
      ∧ (finish force s0 s).link.bitErrors = s.link.bitErrors
      ∧ (finish force s0 s).link.txErrors = s.link.txErrors
      ∧ (finish force s0 s).link.rxErrors = s.link.rxErrors
      ∧ (finish force s0 s).link.txFail = s.link.txFail
      ∧ (finish force s0 s).link.lastDuplicate = s.link.lastDuplicate
      ∧ (finish force s0 s).link.heartbeat = s.link.heartbeat
      ∧ (finish force s0 s).peers.entries = s.peers.entries
      ∧ (finish force s0 s).peers.digest = s.peers.digest
      ∧ (finish force s0 s).mark.number = s.mark.number
      ∧ (finish force s0 s).mark.reported = s.mark.reported
      ∧ (finish force s0 s).mark.captureRequested = s.mark.captureRequested
      ∧ (finish force s0 s).store.cellsA = s.store.cellsA
      ∧ (finish force s0 s).store.cellsB = s.store.cellsB
      ∧ (finish force s0 s).store.cellsCal = s.store.cellsCal
      ∧ (finish force s0 s).store.calSeq = s.store.calSeq
      ∧ (finish force s0 s).store.scanDone = s.store.scanDone
      ∧ (finish force s0 s).search.passes = s.search.passes
      ∧ (finish force s0 s).search.level = s.search.level
      ∧ (finish force s0 s).search.total = s.search.total
      ∧ (finish force s0 s).search.plus = s.search.plus := by
  simp [finish]

end Sys2Proof.Machine
end

section
/-! PROOFS. What the remaining operations leave unchanged: write completions, the heartbeat, GO, arrivals. -/

namespace Sys2Proof.Machine

@[simp] theorem calibrationDone_frame (o : WriteOutcome) (s : State) :
    (calibrationDone o s).ms = s.ms
      ∧ (calibrationDone o s).straps = s.straps
      ∧ (calibrationDone o s).levels = s.levels
      ∧ (calibrationDone o s).sensor = s.sensor
      ∧ (calibrationDone o s).zone = s.zone
      ∧ (calibrationDone o s).free = s.free
      ∧ (calibrationDone o s).pending = s.pending
      ∧ (calibrationDone o s).reck.count = s.reck.count
      ∧ (calibrationDone o s).reck.started = s.reck.started
      ∧ (calibrationDone o s).reck.lastGood = s.reck.lastGood
      ∧ (calibrationDone o s).reck.held = s.reck.held
      ∧ (calibrationDone o s).reck.turnOffset = s.reck.turnOffset
      ∧ (calibrationDone o s).reck.theta0 = s.reck.theta0
      ∧ (calibrationDone o s).reck.sigma = s.reck.sigma
      ∧ (calibrationDone o s).reck.calibrated = s.reck.calibrated
      ∧ (calibrationDone o s).reck.thetaScale = s.reck.thetaScale
      ∧ (calibrationDone o s).reck.anchor = s.reck.anchor
      ∧ (calibrationDone o s).reck.atRest = s.reck.atRest
      ∧ (calibrationDone o s).link.bitErrors = s.link.bitErrors
      ∧ (calibrationDone o s).link.txErrors = s.link.txErrors
      ∧ (calibrationDone o s).link.rxErrors = s.link.rxErrors
      ∧ (calibrationDone o s).link.txFail = s.link.txFail
      ∧ (calibrationDone o s).link.lastDuplicate = s.link.lastDuplicate
      ∧ (calibrationDone o s).link.heartbeat = s.link.heartbeat
      ∧ (calibrationDone o s).peers.entries = s.peers.entries
      ∧ (calibrationDone o s).peers.digest = s.peers.digest
      ∧ (calibrationDone o s).mark = s.mark
      ∧ (calibrationDone o s).store.cellsA = s.store.cellsA
      ∧ (calibrationDone o s).store.cellsB = s.store.cellsB
      ∧ (calibrationDone o s).store.cellsCal = s.store.cellsCal
      ∧ (calibrationDone o s).store.imageA = s.store.imageA
      ∧ (calibrationDone o s).store.imageB = s.store.imageB
      ∧ (calibrationDone o s).store.imageCal = s.store.imageCal
      ∧ (calibrationDone o s).store.calSeq = s.store.calSeq
      ∧ (calibrationDone o s).store.inFlight = s.store.inFlight
      ∧ (calibrationDone o s).store.pendingCal = s.store.pendingCal
      ∧ (calibrationDone o s).store.scanDone = s.store.scanDone
      ∧ (calibrationDone o s).gradeUnit.sub = s.gradeUnit.sub
      ∧ (calibrationDone o s).gradeUnit.readPending = s.gradeUnit.readPending
      ∧ (calibrationDone o s).gradeUnit.held = s.gradeUnit.held
      ∧ (calibrationDone o s).gradeUnit.leadReport = s.gradeUnit.leadReport
      ∧ (calibrationDone o s).gradeUnit.candidates = s.gradeUnit.candidates
      ∧ (calibrationDone o s).gradeUnit.chosen = s.gradeUnit.chosen
      ∧ (calibrationDone o s).search.passes = s.search.passes
      ∧ (calibrationDone o s).search.level = s.search.level
      ∧ (calibrationDone o s).search.total = s.search.total
      ∧ (calibrationDone o s).search.plus = s.search.plus
      ∧ (calibrationDone o s).port.setup = s.port.setup
      ∧ (calibrationDone o s).port.frozen = s.port.frozen
      ∧ (calibrationDone o s).port.tau = s.port.tau
      ∧ (calibrationDone o s).port.span = s.port.span
      ∧ (calibrationDone o s).port.slot = s.port.slot
      ∧ (calibrationDone o s).port.shifted = s.port.shifted
      ∧ (calibrationDone o s).port.lastEnd = s.port.lastEnd
      ∧ (calibrationDone o s).port.changedPeers = s.port.changedPeers := by
  unfold calibrationDone
  dsimp only
  split <;> simp

@[simp] theorem calDone_frame (r : CalRecord) (rb : ReadBack) (s : State) :
    (calDone r rb s).ms = s.ms
      ∧ (calDone r rb s).straps = s.straps
      ∧ (calDone r rb s).levels = s.levels
      ∧ (calDone r rb s).sensor = s.sensor
      ∧ (calDone r rb s).zone = s.zone
      ∧ (calDone r rb s).free = s.free
      ∧ (calDone r rb s).pending = s.pending
      ∧ (calDone r rb s).reck.count = s.reck.count
      ∧ (calDone r rb s).reck.started = s.reck.started
      ∧ (calDone r rb s).reck.lastGood = s.reck.lastGood
      ∧ (calDone r rb s).reck.held = s.reck.held
      ∧ (calDone r rb s).reck.turnOffset = s.reck.turnOffset
      ∧ (calDone r rb s).reck.anchor = s.reck.anchor
      ∧ (calDone r rb s).reck.atRest = s.reck.atRest
      ∧ (calDone r rb s).link.bitErrors = s.link.bitErrors
      ∧ (calDone r rb s).link.txErrors = s.link.txErrors
      ∧ (calDone r rb s).link.rxErrors = s.link.rxErrors
      ∧ (calDone r rb s).link.txFail = s.link.txFail
      ∧ (calDone r rb s).link.lastDuplicate = s.link.lastDuplicate
      ∧ (calDone r rb s).link.heartbeat = s.link.heartbeat
      ∧ (calDone r rb s).peers.entries = s.peers.entries
      ∧ (calDone r rb s).peers.digest = s.peers.digest
      ∧ (calDone r rb s).mark = s.mark
      ∧ (calDone r rb s).store.cellsA = s.store.cellsA
      ∧ (calDone r rb s).store.cellsB = s.store.cellsB
      ∧ (calDone r rb s).store.imageA = s.store.imageA
      ∧ (calDone r rb s).store.imageB = s.store.imageB
      ∧ (calDone r rb s).store.pendingCal = s.store.pendingCal
      ∧ (calDone r rb s).store.scanDone = s.store.scanDone
      ∧ (calDone r rb s).gradeUnit.sub = s.gradeUnit.sub
      ∧ (calDone r rb s).gradeUnit.readPending = s.gradeUnit.readPending
      ∧ (calDone r rb s).gradeUnit.held = s.gradeUnit.held
      ∧ (calDone r rb s).gradeUnit.leadReport = s.gradeUnit.leadReport
      ∧ (calDone r rb s).gradeUnit.candidates = s.gradeUnit.candidates
      ∧ (calDone r rb s).gradeUnit.chosen = s.gradeUnit.chosen
      ∧ (calDone r rb s).search.passes = s.search.passes
      ∧ (calDone r rb s).search.level = s.search.level
      ∧ (calDone r rb s).search.total = s.search.total
      ∧ (calDone r rb s).search.plus = s.search.plus
      ∧ (calDone r rb s).port.setup = s.port.setup
      ∧ (calDone r rb s).port.frozen = s.port.frozen
      ∧ (calDone r rb s).port.tau = s.port.tau
      ∧ (calDone r rb s).port.span = s.port.span
      ∧ (calDone r rb s).port.slot = s.port.slot
      ∧ (calDone r rb s).port.shifted = s.port.shifted
      ∧ (calDone r rb s).port.lastEnd = s.port.lastEnd
      ∧ (calDone r rb s).port.changedPeers = s.port.changedPeers := by
  unfold calDone
  dsimp only
  split_ifs <;> simp

@[simp] theorem writeEvent_frame (rb : ReadBack) (s : State) :
    (writeEvent rb s).ms = s.ms
      ∧ (writeEvent rb s).straps = s.straps
      ∧ (writeEvent rb s).levels = s.levels
      ∧ (writeEvent rb s).sensor = s.sensor
      ∧ (writeEvent rb s).zone = s.zone
      ∧ (writeEvent rb s).free = s.free
      ∧ (writeEvent rb s).pending = s.pending
      ∧ (writeEvent rb s).reck.count = s.reck.count
      ∧ (writeEvent rb s).reck.started = s.reck.started
      ∧ (writeEvent rb s).reck.lastGood = s.reck.lastGood
      ∧ (writeEvent rb s).reck.held = s.reck.held
      ∧ (writeEvent rb s).reck.turnOffset = s.reck.turnOffset
      ∧ (writeEvent rb s).reck.anchor = s.reck.anchor
      ∧ (writeEvent rb s).reck.atRest = s.reck.atRest
      ∧ (writeEvent rb s).link.bitErrors = s.link.bitErrors
      ∧ (writeEvent rb s).link.txErrors = s.link.txErrors
      ∧ (writeEvent rb s).link.rxErrors = s.link.rxErrors
      ∧ (writeEvent rb s).link.txFail = s.link.txFail
      ∧ (writeEvent rb s).link.lastDuplicate = s.link.lastDuplicate
      ∧ (writeEvent rb s).link.heartbeat = s.link.heartbeat
      ∧ (writeEvent rb s).peers.entries = s.peers.entries
      ∧ (writeEvent rb s).peers.digest = s.peers.digest
      ∧ (writeEvent rb s).mark = s.mark
      ∧ (writeEvent rb s).gradeUnit.sub = s.gradeUnit.sub
      ∧ (writeEvent rb s).gradeUnit.readPending = s.gradeUnit.readPending
      ∧ (writeEvent rb s).gradeUnit.held = s.gradeUnit.held
      ∧ (writeEvent rb s).gradeUnit.leadReport = s.gradeUnit.leadReport
      ∧ (writeEvent rb s).gradeUnit.candidates = s.gradeUnit.candidates
      ∧ (writeEvent rb s).gradeUnit.chosen = s.gradeUnit.chosen
      ∧ (writeEvent rb s).search.passes = s.search.passes
      ∧ (writeEvent rb s).search.level = s.search.level
      ∧ (writeEvent rb s).search.total = s.search.total
      ∧ (writeEvent rb s).search.plus = s.search.plus
      ∧ (writeEvent rb s).port.setup = s.port.setup
      ∧ (writeEvent rb s).port.frozen = s.port.frozen
      ∧ (writeEvent rb s).port.tau = s.port.tau
      ∧ (writeEvent rb s).port.span = s.port.span
      ∧ (writeEvent rb s).port.slot = s.port.slot
      ∧ (writeEvent rb s).port.shifted = s.port.shifted
      ∧ (writeEvent rb s).port.lastEnd = s.port.lastEnd
      ∧ (writeEvent rb s).port.changedPeers = s.port.changedPeers := by
  unfold writeEvent
  split <;> simp

@[simp] theorem countSilence_frame (s : State) :
    (countSilence s).phase = s.phase
      ∧ (countSilence s).ms = s.ms
      ∧ (countSilence s).straps = s.straps
      ∧ (countSilence s).levels = s.levels
      ∧ (countSilence s).sensor = s.sensor
      ∧ (countSilence s).reck = s.reck
      ∧ (countSilence s).link = s.link
      ∧ (countSilence s).mark = s.mark
      ∧ (countSilence s).store = s.store
      ∧ (countSilence s).gradeUnit = s.gradeUnit
      ∧ (countSilence s).claim = s.claim
      ∧ (countSilence s).search = s.search
      ∧ (countSilence s).zone = s.zone
      ∧ (countSilence s).pending = s.pending
      ∧ (countSilence s).peers.musterTimer = s.peers.musterTimer
      ∧ (countSilence s).peers.digest = s.peers.digest
      ∧ (countSilence s).fault.stopSet = s.fault.stopSet
      ∧ (countSilence s).port.setup = s.port.setup
      ∧ (countSilence s).port.frozen = s.port.frozen
      ∧ (countSilence s).port.tau = s.port.tau
      ∧ (countSilence s).port.span = s.port.span
      ∧ (countSilence s).port.slot = s.port.slot
      ∧ (countSilence s).port.shifted = s.port.shifted
      ∧ (countSilence s).port.lastEnd = s.port.lastEnd := by
  simp [countSilence, Station.all]

@[simp] theorem heartbeatEvent_frame (s : State) :
    (heartbeatEvent s).phase = s.phase
      ∧ (heartbeatEvent s).ms = s.ms
      ∧ (heartbeatEvent s).straps = s.straps
      ∧ (heartbeatEvent s).levels = s.levels
      ∧ (heartbeatEvent s).sensor = s.sensor
      ∧ (heartbeatEvent s).reck = s.reck
      ∧ (heartbeatEvent s).mark = s.mark
      ∧ (heartbeatEvent s).store = s.store
      ∧ (heartbeatEvent s).gradeUnit = s.gradeUnit
      ∧ (heartbeatEvent s).claim = s.claim
      ∧ (heartbeatEvent s).search = s.search
      ∧ (heartbeatEvent s).zone = s.zone
      ∧ (heartbeatEvent s).pending = s.pending
      ∧ (heartbeatEvent s).link.bitErrors = s.link.bitErrors
      ∧ (heartbeatEvent s).link.txErrors = s.link.txErrors
      ∧ (heartbeatEvent s).link.rxErrors = s.link.rxErrors
      ∧ (heartbeatEvent s).link.txFail = s.link.txFail
      ∧ (heartbeatEvent s).link.lastDuplicate = s.link.lastDuplicate
      ∧ (heartbeatEvent s).peers.musterTimer = s.peers.musterTimer
      ∧ (heartbeatEvent s).peers.digest = s.peers.digest
      ∧ (heartbeatEvent s).fault.stopSet = s.fault.stopSet
      ∧ (heartbeatEvent s).port.setup = s.port.setup
      ∧ (heartbeatEvent s).port.frozen = s.port.frozen
      ∧ (heartbeatEvent s).port.tau = s.port.tau
      ∧ (heartbeatEvent s).port.span = s.port.span
      ∧ (heartbeatEvent s).port.slot = s.port.slot
      ∧ (heartbeatEvent s).port.shifted = s.port.shifted
      ∧ (heartbeatEvent s).port.lastEnd = s.port.lastEnd := by
  unfold heartbeatEvent
  split_ifs <;> simp

@[simp] theorem mismatchesAtGo_frame (s : State) :
    (mismatchesAtGo s).phase = s.phase
      ∧ (mismatchesAtGo s).ms = s.ms
      ∧ (mismatchesAtGo s).straps = s.straps
      ∧ (mismatchesAtGo s).levels = s.levels
      ∧ (mismatchesAtGo s).sensor = s.sensor
      ∧ (mismatchesAtGo s).reck = s.reck
      ∧ (mismatchesAtGo s).link = s.link
      ∧ (mismatchesAtGo s).mark = s.mark
      ∧ (mismatchesAtGo s).store = s.store
      ∧ (mismatchesAtGo s).gradeUnit = s.gradeUnit
      ∧ (mismatchesAtGo s).claim = s.claim
      ∧ (mismatchesAtGo s).search = s.search
      ∧ (mismatchesAtGo s).zone = s.zone
      ∧ (mismatchesAtGo s).pending = s.pending
      ∧ (mismatchesAtGo s).free = s.free
      ∧ (mismatchesAtGo s).peers.musterTimer = s.peers.musterTimer
      ∧ (mismatchesAtGo s).peers.digest = s.peers.digest
      ∧ (mismatchesAtGo s).fault.stopSet = s.fault.stopSet
      ∧ (mismatchesAtGo s).port.setup = s.port.setup
      ∧ (mismatchesAtGo s).port.frozen = s.port.frozen
      ∧ (mismatchesAtGo s).port.tau = s.port.tau
      ∧ (mismatchesAtGo s).port.span = s.port.span
      ∧ (mismatchesAtGo s).port.slot = s.port.slot
      ∧ (mismatchesAtGo s).port.shifted = s.port.shifted
      ∧ (mismatchesAtGo s).port.lastEnd = s.port.lastEnd
      ∧ (mismatchesAtGo s).port.changedPeers = s.port.changedPeers := by
  simp only [mismatchesAtGo, Station.all, List.foldl]
  split_ifs <;> simp

@[simp] theorem enterMuster_frame (s : State) :
    (enterMuster s).ms = s.ms
      ∧ (enterMuster s).straps = s.straps
      ∧ (enterMuster s).levels = s.levels
      ∧ (enterMuster s).sensor = s.sensor
      ∧ (enterMuster s).reck = s.reck
      ∧ (enterMuster s).mark = s.mark
      ∧ (enterMuster s).gradeUnit = s.gradeUnit
      ∧ (enterMuster s).claim = s.claim
      ∧ (enterMuster s).search = s.search
      ∧ (enterMuster s).zone = s.zone
      ∧ (enterMuster s).pending = s.pending
      ∧ (enterMuster s).free = s.free
      ∧ (enterMuster s).link.bitErrors = s.link.bitErrors
      ∧ (enterMuster s).link.txErrors = s.link.txErrors
      ∧ (enterMuster s).link.rxErrors = s.link.rxErrors
      ∧ (enterMuster s).link.txFail = s.link.txFail
      ∧ (enterMuster s).link.lastDuplicate = s.link.lastDuplicate
      ∧ (enterMuster s).store.cellsA = s.store.cellsA
      ∧ (enterMuster s).store.cellsB = s.store.cellsB
      ∧ (enterMuster s).store.cellsCal = s.store.cellsCal
      ∧ (enterMuster s).store.imageA = s.store.imageA
      ∧ (enterMuster s).store.imageB = s.store.imageB
      ∧ (enterMuster s).store.imageCal = s.store.imageCal
      ∧ (enterMuster s).store.calSeq = s.store.calSeq
      ∧ (enterMuster s).store.inFlight = s.store.inFlight
      ∧ (enterMuster s).store.pendingCal = s.store.pendingCal
      ∧ (enterMuster s).store.pendingSnap = s.store.pendingSnap
      ∧ (enterMuster s).store.scanDone = s.store.scanDone
      ∧ (enterMuster s).port.setup = s.port.setup
      ∧ (enterMuster s).port.frozen = s.port.frozen
      ∧ (enterMuster s).port.tau = s.port.tau
      ∧ (enterMuster s).port.span = s.port.span
      ∧ (enterMuster s).port.slot = s.port.slot
      ∧ (enterMuster s).port.shifted = s.port.shifted
      ∧ (enterMuster s).port.lastEnd = s.port.lastEnd := by
  unfold enterMuster
  cases own s <;> simp

@[simp] theorem start_frame (s : State) :
    (start s).ms = s.ms
      ∧ (start s).straps = s.straps
      ∧ (start s).levels = s.levels
      ∧ (start s).sensor = s.sensor
      ∧ (start s).zone = s.zone
      ∧ (start s).free = s.free
      ∧ (start s).pending = s.pending
      ∧ (start s).reck.count = s.reck.count
      ∧ (start s).reck.started = s.reck.started
      ∧ (start s).reck.lastGood = s.reck.lastGood
      ∧ (start s).reck.held = s.reck.held
      ∧ (start s).reck.turnOffset = s.reck.turnOffset
      ∧ (start s).reck.theta0 = s.reck.theta0
      ∧ (start s).reck.sigma = s.reck.sigma
      ∧ (start s).reck.calibrated = s.reck.calibrated
      ∧ (start s).reck.basis = s.reck.basis
      ∧ (start s).reck.thetaScale = s.reck.thetaScale
      ∧ (start s).reck.anchor = s.reck.anchor
      ∧ (start s).reck.atRest = s.reck.atRest
      ∧ (start s).reck.drift = s.reck.drift
      ∧ (start s).link.bitErrors = s.link.bitErrors
      ∧ (start s).link.txErrors = s.link.txErrors
      ∧ (start s).link.rxErrors = s.link.rxErrors
      ∧ (start s).link.txFail = s.link.txFail
      ∧ (start s).link.lastDuplicate = s.link.lastDuplicate
      ∧ (start s).mark.number = s.mark.number
      ∧ (start s).mark.reported = s.mark.reported
      ∧ (start s).mark.quiet = s.mark.quiet
      ∧ (start s).store.cellsA = s.store.cellsA
      ∧ (start s).store.cellsB = s.store.cellsB
      ∧ (start s).store.cellsCal = s.store.cellsCal
      ∧ (start s).store.imageA = s.store.imageA
      ∧ (start s).store.imageB = s.store.imageB
      ∧ (start s).store.imageCal = s.store.imageCal
      ∧ (start s).store.calSeq = s.store.calSeq
      ∧ (start s).store.inFlight = s.store.inFlight
      ∧ (start s).store.pendingCal = s.store.pendingCal
      ∧ (start s).store.scanDone = s.store.scanDone
      ∧ (start s).gradeUnit.grade = s.gradeUnit.grade
      ∧ (start s).gradeUnit.chosen = s.gradeUnit.chosen
      ∧ (start s).claim.purpose = s.claim.purpose
      ∧ (start s).search.passes = s.search.passes
      ∧ (start s).search.level = s.search.level
      ∧ (start s).search.total = s.search.total
      ∧ (start s).search.plus = s.search.plus
      ∧ (start s).port.slot = s.port.slot
      ∧ (start s).port.shifted = s.port.shifted
      ∧ (start s).port.lastEnd = s.port.lastEnd := by
  unfold start
  dsimp only
  split_ifs <;> simp

@[simp] theorem goAct_frame (s : State) :
    (goAct s).ms = s.ms
      ∧ (goAct s).straps = s.straps
      ∧ (goAct s).levels = s.levels
      ∧ (goAct s).sensor = s.sensor
      ∧ (goAct s).zone = s.zone
      ∧ (goAct s).free = s.free
      ∧ (goAct s).pending = s.pending
      ∧ (goAct s).reck.count = s.reck.count
      ∧ (goAct s).reck.started = s.reck.started
      ∧ (goAct s).reck.lastGood = s.reck.lastGood
      ∧ (goAct s).reck.held = s.reck.held
      ∧ (goAct s).reck.turnOffset = s.reck.turnOffset
      ∧ (goAct s).reck.theta0 = s.reck.theta0
      ∧ (goAct s).reck.sigma = s.reck.sigma
      ∧ (goAct s).reck.calibrated = s.reck.calibrated
      ∧ (goAct s).reck.basis = s.reck.basis
      ∧ (goAct s).reck.thetaScale = s.reck.thetaScale
      ∧ (goAct s).reck.anchor = s.reck.anchor
      ∧ (goAct s).reck.atRest = s.reck.atRest
      ∧ (goAct s).reck.drift = s.reck.drift
      ∧ (goAct s).link.bitErrors = s.link.bitErrors
      ∧ (goAct s).link.txErrors = s.link.txErrors
      ∧ (goAct s).link.rxErrors = s.link.rxErrors
      ∧ (goAct s).link.txFail = s.link.txFail
      ∧ (goAct s).link.lastDuplicate = s.link.lastDuplicate
      ∧ (goAct s).mark.number = s.mark.number
      ∧ (goAct s).mark.reported = s.mark.reported
      ∧ (goAct s).mark.quiet = s.mark.quiet
      ∧ (goAct s).store.cellsA = s.store.cellsA
      ∧ (goAct s).store.cellsB = s.store.cellsB
      ∧ (goAct s).store.cellsCal = s.store.cellsCal
      ∧ (goAct s).store.imageA = s.store.imageA
      ∧ (goAct s).store.imageB = s.store.imageB
      ∧ (goAct s).store.imageCal = s.store.imageCal
      ∧ (goAct s).store.calSeq = s.store.calSeq
      ∧ (goAct s).store.inFlight = s.store.inFlight
      ∧ (goAct s).store.pendingCal = s.store.pendingCal
      ∧ (goAct s).store.scanDone = s.store.scanDone
      ∧ (goAct s).gradeUnit.grade = s.gradeUnit.grade
      ∧ (goAct s).gradeUnit.chosen = s.gradeUnit.chosen
      ∧ (goAct s).claim.purpose = s.claim.purpose
      ∧ (goAct s).search.passes = s.search.passes
      ∧ (goAct s).search.level = s.search.level
      ∧ (goAct s).search.total = s.search.total
      ∧ (goAct s).search.plus = s.search.plus
      ∧ (goAct s).port.shifted = s.port.shifted
      ∧ (goAct s).port.lastEnd = s.port.lastEnd := by
  unfold goAct
  split <;> simp

/-- An arrival leaves the sensing, the cells and images, the setup and the response slot as they are. -/
theorem effectOf_arrival_frame (c : Instr) (s : State) (h : (arrivalOf c).isSome = true) :
    (effectOf c s).ms = s.ms
      ∧ (effectOf c s).straps = s.straps
      ∧ (effectOf c s).levels = s.levels
      ∧ (effectOf c s).sensor = s.sensor
      ∧ (effectOf c s).zone = s.zone
      ∧ (effectOf c s).pending = s.pending
      ∧ (effectOf c s).reck.started = s.reck.started
      ∧ (effectOf c s).reck.lastGood = s.reck.lastGood
      ∧ (effectOf c s).reck.theta0 = s.reck.theta0
      ∧ (effectOf c s).reck.sigma = s.reck.sigma
      ∧ (effectOf c s).reck.calibrated = s.reck.calibrated
      ∧ (effectOf c s).reck.thetaScale = s.reck.thetaScale
      ∧ (effectOf c s).reck.atRest = s.reck.atRest
      ∧ (effectOf c s).link.heartbeat = s.link.heartbeat
      ∧ (effectOf c s).peers.digest = s.peers.digest
      ∧ (effectOf c s).store.cellsA = s.store.cellsA
      ∧ (effectOf c s).store.cellsB = s.store.cellsB
      ∧ (effectOf c s).store.cellsCal = s.store.cellsCal
      ∧ (effectOf c s).store.imageA = s.store.imageA
      ∧ (effectOf c s).store.imageB = s.store.imageB
      ∧ (effectOf c s).store.imageCal = s.store.imageCal
      ∧ (effectOf c s).store.calSeq = s.store.calSeq
      ∧ (effectOf c s).store.inFlight = s.store.inFlight
      ∧ (effectOf c s).store.scanDone = s.store.scanDone
      ∧ (effectOf c s).gradeUnit.chosen = s.gradeUnit.chosen
      ∧ (effectOf c s).search.passes = s.search.passes
      ∧ (effectOf c s).search.level = s.search.level
      ∧ (effectOf c s).search.total = s.search.total
      ∧ (effectOf c s).search.plus = s.search.plus
      ∧ (effectOf c s).port.setup = s.port.setup
      ∧ (effectOf c s).port.frozen = s.port.frozen
      ∧ (effectOf c s).port.tau = s.port.tau
      ∧ (effectOf c s).port.span = s.port.span
      ∧ (effectOf c s).port.slot = s.port.slot
      ∧ (effectOf c s).port.shifted = s.port.shifted
      ∧ (effectOf c s).port.lastEnd = s.port.lastEnd := by
  cases c with
  | haltArrival =>
    simp only [effectOf, arrive]
    split_ifs
    on_goal 3 => split
    all_goals simp
  | powerDownArrival =>
    simp only [effectOf, arrive]
    split_ifs
    on_goal 3 => split
    all_goals simp
  | markCallArrival =>
    simp only [effectOf, arrive]
    split_ifs
    on_goal 3 => split
    all_goals simp
  | markReportArrival =>
    simp only [effectOf, arrive]
    split_ifs
    on_goal 3 => split
    all_goals simp
  | claimArrival =>
    simp only [effectOf, arrive]
    split_ifs
    on_goal 3 => split
    all_goals simp
  | releaseArrival =>
    simp only [effectOf, arrive]
    split_ifs
    on_goal 3 => split
    all_goals simp
  | statusArrival =>
    simp only [effectOf, arrive]
    split_ifs
    on_goal 3 => split
    all_goals simp
  | helloArrival =>
    simp only [effectOf, arrive]
    split_ifs
    on_goal 3 => split
    all_goals simp
  | _ => exact absurd h Bool.noConfusion

end Sys2Proof.Machine
end

section
/-! PROOFS. O4: what leaves the queue of waiting commands, the sensor front end, the straps, the levels and the link's counts and
timers as they are. -/

namespace Sys2Proof.Machine

/-- The effects of the drive port commands leave the clock, the straps, the levels, the sensors and the link's counts. -/
theorem effectOf_port_frame (c : Instr) (s : State) (h : isPortCommand c = true) (hr : isReset c = false) :
    (effectOf c s).ms = s.ms ∧ (effectOf c s).straps = s.straps ∧ (effectOf c s).levels = s.levels
      ∧ (effectOf c s).sensor = s.sensor ∧ (effectOf c s).pending = s.pending
      ∧ (effectOf c s).link.bitErrors = s.link.bitErrors ∧ (effectOf c s).link.txErrors = s.link.txErrors
      ∧ (effectOf c s).link.rxErrors = s.link.rxErrors ∧ (effectOf c s).link.txFail = s.link.txFail
      ∧ (effectOf c s).link.lastDuplicate = s.link.lastDuplicate
      ∧ ((∀ now r, c ≠ .go now r) → (effectOf c s).link.heartbeat = s.link.heartbeat)
      ∧ (effectOf c s).store.cellsA = s.store.cellsA ∧ (effectOf c s).store.cellsB = s.store.cellsB
      ∧ (effectOf c s).store.cellsCal = s.store.cellsCal ∧ (effectOf c s).store.calSeq = s.store.calSeq
      ∧ ((∀ now r, c ≠ .setup now r) → (effectOf c s).reck.theta0 = s.reck.theta0
          ∧ (effectOf c s).reck.sigma = s.reck.sigma ∧ (effectOf c s).reck.calibrated = s.reck.calibrated) := by
  cases c with
  | transactionIgnored | fetch | unknownCommand => simp [effectOf]
  | statusRead | peerRead | faultRead | faultClear | directiveTake | storeRead | markRequest | referenceStart
  | referenceAbort | turnConfirm | peerForget | setup | go =>
    simp only [effectOf, command]
    split
    · simp
    · split_ifs <;> simp
  | reset => exact absurd hr Bool.noConfusion
  | _ => exact absurd h Bool.noConfusion

/-- What a command that is no reset leaves of the queue of waiting commands, the sensor front end, the straps, the levels and the
link's counts and timers. -/
def FrontKept (c : Instr) (s t : State) : Prop :=
  t.pending = s.pending ∧ t.straps = s.straps ∧ t.levels.rstLow = s.levels.rstLow
    ∧ ((∀ now r f, c ≠ .motorSample now r f) →
        t.sensor.latestMotor = s.sensor.latestMotor ∧ t.sensor.badMotor = s.sensor.badMotor
          ∧ t.sensor.flagLevel = s.sensor.flagLevel)
    ∧ ((∀ now r, c ≠ .scaleSample now r) →
        t.sensor.latestScale = s.sensor.latestScale ∧ t.sensor.badScale = s.sensor.badScale)
    ∧ ((∀ now, c ≠ .alhFall now) → (∀ now, c ≠ .alhRise now) → t.levels.alhHigh = s.levels.alhHigh)
    ∧ (isLinkEvent c = false →
        t.link.txErrors = s.link.txErrors ∧ t.link.rxErrors = s.link.rxErrors
          ∧ t.link.bitErrors = s.link.bitErrors ∧ t.link.txFail = s.link.txFail
          ∧ t.link.lastDuplicate = s.link.lastDuplicate)
    ∧ ((∀ now, c ≠ .heartbeatExpiry now) → (∀ now r, c ≠ .go now r) → t.link.heartbeat = s.link.heartbeat)

theorem FrontKept.refl (c : Instr) (s : State) : FrontKept c s s := by simp [FrontKept]

theorem FrontKept.trans {c : Instr} {s u t : State} (h : FrontKept c s u) (h' : FrontKept c u t) : FrontKept c s t := by
  obtain ⟨hp, hst, hl, hm, hs, ha, hc, hh⟩ := h
  obtain ⟨hp', hst', hl', hm', hs', ha', hc', hh'⟩ := h'
  refine ⟨hp'.trans hp, hst'.trans hst, hl'.trans hl, fun x => ?_, fun x => ?_, fun x y => (ha' x y).trans (ha x y),
    fun x => ?_, fun x y => (hh' x y).trans (hh x y)⟩
  · simp [hm x, hm' x]
  · simp [hs x, hs' x]
  · simp [hc x, hc' x]

theorem isLinkEvent_of_arrival (c : Instr) (h : (arrivalOf c).isSome = true) : isLinkEvent c = true := by
  cases c <;> first | rfl | exact absurd h Bool.noConfusion

theorem effectOf_keeps_front (c : Instr) (s : State) (hr : isReset c = false) : FrontKept c s (effectOf c s) := by
  unfold FrontKept
  by_cases hp : isPortCommand c = true
  · obtain ⟨-, hst, hl, hse, hpe, hb, ht, hrx, hf, hd, hh, -⟩ := effectOf_port_frame c s hp hr
    simp [hst, hl, hse, hpe, hb, ht, hrx, hf, hd]
    exact fun _ hgo => hh hgo
  by_cases ha : (arrivalOf c).isSome = true
  · simp [effectOf_arrival_frame c s ha, isLinkEvent_of_arrival c ha]
  cases c with
  | motorSample now r f => cases r <;> simp [effectOf]
  | scaleSample now r => cases r <;> simp [effectOf]
  | startupScanEnd | writeCompletion | recoveryRead | pfailAsserted | linkIdle | arbitrationLost | bitError
  | frameDiscard | alhFall | alhRise | heartbeatExpiry | musterTimerExpiry | quietTimerExpiry | holdoffExpiry
  | markTimeoutExpiry | collectionTimerExpiry | leadReportWaitExpiry | untakenTimerExpiry | allowanceTimerExpiry
  | dwellTimerExpiry | prereqWaitExpiry | settleFirstIntervalEnd | settleEnd => simp [effectOf, isLinkEvent]
  | por | pinReset | reset | rstNLow => exact absurd hr Bool.noConfusion
  | _ => first | exact absurd rfl hp | exact absurd rfl ha

/-- No command touches the queue of waiting commands. -/
theorem exec_keeps_pending {c : Instr} {s t : State} (h : exec c s = .next t) : t.pending = s.pending := by
  cases hr : isReset c with
  | false =>
    exact exec_keeps (P := fun u => u.pending = s.pending) h hr rfl (by simp)
      (fun u hu => (effectOf_keeps_front c u hr).1.trans hu) (by simp)
  | true =>
    cases c with
    | por pins cut => cases h; split <;> simp
    | pinReset pins cut => cases h; simp
    | rstNLow cut => cases h; split <;> simp
    | reset now r pins cut =>
      cases h
      simp only [reading, command]
      split
      · rfl
      · split
        · simp
        · split_ifs <;> simp
    | _ => exact absurd hr Bool.noConfusion

/-- Settles O4: the tick, every effect and the closing tests keep the front end, by the frame of each operation. -/
theorem frameFrontEndAndLink : Obligations.FrameFrontEndAndLink := by
  intro c s t h
  refine ⟨exec_keeps_pending h, fun hr => ?_⟩
  have hk : FrontKept c s t := exec_keeps h hr (.refl c s) (by simp [FrontKept])
    (fun u hu => hu.trans (effectOf_keeps_front c u hr)) (fun force s0 u hu => hu.trans (by simp [FrontKept]))
  obtain ⟨-, hk⟩ := hk
  exact hk

end Sys2Proof.Machine
end

section
/-! PROOFS. O5: what changes the non-volatile cells, the calibration sequence in force and the working calibration. -/

namespace Sys2Proof.Machine

/-- What a command leaves of the cells, the calibration sequence in force and the working calibration when it is no reset and
no write completion. -/
def CalibrationKept (c : Instr) (s t : State) : Prop :=
  t.store.cellsA = s.store.cellsA ∧ t.store.cellsB = s.store.cellsB ∧ t.store.cellsCal = s.store.cellsCal
    ∧ ((∀ now, c ≠ .startupScanEnd now) → t.store.calSeq = s.store.calSeq)
    ∧ ((∀ now, c ≠ .recoveryRead now) → (∀ now r, c ≠ .setup now r) →
        t.reck.theta0 = s.reck.theta0 ∧ t.reck.sigma = s.reck.sigma ∧ t.reck.calibrated = s.reck.calibrated)

theorem CalibrationKept.refl (c : Instr) (s : State) : CalibrationKept c s s := by simp [CalibrationKept]

theorem CalibrationKept.trans {c : Instr} {s u t : State} (h : CalibrationKept c s u) (h' : CalibrationKept c u t) :
    CalibrationKept c s t := by
  obtain ⟨ha, hb, hc, hq, hw⟩ := h
  obtain ⟨ha', hb', hc', hq', hw'⟩ := h'
  refine ⟨ha'.trans ha, hb'.trans hb, hc'.trans hc, fun x => (hq' x).trans (hq x), fun x y => ?_⟩
  simp [hw x y, hw' x y]

theorem effectOf_keeps_calibration (c : Instr) (s : State) (hr : isReset c = false)
    (hw : ∀ now rb, c ≠ .writeCompletion now rb) : CalibrationKept c s (effectOf c s) := by
  unfold CalibrationKept
  by_cases hp : isPortCommand c = true
  · obtain ⟨-, -, -, -, -, -, -, -, -, -, -, hA, hB, hC, hq, hk⟩ := effectOf_port_frame c s hp hr
    simp only [hA, hB, hC, hq, true_and, implies_true]
    exact fun _ hs => hk hs
  by_cases ha : (arrivalOf c).isSome = true
  · simp [effectOf_arrival_frame c s ha]
  cases c with
  | motorSample now r f => cases r <;> simp [effectOf]
  | scaleSample now r => cases r <;> simp [effectOf]
  | writeCompletion now rb => exact absurd rfl (hw now rb)
  | startupScanEnd | recoveryRead | pfailAsserted | linkIdle | arbitrationLost | bitError | frameDiscard | alhFall
  | alhRise | heartbeatExpiry | musterTimerExpiry | quietTimerExpiry | holdoffExpiry | markTimeoutExpiry
  | collectionTimerExpiry | leadReportWaitExpiry | untakenTimerExpiry | allowanceTimerExpiry | dwellTimerExpiry
  | prereqWaitExpiry | settleFirstIntervalEnd | settleEnd => simp [effectOf]
  | por | pinReset | reset | rstNLow => exact absurd hr Bool.noConfusion
  | _ => first | exact absurd rfl hp | exact absurd rfl ha

/-- Settles O5: the tick, every other effect and the closing tests keep the cells and the calibration. -/
theorem frameStoreAndCalibration : Obligations.FrameStoreAndCalibration := by
  intro c s t h hr hw
  exact exec_keeps (P := CalibrationKept c s) h hr (.refl c s) (by simp [CalibrationKept])
    (fun u hu => hu.trans (effectOf_keeps_calibration c u hr hw)) (fun _ _ _ hu => hu.trans (by simp [CalibrationKept]))

end Sys2Proof.Machine
end

section
/-! PROOFS. O16: the angle, the motor count, the drift count and the bad sample counts stay in their ranges. The ranges of the
reckoning unit are a property of its block alone, so every operation that leaves the block keeps them by its frame, and the
others have one lemma each below. -/

namespace Sys2Proof.Machine

/-- The ranges of θ, M and the drift count (R9, R15, R22), as a property of the reckoning unit's block. -/
def ReckBounded (r : Reckoning) : Prop :=
  (∀ a, r.theta = some a → angleMin ≤ a ∧ a ≤ angleMax) ∧ (countMin ≤ r.count ∧ r.count ≤ countMax) ∧ r.drift ≤ 7

theorem countsBounded_iff (s : State) :
    CountsBounded s ↔ ReckBounded s.reck ∧ s.sensor.badMotor ≤ 3 ∧ s.sensor.badScale ≤ 3 := by
  simp only [CountsBounded, ReckBounded, and_assoc]

/-! ### Limits -/

theorem clampInt_range {lo hi : Int} (h : lo ≤ hi) (x : Int) : lo ≤ clampInt lo hi x ∧ clampInt lo hi x ≤ hi := by
  unfold clampInt
  split_ifs <;> omega

theorem clampAngle_range (x : Int) : angleMin ≤ clampAngle x ∧ clampAngle x ≤ angleMax :=
  clampInt_range (by decide) x

theorem clampCount_range (x : Int) : countMin ≤ clampCount x ∧ clampCount x ≤ countMax := clampInt_range (by decide) x

/-! ### The reckoning unit's own operations -/

/-- Whatever the block held for θ, a recomputation leaves it in range. -/
theorem recomputeTheta_reckBounded {s : State} (hc : countMin ≤ s.reck.count ∧ s.reck.count ≤ countMax)
    (hd : s.reck.drift ≤ 7) : ReckBounded (recomputeTheta s).reck := by
  refine ⟨fun a ha => ?_, by simpa using hc, by simpa using hd⟩
  rw [recomputeTheta_theta, Option.map_eq_some_iff] at ha
  obtain ⟨v, -, rfl⟩ := ha
  exact clampAngle_range v

@[simp] theorem recomputeScale_reckBounded {s : State} (h : ReckBounded s.reck) :
    ReckBounded (recomputeScale s).reck := by
  obtain ⟨hθ, hc, hd⟩ := h
  unfold recomputeScale
  by_cases hb : s.reck.basis = .scale <;> simp only [hb, ↓reduceIte]
  · exact recomputeTheta_reckBounded hc hd
  · exact ⟨hθ, hc, hd⟩

@[simp] theorem setLambda_reckBounded (v : Int) {s : State} (h : ReckBounded s.reck) :
    ReckBounded (setLambda v s).reck := by
  obtain ⟨-, hc, hd⟩ := h
  exact recomputeTheta_reckBounded hc hd

@[simp] theorem setSigma_reckBounded (v : Int) {s : State} (h : ReckBounded s.reck) :
    ReckBounded (setSigma v s).reck := by
  unfold setSigma
  split_ifs
  · exact h
  · exact recomputeScale_reckBounded h

@[simp] theorem takeCalibration_reckBounded (a b : Int) (m : Bool) {s : State} (h : ReckBounded s.reck) :
    ReckBounded (takeCalibration a b m s).reck := by
  obtain ⟨-, hc, -⟩ := h
  exact recomputeTheta_reckBounded (by simpa using hc) (by simp)

theorem unstartCount_reckBounded (s : State) : ReckBounded (unstartCount s).reck :=
  recomputeTheta_reckBounded (by simp [countMin, countMax]) (by simp)

theorem applyOffset_reckBounded (d : Int) (s : State) : ReckBounded (applyOffset d s).reck :=
  recomputeTheta_reckBounded (clampCount_range _) (by simp)

@[simp] theorem setBasis_reckBounded (b : Basis) {s : State} (h : ReckBounded s.reck) :
    ReckBounded (setBasis b s).reck := by
  unfold setBasis
  split_ifs
  · exact h
  · exact recomputeTheta_reckBounded h.2.1 (by simp)

/-! ### Grades, searches, faults -/

@[simp] theorem setGradeBasis_reckBounded (g : Grade) (b : Basis) {s : State} (h : ReckBounded s.reck) :
    ReckBounded (setGradeBasis g b s).reck := by
  unfold setGradeBasis
  dsimp only
  split_ifs <;> simp [h]

@[simp] theorem setGrade_reckBounded (g : Grade) (b : Basis) {s : State} (h : ReckBounded s.reck) :
    ReckBounded (setGrade g b s).reck := by
  simp [setGrade, h]

@[simp] theorem gradeFall_reckBounded (c : StopCause) {s : State} (h : ReckBounded s.reck) :
    ReckBounded (gradeFall c s).reck := by
  unfold gradeFall
  split <;> simp [h]

@[simp] theorem applyCeiling_reckBounded {s : State} (h : ReckBounded s.reck) :
    ReckBounded (applyCeiling s).reck := by
  unfold applyCeiling
  dsimp only
  split_ifs <;> simp [h]

@[simp] theorem endLeadHold_reckBounded {s : State} (h : ReckBounded s.reck) :
    ReckBounded (endLeadHold s).reck := by
  unfold endLeadHold
  dsimp only
  split_ifs
  · split
    · simp [h]
    · exact recomputeTheta_reckBounded h.2.1 h.2.2
  · exact h

@[simp] theorem endSearch_reckBounded (o : SearchOutcome) {s : State} (h : ReckBounded s.reck) :
    ReckBounded (endSearch o s).reck := by
  simp [endSearch, h]

@[simp] theorem failSearch_reckBounded (c : FailCause) (n : Int) {s : State} (h : ReckBounded s.reck) :
    ReckBounded (failSearch c n s).reck := by
  simp [failSearch, h]

@[simp] theorem abortSearch_reckBounded (r : AbortReason) (st : Option Station) {s : State} (h : ReckBounded s.reck) :
    ReckBounded (abortSearch r st s).reck := by
  simp [abortSearch, h]

@[simp] theorem endSearchByFault_reckBounded {s : State} (h : ReckBounded s.reck) :
    ReckBounded (endSearchByFault s).reck := by
  unfold endSearchByFault
  split_ifs <;> simp [h]

@[simp] theorem endSearchByPower_reckBounded {s : State} (h : ReckBounded s.reck) :
    ReckBounded (endSearchByPower s).reck := by
  unfold endSearchByPower
  split_ifs <;> simp [h]

@[simp] theorem searchSample_reckBounded {s : State} (h : ReckBounded s.reck) :
    ReckBounded (searchSample s).reck := by
  unfold searchSample
  (repeat' split) <;> simp [h]

@[simp] theorem inhibitNotice_reckBounded {s : State} (h : ReckBounded s.reck) :
    ReckBounded (inhibitNotice s).reck := by
  unfold inhibitNotice
  (repeat' split) <;> simp [h]

@[simp] theorem watchLead_reckBounded {s : State} (h : ReckBounded s.reck) :
    ReckBounded (watchLead s).reck := by
  unfold watchLead
  split_ifs <;> simp [h]

@[simp] theorem nextPass_reckBounded {s : State} (h : ReckBounded s.reck) :
    ReckBounded (nextPass s).reck := by
  unfold nextPass
  split_ifs <;> simp [h]

@[simp] theorem evaluatePass_reckBounded {s : State} (h : ReckBounded s.reck) :
    ReckBounded (evaluatePass s).reck := by
  unfold evaluatePass
  dsimp only
  (repeat' split) <;> simp [h]

@[simp] theorem stopEffects_reckBounded (c : StopCause) (a : Int) {s : State} (h : ReckBounded s.reck) :
    ReckBounded (stopEffects c a s).reck := by
  simp [stopEffects, h]

@[simp] theorem raiseStop_reckBounded (c : StopCause) (a b : Int) {s : State} (h : ReckBounded s.reck) :
    ReckBounded (raiseStop c a b s).reck := by
  unfold raiseStop
  dsimp only
  (repeat' split) <;> simp [h]

@[simp] theorem raiseIfOutside_reckBounded (x : Int) {s : State} (h : ReckBounded s.reck) :
    ReckBounded (raiseIfOutside x s).reck := by
  unfold raiseIfOutside
  split_ifs <;> simp [h]

@[simp] theorem enterDown_reckBounded {s : State} (h : ReckBounded s.reck) :
    ReckBounded (enterDown s).reck := by
  simp [enterDown, h]

/-! ### Decisions -/

@[simp] theorem takeLeadAngle_reckBounded {s : State} (h : ReckBounded s.reck) :
    ReckBounded (takeLeadAngle s).reck := by
  unfold takeLeadAngle
  (repeat' split) <;> simp [h]

@[simp] theorem fixTurn_reckBounded (k : DecisionKind) (c : Capture) (n : Option Candidate) {s : State} (h : ReckBounded s.reck) :
    ReckBounded (fixTurn k c n s).reck := by
  unfold fixTurn setRecoveryAnchor
  cases n <;> cases k <;> first | exact h | exact applyOffset_reckBounded _ _

@[simp] theorem gradeByVerdict_reckBounded (v : Verdict) {s : State} (h : ReckBounded s.reck) :
    ReckBounded (gradeByVerdict v s).reck := by
  simp [gradeByVerdict, h]

@[simp] theorem decideOn_reckBounded (c : Capture) {s : State} (h : ReckBounded s.reck) :
    ReckBounded (decideOn c s).reck := by
  have h1 : ReckBounded (gradeByVerdict (judge (takeLeadAngle s) (courseOf s) (kindOf s) c) (fixTurn (kindOf s) c
      (judge (takeLeadAngle s) (courseOf s) (kindOf s) c).n (raiseVerdictNotes c
        (judge (takeLeadAngle s) (courseOf s) (kindOf s) c) (takeLeadAngle s)))).reck :=
    gradeByVerdict_reckBounded _ (fixTurn_reckBounded _ _ _ (by simp [h]))
  exact raiseIfOutside_reckBounded _ (by dsimp only; (repeat' split) <;> simpa using h1)

@[simp] theorem decideHeld_reckBounded {s : State} (h : ReckBounded s.reck) :
    ReckBounded (decideHeld s).reck := by
  unfold decideHeld
  split <;> simp [h]

@[simp] theorem advanceDecision_reckBounded {s : State} (h : ReckBounded s.reck) :
    ReckBounded (advanceDecision s).reck := by
  unfold advanceDecision
  split_ifs <;> simp [h]

@[simp] theorem gradeCapture_reckBounded (c : Capture) (n : Needs) {s : State} (h : ReckBounded s.reck) :
    ReckBounded (gradeCapture c n s).reck := by
  unfold gradeCapture
  split_ifs <;> simp [h]

@[simp] theorem captureAnswered_reckBounded (c : Capture) {s : State} (h : ReckBounded s.reck) :
    ReckBounded (captureAnswered c s).reck := by
  unfold captureAnswered
  dsimp only
  split_ifs <;> simp [h]

@[simp] theorem leadResolved_reckBounded (l : LeadReport) {s : State} (h : ReckBounded s.reck) :
    ReckBounded (leadResolved l s).reck := by
  unfold leadResolved
  dsimp only
  split_ifs <;> simp [h]

@[simp] theorem leadLost_reckBounded {s : State} (h : ReckBounded s.reck) :
    ReckBounded (leadLost s).reck := by
  unfold leadLost
  (repeat' split) <;> simp [h]

@[simp] theorem leadAtEdge_reckBounded {s : State} (h : ReckBounded s.reck) :
    ReckBounded (leadAtEdge s).reck := by
  unfold leadAtEdge
  (repeat' split) <;> simp [h]

@[simp] theorem readCalibration_reckBounded {s : State} (h : ReckBounded s.reck) :
    ReckBounded (readCalibration s).reck := by
  unfold readCalibration
  split <;> simp [h]

@[simp] theorem answerRead_reckBounded {s : State} (h : ReckBounded s.reck) :
    ReckBounded (answerRead s).reck := by
  unfold answerRead
  dsimp only
  (repeat' split) <;> simp [h]

/-! ### Samples -/

theorem startCount_reckBounded {p : Nat} (hp : p ≤ 65535) {s : State} (h : ReckBounded s.reck) :
    ReckBounded (startCount p s).reck := by
  obtain ⟨-, -, hd⟩ := h
  exact recomputeTheta_reckBounded ⟨by simp only [countMin]; omega, by simp only [countMax]; omega⟩ hd

@[simp] theorem addStep_reckBounded (d : Int) (p : Nat) {s : State} (h : ReckBounded s.reck) :
    ReckBounded (addStep d p s).reck := by
  obtain ⟨-, -, hd⟩ := h
  exact recomputeTheta_reckBounded (clampCount_range _) hd

@[simp] theorem clearRest_reckBounded {s : State} (h : ReckBounded s.reck) :
    ReckBounded (clearRest s).reck := by
  exact h

@[simp] theorem setAnchor_reckBounded {s : State} (h : ReckBounded s.reck) :
    ReckBounded (setAnchor s).reck := by
  exact h

@[simp] theorem evaluateRest_reckBounded (b : Bool) {s : State} (h : ReckBounded s.reck) :
    ReckBounded (evaluateRest b s).reck := by
  unfold evaluateRest
  (repeat' split) <;> exact h

@[simp] theorem jumpTest_reckBounded (d : Int) {s : State} (h : ReckBounded s.reck) :
    ReckBounded (jumpTest d s).reck := by
  unfold jumpTest
  split_ifs <;> simp [h]

@[simp] theorem overflowTest_reckBounded (b : Bool) (x : Int) {s : State} (h : ReckBounded s.reck) :
    ReckBounded (overflowTest b x s).reck := by
  unfold overflowTest
  split_ifs <;> simp [h]

theorem countGood_reckBounded {p : Nat} (hp : p ≤ 65535) {s : State} (h : ReckBounded s.reck) :
    ReckBounded (countGood p s).reck := by
  unfold countGood
  dsimp only
  split_ifs
  · have h1 : ReckBounded (addStep (stepOf s p) p (takeGood p s)).reck := by simp [h]
    exact overflowTest_reckBounded _ _ (jumpTest_reckBounded _ (evaluateRest_reckBounded _ h1))
  · exact startCount_reckBounded hp (by simpa using h)

@[simp] theorem answerCapture_reckBounded (c : Capture) {s : State} (h : ReckBounded s.reck) :
    ReckBounded (answerCapture c s).reck := by
  unfold answerCapture
  split_ifs <;> simp [h]

@[simp] theorem directionCheck_reckBounded {s : State} (h : ReckBounded s.reck) :
    ReckBounded (directionCheck s).reck := by
  unfold directionCheck
  (repeat' split) <;> simp [h]

@[simp] theorem stillnessCheck_reckBounded {s : State} (h : ReckBounded s.reck) :
    ReckBounded (stillnessCheck s).reck := by
  unfold stillnessCheck
  (repeat' split) <;> simp [h]

theorem goodMotorSample_reckBounded {p : Nat} (hp : p ≤ 65535) (flag : Bool) {s : State} (h : ReckBounded s.reck) :
    ReckBounded (goodMotorSample p flag s).reck := by
  have h1 := countGood_reckBounded hp h
  exact searchSample_reckBounded (stillnessCheck_reckBounded (by simp [h1]))

@[simp] theorem badMotorSample_reckBounded (flag : Bool) {s : State} (h : ReckBounded s.reck) :
    ReckBounded (badMotorSample flag s).reck := by
  have h1 : ReckBounded (clearRest { s with sensor := { s.sensor with badMotor := bump 3 s.sensor.badMotor } }).reck := by
    simp [h]
  unfold badMotorSample
  dsimp only
  split_ifs
  · simp [h1]
  · simp [h]

@[simp] theorem driftCheck_reckBounded {s : State} (h : ReckBounded s.reck) :
    ReckBounded (driftCheck s).reck := by
  unfold driftCheck
  obtain ⟨hθ, hc, hd⟩ := h
  split
  · dsimp only
    split_ifs
    · exact ⟨hθ, hc, by simp⟩
    · exact ⟨hθ, hc, by simp; omega⟩
    · exact raiseStop_reckBounded _ _ _ ⟨hθ, hc, by simp⟩
  · exact ⟨hθ, hc, hd⟩

@[simp] theorem goodScaleSample_reckBounded (v : Nat) {s : State} (h : ReckBounded s.reck) :
    ReckBounded (goodScaleSample v s).reck := by
  simp [goodScaleSample, h]

@[simp] theorem badScaleSample_reckBounded {s : State} (h : ReckBounded s.reck) :
    ReckBounded (badScaleSample s).reck := by
  unfold badScaleSample
  dsimp only
  split_ifs <;> simp [h]

/-! ### The other events -/

@[simp] theorem duplicate_reckBounded (k : Station) (f : Frame) {s : State} (h : ReckBounded s.reck) :
    ReckBounded (duplicate k f s).reck := by
  simp [duplicate, h]

@[simp] theorem failKind_reckBounded (k : FrameKind) {s : State} (h : ReckBounded s.reck) :
    ReckBounded (failKind k s).reck := by
  simp [failKind, h]

@[simp] theorem bitErrorEvent_reckBounded (n : Nat) {s : State} (h : ReckBounded s.reck) :
    ReckBounded (bitErrorEvent n s).reck := by
  unfold bitErrorEvent
  dsimp only
  (repeat' split) <;> simp [h]

@[simp] theorem haltFromPeer_reckBounded (k : Station) {s : State} (h : ReckBounded s.reck) :
    ReckBounded (haltFromPeer k s).reck := by
  unfold haltFromPeer
  split_ifs <;> simp [h]

@[simp] theorem leadAngle_reckBounded (k : Station) (a : Option Int) {s : State} (h : ReckBounded s.reck) :
    ReckBounded (leadAngle k a s).reck := by
  unfold leadAngle
  (repeat' split) <;> simp [h]

@[simp] theorem leadReports_reckBounded (k : Station) (r : MarkReport) {s : State} (h : ReckBounded s.reck) :
    ReckBounded (leadReports k r s).reck := by
  unfold leadReports
  split_ifs <;> simp [h]

@[simp] theorem reportFromPeer_reckBounded (k : Station) (r : MarkReport) {s : State} (h : ReckBounded s.reck) :
    ReckBounded (reportFromPeer k r s).reck := by
  simp [reportFromPeer, h]

@[simp] theorem claimConflict_reckBounded (j k : Station) {s : State} (h : ReckBounded s.reck) :
    ReckBounded (claimConflict j k s).reck := by
  unfold claimConflict
  dsimp only
  split_ifs <;> simp [h]

@[simp] theorem conflictTest_reckBounded (k : Station) (f : StatusFrame) {s : State} (h : ReckBounded s.reck) :
    ReckBounded (conflictTest k f s).reck := by
  unfold conflictTest
  (repeat' split) <;> simp [h]

@[simp] theorem statusFromPeer_reckBounded (k : Station) (f : StatusFrame) {s : State} (h : ReckBounded s.reck) :
    ReckBounded (statusFromPeer k f s).reck := by
  simp [statusFromPeer, h]

@[simp] theorem fallEvent_reckBounded {s : State} (h : ReckBounded s.reck) :
    ReckBounded (fallEvent s).reck := by
  unfold fallEvent
  dsimp only
  split_ifs <;> simp [h]

@[simp] theorem markEdge_reckBounded {s : State} (h : ReckBounded s.reck) :
    ReckBounded (markEdge s).reck := by
  unfold markEdge
  split_ifs <;> simp [h]

@[simp] theorem riseEvent_reckBounded {s : State} (h : ReckBounded s.reck) :
    ReckBounded (riseEvent s).reck := by
  unfold riseEvent
  split_ifs <;> simp [h]

@[simp] theorem leadWaitEvent_reckBounded {s : State} (h : ReckBounded s.reck) :
    ReckBounded (leadWaitEvent s).reck := by
  unfold leadWaitEvent
  split_ifs <;> simp [h]

@[simp] theorem untakenEvent_reckBounded {s : State} (h : ReckBounded s.reck) :
    ReckBounded (untakenEvent s).reck := by
  unfold untakenEvent
  split_ifs <;> simp [h]

@[simp] theorem allowanceEvent_reckBounded {s : State} (h : ReckBounded s.reck) :
    ReckBounded (allowanceEvent s).reck := by
  unfold allowanceEvent
  split_ifs <;> simp [h]

@[simp] theorem prereqEvent_reckBounded {s : State} (h : ReckBounded s.reck) :
    ReckBounded (prereqEvent s).reck := by
  unfold prereqEvent
  split_ifs <;> simp [h]

@[simp] theorem settleEndEvent_reckBounded {s : State} (h : ReckBounded s.reck) :
    ReckBounded (settleEndEvent s).reck := by
  unfold settleEndEvent
  split_ifs <;> simp [h]

@[simp] theorem calibrationDone_reckBounded (o : WriteOutcome) {s : State} (h : ReckBounded s.reck) :
    ReckBounded (calibrationDone o s).reck := by
  have h1 := setGrade_reckBounded (gradeMin .referenced (ceiling (setBasis .counts s))) .counts
    (setBasis_reckBounded .counts h)
  unfold calibrationDone
  dsimp only
  split <;> simp [h1]

@[simp] theorem calDone_reckBounded (r : CalRecord) (rb : ReadBack) {s : State} (h : ReckBounded s.reck) :
    ReckBounded (calDone r rb s).reck := by
  unfold calDone
  dsimp only
  split_ifs <;> simp [h]

@[simp] theorem writeEvent_reckBounded (rb : ReadBack) {s : State} (h : ReckBounded s.reck) :
    ReckBounded (writeEvent rb s).reck := by
  unfold writeEvent
  split <;> simp [h]

@[simp] theorem readEvent_reckBounded {s : State} (h : ReckBounded s.reck) :
    ReckBounded (readEvent s).reck := by
  unfold readEvent
  split_ifs <;> simp [h]

@[simp] theorem pfailEvent_reckBounded {s : State} (h : ReckBounded s.reck) :
    ReckBounded (pfailEvent s).reck := by
  unfold pfailEvent
  dsimp only
  (repeat' split) <;> simp [h]

@[simp] theorem start_reckBounded {s : State} (h : ReckBounded s.reck) :
    ReckBounded (start s).reck := by
  unfold start
  dsimp only
  split_ifs <;> simp [h]

@[simp] theorem goAct_reckBounded {s : State} (h : ReckBounded s.reck) :
    ReckBounded (goAct s).reck := by
  unfold goAct
  (repeat' split) <;> simp [h]

@[simp] theorem referenceAbortAct_reckBounded {s : State} (h : ReckBounded s.reck) :
    ReckBounded (referenceAbortAct s).reck := by
  simp [referenceAbortAct, h]

@[simp] theorem confirmTurn_reckBounded (c : Candidate) (cap : Capture) {s : State} (h : ReckBounded s.reck) :
    ReckBounded (confirmTurn c cap s).reck := by
  have h1 := setGrade_reckBounded .coarse .counts (fixTurn_reckBounded .turnConfirm cap (some c) h)
  exact raiseIfOutside_reckBounded _ (by simpa using h1)

@[simp] theorem turnConfirmAct_reckBounded (ps : List Byte) {s : State} (h : ReckBounded s.reck) :
    ReckBounded (turnConfirmAct ps s).reck := by
  unfold turnConfirmAct
  (repeat' split) <;> simp [h]

@[simp] theorem setupEffect_reckBounded (i : Nat) {s : State} (h : ReckBounded s.reck) :
    ReckBounded (setupEffect i s).reck := by
  unfold setupEffect
  split_ifs <;> simp [h, unstartCount_reckBounded]

@[simp] theorem storeItem_reckBounded (i x : Nat) (v : Int) (b : Bool) {s : State} (h : ReckBounded s.reck) :
    ReckBounded (storeItem i x v b s).reck := by
  simp [storeItem, h]

@[simp] theorem setupAct_reckBounded (ps : List Byte) {s : State} (h : ReckBounded s.reck) :
    ReckBounded (setupAct ps s).reck := by
  unfold setupAct
  (repeat' split) <;> simp [h]

/-! ### Every step -/

theorem effectOf_reckBounded (c : Instr) {s : State} (h : ReckBounded s.reck) : ReckBounded (effectOf c s).reck := by
  cases c with
  | motorSample now r flag =>
    cases r with
    | good p => exact goodMotorSample_reckBounded (le_trans (Nat.mod_le _ _) (by omega)) flag h
    | bad => exact badMotorSample_reckBounded flag h
  | scaleSample now r => cases r <;> simp [effectOf, h]
  | statusRead | peerRead | faultRead | faultClear | directiveTake | storeRead | markRequest | referenceStart
  | referenceAbort | turnConfirm | peerForget | setup | go =>
    refine command_keeps (P := fun u => ReckBounded u.reck) _ _ _ _ _ _ _ ?_ ?_ <;> simp [h]
  | haltArrival | powerDownArrival | markCallArrival | markReportArrival | claimArrival | releaseArrival
  | statusArrival | helloArrival =>
    refine arrive_keeps (P := fun u => ReckBounded u.reck) _ _ _ _ _ h ?_ ?_ ?_ ?_ <;> simp [h]
  | _ => simp [effectOf, h]

theorem finish_reckBounded (force : Bool) (s0 : State) {s : State} (h : ReckBounded s.reck) :
    ReckBounded (finish force s0 s).reck := by
  have h1 : ReckBounded (applyCeiling (watchLead (leadLost s))).reck :=
    applyCeiling_reckBounded (watchLead_reckBounded (leadLost_reckBounded h))
  have h2 : ∀ u : State, ReckBounded u.reck → ReckBounded (driftTest u).reck := by
    rintro u ⟨hθ, hc, hd⟩
    unfold driftTest
    split_ifs
    · exact ⟨hθ, hc, hd⟩
    · exact ⟨hθ, hc, by simp⟩
  simpa [finish] using h2 _ (by simpa using h1)

theorem flagSample_sensor (level : Bool) (s : State) :
    (flagSample level s).sensor = { s.sensor with flagLevel := some level } := by
  unfold flagSample
  dsimp only
  (repeat' split) <;> simp

theorem countGood_sensor (p : Nat) (s : State) :
    (countGood p s).sensor = { s.sensor with latestMotor := some p, badMotor := 0 } := by
  unfold countGood
  dsimp only
  split_ifs <;> simp [takeGood]

/-- What each sample makes of the sensor front end (R2, R4, R5). -/
theorem goodMotorSample_sensor (p : Nat) (flag : Bool) (s : State) :
    (goodMotorSample p flag s).sensor = { s.sensor with latestMotor := some p, badMotor := 0, flagLevel := some flag } := by
  simp [goodMotorSample, flagSample_sensor, countGood_sensor]

theorem badMotorSample_sensor (flag : Bool) (s : State) :
    (badMotorSample flag s).sensor = { s.sensor with badMotor := bump 3 s.sensor.badMotor, flagLevel := some flag } := by
  unfold badMotorSample
  dsimp only
  split_ifs <;> simp [flagSample_sensor]

theorem goodScaleSample_sensor (v : Nat) (s : State) :
    (goodScaleSample v s).sensor = { s.sensor with latestScale := some v, badScale := 0 } := by
  simp [goodScaleSample]

theorem badScaleSample_sensor (s : State) :
    (badScaleSample s).sensor = { s.sensor with badScale := bump 3 s.sensor.badScale } := by
  unfold badScaleSample
  dsimp only
  split_ifs <;> simp

/-- The bad sample counts rise at their own samples alone, and there to 3 at most. -/
theorem effectOf_sensor_bounded (c : Instr) (s : State) (hr : isReset c = false) (hm : s.sensor.badMotor ≤ 3)
    (hs : s.sensor.badScale ≤ 3) : (effectOf c s).sensor.badMotor ≤ 3 ∧ (effectOf c s).sensor.badScale ≤ 3 := by
  have hk := effectOf_keeps_front c s hr
  obtain ⟨-, -, -, hkm, hks, -⟩ := hk
  cases c with
  | motorSample now r flag =>
    obtain ⟨-, hks⟩ := hks (by simp)
    refine ⟨?_, hks ▸ hs⟩
    cases r with
    | good p => simp [effectOf, goodMotorSample_sensor]
    | bad => simp [effectOf, badMotorSample_sensor, bump]
  | scaleSample now r =>
    obtain ⟨-, hkm, -⟩ := hkm (by simp)
    refine ⟨hkm ▸ hm, ?_⟩
    cases r with
    | good v => simp [effectOf, goodScaleSample_sensor]
    | bad => simp [effectOf, badScaleSample_sensor, bump]
  | _ =>
    obtain ⟨-, hkm, -⟩ := hkm (by simp)
    obtain ⟨-, hks⟩ := hks (by simp)
    exact ⟨hkm ▸ hm, hks ▸ hs⟩

theorem CountsBounded.of_eq {s t : State} (hr : t.reck = s.reck) (hs : t.sensor = s.sensor) (h : CountsBounded s) :
    CountsBounded t := by
  rw [countsBounded_iff] at h ⊢
  rwa [hr, hs]

/-- The after-reset values lie in their ranges. -/
theorem countsBounded_of_reset {t : State} (hr : t.reck = reckoningReset) (hs : t.sensor = sensorReset) :
    CountsBounded t := by
  simp [countsBounded_iff, hr, hs, ReckBounded, reckoningReset, sensorReset, countMin, countMax]

theorem endReset_countsBounded (k : ResetKind) (pins : Pins) (cut : CutResidue) (x : ShiftedOut) (s : State) :
    CountsBounded (endReset k pins cut x s) :=
  countsBounded_of_reset (by simp [endReset, resetBlocks]) (by simp [endReset, resetBlocks])

theorem exec_keeps_countsBounded {c : Instr} {s t : State} (h : exec c s = .next t) (hs : CountsBounded s) :
    CountsBounded t := by
  cases hr : isReset c with
  | false =>
    refine exec_keeps h hr hs (hs.of_eq (by simp) (by simp)) (fun u hu => ?_) (fun force s0 u hu => ?_)
    · rw [countsBounded_iff] at hu ⊢
      obtain ⟨hu, hm, hs⟩ := hu
      exact ⟨effectOf_reckBounded c hu, effectOf_sensor_bounded c u hr hm hs⟩
    · rw [countsBounded_iff] at hu ⊢
      obtain ⟨hu, hu'⟩ := hu
      exact ⟨finish_reckBounded force s0 hu, by simpa using hu'⟩
  | true =>
    cases c with
    | por pins cut =>
      cases h
      split
      · exact hs.of_eq rfl rfl
      · exact endReset_countsBounded _ _ _ _ _
    | pinReset pins cut => cases h; exact endReset_countsBounded _ _ _ _ _
    | rstNLow cut =>
      cases h
      split
      · exact hs
      · exact countsBounded_of_reset rfl rfl
    | reset now r pins cut =>
      cases h
      unfold reading
      split_ifs
      · exact hs
      · exact command_keeps _ _ _ _ _ _ _ (fun st => hs.of_eq (by simp) (by simp))
          (fun ps _ _ => endReset_countsBounded _ _ _ _ _)
    | _ => exact absurd hr Bool.noConfusion

/-- Settles O16: a step on an empty queue changes nothing, and every command keeps the ranges. -/
theorem countsBoundedKept : Obligations.CountsBoundedKept := by
  intro s t hs h
  unfold step at h
  split at h
  · cases h
    exact hs
  · exact exec_keeps_countsBounded h (hs.of_eq rfl rfl)

end Sys2Proof.Machine
end

section
/-! PROOFS. O28: the snapshot test, the distances, and the decision table of turn resolution. -/

namespace Sys2Proof.Machine

/-! ### The snapshot test (R113) -/

theorem snapTestOf_without_theta (su : Setup) (b : Bool) (c : ChosenSnapshot) (h : c.r.body.theta = none) :
    snapTestOf su b c = none := by
  simp [snapTestOf, h]

theorem snapTestOf_without_lambda (su : Setup) (c : ChosenSnapshot) (h : c.r.body.lambda = none) :
    snapTestOf su true c = none := by
  unfold snapTestOf
  cases c.r.body.theta <;> simp [h]

theorem snapTestOf_uncoupled (su : Setup) (c : ChosenSnapshot) (x : Int) (h : c.r.body.theta = some x) :
    snapTestOf su false c
      = some { theta := x, lambda := 0, tau := if c.r.body.atRest = true then su.slipTolRest else su.slipTolMoving } := by
  simp [snapTestOf, h]

theorem snapTestOf_coupled (su : Setup) (c : ChosenSnapshot) (x l : Int) (h : c.r.body.theta = some x)
    (hl : c.r.body.lambda = some l) :
    snapTestOf su true c
      = some { theta := x, lambda := l, tau := if c.r.body.atRest = true then su.slipTolRest else su.slipTolMoving } := by
  simp [snapTestOf, h, hl]

/-! ### Distances -/

theorem dist_eq_abs (a b : Int) : (Machine.dist a b : Int) = |a - b| := Int.natCast_natAbs _

theorem snapDistance_uncoupled (su : Setup) (theta0 : Int) (pM : Nat) (t : SnapTest) (c : Candidate) :
    (snapDistance su false theta0 pM t c : Int) = |c.theta - t.theta| := dist_eq_abs _ _

/-- A coupled station's candidate is reckoned afresh, by the two stages of R14 with the snapshot's λ. -/
theorem snapDistance_coupled (su : Setup) (theta0 : Int) (pM : Nat) (t : SnapTest) (c : Candidate) :
    (snapDistance su true theta0 pM t c : Int)
      = |theta0
          + rdiv ((c.n * (2 ^ su.motorBits : Int) + (pM : Int)
              - rdiv (su.coupleNum * t.lambda * 2 ^ su.motorBits) ((su.coupleDen : Int) * 16777216))
            * (su.gearDen : Int) * 16777216) ((su.gearNum : Int) * 2 ^ su.motorBits)
          - t.theta| := by
  simp [snapDistance, dist_eq_abs, candidateOf, angleOfCount, seenAtJoint, leadTerm, turnCount, cprOf, turn]

theorem snapAgrees_iff (su : Setup) (b : Bool) (theta0 : Int) (pM : Nat) (t : SnapTest) (c : Candidate) :
    snapAgrees su b theta0 pM t c = true ↔ (snapDistance su b theta0 pM t c : Int) ≤ (t.tau : Int) := by
  simp [snapAgrees]

theorem wrapFrom_range (lo x : Int) {m : Int} (hm : 0 < m) : lo ≤ wrapFrom lo m x ∧ wrapFrom lo m x < lo + m := by
  have h1 := Int.emod_nonneg (x - lo) hm.ne'
  have h2 := Int.emod_lt_of_pos (x - lo) hm
  unfold wrapFrom
  omega

theorem dvd_sub_wrapFrom (lo m x : Int) : m ∣ x - wrapFrom lo m x :=
  ⟨(x - lo) / m, by unfold wrapFrom; linarith [Int.emod_add_mul_ediv (x - lo) m]⟩

theorem scaleDistance_plain (su : Setup) (a b : Int) (h : su.scaleWraps = false) :
    (scaleDistance su a b : Int) = |a - b| := by
  simp [scaleDistance, h, dist_eq_abs]

/-- Where the scale wraps, the distance is the magnitude of the difference reduced into [−2^23, 2^23) (R18). -/
theorem scaleDistance_wrapping (su : Setup) (a b : Int) (h : su.scaleWraps = true) :
    scaleDistance su a b ≤ 8388608 ∧ ∃ r : Int, -8388608 ≤ r ∧ r < 8388608 ∧ (16777216 : Int) ∣ a - b - r
      ∧ (scaleDistance su a b : Int) = |r| := by
  obtain ⟨hlo, hhi⟩ := wrapFrom_range (-8388608) (a - b) (m := turn) (by decide)
  have hd : scaleDistance su a b = (wrapFrom (-8388608) turn (a - b)).natAbs := by simp [scaleDistance, h]
  simp only [turn] at hlo hhi hd
  refine ⟨by omega, _, hlo, by omega, dvd_sub_wrapFrom _ _ _, ?_⟩
  rw [hd, Int.natCast_natAbs]

/-! ### The decision table (R114) -/

/-- The candidates that the snapshot agrees with. -/
def agreeingOf (su : Setup) (b : Bool) (theta0 : Int) (pM : Nat) (cands : List Candidate) (snap : Option SnapTest) :
    List Candidate :=
  match snap with
  | none => []
  | some t => cands.filter (snapAgrees su b theta0 pM t)

section Table

variable (su : Setup) (b : Bool) (theta0 : Int) (pM : Nat) (cands agreeing : List Candidate) (snap : Option SnapTest)

/-- The decision table on the candidates and the agreeing ones among them. -/
def tableOn : Verdict :=
  let v := { verdictOf .lost with k := cands.length, agreed := agreeing.length }
  match cands, agreeing with
  | [], _ => { v with disagree := true }
  | _, [c] => { v with grade := .restored, n := some c }
  | [c], _ =>
    { v with grade := .resolved, n := some c, slip := snap.map fun t => (snapDistance su b theta0 pM t c, t.tau) }
  | _, _ => if su.scaleWraps then { v with list := cands } else { v with grade := .coarse }

theorem tableOf_eq : tableOf su b theta0 pM cands snap
    = tableOn su b theta0 pM cands (agreeingOf su b theta0 pM cands snap) snap := by
  cases snap with
  | none =>
    rcases cands with _ | ⟨c, _ | ⟨d, ds⟩⟩ <;> rfl
  | some t =>
    simp only [tableOf, tableOn, agreeingOf]
    generalize cands.filter _ = agreeing
    rcases cands with _ | ⟨c, _ | ⟨d, ds⟩⟩ <;> rcases agreeing with _ | ⟨x, _ | ⟨y, ys⟩⟩ <;> rfl

theorem tableOn_counts : (tableOn su b theta0 pM cands agreeing snap).k = cands.length
    ∧ (tableOn su b theta0 pM cands agreeing snap).agreed = agreeing.length := by
  unfold tableOn
  dsimp only
  split
  · exact ⟨rfl, rfl⟩
  · exact ⟨rfl, rfl⟩
  · exact ⟨rfl, rfl⟩
  · split <;> exact ⟨rfl, rfl⟩

theorem tableOn_nil : tableOn su b theta0 pM [] agreeing snap
    = { verdictOf .lost with agreed := agreeing.length, disagree := true } := rfl

theorem tableOn_disagree (h : cands ≠ []) : (tableOn su b theta0 pM cands agreeing snap).disagree = false := by
  unfold tableOn
  dsimp only
  split
  · exact absurd rfl h
  · rfl
  · rfl
  · split <;> rfl

theorem tableOn_one_agrees (c : Candidate) (h : cands ≠ []) :
    tableOn su b theta0 pM cands [c] snap
      = { verdictOf .restored with n := some c, k := cands.length, agreed := 1 } := by
  obtain ⟨d, ds, rfl⟩ := List.exists_cons_of_ne_nil h
  rfl

/-- One candidate without a usable snapshot is RESOLVED, one that the snapshot disagrees with too, with SLIP_DETECTED. -/
theorem tableOn_single (c : Candidate) : tableOn su b theta0 pM [c] [] snap
    = { verdictOf .resolved with
        n := some c, k := 1, slip := snap.map fun t => (snapDistance su b theta0 pM t c, t.tau) } := rfl

theorem tableOn_several (h : 2 ≤ cands.length) (ha : agreeing.length ≠ 1) :
    tableOn su b theta0 pM cands agreeing snap
      = { verdictOf (if su.scaleWraps then .lost else .coarse) with
          k := cands.length, agreed := agreeing.length, list := if su.scaleWraps then cands else [] } := by
  rcases cands with _ | ⟨c, _ | ⟨d, ds⟩⟩
  · simp at h
  · simp at h
  · rcases agreeing with _ | ⟨x, _ | ⟨y, ys⟩⟩
    · cases hw : su.scaleWraps <;> simp [tableOn, verdictOf, hw]
    · simp at ha
    · cases hw : su.scaleWraps <;> simp [tableOn, verdictOf, hw]

theorem agreeingOf_nil : agreeingOf su b theta0 pM [] snap = [] := by cases snap <;> rfl

end Table

/-- The decision table by the number of candidates and of agreeing ones. -/
theorem tableOf_table (su : Setup) (b : Bool) (theta0 : Int) (pM : Nat) (cands : List Candidate)
    (snap : Option SnapTest) :
    let v := tableOf su b theta0 pM cands snap
    let agreeing := agreeingOf su b theta0 pM cands snap
    v.k = cands.length ∧ v.agreed = agreeing.length
      ∧ (cands = [] → v.grade = .lost ∧ v.n = none ∧ v.list = [] ∧ v.disagree = true)
      ∧ (cands ≠ [] → v.disagree = false)
      ∧ (∀ c, agreeing = [c] → v.grade = .restored ∧ v.n = some c ∧ v.list = [] ∧ v.slip = none)
      ∧ (∀ c, cands = [c] → snap = none → v.grade = .resolved ∧ v.n = some c ∧ v.slip = none)
      ∧ (∀ c t, cands = [c] → snap = some t → agreeing = [] →
          v.grade = .resolved ∧ v.n = some c ∧ v.slip = some (snapDistance su b theta0 pM t c, t.tau))
      ∧ ((cands = [] ∨ 2 ≤ cands.length) → v.slip = none)
      ∧ (2 ≤ cands.length → agreeing.length ≠ 1 →
          v.n = none ∧ (su.scaleWraps = false → v.grade = .coarse ∧ v.list = [])
            ∧ (su.scaleWraps = true → v.grade = .lost ∧ v.list = cands)) := by
  dsimp only
  rw [tableOf_eq]
  have hnil : ∀ c, agreeingOf su b theta0 pM cands snap = [c] → cands ≠ [] := by
    rintro c h rfl
    simp [agreeingOf_nil] at h
  obtain ⟨hk, ha⟩ := tableOn_counts su b theta0 pM cands (agreeingOf su b theta0 pM cands snap) snap
  refine ⟨hk, ha, ?_, tableOn_disagree su b theta0 pM cands _ snap, ?_, ?_, ?_, ?_, ?_⟩
  · rintro rfl
    exact ⟨rfl, rfl, rfl, rfl⟩
  · intro c h
    rw [h, tableOn_one_agrees su b theta0 pM cands snap c (hnil c h)]
    exact ⟨rfl, rfl, rfl, rfl⟩
  · rintro c rfl rfl
    exact ⟨rfl, rfl, rfl⟩
  · rintro c t rfl rfl h
    rw [h]
    exact ⟨rfl, rfl, rfl⟩
  · rintro (rfl | h)
    · rfl
    · by_cases h1 : (agreeingOf su b theta0 pM cands snap).length = 1
      · obtain ⟨c, hc⟩ := List.length_eq_one_iff.mp h1
        rw [hc, tableOn_one_agrees su b theta0 pM cands snap c (hnil c hc)]
        rfl
      · rw [tableOn_several su b theta0 pM cands _ snap h h1]
        rfl
  · intro h h1
    rw [tableOn_several su b theta0 pM cands _ snap h h1]
    refine ⟨rfl, fun hw => ?_, fun hw => ?_⟩ <;> simp [hw, verdictOf]

/-- Settles O28: each part is a lemma above. -/
theorem resolutionTable : Obligations.ResolutionTable := by
  refine ⟨fun su c lam => ⟨fun h b => snapTestOf_without_theta su b c h, snapTestOf_without_lambda su c,
      fun x hx hl => ⟨snapTestOf_uncoupled su c x hx, fun l h => snapTestOf_coupled su c x l hx (hl.trans h)⟩⟩,
    fun su theta0 pM t c => ⟨snapDistance_uncoupled su theta0 pM t c, snapDistance_coupled su theta0 pM t c, ?_, ?_⟩,
    fun su a b => ⟨scaleDistance_plain su a b, scaleDistance_wrapping su a b⟩, tableOf_table⟩
  · rw [snapAgrees_iff, snapDistance_uncoupled]
  · rw [snapAgrees_iff, snapDistance_coupled]

end Sys2Proof.Machine
end

section
/-! PROOFS. The tests at the end of a command (R103 and log 6): when the tests of the lead and of the ceiling have nothing to do,
and what the tests after them leave as they are. -/

namespace Sys2Proof.Machine

/-! ### The tests of the lead -/

theorem leadLost_of_heard {s : State} (h : LeadHeard s) : leadLost s = s := by
  unfold leadLost
  split
  · rfl
  · next k hk =>
    split_ifs with hw
    · simp only [Bool.and_eq_true, decide_eq_true_eq] at hw
      exact absurd (h k hk hw.1) hw.2
    · rfl

theorem watchLead_of_settled {s : State} (h : s.search.leadHold = true → leadSettled s = true) : watchLead s = s := by
  unfold watchLead
  split_ifs with hw
  · simp only [Bool.and_eq_true, Bool.not_eq_true'] at hw
    simp [h hw.1.1] at hw
  · rfl

/-- The lead is read from the setup and the straps. -/
theorem lead_congr_plan {s t : State} (hp : t.port.frozen = s.port.frozen)
    (hn : t.port.setup.coupleNum = s.port.setup.coupleNum)
    (hs : t.port.setup.plan.lead = s.port.setup.plan.lead) (hst : t.straps = s.straps) : lead t = lead s := by
  unfold lead own setupOf
  rw [hp, hn, hs, hst]

theorem lead_congr {s t : State} (hp : t.port.frozen = s.port.frozen) (hs : t.port.setup = s.port.setup)
    (hst : t.straps = s.straps) : lead t = lead s :=
  lead_congr_plan hp (by rw [hs]) (by rw [hs]) hst

theorem entry_congr {s t : State} (h : t.peers.entries = s.peers.entries) (k : Station) : entry t k = entry s k := by
  simp [entry, h]

theorem leadGrade_congr {s t : State} (hl : lead t = lead s) (he : t.peers.entries = s.peers.entries) :
    leadGrade t = leadGrade s := by
  simp [leadGrade, hl, entry, he]

theorem leadAtRest_congr {s t : State} (hl : lead t = lead s) (he : t.peers.entries = s.peers.entries) :
    leadAtRest t = leadAtRest s := by
  simp [leadAtRest, hl, entry, he]

theorem leadSettled_congr {s t : State} (hl : lead t = lead s) (he : t.peers.entries = s.peers.entries) :
    leadSettled t = leadSettled s := by
  simp [leadSettled, leadGrade_congr hl he, leadAtRest_congr hl he]

theorem LeadHeard.congr {s t : State} (h : LeadHeard s) (hl : lead t = lead s)
    (he : t.peers.entries = s.peers.entries) (hr : t.gradeUnit.leadReport = s.gradeUnit.leadReport)
    (hw : t.mark.leadWait = s.mark.leadWait) : LeadHeard t := by
  intro k hk hwait
  rw [entry_congr he]
  exact h k (hl ▸ hk) (by simpa [leadWaiting, hr, hw] using hwait)

/-- The lead is heard while its report is awaited, and settled during a lead hold: the tests of the lead have nothing to do. -/
def LeadSteady (s : State) : Prop := LeadHeard s ∧ (s.search.leadHold = true → leadSettled s = true)

theorem steady_iff (s : State) : Steady s ↔ s.levels.rstLow = false ∧ LeadSteady s := Iff.rfl

/-- Everything that the tests of the lead read, but for the lead hold. -/
def leadInputs (s : State) : Bool × Setup × Straps × PerStation PeerEntry × LeadReport × Timer :=
  (s.port.frozen, s.port.setup, s.straps, s.peers.entries, s.gradeUnit.leadReport, s.mark.leadWait)

section Inputs

variable {s t : State} (h : leadInputs t = leadInputs s)

include h

theorem lead_of_inputs : lead t = lead s := by
  simp only [leadInputs, Prod.mk.injEq] at h
  obtain ⟨hf, hs, hst, -⟩ := h
  exact lead_congr hf hs hst

theorem coupled_of_inputs : coupled t = coupled s := by rw [coupled, coupled, lead_of_inputs h]

theorem leadGrade_of_inputs : leadGrade t = leadGrade s := by
  have hl := lead_of_inputs h
  simp only [leadInputs, Prod.mk.injEq] at h
  obtain ⟨-, -, -, he, -⟩ := h
  exact leadGrade_congr hl he

theorem leadHeard_of_inputs (hs : LeadHeard s) : LeadHeard t := by
  have hl := lead_of_inputs h
  simp only [leadInputs, Prod.mk.injEq] at h
  obtain ⟨-, -, -, he, hr, hw⟩ := h
  exact hs.congr hl he hr hw

theorem leadSettled_of_inputs : leadSettled t = leadSettled s := by
  have hl := lead_of_inputs h
  simp only [leadInputs, Prod.mk.injEq] at h
  obtain ⟨-, -, -, he, -⟩ := h
  exact leadSettled_congr hl he

theorem leadSteady_of_inputs (hs : LeadSteady s) (hh : t.search.leadHold = true → s.search.leadHold = true) :
    LeadSteady t :=
  ⟨leadHeard_of_inputs h hs.1, fun ht => (leadSettled_of_inputs h).trans (hs.2 (hh ht))⟩

end Inputs

/-- No wait for the lead's report runs, so the lead cannot be lost by it. -/
theorem leadHeard_of_not_waiting {s : State} (h : leadWaiting s = false) : LeadHeard s := by
  intro k _ hw
  simp [h] at hw

/-! ### The tests after the ceiling's -/

/-- The tests at the end of a command from the prerequisites on. -/
def closing (force : Bool) (s0 s : State) : State :=
  let s1 := tryMuster (tryClaim (tryPrereq s))
  let s2 := tryCall (tryComplete (tryRelease (reMarkTest s0 s1)))
  let s3 := startWrite (restTrigger (driftTest s2))
  statusTest force s0 (dwellTest s3)

theorem finish_eq_closing (force : Bool) (s0 s : State) :
    finish force s0 s = closing force s0 (applyCeiling (watchLead (leadLost s))) := rfl

/-- The tests of the lead have nothing to do: no decision is forced and no search fails. -/
def Undisturbed (s : State) : Prop := leadLost s = s ∧ watchLead s = s

theorem LeadSteady.undisturbed {s : State} (h : LeadSteady s) : Undisturbed s :=
  ⟨leadLost_of_heard h.1, watchLead_of_settled h.2⟩

theorem undisturbed_of_no_search {s : State} (h : LeadHeard s) (hs : s.search.sub = .none) : Undisturbed s :=
  ⟨leadLost_of_heard h, by simp [watchLead, searching, hs]⟩

theorem finish_of_undisturbed {force : Bool} {s0 s : State} (h : Undisturbed s) :
    finish force s0 s = closing force s0 (applyCeiling s) := by
  obtain ⟨hl, hw⟩ := h
  rw [finish_eq_closing, hl, hw]

/-! ### What each of them leaves beyond its frame -/

theorem tryMuster_outside {s : State} (h : s.phase ≠ .muster) : tryMuster s = s := by simp [tryMuster, h]

@[simp] theorem tryMuster_keeps (s : State) :
    (tryMuster s).fault = s.fault ∧ (tryMuster s).gradeUnit.capped = s.gradeUnit.capped
      ∧ (tryMuster s).gradeUnit.recordedLead = s.gradeUnit.recordedLead
      ∧ (tryMuster s).gradeUnit.recoveryAnchor = s.gradeUnit.recoveryAnchor
      ∧ (tryMuster s).gradeUnit.lastDecision = s.gradeUnit.lastDecision
      ∧ (tryMuster s).mark.lastCapture = s.mark.lastCapture
      ∧ (tryMuster s).mark.reportAwaiting = s.mark.reportAwaiting
      ∧ (tryMuster s).mark.needs.reMark = s.mark.needs.reMark
      ∧ (tryMuster s).mark.needs.calibrate = s.mark.needs.calibrate := by
  unfold tryMuster
  split_ifs with h
  · obtain ⟨h, -⟩ := h
    unfold enterRecovery
    dsimp only
    split_ifs <;>
      simp [setPhase, register, startQuiet, needsUnion, onlyRecovery, needsNone, h]
  · simp

@[simp] theorem reMarkTest_keeps (s0 s : State) :
    (reMarkTest s0 s).mark.lastCapture = s.mark.lastCapture
      ∧ (reMarkTest s0 s).mark.reportAwaiting = s.mark.reportAwaiting
      ∧ (reMarkTest s0 s).mark.needs.recovery = s.mark.needs.recovery
      ∧ (reMarkTest s0 s).mark.needs.calibrate = s.mark.needs.calibrate := by
  unfold reMarkTest
  split_ifs <;> simp [withdrawNeed, register, needsUnion, needsMinus, onlyReMark, needsNone]

@[simp] theorem tryRelease_keeps (s : State) :
    (tryRelease s).mark.lastCapture = s.mark.lastCapture
      ∧ (tryRelease s).mark.reportAwaiting = s.mark.reportAwaiting := by
  unfold tryRelease
  split_ifs <;> simp

@[simp] theorem tryComplete_keeps (s : State) :
    (tryComplete s).mark.lastCapture = s.mark.lastCapture
      ∧ (tryComplete s).mark.reportAwaiting = s.mark.reportAwaiting
      ∧ (tryComplete s).port.attention.fault = s.port.attention.fault
      ∧ (tryComplete s).port.attention.grade = s.port.attention.grade
      ∧ (tryComplete s).port.attention.referenceDone = s.port.attention.referenceDone := by
  unfold tryComplete endCollection recordOutcome setMarkAttention
  split_ifs <;> simp

@[simp] theorem tryPrereq_search (s : State) :
    (tryPrereq s).search.plus = s.search.plus ∧ (tryPrereq s).search.level = s.search.level
      ∧ (tryPrereq s).search.passes = s.search.passes ∧ (tryPrereq s).search.total = s.search.total
      ∧ (tryPrereq s).search.interruptions = s.search.interruptions
      ∧ (tryPrereq s).search.prevCentre = s.search.prevCentre ∧ (tryPrereq s).search.e1 = s.search.e1
      ∧ (tryPrereq s).search.e2 = s.search.e2 ∧ (tryPrereq s).search.e3 = s.search.e3
      ∧ (tryPrereq s).search.e4 = s.search.e4 ∧ (tryPrereq s).search.passStart = s.search.passStart
      ∧ (tryPrereq s).search.moveStart = s.search.moveStart ∧ (tryPrereq s).search.clearPoint = s.search.clearPoint
      ∧ (tryPrereq s).search.restartPending = s.search.restartPending
      ∧ (tryPrereq s).search.chatter = s.search.chatter ∧ (tryPrereq s).search.centre = s.search.centre
      ∧ (tryPrereq s).search.lastDelta = s.search.lastDelta ∧ (tryPrereq s).search.theta0 = s.search.theta0
      ∧ (tryPrereq s).search.sigma = s.search.sigma ∧ (tryPrereq s).search.heldLambda = s.search.heldLambda
      ∧ (tryPrereq s).search.leadHold = s.search.leadHold ∧ (tryPrereq s).search.settleFirst = s.search.settleFirst
      ∧ (tryPrereq s).search.settleSecond = s.search.settleSecond ∧ (tryPrereq s).search.outcome = s.search.outcome
      ∧ (tryPrereq s).search.calWrite = s.search.calWrite ∧ (tryPrereq s).search.refSnapshot = s.search.refSnapshot
      ∧ (tryPrereq s).search.parkOutcome = s.search.parkOutcome ∧ (tryPrereq s).search.stage = s.search.stage
      ∧ (tryPrereq s).search.returning = s.search.returning
      ∧ (tryPrereq s).search.awaitingWrite = s.search.awaitingWrite
      ∧ (tryPrereq s).search.parkLimit = s.search.parkLimit := by
  unfold tryPrereq requestClaim
  split_ifs
  · dsimp only
    split <;> simp
  · simp

@[simp] theorem tryPrereq_claim (s : State) :
    (tryPrereq s).claim.dirState = s.claim.dirState ∧ (tryPrereq s).claim.dir = s.claim.dir
      ∧ (tryPrereq s).claim.lastNumber = s.claim.lastNumber ∧ (tryPrereq s).claim.untakenOpen = s.claim.untakenOpen
      ∧ (tryPrereq s).claim.untakenReported = s.claim.untakenReported
      ∧ (tryPrereq s).claim.untakenSince = s.claim.untakenSince
      ∧ (tryPrereq s).claim.untakenTimer = s.claim.untakenTimer ∧ (tryPrereq s).claim.allowance = s.claim.allowance
      ∧ (tryPrereq s).claim.furthest = s.claim.furthest ∧ (tryPrereq s).claim.still = s.claim.still
      ∧ (tryPrereq s).claim.takePoint = s.claim.takePoint ∧ (tryPrereq s).claim.allowanceStop = s.claim.allowanceStop := by
  unfold tryPrereq requestClaim
  split_ifs
  · dsimp only
    split <;> simp
  · simp

@[simp] theorem tryClaim_claim (s : State) :
    (tryClaim s).claim.wanted = s.claim.wanted ∧ (tryClaim s).claim.purpose = s.claim.purpose
      ∧ (tryClaim s).claim.dirState = s.claim.dirState ∧ (tryClaim s).claim.dir = s.claim.dir
      ∧ (tryClaim s).claim.lastNumber = s.claim.lastNumber ∧ (tryClaim s).claim.untakenOpen = s.claim.untakenOpen
      ∧ (tryClaim s).claim.untakenReported = s.claim.untakenReported
      ∧ (tryClaim s).claim.untakenSince = s.claim.untakenSince
      ∧ (tryClaim s).claim.untakenTimer = s.claim.untakenTimer ∧ (tryClaim s).claim.allowance = s.claim.allowance
      ∧ (tryClaim s).claim.furthest = s.claim.furthest ∧ (tryClaim s).claim.still = s.claim.still
      ∧ (tryClaim s).claim.takePoint = s.claim.takePoint ∧ (tryClaim s).claim.allowanceStop = s.claim.allowanceStop := by
  unfold tryClaim sendFrame
  split_ifs <;> simp

@[simp] theorem tryClaim_queue (s : State) :
    (tryClaim s).link.queue.halt = s.link.queue.halt ∧ (tryClaim s).link.queue.powerDown = s.link.queue.powerDown
      ∧ (tryClaim s).link.queue.markCall = s.link.queue.markCall
      ∧ (tryClaim s).link.queue.markReport = s.link.queue.markReport
      ∧ (tryClaim s).link.queue.release = s.link.queue.release ∧ (tryClaim s).link.queue.status = s.link.queue.status
      ∧ (tryClaim s).link.queue.hello = s.link.queue.hello := by
  unfold tryClaim sendFrame
  split_ifs <;> simp [frameKind, PerKind.set]

@[simp] theorem tryCall_queue (s : State) :
    (tryCall s).link.queue.halt = s.link.queue.halt ∧ (tryCall s).link.queue.powerDown = s.link.queue.powerDown
      ∧ (tryCall s).link.queue.markReport = s.link.queue.markReport
      ∧ (tryCall s).link.queue.claim = s.link.queue.claim ∧ (tryCall s).link.queue.release = s.link.queue.release
      ∧ (tryCall s).link.queue.status = s.link.queue.status ∧ (tryCall s).link.queue.hello = s.link.queue.hello := by
  unfold tryCall sendFrame
  split_ifs <;> simp [frameKind, PerKind.set]

@[simp] theorem statusTest_queue (force : Bool) (s0 : State) (s : State) :
    (statusTest force s0 s).link.queue.halt = s.link.queue.halt
      ∧ (statusTest force s0 s).link.queue.powerDown = s.link.queue.powerDown
      ∧ (statusTest force s0 s).link.queue.markCall = s.link.queue.markCall
      ∧ (statusTest force s0 s).link.queue.markReport = s.link.queue.markReport
      ∧ (statusTest force s0 s).link.queue.claim = s.link.queue.claim
      ∧ (statusTest force s0 s).link.queue.release = s.link.queue.release
      ∧ (statusTest force s0 s).link.queue.hello = s.link.queue.hello := by
  unfold statusTest queueStatus sendFrame
  split_ifs <;> simp [frameKind, PerKind.set]

@[simp] theorem restTrigger_search (s : State) :
    (restTrigger s).search.sub = s.search.sub ∧ (restTrigger s).search.plus = s.search.plus
      ∧ (restTrigger s).search.level = s.search.level ∧ (restTrigger s).search.passes = s.search.passes
      ∧ (restTrigger s).search.total = s.search.total ∧ (restTrigger s).search.interruptions = s.search.interruptions
      ∧ (restTrigger s).search.prevCentre = s.search.prevCentre ∧ (restTrigger s).search.e1 = s.search.e1
      ∧ (restTrigger s).search.e2 = s.search.e2 ∧ (restTrigger s).search.e3 = s.search.e3
      ∧ (restTrigger s).search.e4 = s.search.e4 ∧ (restTrigger s).search.passStart = s.search.passStart
      ∧ (restTrigger s).search.moveStart = s.search.moveStart
      ∧ (restTrigger s).search.clearPoint = s.search.clearPoint
      ∧ (restTrigger s).search.restartPending = s.search.restartPending
      ∧ (restTrigger s).search.chatter = s.search.chatter ∧ (restTrigger s).search.centre = s.search.centre
      ∧ (restTrigger s).search.lastDelta = s.search.lastDelta ∧ (restTrigger s).search.theta0 = s.search.theta0
      ∧ (restTrigger s).search.sigma = s.search.sigma ∧ (restTrigger s).search.heldLambda = s.search.heldLambda
      ∧ (restTrigger s).search.leadHold = s.search.leadHold
      ∧ (restTrigger s).search.prereqTimer = s.search.prereqTimer
      ∧ (restTrigger s).search.settleFirst = s.search.settleFirst
      ∧ (restTrigger s).search.settleSecond = s.search.settleSecond
      ∧ (restTrigger s).search.outcome = s.search.outcome ∧ (restTrigger s).search.calWrite = s.search.calWrite
      ∧ (restTrigger s).search.parkOutcome = s.search.parkOutcome ∧ (restTrigger s).search.stage = s.search.stage
      ∧ (restTrigger s).search.returning = s.search.returning
      ∧ (restTrigger s).search.awaitingWrite = s.search.awaitingWrite
      ∧ (restTrigger s).search.parkLimit = s.search.parkLimit := by
  unfold restTrigger requestSnapshot putSnapshot
  split_ifs <;> simp

@[simp] theorem closing_frame (force : Bool) (s0 s : State) :
    (closing force s0 s).ms = s.ms ∧ (closing force s0 s).straps = s.straps ∧ (closing force s0 s).levels = s.levels
      ∧ (closing force s0 s).sensor = s.sensor ∧ (closing force s0 s).fault = s.fault
      ∧ (closing force s0 s).free = s.free ∧ (closing force s0 s).pending = s.pending
      ∧ (closing force s0 s).reck.count = s.reck.count ∧ (closing force s0 s).reck.started = s.reck.started
      ∧ (closing force s0 s).reck.lastGood = s.reck.lastGood ∧ (closing force s0 s).reck.held = s.reck.held
      ∧ (closing force s0 s).reck.turnOffset = s.reck.turnOffset ∧ (closing force s0 s).reck.theta0 = s.reck.theta0
      ∧ (closing force s0 s).reck.sigma = s.reck.sigma ∧ (closing force s0 s).reck.calibrated = s.reck.calibrated
      ∧ (closing force s0 s).reck.lambda = s.reck.lambda ∧ (closing force s0 s).reck.basis = s.reck.basis
      ∧ (closing force s0 s).reck.theta = s.reck.theta ∧ (closing force s0 s).reck.saturated = s.reck.saturated
      ∧ (closing force s0 s).reck.thetaScale = s.reck.thetaScale ∧ (closing force s0 s).reck.anchor = s.reck.anchor
      ∧ (closing force s0 s).reck.atRest = s.reck.atRest ∧ (closing force s0 s).link.bitErrors = s.link.bitErrors
      ∧ (closing force s0 s).link.txErrors = s.link.txErrors ∧ (closing force s0 s).link.rxErrors = s.link.rxErrors
      ∧ (closing force s0 s).link.txFail = s.link.txFail
      ∧ (closing force s0 s).link.lastDuplicate = s.link.lastDuplicate
      ∧ (closing force s0 s).link.heartbeat = s.link.heartbeat
      ∧ (closing force s0 s).link.queue.halt = s.link.queue.halt
      ∧ (closing force s0 s).link.queue.powerDown = s.link.queue.powerDown
      ∧ (closing force s0 s).link.queue.markReport = s.link.queue.markReport
      ∧ (closing force s0 s).link.queue.release = s.link.queue.release
      ∧ (closing force s0 s).link.queue.hello = s.link.queue.hello
      ∧ (closing force s0 s).peers.entries = s.peers.entries ∧ (closing force s0 s).peers.digest = s.peers.digest
      ∧ (closing force s0 s).mark.number = s.mark.number ∧ (closing force s0 s).mark.reported = s.mark.reported
      ∧ (closing force s0 s).mark.captureRequested = s.mark.captureRequested
      ∧ (closing force s0 s).mark.lastCapture = s.mark.lastCapture
      ∧ (closing force s0 s).mark.reportAwaiting = s.mark.reportAwaiting
      ∧ (closing force s0 s).mark.leadWait = s.mark.leadWait
      ∧ (closing force s0 s).mark.needs.calibrate = s.mark.needs.calibrate
      ∧ (closing force s0 s).store.cellsA = s.store.cellsA ∧ (closing force s0 s).store.cellsB = s.store.cellsB
      ∧ (closing force s0 s).store.cellsCal = s.store.cellsCal ∧ (closing force s0 s).store.calSeq = s.store.calSeq
      ∧ (closing force s0 s).store.scanDone = s.store.scanDone
      ∧ (closing force s0 s).gradeUnit.grade = s.gradeUnit.grade
      ∧ (closing force s0 s).gradeUnit.capped = s.gradeUnit.capped
      ∧ (closing force s0 s).gradeUnit.recordedLead = s.gradeUnit.recordedLead
      ∧ (closing force s0 s).gradeUnit.recoveryAnchor = s.gradeUnit.recoveryAnchor
      ∧ (closing force s0 s).gradeUnit.lastDecision = s.gradeUnit.lastDecision
      ∧ (closing force s0 s).claim.dirState = s.claim.dirState ∧ (closing force s0 s).claim.dir = s.claim.dir
      ∧ (closing force s0 s).claim.lastNumber = s.claim.lastNumber
      ∧ (closing force s0 s).claim.untakenOpen = s.claim.untakenOpen
      ∧ (closing force s0 s).claim.untakenReported = s.claim.untakenReported
      ∧ (closing force s0 s).claim.untakenSince = s.claim.untakenSince
      ∧ (closing force s0 s).claim.untakenTimer = s.claim.untakenTimer
      ∧ (closing force s0 s).claim.allowance = s.claim.allowance
      ∧ (closing force s0 s).claim.furthest = s.claim.furthest ∧ (closing force s0 s).claim.still = s.claim.still
      ∧ (closing force s0 s).claim.takePoint = s.claim.takePoint
      ∧ (closing force s0 s).claim.allowanceStop = s.claim.allowanceStop
      ∧ (closing force s0 s).search.plus = s.search.plus ∧ (closing force s0 s).search.level = s.search.level
      ∧ (closing force s0 s).search.passes = s.search.passes ∧ (closing force s0 s).search.total = s.search.total
      ∧ (closing force s0 s).search.interruptions = s.search.interruptions
      ∧ (closing force s0 s).search.prevCentre = s.search.prevCentre ∧ (closing force s0 s).search.e1 = s.search.e1
      ∧ (closing force s0 s).search.e2 = s.search.e2 ∧ (closing force s0 s).search.e3 = s.search.e3
      ∧ (closing force s0 s).search.e4 = s.search.e4 ∧ (closing force s0 s).search.passStart = s.search.passStart
      ∧ (closing force s0 s).search.moveStart = s.search.moveStart
      ∧ (closing force s0 s).search.clearPoint = s.search.clearPoint
      ∧ (closing force s0 s).search.restartPending = s.search.restartPending
      ∧ (closing force s0 s).search.chatter = s.search.chatter ∧ (closing force s0 s).search.centre = s.search.centre
      ∧ (closing force s0 s).search.lastDelta = s.search.lastDelta
      ∧ (closing force s0 s).search.theta0 = s.search.theta0 ∧ (closing force s0 s).search.sigma = s.search.sigma
      ∧ (closing force s0 s).search.heldLambda = s.search.heldLambda
      ∧ (closing force s0 s).search.leadHold = s.search.leadHold
      ∧ (closing force s0 s).search.settleFirst = s.search.settleFirst
      ∧ (closing force s0 s).search.settleSecond = s.search.settleSecond
      ∧ (closing force s0 s).search.outcome = s.search.outcome
      ∧ (closing force s0 s).search.calWrite = s.search.calWrite
      ∧ (closing force s0 s).search.parkOutcome = s.search.parkOutcome
      ∧ (closing force s0 s).search.stage = s.search.stage
      ∧ (closing force s0 s).search.returning = s.search.returning
      ∧ (closing force s0 s).search.awaitingWrite = s.search.awaitingWrite
      ∧ (closing force s0 s).search.parkLimit = s.search.parkLimit ∧ (closing force s0 s).port.setup = s.port.setup
      ∧ (closing force s0 s).port.frozen = s.port.frozen ∧ (closing force s0 s).port.tau = s.port.tau
      ∧ (closing force s0 s).port.span = s.port.span ∧ (closing force s0 s).port.slot = s.port.slot
      ∧ (closing force s0 s).port.shifted = s.port.shifted ∧ (closing force s0 s).port.lastEnd = s.port.lastEnd
      ∧ (closing force s0 s).port.changedPeers = s.port.changedPeers
      ∧ (closing force s0 s).port.attention.fault = s.port.attention.fault
      ∧ (closing force s0 s).port.attention.grade = s.port.attention.grade
      ∧ (closing force s0 s).port.attention.referenceDone = s.port.attention.referenceDone := by
  simp [closing]

/-- Outside MUSTER the tests from the prerequisites on leave the phase and the grade unit. -/
theorem closing_outside {force : Bool} {s0 s : State} (h : s.phase ≠ .muster) :
    (closing force s0 s).phase = s.phase ∧ (closing force s0 s).gradeUnit = s.gradeUnit
      ∧ (closing force s0 s).mark.quiet = s.mark.quiet := by
  have h1 : tryMuster (tryClaim (tryPrereq s)) = tryClaim (tryPrereq s) := tryMuster_outside (by simpa using h)
  simp [closing, h1]

end Sys2Proof.Machine
end

section
/-! PROOFS. The ceiling's test, and what the closing tests leave when the lead is heard. -/

namespace Sys2Proof.Machine

/-! ### Grades -/

@[simp] theorem gradeCode_inj {a b : Grade} : gradeCode a = gradeCode b ↔ a = b := by
  cases a <;> cases b <;> simp [gradeCode]

@[simp] theorem gradeLe_iff {a b : Grade} : gradeLe a b = true ↔ gradeCode a ≤ gradeCode b := by simp [gradeLe]

@[simp] theorem gradeLt_iff {a b : Grade} : gradeLt a b = true ↔ gradeCode a < gradeCode b := by simp [gradeLt]

theorem gradeCode_gradeMin (a b : Grade) : gradeCode (gradeMin a b) = min (gradeCode a) (gradeCode b) := by
  unfold gradeMin
  split_ifs with h <;> simp only [gradeLe_iff] at h <;> omega

theorem gradeMin_eq_left {a b : Grade} (h : gradeCode a ≤ gradeCode b) : gradeMin a b = a := by
  simp [gradeMin, h]

theorem gradeMin_comm (a b : Grade) : gradeMin a b = gradeMin b a := by
  rw [← gradeCode_inj, gradeCode_gradeMin, gradeCode_gradeMin, min_comm]

theorem gradeMin_eq_right {a b : Grade} (h : gradeCode b ≤ gradeCode a) : gradeMin a b = b := by
  rw [gradeMin_comm, gradeMin_eq_left h]

@[simp] theorem gradeMin_self (a : Grade) : gradeMin a a = a := gradeMin_eq_left le_rfl

theorem gradeMin_assoc (a b c : Grade) : gradeMin (gradeMin a b) c = gradeMin a (gradeMin b c) := by
  simp only [← gradeCode_inj, gradeCode_gradeMin, min_assoc]

@[simp] theorem gradeMin_lost (a : Grade) : gradeMin a .lost = .lost := gradeMin_eq_right (by simp [gradeCode])

@[simp] theorem lost_gradeMin (a : Grade) : gradeMin .lost a = .lost := gradeMin_eq_left (by simp [gradeCode])

theorem gradeCode_le_referenced (a : Grade) : gradeCode a ≤ gradeCode .referenced := by cases a <;> simp [gradeCode]

@[simp] theorem gradeMin_referenced (a : Grade) : gradeMin a .referenced = a :=
  gradeMin_eq_left (gradeCode_le_referenced a)

@[simp] theorem referenced_gradeMin (a : Grade) : gradeMin .referenced a = a :=
  gradeMin_eq_right (gradeCode_le_referenced a)

/-! ### The ceiling -/

/-- The ceiling is read from the SATURATED flag, the state of the scale and the lead grade. -/
theorem ceiling_congr {s t : State} (hs : t.reck.saturated = s.reck.saturated)
    (hb : t.sensor.badScale = s.sensor.badScale) (hl : leadGrade t = leadGrade s) : ceiling t = ceiling s := by
  simp [ceiling, scaleFailed, hs, hb, hl]

theorem gradeCode_ceiling (s : State) :
    gradeCode (ceiling s)
      = min (min (gradeCode (if s.reck.saturated = true then .coarse else .referenced))
          (gradeCode (if 3 ≤ s.sensor.badScale then .resolved else .referenced)))
        (gradeCode ((leadGrade s).getD .referenced)) := by
  simp [ceiling, gradeCode_gradeMin, scaleFailed]

theorem applyCeiling_idle {s : State} (h : s.phase = .config ∨ s.phase = .down) : applyCeiling s = s := by
  unfold applyCeiling
  rcases h with h | h <;> simp [h]

theorem applyCeiling_under {s : State} (h : gradeCode s.gradeUnit.grade ≤ gradeCode (ceiling s)) :
    applyCeiling s = s := by
  simp [applyCeiling, h]

theorem applyCeiling_of_underCeiling {s : State} (h : UnderCeiling s) : applyCeiling s = s := by
  by_cases hc : s.phase = .config
  · exact applyCeiling_idle (.inl hc)
  by_cases hd : s.phase = .down
  · exact applyCeiling_idle (.inr hd)
  exact applyCeiling_under (h hc hd)

/-- The grade after the ceiling's test: the lower of the grade and the ceiling, but for CONFIG and DOWN (R103). -/
theorem applyCeiling_grade {s : State} (hc : s.phase ≠ .config) (hd : s.phase ≠ .down) :
    (applyCeiling s).gradeUnit.grade = gradeMin s.gradeUnit.grade (ceiling s) := by
  by_cases h : gradeCode s.gradeUnit.grade ≤ gradeCode (ceiling s)
  · rw [applyCeiling_under h, gradeMin_eq_left h]
  · simp [applyCeiling, hc, hd, h, gradeMin_eq_right (le_of_lt (not_le.mp h))]

theorem applyCeiling_grade_le (s : State) : gradeCode (applyCeiling s).gradeUnit.grade ≤ gradeCode s.gradeUnit.grade := by
  by_cases hc : s.phase = .config
  · rw [applyCeiling_idle (.inl hc)]
  by_cases hd : s.phase = .down
  · rw [applyCeiling_idle (.inr hd)]
  rw [applyCeiling_grade hc hd, gradeCode_gradeMin]
  exact min_le_left _ _

/-- The basis after the ceiling's test: none where the grade falls to LOST (R106). -/
theorem applyCeiling_basis {s : State} (hc : s.phase ≠ .config) (hd : s.phase ≠ .down)
    (h : gradeCode (ceiling s) < gradeCode s.gradeUnit.grade) :
    (applyCeiling s).reck.basis = basisFor (ceiling s) s.reck.basis := by
  have h' : ¬ gradeCode s.gradeUnit.grade ≤ gradeCode (ceiling s) := not_le.mpr h
  simp [applyCeiling, hc, hd, h']

/-! ### What setting a grade and ending a search leave beyond their frames -/

@[simp] theorem putGrade_keeps (g : Grade) (s : State) :
    (putGrade g s).gradeUnit = { s.gradeUnit with grade := g } := by
  unfold putGrade
  split_ifs with h
  · rw [← h]
  · rfl

@[simp] theorem setGradeBasis_gradeUnit (g : Grade) (b : Basis) (s : State) :
    (setGradeBasis g b s).gradeUnit = { s.gradeUnit with grade := g } := by
  unfold setGradeBasis
  dsimp only
  split_ifs <;> simp

@[simp] theorem setGrade_gradeUnit (g : Grade) (b : Basis) (s : State) :
    (setGrade g b s).gradeUnit = { s.gradeUnit with grade := g } := setGradeBasis_gradeUnit _ _ _

@[simp] theorem applyCeiling_keeps (s : State) :
    (applyCeiling s).gradeUnit.recoveryAnchor = s.gradeUnit.recoveryAnchor
      ∧ (applyCeiling s).gradeUnit.lastDecision = s.gradeUnit.lastDecision
      ∧ (applyCeiling s).gradeUnit.candidateCapture = s.gradeUnit.candidateCapture := by
  unfold applyCeiling
  dsimp only
  split_ifs <;> simp

@[simp] theorem endSearch_mark (o : SearchOutcome) (s : State) :
    (endSearch o s).mark = (withdrawNeed onlyCalibrate s).mark := by
  simp [endSearch, withdrawCalibration]

@[simp] theorem withdrawNeed_keeps (n : Needs) (s : State) :
    (withdrawNeed n s).mark.lastCapture = s.mark.lastCapture
      ∧ (withdrawNeed n s).mark.reportAwaiting = s.mark.reportAwaiting := ⟨rfl, rfl⟩

@[simp] theorem watchLead_keeps (s : State) :
    (watchLead s).mark.lastCapture = s.mark.lastCapture
      ∧ (watchLead s).mark.reportAwaiting = s.mark.reportAwaiting := by
  unfold watchLead failSearch
  split_ifs <;> simp

/-! ### The closing tests when the lead is heard -/

/-- While the lead is heard, the closing tests make no decision: M and what goes with it stay. -/
theorem finish_heard_frame {force : Bool} {s0 s : State} (h : LeadHeard s) :
    (finish force s0 s).reck.count = s.reck.count ∧ (finish force s0 s).reck.held = s.reck.held
      ∧ (finish force s0 s).reck.turnOffset = s.reck.turnOffset ∧ (finish force s0 s).reck.anchor = s.reck.anchor
      ∧ gradeCode (finish force s0 s).gradeUnit.grade ≤ gradeCode s.gradeUnit.grade
      ∧ (finish force s0 s).mark.lastCapture = s.mark.lastCapture
      ∧ (finish force s0 s).gradeUnit.lastDecision = s.gradeUnit.lastDecision := by
  have hg := applyCeiling_grade_le (watchLead s)
  rw [finish_eq_closing, leadLost_of_heard h]
  simp only [closing_frame, applyCeiling_frame, watchLead_frame] at hg ⊢
  simp [hg]

/-- With the tests of the lead idle, and outside MUSTER, the closing tests leave the phase, and of the grade unit and the basis
they change what the ceiling's test changes. -/
theorem finish_undisturbed_frame {force : Bool} {s0 s : State} (h : Undisturbed s) (hm : s.phase ≠ .muster) :
    (finish force s0 s).phase = s.phase ∧ (finish force s0 s).gradeUnit = (applyCeiling s).gradeUnit
      ∧ (finish force s0 s).reck.basis = (applyCeiling s).reck.basis
      ∧ (finish force s0 s).reck.theta = (applyCeiling s).reck.theta
      ∧ (finish force s0 s).reck.saturated = (applyCeiling s).reck.saturated
      ∧ (finish force s0 s).reck.lambda = (applyCeiling s).reck.lambda := by
  obtain ⟨hp, hg, -⟩ := closing_outside (force := force) (s0 := s0) (s := applyCeiling s) (by simpa using hm)
  rw [finish_of_undisturbed h, hp, hg]
  simp

theorem finish_under_frame {force : Bool} {s0 s : State} (h : Undisturbed s) (hm : s.phase ≠ .muster)
    (hu : gradeCode s.gradeUnit.grade ≤ gradeCode (ceiling s)) :
    (finish force s0 s).phase = s.phase ∧ (finish force s0 s).gradeUnit = s.gradeUnit
      ∧ (finish force s0 s).reck.basis = s.reck.basis ∧ (finish force s0 s).reck.theta = s.reck.theta
      ∧ (finish force s0 s).reck.saturated = s.reck.saturated ∧ (finish force s0 s).reck.lambda = s.reck.lambda := by
  have h := finish_undisturbed_frame (force := force) (s0 := s0) h hm
  rwa [applyCeiling_under hu] at h

end Sys2Proof.Machine
end

section
/-! PROOFS. O59 and O57: SETUP and TURN_CONFIRM. -/

namespace Sys2Proof.Machine

/-! ### Accepted commands -/

/-- A command that passes the tests of R188 follows its own rule. -/
theorem command_accepted {code : Nat} {rest ps : List Byte} {lengthOk domainOk : List Byte → Bool}
    {phaseOk : Phase → Bool} {act : List Byte → State → State} {s : State} (h : parameters code rest = some ps)
    (hl : lengthOk ps = true) (hd : domainOk ps = true) (hp : phaseOk s.phase = true) :
    command code rest lengthOk domainOk phaseOk act s = act ps (openTransaction s) := by
  simp [command, h, hl, hd, hp]

theorem running_out {now : Instant} {s : State} {effect : State → State} {force : Bool}
    (h : s.levels.rstLow = false) :
    running now s effect force = finish force (tick now s) (effect (tick now s)) := by
  simp [running, h]

/-! ### SETUP -/

theorem int32_range (a b c d : Byte) : -2147483648 ≤ int32 a b c d ∧ int32 a b c d ≤ 2147483647 := by
  have h1 := BitVec.le_toInt (a ++ b ++ (c ++ d))
  have h2 := BitVec.toInt_lt (x := a ++ b ++ (c ++ d))
  unfold int32
  norm_num at h1 h2
  omega

theorem clampInt_eq_max_min {lo hi : Int} (h : lo ≤ hi) (v : Int) : clampInt lo hi v = max lo (min hi v) := by
  unfold clampInt
  split_ifs <;> omega

theorem numericRange_le {i : Nat} {lo hi : Int} (h : numericRange i = some (lo, hi)) : lo ≤ hi := by
  unfold numericRange at h
  split at h <;> simp_all [angleMin, angleMax] <;> omega

/-- SETUP in CONFIG with a value runs its rule on the item, the index and the value. -/
theorem setup_runs {now : Instant} {rest ps : List Byte} {s : State} (hr : s.levels.rstLow = false)
    (hc : s.phase = .config) (h : parameters 16 rest = some ps) (hl : setupLength ps = true)
    (hd : setupDomain ps = true) :
    exec (.setup now rest) s
      = .next (finish false (tick now s) (setupAct ps (openTransaction (tick now s)))) := by
  change Host.Outcome.next (running now s _ _) = _
  rw [running_out hr, command_accepted h hl hd (by simpa [configOnly] using hc)]

theorem setupDomain_long (i x a b c d : Byte) : setupDomain [i, x, a, b, c, d] = indexOk i.toNat x.toNat := rfl

/-- The item stored, and the answer, survive the closing tests. -/
theorem finish_storeItem (force : Bool) (s0 : State) (i x : Nat) (v : Int) (changed : Bool) (s : State) :
    (finish force s0 (storeItem i x v changed s)).port.setup = writeItem i x v s.port.setup
      ∧ (finish force s0 (storeItem i x v changed s)).port.slot
        = { status := if changed then .clamped else .ok, echo := byte 16, reason := .none
            data := .setup i x (some v) } := by
  simp [storeItem, answer]

/-- A SETUP whose value is stored: the item and the answer as they stand at the end of the command. -/
theorem setup_stored {now : Instant} {rest : List Byte} {i x a b c d : Byte} {s : State} {v : Int} {changed : Bool}
    (hr : s.levels.rstLow = false) (hc : s.phase = .config) (h : parameters 16 rest = some [i, x, a, b, c, d])
    (hi : indexOk i.toNat x.toNat = true) (hv : storedValue i.toNat (int32 a b c d) = some (v, changed)) :
    exec (.setup now rest) s
      = .next (finish false (tick now s) (storeItem i.toNat x.toNat v changed (openTransaction (tick now s)))) := by
  rw [setup_runs hr hc h rfl ((setupDomain_long i x a b c d).trans hi)]
  simp [setupAct, setupParameters, hv]

/-- A new MOTOR_BITS unstarts the count, and the closing tests leave it so while the lead is heard (R6). -/
theorem finish_storeItem_motorBits {force : Bool} {s0 s : State} {x : Nat} {v : Int} {changed : Bool}
    (h : LeadHeard s) :
    (finish force s0 (storeItem 1 x v changed s)).reck.started = false
      ∧ (finish force s0 (storeItem 1 x v changed s)).reck.count = 0 := by
  have hh : LeadHeard (storeItem 1 x v changed s) := by
    exact h.congr (lead_congr_plan (by simp) (by simp [storeItem, writeItem]) (by simp [storeItem, writeItem])
      (by simp)) (by simp) (by simp) (by simp)
  obtain ⟨hcount, -⟩ := finish_heard_frame (force := force) (s0 := s0) hh
  rw [hcount]
  simp [storeItem, setupEffect, unstartCount]

theorem setup_numeric {now : Instant} {rest : List Byte} {i x a b c d : Byte} {s : State} {lo hi : Int}
    (hr : s.levels.rstLow = false) (hc : s.phase = .config) (hi' : indexOk i.toNat x.toNat = true)
    (h : parameters 16 rest = some [i, x, a, b, c, d]) (hn : numericRange i.toNat = some (lo, hi)) :
    let v := int32 a b c d
    let stored := max lo (min hi v)
    ∃ t, exec (.setup now rest) s = .next t ∧ t.port.setup = writeItem i.toNat x.toNat stored s.port.setup
      ∧ t.port.slot =
          { status := if lo ≤ v ∧ v ≤ hi then .ok else .clamped, echo := 16#8, reason := .none
            data := .setup i.toNat x.toNat (some stored) }
      ∧ (i = 1#8 → LeadHeard s → t.reck.started = false ∧ t.reck.count = 0) := by
  dsimp only
  have hle := numericRange_le hn
  have hv : storedValue i.toNat (int32 a b c d)
      = some (max lo (min hi (int32 a b c d)), decide (max lo (min hi (int32 a b c d)) ≠ int32 a b c d)) := by
    simp only [storedValue, hn, clampInt_eq_max_min hle]
  refine ⟨_, setup_stored hr hc h hi' hv, ?_, ?_, ?_⟩
  · exact (finish_storeItem ..).1.trans (by simp)
  · rw [(finish_storeItem ..).2]
    by_cases hin : lo ≤ int32 a b c d ∧ int32 a b c d ≤ hi
    · have : max lo (min hi (int32 a b c d)) = int32 a b c d := by omega
      simp [hin, byte]
    · have : max lo (min hi (int32 a b c d)) ≠ int32 a b c d := by omega
      simp [hin, this, byte]
  · rintro rfl hh
    exact finish_storeItem_motorBits (hh.congr (lead_congr (by simp) (by simp) (by simp)) (by simp) (by simp) (by simp))

theorem setup_mask {now : Instant} {rest : List Byte} {i x a b c d : Byte} {s : State}
    (hr : s.levels.rstLow = false) (hc : s.phase = .config) (hi' : indexOk i.toNat x.toNat = true)
    (h : parameters 16 rest = some [i, x, a, b, c, d]) (hm : i = 33#8 ∨ i = 38#8 ∨ i = 39#8) :
    let v := int32 a b c d
    ∃ t, exec (.setup now rest) s = .next t ∧ t.port.setup = writeItem i.toNat x.toNat (v % 64) s.port.setup
      ∧ t.port.slot =
          { status := if 0 ≤ v ∧ v ≤ 63 then .ok else .clamped, echo := 16#8, reason := .none
            data := .setup i.toNat x.toNat (some (v % 64)) } := by
  dsimp only
  have hv : storedValue i.toNat (int32 a b c d)
      = some (int32 a b c d % 64, decide (int32 a b c d < 0 ∨ 63 < int32 a b c d)) := by
    rcases hm with rfl | rfl | rfl <;> rfl
  refine ⟨_, setup_stored hr hc h hi' hv, ?_, ?_⟩
  · exact (finish_storeItem ..).1.trans (by simp)
  · rw [(finish_storeItem ..).2]
    by_cases hin : 0 ≤ int32 a b c d ∧ int32 a b c d ≤ 63
    · simp [hin, byte]
    · have : int32 a b c d < 0 ∨ 63 < int32 a b c d := by omega
      simp [hin, this, byte]

/-- The four characters of a setup value are its fields (R190). -/
theorem ofInt_int32 (a b c d : Byte) : BitVec.ofInt 32 (int32 a b c d) = a ++ b ++ (c ++ d) := by
  unfold int32
  exact BitVec.ofInt_toInt

theorem attrOf_isSome (a b c d : Byte) :
    (attrOf (int32 a b c d)).isSome = true ↔ a = 0#8 ∧ b.toNat ≤ 1 ∧ c.toNat ≤ 1 ∧ d.toNat ≤ 3 := by
  have hd : (a ++ b ++ (c ++ d)).extractLsb' 0 8 = d := by grind
  have hc : (a ++ b ++ (c ++ d)).extractLsb' 8 8 = c := by grind
  have hb : (a ++ b ++ (c ++ d)).extractLsb' 16 8 = b := by grind
  have ha : (a ++ b ++ (c ++ d)).extractLsb' 24 8 = a := by grind
  unfold attrOf
  rw [ofInt_int32]
  dsimp only
  rw [ha, hb, hc, hd]
  have hz : a.toNat = 0 ↔ a = 0#8 := by simp [← BitVec.toNat_inj]
  by_cases h3 : d.toNat ≤ 3
  · obtain ⟨cap, hcap⟩ : ∃ cap, speedOf d.toNat = some cap := by
      interval_cases d.toNat <;> exact ⟨_, rfl⟩
    simp only [hcap, hz, h3]
    split_ifs with hf
    · simp [hf]
    · simp only [Option.isSome_none, Bool.false_eq_true, false_iff, and_true]
      rintro ⟨ha0, hb1, hc1⟩
      exact hf ⟨hc1, hb1, ha0⟩
  · have hnone : speedOf d.toNat = none := by
      unfold speedOf
      split <;> first | rfl | omega
    simp [hnone, h3]

theorem setup_attribute {now : Instant} {rest : List Byte} {i x a b c d : Byte} {s : State}
    (hr : s.levels.rstLow = false) (hc : s.phase = .config) (hi' : indexOk i.toNat x.toNat = true)
    (h : parameters 16 rest = some [i, x, a, b, c, d]) (hm : i = 30#8 ∨ i = 31#8) :
    let fits : Prop := a = 0#8 ∧ b.toNat ≤ 1 ∧ c.toNat ≤ 1 ∧ d.toNat ≤ 3
    ∃ t, exec (.setup now rest) s = .next t
      ∧ (¬ fits → t.port.setup = s.port.setup
          ∧ t.port.slot = { status := .badItem, echo := 16#8, reason := .none, data := .none })
      ∧ (fits → t.port.setup = writeItem i.toNat x.toNat (int32 a b c d) s.port.setup
          ∧ t.port.slot =
              { status := .ok, echo := 16#8, reason := .none
                data := .setup i.toNat x.toNat (some (int32 a b c d)) }) := by
  dsimp only
  rw [← attrOf_isSome]
  have hv : storedValue i.toNat (int32 a b c d) = (attrOf (int32 a b c d)).map fun _ => (int32 a b c d, false) := by
    rcases hm with rfl | rfl <;> rfl
  cases ha : attrOf (int32 a b c d) with
  | none =>
    refine ⟨_, setup_runs hr hc h rfl ((setupDomain_long i x a b c d).trans hi'), ?_⟩
    simp [setupAct, setupParameters, hv, ha, answer, byte]
  | some v =>
    refine ⟨_, setup_stored hr hc h hi' (by rw [hv, ha]; rfl), ?_, fun _ => ⟨?_, ?_⟩⟩
    · simp
    · exact (finish_storeItem ..).1.trans (by simp)
    · exact (finish_storeItem ..).2.trans (by simp [byte])

theorem setup_parkAngle {now : Instant} {rest : List Byte} {x : Byte} {s : State} (hr : s.levels.rstLow = false)
    (hc : s.phase = .config) (hi' : indexOk 24 x.toNat = true) (h : parameters 16 rest = some [24#8, x]) :
    ∃ t, exec (.setup now rest) s = .next t ∧ t.port.setup = { s.port.setup with parkAngle := none } := by
  refine ⟨_, setup_runs hr hc h rfl hi', ?_⟩
  simp [setupAct, setupParameters]

/-- Settles O59: one lemma for each form of the value. -/
theorem setupStores : Obligations.SetupStores := by
  intro now rest i x s hr hc hi
  refine ⟨fun a b c d lo hi' h hn => setup_numeric hr hc hi h hn, fun a b c d h hm => setup_mask hr hc hi h hm,
    fun a b c d h hm => setup_attribute hr hc hi h hm, ?_⟩
  rintro h rfl
  exact setup_parkAngle hr hc hi h

end Sys2Proof.Machine
end

section
/-! PROOFS. O57: TURN_CONFIRM. -/

namespace Sys2Proof.Machine

/-! ### The turn offset of a fixed count (R10) -/

theorem clampInt_of_mem {lo hi x : Int} (hlo : lo ≤ x) (hhi : x ≤ hi) : clampInt lo hi x = x := by
  unfold clampInt
  split_ifs <;> omega

theorem countInRange_iff {m : Int} : countInRange m = true ↔ countMin ≤ m ∧ m ≤ countMax := by simp [countInRange]

theorem angleInRange_iff {a : Int} : angleInRange a = true ↔ angleMin ≤ a ∧ a ≤ angleMax := by simp [angleInRange]

theorem clampCount_of_inRange {m : Int} (h : countInRange m = true) : clampCount m = m := by
  rw [countInRange_iff] at h
  exact clampInt_of_mem h.1 h.2

theorem clampAngle_of_inRange {a : Int} (h : angleInRange a = true) : clampAngle a = a := by
  rw [angleInRange_iff] at h
  exact clampInt_of_mem h.1 h.2

@[simp] theorem applyOffset_count (d : Int) (s : State) :
    (applyOffset d s).reck.count = clampCount (s.reck.count + d) := by simp [applyOffset]

@[simp] theorem applyOffset_turnOffset (d : Int) (s : State) : (applyOffset d s).reck.turnOffset = d := by
  simp [applyOffset]

@[simp] theorem applyOffset_gradeUnit (d : Int) (s : State) :
    (applyOffset d s).gradeUnit
      = { s.gradeUnit with recoveryAnchor := shiftPoint d s.gradeUnit.recoveryAnchor } := by
  simp [applyOffset]

/-- A fixed count: M, the turn offset and the basis, and of the grade unit the recovery anchor alone. -/
theorem fixTurn_some (k : DecisionKind) (c : Capture) (x : Candidate) (s : State) :
    (fixTurn k c (some x) s).reck.count = clampCount (s.reck.count + offsetOf (setupOf s) c x.n)
      ∧ (fixTurn k c (some x) s).reck.turnOffset = offsetOf (setupOf s) c x.n
      ∧ (fixTurn k c (some x) s).reck.basis = .counts
      ∧ (fixTurn k c (some x) s).gradeUnit
        = { s.gradeUnit with recoveryAnchor := (fixTurn k c (some x) s).gradeUnit.recoveryAnchor } := by
  cases k <;> simp [fixTurn, setRecoveryAnchor]

/-- No fixed count: M and the basis stay, and a recovery sets its anchor. -/
theorem fixTurn_none (k : DecisionKind) (c : Capture) (s : State) :
    (fixTurn k c none s).reck = s.reck
      ∧ (fixTurn k c none s).gradeUnit
        = { s.gradeUnit with recoveryAnchor := (fixTurn k c none s).gradeUnit.recoveryAnchor } := by
  cases k <;> simp [fixTurn, setRecoveryAnchor]

/-! ### TURN_CONFIRM -/

/-- What TURN_CONFIRM begins with: the ticked state with its transaction opened. -/
def opened (now : Instant) (s : State) : State := openTransaction (tick now s)

@[simp] theorem opened_frame (now : Instant) (s : State) :
    (opened now s).phase = s.phase ∧ (opened now s).straps = s.straps ∧ (opened now s).sensor = s.sensor
      ∧ (opened now s).reck = s.reck ∧ (opened now s).link = s.link ∧ (opened now s).peers = s.peers
      ∧ (opened now s).mark = s.mark ∧ (opened now s).store = s.store ∧ (opened now s).gradeUnit = s.gradeUnit
      ∧ (opened now s).claim = s.claim ∧ (opened now s).search = s.search ∧ (opened now s).zone = s.zone
      ∧ (opened now s).fault = s.fault ∧ (opened now s).free = s.free ∧ (opened now s).pending = s.pending
      ∧ (opened now s).port.setup = s.port.setup ∧ (opened now s).port.frozen = s.port.frozen
      ∧ (opened now s).port.tau = s.port.tau ∧ (opened now s).levels.alhHigh = s.levels.alhHigh := by
  simp [opened]

theorem opened_inputs (now : Instant) (s : State) : leadInputs (opened now s) = leadInputs s := by simp [leadInputs]

theorem ceiling_opened (now : Instant) (s : State) : ceiling (opened now s) = ceiling s :=
  ceiling_congr (by simp) (by simp) (leadGrade_of_inputs (opened_inputs now s))

theorem ceiling_lost_iff (s : State) : ceiling s = .lost ↔ leadGrade s = some .lost := by
  rw [← gradeCode_inj, gradeCode_ceiling]
  cases h : leadGrade s with
  | none => split_ifs <;> simp [gradeCode]
  | some g => cases g <;> split_ifs <;> simp [gradeCode]

theorem turnConfirm_runs {now : Instant} {rest : List Byte} {k : Byte} {s : State} (hs : s.levels.rstLow = false)
    (h : parameters 10 rest = some [k]) (hlo : -4 ≤ k.toInt) (hhi : k.toInt ≤ 3) (hp : s.phase = .ready) :
    exec (.turnConfirm now rest) s = .next (finish false (tick now s) (turnConfirmAct [k] (opened now s))) := by
  change Host.Outcome.next (running now s _ _) = _
  rw [running_out hs, command_accepted h rfl (by simp [turnDomain, turnParameter, hlo, hhi])
    (by simpa [readyOnly] using hp)]
  rfl

/-- A refusal leaves the offset and the list, also through the closing tests. -/
theorem turnConfirm_refused {now : Instant} {rest : List Byte} {k : Byte} {s : State} {r : Reason} (hs : Steady s)
    (h : parameters 10 rest = some [k]) (hlo : -4 ≤ k.toInt) (hhi : k.toInt ≤ 3) (hp : s.phase = .ready)
    (hr : turnConfirmAct [k] (opened now s) = refuse 10 r (opened now s)) :
    ∃ t, exec (.turnConfirm now rest) s = .next t
      ∧ t.port.slot = { status := .refused, echo := 10#8, reason := r, data := .none }
      ∧ t.reck.turnOffset = s.reck.turnOffset ∧ t.gradeUnit.candidates = s.gradeUnit.candidates := by
  obtain ⟨hl, hst⟩ := hs
  have hst' : LeadSteady (refuse 10 r (opened now s)) := leadSteady_of_inputs (by simp [leadInputs]) hst (by simp)
  refine ⟨_, turnConfirm_runs hl h hlo hhi hp, ?_⟩
  rw [hr]
  obtain ⟨-, -, ho, -⟩ := finish_heard_frame (force := false) (s0 := tick now s) hst'.1
  obtain ⟨-, hg, -⟩ := finish_undisturbed_frame (force := false) (s0 := tick now s) hst'.undisturbed (by simp [hp])
  rw [ho, hg]
  simp [refuse, answer, byte]

/-- The state that an accepted TURN_CONFIRM leaves before the closing tests, where M stays in its range. -/
theorem confirmTurn_inRange {c : Candidate} {cap : Capture} {s : State}
    (hd : countInRange (s.reck.count + offsetOf (setupOf s) cap c.n) = true) :
    let u := confirmTurn c cap s
    let d := offsetOf (setupOf s) cap c.n
    u.phase = s.phase ∧ u.reck.count = s.reck.count + d ∧ u.reck.turnOffset = d ∧ u.reck.basis = .counts
      ∧ u.gradeUnit.grade = .coarse ∧ u.gradeUnit.candidates = [] ∧ u.gradeUnit.capped = false
      ∧ u.gradeUnit.recoveryAnchor = some (cap.count + d) ∧ u.port.slot = s.port.slot
      ∧ leadInputs u = leadInputs s ∧ u.search.leadHold = s.search.leadHold := by
  obtain ⟨hc, ho, hb, -⟩ := fixTurn_some .turnConfirm cap c s
  have ha := fixTurn_recoveryAnchor .turnConfirm cap (some c) s
  rw [clampCount_of_inRange hd] at hc
  simp only [reduceCtorEq, ↓reduceIte] at ha
  simp [confirmTurn, raiseIfOutside, hd, emptyCandidates, hc, ho, ha, basisFor, leadInputs]

/-- Settles O57: the refusals in their order, and the accepted offset. -/
theorem turnConfirm : Obligations.TurnConfirm := by
  intro now rest k s hs h hlo hhi hp
  have hcl : gradeLt (ceiling (opened now s)) .coarse = true ↔ ceiling s = .lost := by
    rw [ceiling_opened]
    cases ceiling s <;> decide
  have hout : ∀ r, turnConfirmAct [k] (opened now s) = refuse 10 r (opened now s) → _ :=
    fun r => turnConfirm_refused (r := r) hs h hlo hhi hp
  have hlist : (setupOf (opened now s)).scaleWraps = false ∨ (opened now s).gradeUnit.grade ≠ .lost
      ∨ (opened now s).gradeUnit.candidates = [] ↔ ¬ ((setupOf s).scaleWraps = true ∧ s.gradeUnit.grade = .lost
        ∧ s.gradeUnit.candidates ≠ []) := by
    simp only [setupOf, opened_frame]
    cases s.port.setup.scaleWraps <;> simp; tauto
  have hturn : inTurn (opened now s) (turnParameter [k]) = s.gradeUnit.candidates.filter fun c => c.jointTurn == k.toInt := by
    simp [inTurn, turnParameter]
  have hsub : (opened now s).gradeUnit.sub = s.gradeUnit.sub := by simp
  refine ⟨fun hn => hout _ ?_, fun hn hi => hout _ ?_, fun hn hi hl => hout _ ?_, fun hn hi hl hc => hout _ ?_,
    fun c cap hn hi hl hc hcap hd => ?_⟩
  · rw [turnConfirmAct, if_pos (hlist.mpr hn)]
  · rw [turnConfirmAct, if_neg (fun h => hlist.mp h hn), if_pos (by rwa [hsub])]
  · rw [turnConfirmAct, if_neg (fun h => hlist.mp h hn), if_neg (by rw [hsub]; simp [hi]), if_pos (hcl.mpr hl)]
  · rw [turnConfirmAct, if_neg (fun h => hlist.mp h hn), if_neg (by rw [hsub]; simp [hi]),
      if_neg (fun h => hl (hcl.mp h)), hturn]
    split
    · next c cap hx _ => simp [hx] at hc
    · rfl
  · have hact : turnConfirmAct [k] (opened now s) = confirmTurn c cap (answerOk 10 .none (opened now s)) := by
      rw [turnConfirmAct, if_neg (fun h => hlist.mp h hn), if_neg (by rw [hsub]; simp [hi]),
        if_neg (fun h => hl (hcl.mp h)), hturn, hc, show (opened now s).gradeUnit.candidateCapture = some cap by simpa]
    obtain ⟨hrst, hst⟩ := hs
    obtain ⟨hph, hcount, hoff, hb, hg, hcands, hcap', hanchor, hslot, hin, hlh⟩ :=
      confirmTurn_inRange (c := c) (cap := cap) (s := answerOk 10 .none (opened now s)) (by simpa [setupOf, offsetOf, turnCount] using hd)
    have hin' : leadInputs (confirmTurn c cap (answerOk 10 .none (opened now s))) = leadInputs s :=
      hin.trans (by simp [leadInputs])
    have hceil : gradeCode (confirmTurn c cap (answerOk 10 .none (opened now s))).gradeUnit.grade
        ≤ gradeCode (ceiling (confirmTurn c cap (answerOk 10 .none (opened now s)))) := by
      rw [hg]
      refine Nat.one_le_iff_ne_zero.mpr fun h0 => hl ?_
      rw [ceiling_lost_iff, ← leadGrade_of_inputs hin', ← ceiling_lost_iff, ← gradeCode_inj, h0]
      rfl
    have hst' : LeadSteady (confirmTurn c cap (answerOk 10 .none (opened now s))) :=
      leadSteady_of_inputs hin' hst (by rw [hlh]; simp)
    obtain ⟨hfc, -, hfo, -⟩ := finish_heard_frame (force := false) (s0 := tick now s) hst'.1
    obtain ⟨-, hfg, hfb, -⟩ := finish_under_frame (force := false) (s0 := tick now s) hst'.undisturbed
      (by rw [hph]; simp [hp]) hceil
    refine ⟨_, turnConfirm_runs hrst h hlo hhi hp, ?_⟩
    rw [hact, hfc, hfo, hfb, hfg, hcount, hoff, hb, hg, hcands, hcap', hanchor]
    simp [answerOk, answer, byte, offsetOf, turnCount, setupOf]

end Sys2Proof.Machine
end

section
/-! PROOFS. What a STOP fault makes of the station (R105, R177 to R179), and what stands once a fault has been raised. -/

namespace Sys2Proof.Machine

/-! ### The fall of the grade (Table 6-2) -/

/-- The grade that a STOP cause leaves at most: REFERENCED for a cause without a row. -/
def fallGrade (c : StopCause) (s : State) : Grade :=
  match fallOf s c with
  | none => .referenced
  | some (g, _) => g

/-- The basis that a STOP cause leaves. -/
def fallBasis (c : StopCause) (s : State) : Basis :=
  match fallOf s c with
  | none => s.reck.basis
  | some (_, b) => b.getD s.reck.basis

theorem gradeFall_grade (c : StopCause) (s : State) :
    (gradeFall c s).gradeUnit = { s.gradeUnit with grade := gradeMin s.gradeUnit.grade (fallGrade c s) } := by
  cases h : fallOf s c <;> simp [gradeFall, fallGrade, h]

theorem gradeFall_basis (c : StopCause) (s : State) : (gradeFall c s).reck.basis = fallBasis c s := by
  cases h : fallOf s c <;> simp [gradeFall, fallBasis, h]

theorem fallOf_congr {s t : State} (hs : t.sensor = s.sensor) (hp : t.port.setup = s.port.setup) (c : StopCause) :
    fallOf t c = fallOf s c := by
  unfold fallOf scaleValid scaleFailed setupOf
  rw [hs, hp]

/-! ### A STOP fault by its phase -/

theorem raiseStop_idle {c : StopCause} {a b : Int} {s : State} (h : s.phase = .config ∨ s.phase = .down) :
    raiseStop c a b s = raise (.stop c) a b (own s) s := by
  unfold raiseStop
  rcases h with h | h <;> simp [h]

theorem raiseStop_faulted {c : StopCause} {a b : Int} {s : State} (h : s.phase = .faulted) :
    raiseStop c a b s = gradeFall c (joinStopSet c a (raise (.stop c) a b (own s) s)) := by
  simp [raiseStop, h]

theorem raiseStop_stops {c : StopCause} {a b : Int} {s : State} (h : stopsIn s.phase = true) :
    raiseStop c a b s = stopEffects c a (raise (.stop c) a b (own s) s) := by
  unfold raiseStop
  cases hp : s.phase <;> simp_all [stopsIn]

theorem stopsIn_false_iff (p : Phase) : stopsIn p = false ↔ p = .config ∨ p = .faulted ∨ p = .down := by
  cases p <;> simp [stopsIn]

/-- The grade unit after the STOP effects: the fallen grade, no decision in hand, no candidate list. -/
theorem stopEffects_gradeUnit (c : StopCause) (a : Int) (s : State) :
    (stopEffects c a s).gradeUnit
      = { s.gradeUnit with
          grade := gradeMin s.gradeUnit.grade (fallGrade c s), sub := .idle, readPending := false, held := none
          leadReport := .awaited, candidates := [], candidateCapture := none } := by
  simp [stopEffects, emptyCandidates, endDecision, gradeFall_grade]

theorem stopEffects_basis (c : StopCause) (a : Int) (s : State) : (stopEffects c a s).reck.basis = fallBasis c s := by
  simp [stopEffects, gradeFall_basis]

@[simp] theorem stopEffects_phase (c : StopCause) (a : Int) (s : State) : (stopEffects c a s).phase = .faulted := by
  simp [stopEffects, setPhase]

theorem mem_joinStopSet (c : StopCause) (a : Int) (s : State) : c ∈ (joinStopSet c a s).fault.stopSet := by
  unfold joinStopSet
  dsimp only
  split_ifs with h
  · exact h
  · simp

theorem mem_stopEffects (c : StopCause) (a : Int) (s : State) : c ∈ (stopEffects c a s).fault.stopSet := by
  simpa [stopEffects] using mem_joinStopSet c a _

/-- A current STOP is posted by the STOP effects, or stands (R133). -/
theorem postStop_current_after (s : State) : stopCurrent (postStop s) = true := by
  unfold postStop
  split_ifs with h
  · exact h
  · simp [stopCurrent, postStopAnew, postDirective_record]

theorem stopCurrent_congr {s t : State} (h : t.claim.dirState = s.claim.dirState) (hd : t.claim.dir = s.claim.dir) :
    stopCurrent t = stopCurrent s := by
  simp [stopCurrent, h, hd]

theorem moving_congr {s t : State} (h : t.claim.dirState = s.claim.dirState) (hd : t.claim.dir = s.claim.dir) :
    moving t = moving s := by
  simp [moving, h, hd]

theorem stopEffects_stopCurrent (c : StopCause) (a : Int) (s : State) : stopCurrent (stopEffects c a s) = true := by
  rw [← postStop_current_after (releaseClaim (endSearchByFault (gradeFall c s)))]
  exact stopCurrent_congr (by simp [stopEffects]) (by simp [stopEffects])

/-- The fall of a STOP fault, whose phase it is. -/
def stopFalls (p : Phase) : Bool := stopsIn p || decide (p = .faulted)

theorem stopFalls_of_stopsIn {p : Phase} (h : stopsIn p = true) : stopFalls p = true := by simp [stopFalls, h]

theorem fallGrade_congr {s t : State} (hs : t.sensor = s.sensor) (hp : t.port.setup = s.port.setup) (c : StopCause) :
    fallGrade c t = fallGrade c s := by
  simp [fallGrade, fallOf_congr hs hp]

theorem fallBasis_congr {s t : State} (hs : t.sensor = s.sensor) (hp : t.port.setup = s.port.setup)
    (hb : t.reck.basis = s.reck.basis) (c : StopCause) : fallBasis c t = fallBasis c s := by
  simp [fallBasis, fallOf_congr hs hp, hb]

theorem raiseStop_phase (c : StopCause) (a b : Int) (s : State) :
    (raiseStop c a b s).phase = if stopsIn s.phase = true then .faulted else s.phase := by
  by_cases h : stopsIn s.phase = true
  · simp [raiseStop_stops h, h]
  · rcases (stopsIn_false_iff _).mp (by simpa using h) with hp | hp | hp
    · simp [raiseStop_idle (.inl hp), h]
    · simp [raiseStop_faulted hp, h]
    · simp [raiseStop_idle (.inr hp), h]

theorem raiseStop_grade (c : StopCause) (a b : Int) (s : State) :
    (raiseStop c a b s).gradeUnit.grade
      = if stopFalls s.phase = true then gradeMin s.gradeUnit.grade (fallGrade c s) else s.gradeUnit.grade := by
  have hg : ∀ u : State, u.sensor = s.sensor → u.port.setup = s.port.setup → fallGrade c u = fallGrade c s :=
    fun u hs hp => fallGrade_congr hs hp c
  by_cases h : stopsIn s.phase = true
  · simp [raiseStop_stops h, stopFalls, h, stopEffects_gradeUnit, hg]
  · rcases (stopsIn_false_iff _).mp (by simpa using h) with hp | hp | hp
    · simp [raiseStop_idle (.inl hp), stopFalls, hp, stopsIn]
    · simp [raiseStop_faulted hp, stopFalls, hp, gradeFall_grade, hg]
    · simp [raiseStop_idle (.inr hp), stopFalls, hp, stopsIn]

theorem raiseStop_basis (c : StopCause) (a b : Int) (s : State) :
    (raiseStop c a b s).reck.basis = if stopFalls s.phase = true then fallBasis c s else s.reck.basis := by
  have hg : ∀ u : State, u.sensor = s.sensor → u.port.setup = s.port.setup → u.reck.basis = s.reck.basis →
      fallBasis c u = fallBasis c s := fun u hs hp hb => fallBasis_congr hs hp hb c
  by_cases h : stopsIn s.phase = true
  · simp [raiseStop_stops h, stopFalls, h, stopEffects_basis, hg]
  · rcases (stopsIn_false_iff _).mp (by simpa using h) with hp | hp | hp
    · simp [raiseStop_idle (.inl hp), stopFalls, hp, stopsIn]
    · simp [raiseStop_faulted hp, stopFalls, hp, gradeFall_basis, hg]
    · simp [raiseStop_idle (.inr hp), stopFalls, hp, stopsIn]

theorem raiseStop_grade_le (c : StopCause) (a b : Int) (s : State) :
    gradeCode (raiseStop c a b s).gradeUnit.grade ≤ gradeCode s.gradeUnit.grade := by
  rw [raiseStop_grade]
  split_ifs
  · rw [gradeCode_gradeMin]
    exact min_le_left _ _
  · exact le_rfl

theorem mem_raiseStop (c : StopCause) (a b : Int) (s : State) (h : stopFalls s.phase = true) :
    c ∈ (raiseStop c a b s).fault.stopSet := by
  by_cases hp : stopsIn s.phase = true
  · rw [raiseStop_stops hp]
    exact mem_stopEffects _ _ _
  · have hf : s.phase = .faulted := by simpa [stopFalls, hp] using h
    rw [raiseStop_faulted hf]
    simpa using mem_joinStopSet c a _

/-- What the grade unit holds beside the grade: a decision in hand ends where the STOP effects run. -/
theorem raiseStop_gradeUnit (c : StopCause) (a b : Int) (s : State) :
    (raiseStop c a b s).gradeUnit
      = if stopsIn s.phase = true then
          { s.gradeUnit with
            grade := (raiseStop c a b s).gradeUnit.grade, sub := .idle, readPending := false, held := none
            leadReport := .awaited, candidates := [], candidateCapture := none }
        else { s.gradeUnit with grade := (raiseStop c a b s).gradeUnit.grade } := by
  by_cases h : stopsIn s.phase = true
  · simp [raiseStop_stops h, h, stopEffects_gradeUnit]
  · rcases (stopsIn_false_iff _).mp (by simpa using h) with hp | hp | hp
    · simp [raiseStop_idle (.inl hp), h]
    · simp [raiseStop_faulted hp, h, gradeFall_grade]
    · simp [raiseStop_idle (.inr hp), h]

end Sys2Proof.Machine
end

section
/-! PROOFS. A fault once shown stays shown: no operation clears the FAULT attention cause or overwrites a locked record but the
drive's own commands (R177), so what the first fault of a command wrote still stands at its end. -/

namespace Sys2Proof.Machine

/-- The FAULT cause is set and the locked record is `r`, but for faults counted as lost since (R177). -/
def Shown (r rec : FaultRecord) (attention : Bool) : Prop :=
  attention = true ∧ rec.locked = true ∧ rec = { r with lost := rec.lost }

/-- `Shown` of a state. -/
abbrev FaultShown (r : FaultRecord) (s : State) : Prop := Shown r s.fault.record s.port.attention.fault

/-- Whatever stood before, a fault that is raised leaves its record locked, and the record then stands. -/
theorem raise_shown (c : FaultCause) (a b : Int) (st : Option Station) (s : State) :
    FaultShown (raise c a b st s).fault.record (raise c a b st s) := ⟨by simp, by simp, rfl⟩

@[simp] theorem raise_faultShown {r : FaultRecord} (c : FaultCause) (a b : Int) (st : Option Station) {s : State}
    (h : Shown r s.fault.record s.port.attention.fault) :
    Shown r (raise c a b st s).fault.record (raise c a b st s).port.attention.fault := by
  obtain ⟨-, hl, hr⟩ := h
  refine ⟨by simp, by simp, ?_⟩
  rw [raise_locked _ _ _ _ _ hl, hr]

/-- What an unlocked record holds at the end of the command: the first fault that was raised. -/
theorem FaultShown.record {c : FaultCause} {a b : Int} {st : Option Station} {s t : State}
    (h : FaultShown (raise c a b st s).fault.record t) :
    t.port.attention.fault = true ∧ t.fault.record.locked = true
      ∧ (s.fault.record.locked = false → t.fault.record.cause = some c ∧ t.fault.record.station = st
          ∧ t.fault.record.a = faultValue a ∧ t.fault.record.b = faultValue b) := by
  obtain ⟨ha, hl, hr⟩ := h
  refine ⟨ha, hl, fun hu => ?_⟩
  rw [hr, raise_unlocked _ _ _ _ _ hu]
  exact ⟨rfl, rfl, rfl, rfl⟩

/-! ### What leaves the FAULT cause -/

@[simp] theorem setDirectiveAttention_faultCause (b : Bool) (s : State) :
    (setDirectiveAttention b s).port.attention.fault = s.port.attention.fault := by
  rfl

@[simp] theorem setGradeAttention_faultCause (s : State) :
    (setGradeAttention s).port.attention.fault = s.port.attention.fault := by
  rfl

@[simp] theorem setMarkAttention_faultCause (s : State) :
    (setMarkAttention s).port.attention.fault = s.port.attention.fault := by
  rfl

@[simp] theorem setDoneAttention_faultCause (s : State) :
    (setDoneAttention s).port.attention.fault = s.port.attention.fault := by
  rfl

@[simp] theorem postDirective_faultCause (k : DirKind) (speed : Nat) (target : Option Int) (s : State) :
    (postDirective k speed target s).port.attention.fault = s.port.attention.fault := by
  simp [postDirective]

@[simp] theorem postStopAnew_faultCause (s : State) :
    (postStopAnew s).port.attention.fault = s.port.attention.fault := by
  simp [postStopAnew]

@[simp] theorem postStop_faultCause (s : State) :
    (postStop s).port.attention.fault = s.port.attention.fault := by
  unfold postStop
  split_ifs <;> simp

@[simp] theorem postMove_faultCause (k : DirKind) (speed : Nat) (target : Option Int) (s : State) :
    (postMove k speed target s).port.attention.fault = s.port.attention.fault := by
  unfold postMove
  split_ifs <;> simp

@[simp] theorem putGrade_faultCause (g : Grade) (s : State) :
    (putGrade g s).port.attention.fault = s.port.attention.fault := by
  unfold putGrade
  split_ifs <;> simp

@[simp] theorem releaseClaim_faultCause (s : State) :
    (releaseClaim s).port.attention.fault = s.port.attention.fault := by
  unfold releaseClaim
  (repeat' split) <;> simp

@[simp] theorem endCollection_faultCause (o : MarkOutcome) (m : StationMask) (s : State) :
    (endCollection o m s).port.attention.fault = s.port.attention.fault := by
  simp [endCollection]

@[simp] theorem tryComplete_faultCause (s : State) :
    (tryComplete s).port.attention.fault = s.port.attention.fault := by
  unfold tryComplete
  split_ifs <;> simp

@[simp] theorem markAtDown_faultCause (s : State) :
    (markAtDown s).port.attention.fault = s.port.attention.fault := by
  unfold markAtDown
  dsimp only
  split_ifs <;> simp

@[simp] theorem tryMove_faultCause (s : State) :
    (tryMove s).port.attention.fault = s.port.attention.fault := by
  unfold tryMove
  (repeat' split) <;> simp

@[simp] theorem beginMove_faultCause (s : State) :
    (beginMove s).port.attention.fault = s.port.attention.fault := by
  simp [beginMove]

@[simp] theorem endMove_faultCause (s : State) :
    (endMove s).port.attention.fault = s.port.attention.fault := by
  simp [endMove]

@[simp] theorem enterClear_faultCause (s : State) :
    (enterClear s).port.attention.fault = s.port.attention.fault := by
  simp [enterClear]

@[simp] theorem enterForward_faultCause (s : State) :
    (enterForward s).port.attention.fault = s.port.attention.fault := by
  simp [enterForward]

@[simp] theorem restartForward_faultCause (s : State) :
    (restartForward s).port.attention.fault = s.port.attention.fault := by
  simp [restartForward]

@[simp] theorem enterReverse_faultCause (s : State) :
    (enterReverse s).port.attention.fault = s.port.attention.fault := by
  simp [enterReverse]

@[simp] theorem tryRestart_faultCause (s : State) :
    (tryRestart s).port.attention.fault = s.port.attention.fault := by
  unfold tryRestart
  dsimp only
  (repeat' split) <;> simp

@[simp] theorem completeSearch_faultCause (s : State) :
    (completeSearch s).port.attention.fault = s.port.attention.fault := by
  simp [completeSearch]

@[simp] theorem enterPark_faultCause (s : State) :
    (enterPark s).port.attention.fault = s.port.attention.fault := by
  simp [enterPark]

@[simp] theorem advanceSearch_faultCause (s : State) :
    (advanceSearch s).port.attention.fault = s.port.attention.fault := by
  unfold advanceSearch
  (repeat' split) <;> simp

@[simp] theorem trySettle_faultCause (s : State) :
    (trySettle s).port.attention.fault = s.port.attention.fault := by
  unfold trySettle
  split_ifs <;> simp

@[simp] theorem claimGranted_faultCause (s : State) :
    (claimGranted s).port.attention.fault = s.port.attention.fault := by
  unfold claimGranted
  dsimp only
  (repeat' split) <;> simp

@[simp] theorem claimEcho_faultCause (s : State) :
    (claimEcho s).port.attention.fault = s.port.attention.fault := by
  unfold claimEcho
  (repeat' split) <;> simp

@[simp] theorem takePosted_faultCause (s : State) :
    (takePosted s).port.attention.fault = s.port.attention.fault := by
  unfold takePosted
  dsimp only
  split_ifs <;> simp

@[simp] theorem directiveAtDown_faultCause (s : State) :
    (directiveAtDown s).port.attention.fault = s.port.attention.fault := by
  unfold directiveAtDown
  dsimp only
  split_ifs <;> simp

@[simp] theorem collectionEvent_faultCause (s : State) :
    (collectionEvent s).port.attention.fault = s.port.attention.fault := by
  unfold collectionEvent
  split_ifs <;> simp

@[simp] theorem startSearch_faultCause (s : State) :
    (startSearch s).port.attention.fault = s.port.attention.fault := by
  simp [startSearch]

/-! ### What keeps a fault shown -/

@[simp] theorem note_faultShown (c : NoteCause) (a b : Int) {r : FaultRecord} {s : State}
    (h : Shown r s.fault.record s.port.attention.fault) :
    Shown r (note c a b s).fault.record (note c a b s).port.attention.fault := by
  exact raise_faultShown _ _ _ _ h

@[simp] theorem noteOf_faultShown (k : Station) (c : NoteCause) (a b : Int) {r : FaultRecord} {s : State}
    (h : Shown r s.fault.record s.port.attention.fault) :
    Shown r (noteOf k c a b s).fault.record (noteOf k c a b s).port.attention.fault := by
  exact raise_faultShown _ _ _ _ h

@[simp] theorem recomputeTheta_faultShown {r : FaultRecord} {s : State}
    (h : Shown r s.fault.record s.port.attention.fault) :
    Shown r (recomputeTheta s).fault.record (recomputeTheta s).port.attention.fault := by
  unfold recomputeTheta
  dsimp only
  (repeat' split) <;> simp [h]

@[simp] theorem recomputeScale_faultShown {r : FaultRecord} {s : State}
    (h : Shown r s.fault.record s.port.attention.fault) :
    Shown r (recomputeScale s).fault.record (recomputeScale s).port.attention.fault := by
  unfold recomputeScale
  dsimp only
  (repeat' split) <;> simp [h]

@[simp] theorem setLambda_faultShown (v : Int) {r : FaultRecord} {s : State}
    (h : Shown r s.fault.record s.port.attention.fault) :
    Shown r (setLambda v s).fault.record (setLambda v s).port.attention.fault := by
  simp [setLambda, h]

@[simp] theorem setSigma_faultShown (v : Int) {r : FaultRecord} {s : State}
    (h : Shown r s.fault.record s.port.attention.fault) :
    Shown r (setSigma v s).fault.record (setSigma v s).port.attention.fault := by
  unfold setSigma
  split_ifs <;> simp [h]

@[simp] theorem takeCalibration_faultShown (a b : Int) (m : Bool) {r : FaultRecord} {s : State}
    (h : Shown r s.fault.record s.port.attention.fault) :
    Shown r (takeCalibration a b m s).fault.record (takeCalibration a b m s).port.attention.fault := by
  simp [takeCalibration, h]

@[simp] theorem unstartCount_faultShown {r : FaultRecord} {s : State}
    (h : Shown r s.fault.record s.port.attention.fault) :
    Shown r (unstartCount s).fault.record (unstartCount s).port.attention.fault := by
  exact recomputeTheta_faultShown h

@[simp] theorem applyOffset_faultShown (d : Int) {r : FaultRecord} {s : State}
    (h : Shown r s.fault.record s.port.attention.fault) :
    Shown r (applyOffset d s).fault.record (applyOffset d s).port.attention.fault := by
  exact recomputeTheta_faultShown h

@[simp] theorem setBasis_faultShown (b : Basis) {r : FaultRecord} {s : State}
    (h : Shown r s.fault.record s.port.attention.fault) :
    Shown r (setBasis b s).fault.record (setBasis b s).port.attention.fault := by
  unfold setBasis
  split_ifs <;> simp [h]

@[simp] theorem setGradeBasis_faultShown (g : Grade) (b : Basis) {r : FaultRecord} {s : State}
    (h : Shown r s.fault.record s.port.attention.fault) :
    Shown r (setGradeBasis g b s).fault.record (setGradeBasis g b s).port.attention.fault := by
  unfold setGradeBasis
  dsimp only
  split_ifs <;> simp [h]

@[simp] theorem setGrade_faultShown (g : Grade) (b : Basis) {r : FaultRecord} {s : State}
    (h : Shown r s.fault.record s.port.attention.fault) :
    Shown r (setGrade g b s).fault.record (setGrade g b s).port.attention.fault := by
  simp [setGrade, h]

@[simp] theorem gradeFall_faultShown (c : StopCause) {r : FaultRecord} {s : State}
    (h : Shown r s.fault.record s.port.attention.fault) :
    Shown r (gradeFall c s).fault.record (gradeFall c s).port.attention.fault := by
  unfold gradeFall
  split <;> simp [h]

@[simp] theorem applyCeiling_faultShown {r : FaultRecord} {s : State}
    (h : Shown r s.fault.record s.port.attention.fault) :
    Shown r (applyCeiling s).fault.record (applyCeiling s).port.attention.fault := by
  unfold applyCeiling
  dsimp only
  split_ifs <;> simp [h]

@[simp] theorem lapse_faultShown {r : FaultRecord} {s : State}
    (h : Shown r s.fault.record s.port.attention.fault) :
    Shown r (lapse s).fault.record (lapse s).port.attention.fault := by
  unfold lapse
  dsimp only
  split_ifs <;> simp [h]

@[simp] theorem endLeadHold_faultShown {r : FaultRecord} {s : State}
    (h : Shown r s.fault.record s.port.attention.fault) :
    Shown r (endLeadHold s).fault.record (endLeadHold s).port.attention.fault := by
  unfold endLeadHold
  dsimp only
  (repeat' split) <;> simp [h]

@[simp] theorem endSearch_faultShown (o : SearchOutcome) {r : FaultRecord} {s : State}
    (h : Shown r s.fault.record s.port.attention.fault) :
    Shown r (endSearch o s).fault.record (endSearch o s).port.attention.fault := by
  simp [endSearch, h]

@[simp] theorem failSearch_faultShown (c : FailCause) (n : Int) {r : FaultRecord} {s : State}
    (h : Shown r s.fault.record s.port.attention.fault) :
    Shown r (failSearch c n s).fault.record (failSearch c n s).port.attention.fault := by
  simp [failSearch, h]

@[simp] theorem abortSearch_faultShown (a : AbortReason) (st : Option Station) {r : FaultRecord} {s : State}
    (h : Shown r s.fault.record s.port.attention.fault) :
    Shown r (abortSearch a st s).fault.record (abortSearch a st s).port.attention.fault := by
  exact endSearch_faultShown _ (raise_faultShown _ _ _ _ h)

@[simp] theorem endSearchByFault_faultShown {r : FaultRecord} {s : State}
    (h : Shown r s.fault.record s.port.attention.fault) :
    Shown r (endSearchByFault s).fault.record (endSearchByFault s).port.attention.fault := by
  unfold endSearchByFault
  split_ifs <;> simp [h]

@[simp] theorem endSearchByPower_faultShown {r : FaultRecord} {s : State}
    (h : Shown r s.fault.record s.port.attention.fault) :
    Shown r (endSearchByPower s).fault.record (endSearchByPower s).port.attention.fault := by
  unfold endSearchByPower
  split_ifs <;> simp [h]

@[simp] theorem searchSample_faultShown {r : FaultRecord} {s : State}
    (h : Shown r s.fault.record s.port.attention.fault) :
    Shown r (searchSample s).fault.record (searchSample s).port.attention.fault := by
  unfold searchSample
  (repeat' split) <;> simp [h]

@[simp] theorem inhibitNotice_faultShown {r : FaultRecord} {s : State}
    (h : Shown r s.fault.record s.port.attention.fault) :
    Shown r (inhibitNotice s).fault.record (inhibitNotice s).port.attention.fault := by
  unfold inhibitNotice
  (repeat' split) <;> simp [h]

@[simp] theorem watchLead_faultShown {r : FaultRecord} {s : State}
    (h : Shown r s.fault.record s.port.attention.fault) :
    Shown r (watchLead s).fault.record (watchLead s).port.attention.fault := by
  unfold watchLead
  split_ifs <;> simp [h]

@[simp] theorem nextPass_faultShown {r : FaultRecord} {s : State}
    (h : Shown r s.fault.record s.port.attention.fault) :
    Shown r (nextPass s).fault.record (nextPass s).port.attention.fault := by
  unfold nextPass
  split_ifs <;> simp [h]

@[simp] theorem evaluatePass_faultShown {r : FaultRecord} {s : State}
    (h : Shown r s.fault.record s.port.attention.fault) :
    Shown r (evaluatePass s).fault.record (evaluatePass s).port.attention.fault := by
  unfold evaluatePass
  dsimp only
  (repeat' split) <;> simp [h]

@[simp] theorem stopEffects_faultShown (c : StopCause) (a : Int) {r : FaultRecord} {s : State}
    (h : Shown r s.fault.record s.port.attention.fault) :
    Shown r (stopEffects c a s).fault.record (stopEffects c a s).port.attention.fault := by
  simp [stopEffects, h]

@[simp] theorem raiseStop_faultShown (c : StopCause) (a b : Int) {r : FaultRecord} {s : State}
    (h : Shown r s.fault.record s.port.attention.fault) :
    Shown r (raiseStop c a b s).fault.record (raiseStop c a b s).port.attention.fault := by
  have h1 := raise_faultShown (.stop c) a b (own s) h
  unfold raiseStop
  dsimp only
  split
  · exact h1
  · exact h1
  · exact gradeFall_faultShown c (by simpa using h1)
  all_goals exact stopEffects_faultShown c a h1

@[simp] theorem raiseIfOutside_faultShown (x : Int) {r : FaultRecord} {s : State}
    (h : Shown r s.fault.record s.port.attention.fault) :
    Shown r (raiseIfOutside x s).fault.record (raiseIfOutside x s).port.attention.fault := by
  unfold raiseIfOutside
  split_ifs <;> simp [h]

@[simp] theorem enterDown_faultShown {r : FaultRecord} {s : State}
    (h : Shown r s.fault.record s.port.attention.fault) :
    Shown r (enterDown s).fault.record (enterDown s).port.attention.fault := by
  simp [enterDown, h]

@[simp] theorem takeLeadAngle_faultShown {r : FaultRecord} {s : State}
    (h : Shown r s.fault.record s.port.attention.fault) :
    Shown r (takeLeadAngle s).fault.record (takeLeadAngle s).port.attention.fault := by
  unfold takeLeadAngle
  (repeat' split) <;> simp [h]

@[simp] theorem fixTurn_faultShown (k : DecisionKind) (c : Capture) (n : Option Candidate) {r : FaultRecord} {s : State}
    (h : Shown r s.fault.record s.port.attention.fault) :
    Shown r (fixTurn k c n s).fault.record (fixTurn k c n s).port.attention.fault := by
  unfold fixTurn setRecoveryAnchor
  cases n <;> cases k <;> simp [h]

@[simp] theorem raiseVerdictNotes_faultShown (c : Capture) (v : Verdict) {r : FaultRecord} {s : State}
    (h : Shown r s.fault.record s.port.attention.fault) :
    Shown r (raiseVerdictNotes c v s).fault.record (raiseVerdictNotes c v s).port.attention.fault := by
  unfold raiseVerdictNotes
  dsimp only
  (repeat' split) <;> simp [h]

@[simp] theorem gradeByVerdict_faultShown (v : Verdict) {r : FaultRecord} {s : State}
    (h : Shown r s.fault.record s.port.attention.fault) :
    Shown r (gradeByVerdict v s).fault.record (gradeByVerdict v s).port.attention.fault := by
  simp [gradeByVerdict, h]

@[simp] theorem decideOn_faultShown (c : Capture) {r : FaultRecord} {s : State}
    (h : Shown r s.fault.record s.port.attention.fault) :
    Shown r (decideOn c s).fault.record (decideOn c s).port.attention.fault := by
  have h1 : FaultShown r (gradeByVerdict (judge (takeLeadAngle s) (courseOf s) (kindOf s) c) (fixTurn (kindOf s) c
      (judge (takeLeadAngle s) (courseOf s) (kindOf s) c).n (raiseVerdictNotes c
        (judge (takeLeadAngle s) (courseOf s) (kindOf s) c) (takeLeadAngle s)))) :=
    gradeByVerdict_faultShown _ (fixTurn_faultShown _ _ _ (by simp [h]))
  exact raiseIfOutside_faultShown _ (by dsimp only; (repeat' split) <;> simpa using h1)

@[simp] theorem decideHeld_faultShown {r : FaultRecord} {s : State}
    (h : Shown r s.fault.record s.port.attention.fault) :
    Shown r (decideHeld s).fault.record (decideHeld s).port.attention.fault := by
  unfold decideHeld
  split <;> simp [h]

@[simp] theorem advanceDecision_faultShown {r : FaultRecord} {s : State}
    (h : Shown r s.fault.record s.port.attention.fault) :
    Shown r (advanceDecision s).fault.record (advanceDecision s).port.attention.fault := by
  unfold advanceDecision
  split_ifs <;> simp [h]

@[simp] theorem gradeCapture_faultShown (c : Capture) (n : Needs) {r : FaultRecord} {s : State}
    (h : Shown r s.fault.record s.port.attention.fault) :
    Shown r (gradeCapture c n s).fault.record (gradeCapture c n s).port.attention.fault := by
  unfold gradeCapture
  split_ifs <;> simp [h]

@[simp] theorem captureAnswered_faultShown (c : Capture) {r : FaultRecord} {s : State}
    (h : Shown r s.fault.record s.port.attention.fault) :
    Shown r (captureAnswered c s).fault.record (captureAnswered c s).port.attention.fault := by
  unfold captureAnswered
  dsimp only
  split_ifs <;> simp [h]

@[simp] theorem leadResolved_faultShown (l : LeadReport) {r : FaultRecord} {s : State}
    (h : Shown r s.fault.record s.port.attention.fault) :
    Shown r (leadResolved l s).fault.record (leadResolved l s).port.attention.fault := by
  unfold leadResolved
  dsimp only
  split_ifs <;> simp [h]

@[simp] theorem leadLost_faultShown {r : FaultRecord} {s : State}
    (h : Shown r s.fault.record s.port.attention.fault) :
    Shown r (leadLost s).fault.record (leadLost s).port.attention.fault := by
  unfold leadLost
  (repeat' split) <;> simp [h]

@[simp] theorem leadAtEdge_faultShown {r : FaultRecord} {s : State}
    (h : Shown r s.fault.record s.port.attention.fault) :
    Shown r (leadAtEdge s).fault.record (leadAtEdge s).port.attention.fault := by
  unfold leadAtEdge
  (repeat' split) <;> simp [h]

@[simp] theorem noteTorn_faultShown {r : FaultRecord} {s : State}
    (h : Shown r s.fault.record s.port.attention.fault) :
    Shown r (noteTorn s).fault.record (noteTorn s).port.attention.fault := by
  unfold noteTorn
  dsimp only
  split_ifs <;> simp [h]

@[simp] theorem readCalibration_faultShown {r : FaultRecord} {s : State}
    (h : Shown r s.fault.record s.port.attention.fault) :
    Shown r (readCalibration s).fault.record (readCalibration s).port.attention.fault := by
  unfold readCalibration
  split <;> simp [h]

@[simp] theorem answerRead_faultShown {r : FaultRecord} {s : State}
    (h : Shown r s.fault.record s.port.attention.fault) :
    Shown r (answerRead s).fault.record (answerRead s).port.attention.fault := by
  have h1 := readCalibration_faultShown (noteTorn_faultShown h)
  unfold answerRead
  dsimp only
  split
  · exact advanceDecision_faultShown h1
  · exact h1

@[simp] theorem startCount_faultShown (p : Nat) {r : FaultRecord} {s : State}
    (h : Shown r s.fault.record s.port.attention.fault) :
    Shown r (startCount p s).fault.record (startCount p s).port.attention.fault := by
  simp [startCount, h]

@[simp] theorem addStep_faultShown (d : Int) (p : Nat) {r : FaultRecord} {s : State}
    (h : Shown r s.fault.record s.port.attention.fault) :
    Shown r (addStep d p s).fault.record (addStep d p s).port.attention.fault := by
  simp [addStep, h]

@[simp] theorem jumpTest_faultShown (d : Int) {r : FaultRecord} {s : State}
    (h : Shown r s.fault.record s.port.attention.fault) :
    Shown r (jumpTest d s).fault.record (jumpTest d s).port.attention.fault := by
  unfold jumpTest
  split_ifs <;> simp [h]

@[simp] theorem overflowTest_faultShown (b : Bool) (x : Int) {r : FaultRecord} {s : State}
    (h : Shown r s.fault.record s.port.attention.fault) :
    Shown r (overflowTest b x s).fault.record (overflowTest b x s).port.attention.fault := by
  unfold overflowTest
  split_ifs <;> simp [h]

@[simp] theorem countGood_faultShown (p : Nat) {r : FaultRecord} {s : State}
    (h : Shown r s.fault.record s.port.attention.fault) :
    Shown r (countGood p s).fault.record (countGood p s).port.attention.fault := by
  unfold countGood
  dsimp only
  split_ifs
  · have h1 : FaultShown r (evaluateRest (motorFailed s) (addStep (stepOf s p) p (takeGood p s))) := by simp [FaultShown, h]
    exact overflowTest_faultShown _ _ (jumpTest_faultShown _ h1)
  · exact startCount_faultShown _ (by simpa using h)

@[simp] theorem answerCapture_faultShown (c : Capture) {r : FaultRecord} {s : State}
    (h : Shown r s.fault.record s.port.attention.fault) :
    Shown r (answerCapture c s).fault.record (answerCapture c s).port.attention.fault := by
  unfold answerCapture
  split_ifs <;> simp [h]

@[simp] theorem directionCheck_faultShown {r : FaultRecord} {s : State}
    (h : Shown r s.fault.record s.port.attention.fault) :
    Shown r (directionCheck s).fault.record (directionCheck s).port.attention.fault := by
  unfold directionCheck
  (repeat' split) <;> simp [h]

@[simp] theorem stillnessCheck_faultShown {r : FaultRecord} {s : State}
    (h : Shown r s.fault.record s.port.attention.fault) :
    Shown r (stillnessCheck s).fault.record (stillnessCheck s).port.attention.fault := by
  unfold stillnessCheck
  (repeat' split) <;> simp [h]

@[simp] theorem goodMotorSample_faultShown (p : Nat) (flag : Bool) {r : FaultRecord} {s : State}
    (h : Shown r s.fault.record s.port.attention.fault) :
    Shown r (goodMotorSample p flag s).fault.record (goodMotorSample p flag s).port.attention.fault := by
  have h1 := countGood_faultShown p h
  have h2 : FaultShown r (trySettle (directionCheck (answerCapture (goodCapture p (flagSample flag (countGood p s)))
      (flagSample flag (countGood p s))))) := by simp [FaultShown, h1]
  exact searchSample_faultShown (stillnessCheck_faultShown h2)

@[simp] theorem badMotorSample_faultShown (flag : Bool) {r : FaultRecord} {s : State}
    (h : Shown r s.fault.record s.port.attention.fault) :
    Shown r (badMotorSample flag s).fault.record (badMotorSample flag s).port.attention.fault := by
  unfold badMotorSample
  dsimp only
  split_ifs <;> simp [h]

@[simp] theorem driftCheck_faultShown {r : FaultRecord} {s : State}
    (h : Shown r s.fault.record s.port.attention.fault) :
    Shown r (driftCheck s).fault.record (driftCheck s).port.attention.fault := by
  unfold driftCheck
  split
  · dsimp only
    split_ifs
    · exact h
    · exact h
    · exact raiseStop_faultShown _ _ _ h
  · exact h

@[simp] theorem goodScaleSample_faultShown (v : Nat) {r : FaultRecord} {s : State}
    (h : Shown r s.fault.record s.port.attention.fault) :
    Shown r (goodScaleSample v s).fault.record (goodScaleSample v s).port.attention.fault := by
  simp [goodScaleSample, h]

@[simp] theorem badScaleSample_faultShown {r : FaultRecord} {s : State}
    (h : Shown r s.fault.record s.port.attention.fault) :
    Shown r (badScaleSample s).fault.record (badScaleSample s).port.attention.fault := by
  unfold badScaleSample
  dsimp only
  split_ifs <;> simp [h]

@[simp] theorem mismatchTest_faultShown (k : Station) {r : FaultRecord} {s : State}
    (h : Shown r s.fault.record s.port.attention.fault) :
    Shown r (mismatchTest k s).fault.record (mismatchTest k s).port.attention.fault := by
  unfold mismatchTest
  (repeat' split) <;> simp [h]

@[simp] theorem leadAngle_faultShown (k : Station) (a : Option Int) {r : FaultRecord} {s : State}
    (h : Shown r s.fault.record s.port.attention.fault) :
    Shown r (leadAngle k a s).fault.record (leadAngle k a s).port.attention.fault := by
  unfold leadAngle
  (repeat' split) <;> simp [h]

@[simp] theorem duplicate_faultShown (k : Station) (f : Frame) {r : FaultRecord} {s : State}
    (h : Shown r s.fault.record s.port.attention.fault) :
    Shown r (duplicate k f s).fault.record (duplicate k f s).port.attention.fault := by
  simp [duplicate, h]

@[simp] theorem failKind_faultShown (k : FrameKind) {r : FaultRecord} {s : State}
    (h : Shown r s.fault.record s.port.attention.fault) :
    Shown r (failKind k s).fault.record (failKind k s).port.attention.fault := by
  simp [failKind, h]

@[simp] theorem bitErrorEvent_faultShown (n : Nat) {r : FaultRecord} {s : State}
    (h : Shown r s.fault.record s.port.attention.fault) :
    Shown r (bitErrorEvent n s).fault.record (bitErrorEvent n s).port.attention.fault := by
  unfold bitErrorEvent
  dsimp only
  (repeat' split) <;> simp [h]

@[simp] theorem haltFromPeer_faultShown (k : Station) {r : FaultRecord} {s : State}
    (h : Shown r s.fault.record s.port.attention.fault) :
    Shown r (haltFromPeer k s).fault.record (haltFromPeer k s).port.attention.fault := by
  unfold haltFromPeer
  split_ifs <;> simp [h]

@[simp] theorem callHeard_faultShown {r : FaultRecord} {s : State}
    (h : Shown r s.fault.record s.port.attention.fault) :
    Shown r (callHeard s).fault.record (callHeard s).port.attention.fault := by
  unfold callHeard
  split_ifs <;> simp [h]

@[simp] theorem takeCall_faultShown (k : Station) (n : Byte) {r : FaultRecord} {s : State}
    (h : Shown r s.fault.record s.port.attention.fault) :
    Shown r (takeCall k n s).fault.record (takeCall k n s).port.attention.fault := by
  unfold takeCall
  split_ifs <;> simp [adoptCall, h]

@[simp] theorem leadReports_faultShown (k : Station) (m : MarkReport) {r : FaultRecord} {s : State}
    (h : Shown r s.fault.record s.port.attention.fault) :
    Shown r (leadReports k m s).fault.record (leadReports k m s).port.attention.fault := by
  unfold leadReports
  split_ifs <;> simp [h]

@[simp] theorem reportFromPeer_faultShown (k : Station) (m : MarkReport) {r : FaultRecord} {s : State}
    (h : Shown r s.fault.record s.port.attention.fault) :
    Shown r (reportFromPeer k m s).fault.record (reportFromPeer k m s).port.attention.fault := by
  simp [reportFromPeer, h]

@[simp] theorem claimConflict_faultShown (j k : Station) {r : FaultRecord} {s : State}
    (h : Shown r s.fault.record s.port.attention.fault) :
    Shown r (claimConflict j k s).fault.record (claimConflict j k s).port.attention.fault := by
  unfold claimConflict
  dsimp only
  split_ifs <;> simp [h]

@[simp] theorem conflictTest_faultShown (k : Station) (f : StatusFrame) {r : FaultRecord} {s : State}
    (h : Shown r s.fault.record s.port.attention.fault) :
    Shown r (conflictTest k f s).fault.record (conflictTest k f s).port.attention.fault := by
  unfold conflictTest
  (repeat' split) <;> simp [h]

@[simp] theorem statusFromPeer_faultShown (k : Station) (f : StatusFrame) {r : FaultRecord} {s : State}
    (h : Shown r s.fault.record s.port.attention.fault) :
    Shown r (statusFromPeer k f s).fault.record (statusFromPeer k f s).port.attention.fault := by
  simp [statusFromPeer, h]

@[simp] theorem peerArrival_faultShown (k : Station) (f : Frame) {r : FaultRecord} {s : State}
    (h : Shown r s.fault.record s.port.attention.fault) :
    Shown r (peerArrival k f s).fault.record (peerArrival k f s).port.attention.fault := by
  unfold peerArrival
  dsimp only
  (repeat' split) <;> simp [h]

@[simp] theorem snapDone_faultShown (slot : Slot) (q : SnapRecord) (rb : ReadBack) {r : FaultRecord} {s : State}
    (h : Shown r s.fault.record s.port.attention.fault) :
    Shown r (snapDone slot q rb s).fault.record (snapDone slot q rb s).port.attention.fault := by
  unfold snapDone
  dsimp only
  split_ifs <;> simp [h]

@[simp] theorem enterPark_faultShown {r : FaultRecord} {s : State}
    (h : Shown r s.fault.record s.port.attention.fault) :
    Shown r (enterPark s).fault.record (enterPark s).port.attention.fault := by
  simpa using h

@[simp] theorem completeSearch_faultShown {r : FaultRecord} {s : State}
    (h : Shown r s.fault.record s.port.attention.fault) :
    Shown r (completeSearch s).fault.record (completeSearch s).port.attention.fault := by
  simpa using h

@[simp] theorem calibrationDone_faultShown (o : WriteOutcome) {r : FaultRecord} {s : State}
    (h : Shown r s.fault.record s.port.attention.fault) :
    Shown r (calibrationDone o s).fault.record (calibrationDone o s).port.attention.fault := by
  have h1 := setGrade_faultShown (gradeMin .referenced (ceiling (setBasis .counts s))) .counts
    (setBasis_faultShown .counts h)
  unfold calibrationDone
  dsimp only
  split
  · refine enterPark_faultShown ?_
    exact endLeadHold_faultShown (by simpa using h1)
  · refine completeSearch_faultShown ?_
    exact endLeadHold_faultShown (by simpa using h1)

@[simp] theorem calDone_faultShown (q : CalRecord) (rb : ReadBack) {r : FaultRecord} {s : State}
    (h : Shown r s.fault.record s.port.attention.fault) :
    Shown r (calDone q rb s).fault.record (calDone q rb s).port.attention.fault := by
  unfold calDone
  dsimp only
  split_ifs
  · exact calibrationDone_faultShown _ (takeCalibration_faultShown _ _ _ h)
  · exact calibrationDone_faultShown _ (takeCalibration_faultShown _ _ _ (note_faultShown _ _ _ h))
  · exact takeCalibration_faultShown _ _ _ h
  · exact takeCalibration_faultShown _ _ _ (note_faultShown _ _ _ h)

@[simp] theorem writeEvent_faultShown (rb : ReadBack) {r : FaultRecord} {s : State}
    (h : Shown r s.fault.record s.port.attention.fault) :
    Shown r (writeEvent rb s).fault.record (writeEvent rb s).port.attention.fault := by
  unfold writeEvent
  split
  · exact h
  · simpa using snapDone_faultShown _ _ rb h
  · simpa using calDone_faultShown _ rb h

@[simp] theorem readEvent_faultShown {r : FaultRecord} {s : State}
    (h : Shown r s.fault.record s.port.attention.fault) :
    Shown r (readEvent s).fault.record (readEvent s).port.attention.fault := by
  unfold readEvent
  split_ifs <;> simp [h]

/-- The tests at the end of a command keep what the command has shown. -/
theorem finish_faultShown {r : FaultRecord} {s : State} (force : Bool) (s0 : State) (h : FaultShown r s) :
    FaultShown r (finish force s0 s) := by
  have h1 : FaultShown r (watchLead (leadLost s)) := watchLead_faultShown (leadLost_faultShown h)
  rw [finish_eq_closing]
  simp [FaultShown, applyCeiling_faultShown h1]

end Sys2Proof.Machine
end

section
/-! PROOFS. In basis SCALE the angle is θ_scale, held to its range, with the SATURATED flag beside it (R13, R15): a property of
the reckoning unit's block, which every operation below keeps whatever else it does. -/

namespace Sys2Proof.Machine

/-- In basis SCALE θ and the SATURATED flag are those of θ_scale (R13, R15). -/
def ThetaOfScale (r : Reckoning) : Prop :=
  r.basis = .scale → r.theta = r.thetaScale.map clampAngle ∧ ∀ a, r.thetaScale = some a → r.saturated = !angleInRange a

/-- A recomputation of θ in basis SCALE takes it from θ_scale. -/
@[simp] theorem recomputeTheta_thetaOfScale (s : State) : ThetaOfScale (recomputeTheta s).reck := by
  intro hb
  have hf : formedAngle s = s.reck.thetaScale := by
    have hb' : s.reck.basis = .scale := by simpa using hb
    simp [formedAngle, hb']
  rw [recomputeTheta_theta, recomputeTheta_saturated, hf]
  refine ⟨by simp, fun a ha => ?_⟩
  have ha' : s.reck.thetaScale = some a := by simpa using ha
  simp [ha']

@[simp] theorem recomputeScale_thetaOfScale (s : State) : ThetaOfScale (recomputeScale s).reck := by
  unfold recomputeScale
  by_cases hb : s.reck.basis = .scale <;> simp only [hb, ↓reduceIte]
  · simp
  · intro h
    exact absurd h hb

@[simp] theorem setLambda_thetaOfScale (v : Int) (s : State) : ThetaOfScale (setLambda v s).reck :=
  recomputeTheta_thetaOfScale _

@[simp] theorem applyOffset_thetaOfScale (d : Int) (s : State) : ThetaOfScale (applyOffset d s).reck :=
  recomputeTheta_thetaOfScale _

@[simp] theorem setBasis_thetaOfScale (b : Basis) {s : State} (h : ThetaOfScale s.reck) :
    ThetaOfScale (setBasis b s).reck := by
  unfold setBasis
  split_ifs <;> simp [h]

@[simp] theorem setGradeBasis_thetaOfScale (g : Grade) (b : Basis) {s : State} (h : ThetaOfScale s.reck) :
    ThetaOfScale (setGradeBasis g b s).reck := by
  unfold setGradeBasis
  dsimp only
  split_ifs <;> simp [h]

@[simp] theorem setGrade_thetaOfScale (g : Grade) (b : Basis) {s : State} (h : ThetaOfScale s.reck) :
    ThetaOfScale (setGrade g b s).reck := by
  simp [setGrade, h]

@[simp] theorem gradeFall_thetaOfScale (c : StopCause) {s : State} (h : ThetaOfScale s.reck) :
    ThetaOfScale (gradeFall c s).reck := by
  unfold gradeFall
  split <;> simp [h]

@[simp] theorem applyCeiling_thetaOfScale {s : State} (h : ThetaOfScale s.reck) :
    ThetaOfScale (applyCeiling s).reck := by
  unfold applyCeiling
  dsimp only
  split_ifs <;> simp [h]

@[simp] theorem endLeadHold_thetaOfScale {s : State} (h : ThetaOfScale s.reck) :
    ThetaOfScale (endLeadHold s).reck := by
  unfold endLeadHold
  dsimp only
  (repeat' split) <;> simp [h]

@[simp] theorem endSearch_thetaOfScale (o : SearchOutcome) {s : State} (h : ThetaOfScale s.reck) :
    ThetaOfScale (endSearch o s).reck := by
  simp [endSearch, h]

@[simp] theorem failSearch_thetaOfScale (c : FailCause) (n : Int) {s : State} (h : ThetaOfScale s.reck) :
    ThetaOfScale (failSearch c n s).reck := by
  simp [failSearch, h]

@[simp] theorem endSearchByFault_thetaOfScale {s : State} (h : ThetaOfScale s.reck) :
    ThetaOfScale (endSearchByFault s).reck := by
  unfold endSearchByFault
  split_ifs <;> simp [h]

@[simp] theorem watchLead_thetaOfScale {s : State} (h : ThetaOfScale s.reck) :
    ThetaOfScale (watchLead s).reck := by
  unfold watchLead
  split_ifs <;> simp [h]

@[simp] theorem stopEffects_thetaOfScale (c : StopCause) (a : Int) {s : State} (h : ThetaOfScale s.reck) :
    ThetaOfScale (stopEffects c a s).reck := by
  simp [stopEffects, h]

@[simp] theorem raiseStop_thetaOfScale (c : StopCause) (a b : Int) {s : State} (h : ThetaOfScale s.reck) :
    ThetaOfScale (raiseStop c a b s).reck := by
  unfold raiseStop
  dsimp only
  (repeat' split) <;> simp [h]

@[simp] theorem raiseIfOutside_thetaOfScale (x : Int) {s : State} (h : ThetaOfScale s.reck) :
    ThetaOfScale (raiseIfOutside x s).reck := by
  unfold raiseIfOutside
  split_ifs <;> simp [h]

@[simp] theorem takeLeadAngle_thetaOfScale {s : State} (h : ThetaOfScale s.reck) :
    ThetaOfScale (takeLeadAngle s).reck := by
  unfold takeLeadAngle
  (repeat' split) <;> simp [h]

@[simp] theorem fixTurn_thetaOfScale (k : DecisionKind) (c : Capture) (n : Option Candidate) {s : State} (h : ThetaOfScale s.reck) :
    ThetaOfScale (fixTurn k c n s).reck := by
  unfold fixTurn setRecoveryAnchor
  cases n <;> cases k <;> simp [h]

@[simp] theorem gradeByVerdict_thetaOfScale (v : Verdict) {s : State} (h : ThetaOfScale s.reck) :
    ThetaOfScale (gradeByVerdict v s).reck := by
  simp [gradeByVerdict, h]

@[simp] theorem decideOn_thetaOfScale (c : Capture) {s : State} (h : ThetaOfScale s.reck) :
    ThetaOfScale (decideOn c s).reck := by
  have h1 : ThetaOfScale (gradeByVerdict (judge (takeLeadAngle s) (courseOf s) (kindOf s) c) (fixTurn (kindOf s) c
      (judge (takeLeadAngle s) (courseOf s) (kindOf s) c).n (raiseVerdictNotes c
        (judge (takeLeadAngle s) (courseOf s) (kindOf s) c) (takeLeadAngle s)))).reck :=
    gradeByVerdict_thetaOfScale _ (fixTurn_thetaOfScale _ _ _ (by simp [h]))
  exact raiseIfOutside_thetaOfScale _ (by dsimp only; (repeat' split) <;> simpa using h1)

@[simp] theorem decideHeld_thetaOfScale {s : State} (h : ThetaOfScale s.reck) :
    ThetaOfScale (decideHeld s).reck := by
  unfold decideHeld
  split <;> simp [h]

@[simp] theorem advanceDecision_thetaOfScale {s : State} (h : ThetaOfScale s.reck) :
    ThetaOfScale (advanceDecision s).reck := by
  unfold advanceDecision
  split_ifs <;> simp [h]

@[simp] theorem leadResolved_thetaOfScale (l : LeadReport) {s : State} (h : ThetaOfScale s.reck) :
    ThetaOfScale (leadResolved l s).reck := by
  unfold leadResolved
  dsimp only
  split_ifs <;> simp [h]

@[simp] theorem leadLost_thetaOfScale {s : State} (h : ThetaOfScale s.reck) :
    ThetaOfScale (leadLost s).reck := by
  unfold leadLost
  (repeat' split) <;> simp [h]

@[simp] theorem driftCheck_thetaOfScale {s : State} (h : ThetaOfScale s.reck) :
    ThetaOfScale (driftCheck s).reck := by
  unfold driftCheck
  split
  · dsimp only
    split_ifs
    · exact h
    · exact h
    · exact raiseStop_thetaOfScale _ _ _ h
  · exact h

theorem finish_thetaOfScale (force : Bool) (s0 : State) {s : State} (h : ThetaOfScale s.reck) :
    ThetaOfScale (finish force s0 s).reck := by
  have h1 := applyCeiling_thetaOfScale (watchLead_thetaOfScale (leadLost_thetaOfScale h))
  rw [finish_eq_closing]
  intro hb
  obtain ⟨ht, hs⟩ := h1 (by simpa using hb)
  simp only [closing_frame]
  exact ⟨ht, hs⟩

end Sys2Proof.Machine
end

section
/-! PROOFS. O33: a scale sample, its drift check, and what the tests at the end of the command leave of them. -/

namespace Sys2Proof.Machine

/-! ### θ_scale -/

/-- θ_scale as the latest sample gives it (R17). -/
def scaleThetaOf (s : State) : Option Int :=
  match s.sensor.latestScale with
  | none => none
  | some c => if scaleFailed s then none else some (scaleAngle (setupOf s) s.reck.sigma c)

@[simp] theorem recomputeScale_thetaScale (s : State) : (recomputeScale s).reck.thetaScale = scaleThetaOf s := by
  unfold recomputeScale
  by_cases hb : s.reck.basis = .scale <;> simp only [hb, ↓reduceIte, recomputeTheta_frame] <;> rfl

/-- In another basis than SCALE nothing but θ_scale changes. -/
theorem recomputeScale_other {s : State} (hb : s.reck.basis ≠ .scale) :
    recomputeScale s = { s with reck := { s.reck with thetaScale := scaleThetaOf s } } := by
  unfold recomputeScale
  simp only [hb, ↓reduceIte]
  rfl

theorem recomputeScale_scale {s : State} (hb : s.reck.basis = .scale) :
    recomputeScale s = recomputeTheta { s with reck := { s.reck with thetaScale := scaleThetaOf s } } := by
  unfold recomputeScale
  simp only [hb, ↓reduceIte]
  rfl

/-- The entry into saturation raises ANGLE_SATURATED (R15). -/
theorem recomputeTheta_entry {s : State} {v : Int} (hf : formedAngle s = some v) (hv : angleInRange v = false)
    (hs : s.reck.saturated = false) :
    ∃ u, recomputeTheta s = raise (.note .angleSaturated) (if v < angleMin then 2 else 1) 0 (own u) u
      ∧ u.fault = s.fault := by
  refine ⟨{ s with reck := { s.reck with theta := some (clampAngle v), saturated := true } }, ?_, rfl⟩
  simp [recomputeTheta, hf, hv, hs, note]

/-! ### The ceiling and the drift count at the end of a command -/

theorem setBasis_self {b : Basis} {s : State} (h : s.reck.basis = b) : setBasis b s = s := by simp [setBasis, h]

/-- A grade set on the basis that stands leaves the reckoning unit. -/
theorem setGradeBasis_reck (g : Grade) {b : Basis} {s : State} (h : s.reck.basis = b) :
    (setGradeBasis g b s).reck = s.reck := by
  unfold setGradeBasis
  rw [setBasis_self h]
  dsimp only
  split_ifs <;> simp

theorem setGrade_reck {g : Grade} (hg : g ≠ .lost) {b : Basis} {s : State} (h : s.reck.basis = b) :
    (setGrade g b s).reck = s.reck := by
  simpa [setGrade, basisFor, hg] using setGradeBasis_reck g h

/-- Unless it takes the grade to LOST, the ceiling's test leaves the reckoning unit. -/
theorem applyCeiling_reck {s : State} (h : (applyCeiling s).gradeUnit.grade ≠ .lost) : (applyCeiling s).reck = s.reck := by
  revert h
  unfold applyCeiling
  dsimp only
  split_ifs
  · exact fun _ => rfl
  · intro h
    exact setGrade_reck (by simpa using h) rfl
  · intro h
    exact setGrade_reck (by simpa using h) rfl

theorem driftActive_congr {s t : State} (hp : t.phase = s.phase) (hg : t.gradeUnit.grade = s.gradeUnit.grade)
    (hb : t.reck.basis = s.reck.basis) (ht : t.reck.theta = s.reck.theta) (hs : t.sensor = s.sensor)
    (hl : lead t = lead s) (he : t.peers.entries = s.peers.entries) : driftActive t = driftActive s := by
  simp only [driftActive, scaleValid, scaleFailed, hp, hg, hb, ht, hs, leadAtRest_congr hl he]

theorem driftActive_phase {s : State} (h : driftActive s = true) : s.phase = .ready ∨ s.phase = .reference := by
  simp only [driftActive, Bool.and_eq_true, decide_eq_true_eq] at h
  obtain ⟨⟨⟨⟨⟨hp, -⟩, -⟩, -⟩, -⟩, -⟩ := h
  exact hp

theorem driftActive_basis {s : State} (h : driftActive s = true) : s.reck.basis = .counts := by
  simp only [driftActive, Bool.and_eq_true, decide_eq_true_eq] at h
  obtain ⟨⟨⟨⟨-, hb⟩, -⟩, -⟩, -⟩ := h
  exact hb

theorem driftActive_grade {s : State} (h : driftActive s = true) : gradeCode .resolved ≤ gradeCode s.gradeUnit.grade := by
  simp only [driftActive, Bool.and_eq_true, gradeLe_iff] at h
  obtain ⟨⟨⟨⟨⟨-, hg⟩, -⟩, -⟩, -⟩, -⟩ := h
  exact hg

/-- The state that the drift count's test sees at the end of a command. -/
def beforeDriftTest (s0 s : State) : State :=
  tryCall (tryComplete (tryRelease (reMarkTest s0 (tryMuster (tryClaim (tryPrereq s))))))

theorem closing_drift (force : Bool) (s0 s : State) :
    (closing force s0 s).reck.drift = if driftActive (beforeDriftTest s0 s) = true then s.reck.drift else 0 := by
  have h : (closing force s0 s).reck.drift = (driftTest (beforeDriftTest s0 s)).reck.drift := by
    simp [closing, beforeDriftTest]
  rw [h, driftTest]
  split_ifs <;> simp [beforeDriftTest]

theorem tryMuster_phase (s : State) : (tryMuster s).phase = s.phase ∨ (tryMuster s).phase = .recovery := by
  unfold tryMuster
  split_ifs
  · right
    unfold enterRecovery
    dsimp only
    split_ifs <;> simp [setPhase]
  · exact .inl rfl

/-- The drift check is active at the end of a command just when it is so before the closing tests. -/
theorem driftActive_beforeDriftTest (s0 s : State) : driftActive (beforeDriftTest s0 s) = driftActive s := by
  by_cases hm : s.phase = .muster
  · have hs : driftActive s = false := by simp [driftActive, hm]
    rw [hs, Bool.eq_false_iff]
    intro h
    have hp := driftActive_phase h
    rcases tryMuster_phase (tryClaim (tryPrereq s)) with ht | ht <;> simp [beforeDriftTest, ht, hm] at hp
  · have h1 : tryMuster (tryClaim (tryPrereq s)) = tryClaim (tryPrereq s) := tryMuster_outside (by simpa using hm)
    exact driftActive_congr (by simp [beforeDriftTest, h1]) (by simp [beforeDriftTest]) (by simp [beforeDriftTest])
      (by simp [beforeDriftTest]) (by simp [beforeDriftTest])
      (lead_congr (by simp [beforeDriftTest]) (by simp [beforeDriftTest]) (by simp [beforeDriftTest]))
      (by simp [beforeDriftTest])

/-- What the ceiling leaves of an active drift check. -/
theorem driftActive_of_applyCeiling {s : State} (h : driftActive (applyCeiling s) = true) : driftActive s = true := by
  have hg := driftActive_grade h
  have hr := applyCeiling_reck (s := s) (fun hl => by simp [hl, gradeCode] at hg)
  have hle := hg.trans (applyCeiling_grade_le s)
  simp only [driftActive, applyCeiling_frame, scaleValid, scaleFailed, hr,
    leadAtRest_congr (lead_congr (s := s) (t := applyCeiling s) (by simp) (by simp) (by simp)) (by simp : (applyCeiling s).peers.entries = s.peers.entries)] at h ⊢
  simp_all

/-- A command that leaves the tests of the lead idle ends with no drift count unless the check is active before them. -/
theorem finish_drift_inactive {force : Bool} {s0 s : State} (hu : Undisturbed s) (h : driftActive s = false) :
    (finish force s0 s).reck.drift = 0 := by
  rw [finish_of_undisturbed hu, closing_drift, driftActive_beforeDriftTest, if_neg]
  intro ha
  simp [driftActive_of_applyCeiling ha] at h

theorem finish_drift_active {force : Bool} {s0 s : State} (hu : Undisturbed s) (h : driftActive s = true)
    (hg : gradeCode s.gradeUnit.grade ≤ gradeCode (ceiling s)) : (finish force s0 s).reck.drift = s.reck.drift := by
  rw [finish_of_undisturbed hu, applyCeiling_under hg, closing_drift, driftActive_beforeDriftTest, if_pos h]

/-! ### After a STOP fault -/

/-- A STOP fault is raised before anything else that it does: an unlocked record holds it. -/
theorem raiseStop_shown (c : StopCause) (a b : Int) (s : State) :
    FaultShown (raise (.stop c) a b (own s) s).fault.record (raiseStop c a b s) := by
  have h1 := raise_shown (.stop c) a b (own s) s
  unfold raiseStop
  dsimp only
  split
  · exact h1
  · exact h1
  · exact gradeFall_faultShown c (by simpa [FaultShown] using h1)
  all_goals exact stopEffects_faultShown c a h1

theorem stopEffects_leadWaiting (c : StopCause) (a : Int) (s : State) : leadWaiting (stopEffects c a s) = false := by
  simp [stopEffects, endDecision, leadWaiting, timerRunning]

theorem stopEffects_searching (c : StopCause) (a : Int) (s : State) : (stopEffects c a s).search.sub = .none := by
  simp [stopEffects, endDecision, endSearchByFault, searching, clearSearch]
  split_ifs <;> simp_all

/-- After the STOP effects no report is awaited and no search runs, so the tests of the lead have nothing to do. -/
theorem raiseStop_undisturbed {c : StopCause} {a b : Int} {s : State} (h : stopsIn s.phase = true) :
    Undisturbed (raiseStop c a b s) := by
  rw [raiseStop_stops h]
  exact undisturbed_of_no_search (leadHeard_of_not_waiting (stopEffects_leadWaiting _ _ _)) (stopEffects_searching _ _ _)

theorem stopEffects_reck (c : StopCause) (a : Int) (s : State) :
    (stopEffects c a s).reck = (endSearchByFault (gradeFall c s)).reck := by
  simp [stopEffects, endDecision]

/-- A STOP fault whose row keeps the basis leaves the reckoning unit outside a lead hold. -/
theorem raiseStop_reck {c : StopCause} {a b : Int} {s : State} (hb : fallBasis c s = s.reck.basis)
    (hl : s.search.leadHold = false) : (raiseStop c a b s).reck = s.reck := by
  have hg : ∀ u : State, u.reck = s.reck → u.sensor = s.sensor → u.port.setup = s.port.setup →
      (gradeFall c u).reck = u.reck := by
    intro u hu hs hp
    have hb' : fallBasis c u = u.reck.basis := by rw [fallBasis_congr hs hp (by rw [hu]), hb, hu]
    unfold gradeFall
    revert hb'
    unfold fallBasis
    cases fallOf u c with
    | none => exact fun _ => rfl
    | some r => exact fun hb' => setGradeBasis_reck _ hb'.symm
  have he : ∀ u : State, u.search.leadHold = false → (endSearchByFault u).reck = u.reck := by
    intro u hu
    unfold endSearchByFault endLeadHold
    split_ifs <;> simp_all
  unfold raiseStop
  dsimp only
  split
  · simp
  · simp
  · rw [hg _ (by simp) (by simp) (by simp)]
    simp
  all_goals
    rw [stopEffects_reck, he _ (by simp [hl]), hg _ (by simp) (by simp) (by simp)]
    simp

end Sys2Proof.Machine
end

section
/-! PROOFS. O33: the scale sample. -/

namespace Sys2Proof.Machine

/-- The conditions of the drift check but for the scale's own (R22). -/
def DriftOn (s : State) : Prop :=
  (s.phase = .ready ∨ s.phase = .reference) ∧ gradeCode .resolved ≤ gradeCode s.gradeUnit.grade
    ∧ s.reck.basis = .counts ∧ s.reck.theta ≠ none ∧ leadAtRest s = true

/-- The station after a good scale sample is taken, before the drift check. -/
def scaleTaken (now : Instant) (v : BitVec 12) (s : State) : State :=
  recomputeScale { tick now s with sensor := { s.sensor with latestScale := some v.toNat, badScale := 0 } }

theorem goodScaleSample_runs {now : Instant} {v : BitVec 12} {s : State} (hs : s.levels.rstLow = false) :
    exec (.scaleSample now (.good v)) s = .next (finish false (tick now s) (driftCheck (scaleTaken now v s))) := by
  change Host.Outcome.next (running now s _ _) = _
  rw [running_out hs]
  rfl

theorem badScaleSample_runs {now : Instant} {s : State} (hs : s.levels.rstLow = false) :
    exec (.scaleSample now .bad) s = .next (finish false (tick now s) (badScaleSample (tick now s))) := by
  change Host.Outcome.next (running now s _ _) = _
  rw [running_out hs]

section Taken

variable (now : Instant) (v : BitVec 12) (s : State)

@[simp] theorem scaleTaken_thetaScale :
    (scaleTaken now v s).reck.thetaScale = some (scaleAngle (setupOf s) s.reck.sigma v.toNat) := by
  simp [scaleTaken, scaleThetaOf, scaleFailed, setupOf]

@[simp] theorem scaleTaken_frame :
    (scaleTaken now v s).phase = s.phase ∧ (scaleTaken now v s).gradeUnit = s.gradeUnit
      ∧ (scaleTaken now v s).reck.basis = s.reck.basis ∧ (scaleTaken now v s).reck.drift = s.reck.drift
      ∧ (scaleTaken now v s).port.setup = s.port.setup ∧ (scaleTaken now v s).port.frozen = s.port.frozen
      ∧ (scaleTaken now v s).port.tau = s.port.tau
      ∧ (scaleTaken now v s).straps = s.straps ∧ (scaleTaken now v s).peers = s.peers
      ∧ (scaleTaken now v s).mark = s.mark ∧ (scaleTaken now v s).search = s.search
      ∧ (scaleTaken now v s).ms = now.ms
      ∧ (scaleTaken now v s).sensor = { s.sensor with latestScale := some v.toNat, badScale := 0 } := by
  simp [scaleTaken, tick]

theorem scaleTaken_other {s : State} (hb : s.reck.basis ≠ .scale) :
    (scaleTaken now v s).fault = s.fault
      ∧ (scaleTaken now v s).reck
          = { s.reck with thetaScale := some (scaleAngle (setupOf s) s.reck.sigma v.toNat) } := by
  have h := scaleTaken_thetaScale now v s
  unfold scaleTaken at h ⊢
  rw [recomputeScale_other (by simpa using hb)] at h ⊢
  exact ⟨by simp, by simpa using h⟩

theorem scaleTaken_steady {s : State} (h : LeadSteady s) : LeadSteady (scaleTaken now v s) :=
  leadSteady_of_inputs (by simp [leadInputs]) h (by simp)

theorem driftActive_scaleTaken : driftActive (scaleTaken now v s) = true ↔ DriftOn s := by
  by_cases hb : s.reck.basis = .scale
  · simp [driftActive, DriftOn, hb]
  · have hr : (scaleTaken now v s).reck.theta = s.reck.theta := by rw [(scaleTaken_other now v hb).2]
    have hl : leadAtRest (scaleTaken now v s) = leadAtRest s :=
      leadAtRest_congr (lead_congr (by simp) (by simp) (by simp)) (by simp)
    simp [driftActive, DriftOn, hr, hl, scaleValid, scaleFailed, Option.isSome_iff_ne_none, and_assoc]

/-- A good sample can only raise the ceiling where the scale does not give the angle. -/
theorem ceiling_scaleTaken {s : State} (hb : s.reck.basis ≠ .scale) :
    gradeCode (ceiling s) ≤ gradeCode (ceiling (scaleTaken now v s)) := by
  have hs : (scaleTaken now v s).reck.saturated = s.reck.saturated := by rw [(scaleTaken_other now v hb).2]
  have hl : leadGrade (scaleTaken now v s) = leadGrade s := leadGrade_of_inputs (by simp [leadInputs])
  rw [gradeCode_ceiling, gradeCode_ceiling, hs, hl]
  refine min_le_min (min_le_min le_rfl ?_) le_rfl
  simpa using gradeCode_le_referenced _

end Taken

/-! ### The drift check -/

theorem driftCheck_inactive {s : State} (h : driftActive s = false) : driftCheck s = s := by
  unfold driftCheck
  rw [h]

section Check

variable {s : State} {x a : Int} (h : driftActive s = true) (hx : s.reck.theta = some x)
  (ha : s.reck.thetaScale = some a)

include h hx ha

theorem driftCheck_within (hd : (scaleDistance (setupOf s) x a : Int) ≤ s.port.tau.getD 0) :
    driftCheck s = { s with reck := { s.reck with drift := 0 } } := by
  unfold driftCheck
  rw [h, hx, ha]
  simp [scaleTau, hd]

theorem driftCheck_beyond (hd : s.port.tau.getD 0 < (scaleDistance (setupOf s) x a : Int)) (hn : s.reck.drift < 7) :
    driftCheck s = { s with reck := { s.reck with drift := s.reck.drift + 1 } } := by
  unfold driftCheck
  rw [h, hx, ha]
  have hn' : s.reck.drift + 1 < 8 := by omega
  simp [scaleTau, not_le.mpr hd, hn']

theorem driftCheck_eighth (hd : s.port.tau.getD 0 < (scaleDistance (setupOf s) x a : Int)) (hn : 7 ≤ s.reck.drift) :
    driftCheck s = raiseStop .scaleDrift (scaleDistance (setupOf s) x a : Int) (s.port.tau.getD 0)
      { s with reck := { s.reck with drift := 0 } } := by
  unfold driftCheck
  rw [h, hx, ha]
  have hn' : ¬ s.reck.drift + 1 < 8 := by omega
  simp [scaleTau, not_le.mpr hd, hn']

end Check

theorem coarse_le_of_ne_lost {g : Grade} (h : g ≠ .lost) : gradeCode .coarse ≤ gradeCode g := by
  cases g <;> simp_all [gradeCode]

/-- What the eighth distance above τ_s leaves. -/
theorem scaleDrift_after {s : State} {a b : Int} {force : Bool} {s0 : State} {w : Bool}
    (hw : (setupOf s).scaleWraps = w) (hp : s.phase = .ready ∨ s.phase = .reference)
    (hg : gradeCode .resolved ≤ gradeCode s.gradeUnit.grade) (hc : gradeCode s.gradeUnit.grade ≤ gradeCode (ceiling s)) :
    let t := finish force s0 (raiseStop .scaleDrift a b s)
    t.phase = .faulted ∧ .scaleDrift ∈ t.fault.stopSet
      ∧ t.gradeUnit.grade = (if w = true then .lost else .coarse)
      ∧ t.reck.basis = (if w = true then .none else .scale) := by
  have hstop : stopsIn s.phase = true := by rcases hp with hp | hp <;> simp [hp, stopsIn]
  have hfall : stopFalls s.phase = true := stopFalls_of_stopsIn hstop
  have hu := raiseStop_undisturbed (c := .scaleDrift) (a := a) (b := b) hstop
  have hph : (raiseStop .scaleDrift a b s).phase = .faulted := by simp [raiseStop_phase, hstop]
  have hgrade : (raiseStop .scaleDrift a b s).gradeUnit.grade
      = (if w = true then .lost else .coarse) := by
    rw [raiseStop_grade, if_pos hfall, gradeMin_eq_right]
    · unfold fallGrade fallOf
      rw [hw]
      split_ifs <;> rfl
    · refine le_trans ?_ hg
      unfold fallGrade fallOf
      rw [hw]
      split_ifs <;> simp [gradeCode]
  have hbasis : (raiseStop .scaleDrift a b s).reck.basis
      = (if w = true then .none else .scale) := by
    rw [raiseStop_basis, if_pos hfall]
    unfold fallBasis fallOf
    rw [hw]
    split_ifs <;> rfl
  have hl' : leadGrade (raiseStop .scaleDrift a b s) = leadGrade s :=
    leadGrade_congr (lead_congr (by simp) (by simp) (by simp)) (by simp)
  have hceil : gradeCode (raiseStop .scaleDrift a b s).gradeUnit.grade
      ≤ gradeCode (ceiling (raiseStop .scaleDrift a b s)) := by
    rw [hgrade]
    split_ifs
    · exact Nat.zero_le _
    · refine coarse_le_of_ne_lost fun hl => ?_
      have hs : ceiling s = .lost := by
        rw [ceiling_lost_iff, ← hl', ← ceiling_lost_iff]
        exact hl
      have h0 := hg.trans hc
      simp [hs, gradeCode] at h0
  obtain ⟨h1, h2, h3, -⟩ := finish_under_frame (force := force) (s0 := s0) hu (by simp [hph]) hceil
  refine ⟨h1.trans hph, ?_, by rw [h2, hgrade], h3.trans hbasis⟩
  rw [finish_of_undisturbed hu]
  simpa using mem_raiseStop .scaleDrift a b s hfall

/-- The drift check at a good sample (R22, R23, R105). -/
theorem goodScaleSample_drift {now : Instant} {v : BitVec 12} {s : State} {x : Int} (hx : s.reck.theta = some x)
    (hon : DriftOn s) (hst : Steady s) (huc : UnderCeiling s) :
    let t := finish false (tick now s) (driftCheck (scaleTaken now v s))
    let d := scaleDistance (setupOf s) x (scaleAngle (setupOf s) s.reck.sigma v.toNat)
    let tau := s.port.tau.getD 0
    ((d : Int) ≤ tau → t.reck.drift = 0 ∧ t.phase = s.phase)
      ∧ (tau < (d : Int) → s.reck.drift < 7 → t.reck.drift = s.reck.drift + 1 ∧ t.phase = s.phase)
      ∧ (tau < (d : Int) → 7 ≤ s.reck.drift →
          t.reck.drift = 0 ∧ t.phase = .faulted ∧ .scaleDrift ∈ t.fault.stopSet
            ∧ t.gradeUnit.grade = (if (setupOf s).scaleWraps = true then .lost else .coarse)
            ∧ t.reck.basis = (if (setupOf s).scaleWraps = true then .none else .scale)
            ∧ (s.fault.record.locked = false →
                t.fault.record.cause = some (.stop .scaleDrift) ∧ t.fault.record.a = faultValue d
                  ∧ t.fault.record.b = faultValue tau)) := by
  intro t d tau
  obtain ⟨hp, hg, hb, -⟩ := id hon
  have hbs : s.reck.basis ≠ .scale := by simp [hb]
  have ha : driftActive (scaleTaken now v s) = true := (driftActive_scaleTaken now v s).mpr hon
  obtain ⟨hfault, hreck⟩ := scaleTaken_other now v hbs
  have hx' : (scaleTaken now v s).reck.theta = some x := by rw [hreck, ← hx]
  have hts := scaleTaken_thetaScale now v s
  have hset : setupOf (scaleTaken now v s) = setupOf s := by simp [setupOf]
  have hcs : gradeCode s.gradeUnit.grade ≤ gradeCode (ceiling (scaleTaken now v s)) :=
    (huc (by rcases hp with hp | hp <;> simp [hp]) (by rcases hp with hp | hp <;> simp [hp])).trans
      (ceiling_scaleTaken now v hbs)
  have hls : LeadSteady (scaleTaken now v s) := scaleTaken_steady now v hst.2
  have hm : s.phase ≠ .muster := by rcases hp with hp | hp <;> simp [hp]
  have hcs' : gradeCode (scaleTaken now v s).gradeUnit.grade ≤ gradeCode (ceiling (scaleTaken now v s)) := by
    simpa using hcs
  have hcounted : ∀ n : Nat, driftCheck (scaleTaken now v s)
      = { scaleTaken now v s with reck := { (scaleTaken now v s).reck with drift := n } } →
      t.reck.drift = n ∧ t.phase = s.phase := by
    intro n hk
    have hu : Undisturbed (driftCheck (scaleTaken now v s)) := by
      rw [hk]
      exact (leadSteady_of_inputs (s := scaleTaken now v s) (by simp [leadInputs]) hls (by simp)).undisturbed
    have hc : gradeCode (driftCheck (scaleTaken now v s)).gradeUnit.grade
        ≤ gradeCode (ceiling (driftCheck (scaleTaken now v s))) := by
      rw [hk]
      exact hcs'
    have hact : driftActive (driftCheck (scaleTaken now v s)) = true := by
      rw [hk, ← ha]
      exact driftActive_congr rfl rfl rfl rfl rfl rfl rfl
    obtain ⟨hph, -⟩ := finish_under_frame (force := false) (s0 := tick now s) hu (by simpa [hk] using hm) hc
    exact ⟨by rw [finish_drift_active hu hact hc, hk], by rw [hph, hk]; simp⟩
  refine ⟨fun hd => ?_, fun hd hn => ?_, fun hd hn => ?_⟩
  · exact hcounted 0 (driftCheck_within ha hx' hts (by simpa [hset] using hd))
  · refine hcounted _ ?_
    rw [driftCheck_beyond ha hx' hts (by simpa [hset] using hd) (by simpa using hn)]
    simp
  · have hk := driftCheck_eighth ha hx' hts (by simpa [hset] using hd) (by simpa using hn)
    have hstop : stopsIn s.phase = true := by rcases hp with hp | hp <;> simp [hp, stopsIn]
    have hafter := scaleDrift_after (force := false) (s0 := tick now s)
      (s := { scaleTaken now v s with reck := { (scaleTaken now v s).reck with drift := 0 } })
      (a := (scaleDistance (setupOf (scaleTaken now v s)) x (scaleAngle (setupOf s) s.reck.sigma v.toNat) : Int))
      (b := (scaleTaken now v s).port.tau.getD 0) (w := (setupOf s).scaleWraps) (by simp [setupOf]) (by simpa using hp) (by simpa using hg) hcs'
    rw [← hk] at hafter
    obtain ⟨hph, hmem, hgr, hba⟩ := hafter
    have hu : Undisturbed (driftCheck (scaleTaken now v s)) := by
      rw [hk]
      exact raiseStop_undisturbed (by simpa using hstop)
    have hina : driftActive (driftCheck (scaleTaken now v s)) = false := by
      rw [hk]
      simp [driftActive, raiseStop_phase, hstop]
    refine ⟨finish_drift_inactive hu hina, hph, hmem, hgr, hba,
      fun hl => ?_⟩
    have hshown := finish_faultShown false (tick now s) (raiseStop_shown .scaleDrift
      (scaleDistance (setupOf (scaleTaken now v s)) x (scaleAngle (setupOf s) s.reck.sigma v.toNat) : Int)
      ((scaleTaken now v s).port.tau.getD 0)
      { scaleTaken now v s with reck := { (scaleTaken now v s).reck with drift := 0 } })
    rw [← hk] at hshown
    obtain ⟨-, -, hrec⟩ := hshown.record
    obtain ⟨h1, -, h2, h3⟩ := hrec (by simpa [hfault] using hl)
    exact ⟨h1, by simpa [hset] using h2, by simpa using h3⟩

/-- A good sample with the drift check idle: the drift count ends at 0 (R22). -/
theorem goodScaleSample_unchecked {now : Instant} {v : BitVec 12} {s : State} (hon : ¬ DriftOn s) :
    driftCheck (scaleTaken now v s) = scaleTaken now v s :=
  driftCheck_inactive (by rw [Bool.eq_false_iff]; exact fun h => hon ((driftActive_scaleTaken now v s).mp h))

theorem not_angleInRange {a : Int} : (!angleInRange a) = decide (a < angleMin ∨ angleMax < a) := by
  rw [Bool.eq_iff_iff]
  simp [angleInRange]

/-- The ceiling's test leaves the basis where it does not take the grade down to LOST (R106). -/
theorem applyCeiling_basis_kept {s : State}
    (h : s.phase ≠ .config → s.phase ≠ .down → ceiling s = .lost → s.gradeUnit.grade = .lost) :
    (applyCeiling s).reck.basis = s.reck.basis := by
  by_cases hc : s.phase = .config
  · rw [applyCeiling_idle (.inl hc)]
  by_cases hd : s.phase = .down
  · rw [applyCeiling_idle (.inr hd)]
  by_cases hg : gradeCode s.gradeUnit.grade ≤ gradeCode (ceiling s)
  · rw [applyCeiling_under hg]
  · rw [applyCeiling_basis hc hd (not_le.mp hg), basisFor, if_neg]
    exact fun hl => hg (by simp [h hc hd hl, gradeCode])

theorem faultValue_of_inRange {x : Int} (h : countInRange x = true) : faultValue x = x := by simp [faultValue, h]

/-- The basis SCALE stands while the grade lies under the ceiling of the station before the sample. -/
theorem goodScaleSample_basis {now : Instant} {v : BitVec 12} {s : State} (hb : s.reck.basis = .scale)
    (hst : Steady s) (huc : UnderCeiling s) :
    (finish false (tick now s) (driftCheck (scaleTaken now v s))).reck.basis = .scale := by
  have hls : LeadSteady (scaleTaken now v s) := scaleTaken_steady now v hst.2
  rw [goodScaleSample_unchecked (fun h => by simp [h.2.2.1] at hb), finish_of_undisturbed hls.undisturbed]
  have hl : leadGrade (scaleTaken now v s) = leadGrade s := leadGrade_of_inputs (by simp [leadInputs])
  have hk : (applyCeiling (scaleTaken now v s)).reck.basis = (scaleTaken now v s).reck.basis := by
    refine applyCeiling_basis_kept fun hc hd hlost => ?_
    have hs : ceiling s = .lost := by rwa [ceiling_lost_iff, ← hl, ← ceiling_lost_iff]
    have hle := huc (by simpa using hc) (by simpa using hd)
    rw [hs] at hle
    exact gradeCode_inj.mp (Nat.le_zero.mp (by simpa [gradeCode] using hle))
  simpa [hk] using hb

/-- The entry into saturation at a good sample (R15). -/
theorem goodScaleSample_entry {now : Instant} {v : BitVec 12} {s : State} (hb : s.reck.basis = .scale)
    (hsat : s.reck.saturated = false)
    (ha : angleInRange (scaleAngle (setupOf s) s.reck.sigma v.toNat) = false) :
    let t := finish false (tick now s) (driftCheck (scaleTaken now v s))
    t.port.attention.fault = true
      ∧ (s.fault.record.locked = false →
          t.fault.record.cause = some (.note .angleSaturated)
            ∧ t.fault.record.a = (if angleMax < scaleAngle (setupOf s) s.reck.sigma v.toNat then 1 else 2)
            ∧ t.fault.record.b = 0) := by
  intro t
  have hr : scaleTaken now v s = recomputeTheta
      { tick now s with
        sensor := { s.sensor with latestScale := some v.toNat, badScale := 0 }
        reck := { s.reck with thetaScale := some (scaleAngle (setupOf s) s.reck.sigma v.toNat) } } := by
    rw [scaleTaken, recomputeScale_scale (by simpa using hb)]
    simp [scaleThetaOf, scaleFailed, setupOf]
  obtain ⟨u, hu, hfault⟩ := recomputeTheta_entry (s := { tick now s with
        sensor := { s.sensor with latestScale := some v.toNat, badScale := 0 }
        reck := { s.reck with thetaScale := some (scaleAngle (setupOf s) s.reck.sigma v.toNat) } })
    (v := scaleAngle (setupOf s) s.reck.sigma v.toNat) (by simp [formedAngle, hb]) ha hsat
  have hshown := raise_shown (.note .angleSaturated)
    (if scaleAngle (setupOf s) s.reck.sigma v.toNat < angleMin then 2 else 1) 0 (own u) u
  rw [← hu, ← hr] at hshown
  have hend := finish_faultShown false (tick now s) (driftCheck_faultShown hshown)
  rw [hr, hu] at hend
  obtain ⟨hatt, -, hrec⟩ := hend.record
  refine ⟨by rw [← hu, ← hr] at hatt; exact hatt, fun hl => ?_⟩
  obtain ⟨h1, -, h2, h3⟩ := hrec (by simpa [hfault] using hl)
  rw [← hu, ← hr] at h1 h2 h3
  have hcode : ∀ n : Int, n = 1 ∨ n = 2 → faultValue n = n := by
    rintro n (rfl | rfl) <;> exact faultValue_of_inRange (by decide)
  refine ⟨h1, h2.trans ?_, h3⟩
  rw [hcode _ (by split_ifs <;> simp)]
  have hout : angleMin ≤ scaleAngle (setupOf s) s.reck.sigma v.toNat →
      angleMax < scaleAngle (setupOf s) s.reck.sigma v.toNat := by simpa [angleInRange] using ha
  have hlim : angleMin < angleMax := by decide
  split_ifs <;> first | rfl | omega

/-! ### A bad sample -/

/-- The station after a bad scale sample is counted. -/
def scaleMissed (now : Instant) (s : State) : State :=
  { tick now s with sensor := { s.sensor with badScale := bump 3 s.sensor.badScale } }

theorem badScaleSample_few {now : Instant} {s : State} (hn : s.sensor.badScale < 2) :
    badScaleSample (tick now s) = scaleMissed now s := by
  have h1 : ¬ 3 ≤ bump 3 s.sensor.badScale := by simp [bump]; omega
  have h2 : s.sensor.badScale ≠ 2 := by omega
  simp [badScaleSample, scaleMissed, scaleFailed, h1, h2]

theorem badScaleSample_two {now : Instant} {s : State} (hn : s.sensor.badScale = 2) :
    badScaleSample (tick now s) = raiseStop .scaleFault 3 0 (recomputeScale (scaleMissed now s)) := by
  simp [badScaleSample, scaleMissed, scaleFailed, hn, bump]

theorem badScaleSample_more {now : Instant} {s : State} (hn : 3 ≤ s.sensor.badScale) :
    badScaleSample (tick now s) = recomputeScale (scaleMissed now s) := by
  have h1 : 3 ≤ bump 3 s.sensor.badScale := by simp [bump]; omega
  have h2 : s.sensor.badScale ≠ 2 := by omega
  simp [badScaleSample, scaleMissed, scaleFailed, h1, h2]

theorem scaleThetaOf_missed {now : Instant} {s : State} (hn : 2 ≤ s.sensor.badScale) :
    scaleThetaOf (scaleMissed now s) = none := by
  have h : scaleFailed (scaleMissed now s) = true := by simp [scaleFailed, scaleMissed, bump]; omega
  unfold scaleThetaOf
  split <;> simp [h]

/-- With the scale failed θ_scale is absent, and θ with it in basis SCALE (R13, R17). -/
theorem badScaleSample_failed {now : Instant} {s : State} (hn : 2 ≤ s.sensor.badScale) :
    (badScaleSample (tick now s)).reck.thetaScale = none ∧ ThetaOfScale (badScaleSample (tick now s)).reck := by
  rcases Nat.lt_or_ge 2 s.sensor.badScale with h | h
  · rw [badScaleSample_more h]
    exact ⟨by simp [scaleThetaOf_missed hn], recomputeScale_thetaOfScale _⟩
  · rw [badScaleSample_two (le_antisymm h hn)]
    exact ⟨by simp [scaleThetaOf_missed hn], raiseStop_thetaOfScale _ _ _ (recomputeScale_thetaOfScale _)⟩

/-- A failed scale leaves the SATURATED flag. -/
theorem recomputeScale_missed_saturated {now : Instant} {s : State} (hn : 2 ≤ s.sensor.badScale) :
    (recomputeScale (scaleMissed now s)).reck.saturated = s.reck.saturated := by
  by_cases hb : (scaleMissed now s).reck.basis = .scale
  · rw [recomputeScale_scale hb, recomputeTheta_saturated]
    have hf : formedAngle { scaleMissed now s with
        reck := { (scaleMissed now s).reck with thetaScale := scaleThetaOf (scaleMissed now s) } } = none := by
      simp [formedAngle, hb, scaleThetaOf_missed hn]
    rw [hf]
    rfl
  · rw [recomputeScale_other hb]
    rfl

/-- What the third bad sample in a row leaves (R4, R105). -/
theorem badScaleSample_third {now : Instant} {s : State} (hn : s.sensor.badScale = 2) (hp : stopsIn s.phase = true) :
    let t := finish false (tick now s) (badScaleSample (tick now s))
    t.phase = .faulted ∧ .scaleFault ∈ t.fault.stopSet ∧ gradeCode t.gradeUnit.grade ≤ gradeCode .resolved
      ∧ (UnderCeiling s → s.search.leadHold = false →
          t.gradeUnit.grade = gradeMin s.gradeUnit.grade .resolved ∧ t.reck.basis = s.reck.basis) := by
  intro t
  have ht : t = finish false (tick now s) (raiseStop .scaleFault 3 0 (recomputeScale (scaleMissed now s))) := by
    rw [← badScaleSample_two hn]
  have hphase : (recomputeScale (scaleMissed now s)).phase = s.phase := by simp [scaleMissed]
  have hstop : stopsIn (recomputeScale (scaleMissed now s)).phase = true := by rwa [hphase]
  have hfall : stopFalls (recomputeScale (scaleMissed now s)).phase = true := stopFalls_of_stopsIn hstop
  have hu := raiseStop_undisturbed (c := .scaleFault) (a := 3) (b := 0) hstop
  have hfaulted : (raiseStop .scaleFault 3 0 (recomputeScale (scaleMissed now s))).phase = .faulted := by
    rw [raiseStop_phase, if_pos hstop]
  have hgrade : (raiseStop .scaleFault 3 0 (recomputeScale (scaleMissed now s))).gradeUnit.grade
      = gradeMin s.gradeUnit.grade .resolved := by
    rw [raiseStop_grade, if_pos hfall]
    simp [fallGrade, fallOf, scaleMissed]
  obtain ⟨h1, h2, -⟩ := finish_undisturbed_frame (force := false) (s0 := tick now s) hu (by simp [hfaulted])
  rw [← ht] at h1 h2
  refine ⟨h1.trans hfaulted, ?_, ?_, fun huc hl => ?_⟩
  · rw [ht, finish_of_undisturbed hu]
    simpa using mem_raiseStop .scaleFault 3 0 _ hfall
  · rw [h2]
    refine (applyCeiling_grade_le _).trans ?_
    rw [hgrade, gradeCode_gradeMin]
    exact min_le_right _ _
  · have hb : fallBasis .scaleFault (recomputeScale (scaleMissed now s))
        = (recomputeScale (scaleMissed now s)).reck.basis := rfl
    have hr := raiseStop_reck (a := 3) (b := 0) hb (by simpa [scaleMissed] using hl)
    have hlead : leadGrade (raiseStop .scaleFault 3 0 (recomputeScale (scaleMissed now s))) = leadGrade s :=
      leadGrade_congr (lead_congr (by simp [scaleMissed]) (by simp [scaleMissed]) (by simp [scaleMissed]))
        (by simp [scaleMissed])
    have hc : gradeCode (raiseStop .scaleFault 3 0 (recomputeScale (scaleMissed now s))).gradeUnit.grade
        ≤ gradeCode (ceiling (raiseStop .scaleFault 3 0 (recomputeScale (scaleMissed now s)))) := by
      have hs := huc (by rintro h; simp [h, stopsIn] at hp) (by rintro h; simp [h, stopsIn] at hp)
      rw [gradeCode_ceiling] at hs ⊢
      rw [hgrade, gradeCode_gradeMin, hr, recomputeScale_missed_saturated hn.ge, hlead]
      have hbad : (raiseStop .scaleFault 3 0 (recomputeScale (scaleMissed now s))).sensor.badScale = 3 := by
        simp [scaleMissed, bump, hn]
      rw [hbad]
      simp only [le_min_iff, le_refl, if_true] at hs ⊢
      obtain ⟨⟨hsat, -⟩, hl⟩ := hs
      exact ⟨⟨(min_le_left _ _).trans hsat, min_le_right _ _⟩, (min_le_left _ _).trans hl⟩
    obtain ⟨-, hg', hb', -⟩ := finish_under_frame (force := false) (s0 := tick now s) hu (by simp [hfaulted]) hc
    rw [← ht] at hg' hb'
    exact ⟨by rw [hg', hgrade], by rw [hb', hr]; simp [scaleMissed]⟩

/-- A bad sample that does not fail the scale leaves the drift count of an active check (R22). -/
theorem badScaleSample_drift {now : Instant} {s : State} (hn : s.sensor.badScale < 2)
    (hlatest : s.sensor.latestScale ≠ none) (hon : DriftOn s) (hst : Steady s) (huc : UnderCeiling s) :
    (finish false (tick now s) (badScaleSample (tick now s))).reck.drift = s.reck.drift := by
  rw [badScaleSample_few hn]
  have hinputs : leadInputs (scaleMissed now s) = leadInputs s := by simp [leadInputs, scaleMissed]
  have hls : LeadSteady (scaleMissed now s) := leadSteady_of_inputs hinputs hst.2 (by simp [scaleMissed])
  obtain ⟨hp, hg, hb, hx, hrest⟩ := hon
  have hbad : bump 3 s.sensor.badScale < 3 := by simp [bump]; omega
  have hact : driftActive (scaleMissed now s) = true := by
    have hl : leadAtRest (scaleMissed now s) = true := hrest
    simp [driftActive, hl, scaleValid, scaleFailed, Option.isSome_iff_ne_none]
    simp [scaleMissed, hp, hg, hb, hx, hlatest, hbad]
  have hc : gradeCode (scaleMissed now s).gradeUnit.grade ≤ gradeCode (ceiling (scaleMissed now s)) := by
    have hs := huc (by rcases hp with h | h <;> simp [h]) (by rcases hp with h | h <;> simp [h])
    rw [gradeCode_ceiling] at hs ⊢
    rw [leadGrade_of_inputs hinputs]
    simpa [scaleMissed, not_le.mpr hbad, show ¬ 3 ≤ s.sensor.badScale by omega] using hs
  rw [finish_drift_active hls.undisturbed hact hc]
  simp [scaleMissed]

/-- Settles O33, by the two readings: the good one by its drift check, its angle in basis SCALE and its entry into saturation,
the bad one by the third in a row. -/
theorem scaleSampleTaken : Obligations.ScaleSampleTaken := by
  refine ⟨fun now v s hs => ⟨_, goodScaleSample_runs hs, by simp, ?_, scaleAngle (setupOf s) s.reck.sigma v.toNat, ?_, ?_,
    ?_, ?_, fun x hx hon hst huc => goodScaleSample_drift hx hon hst huc, fun hon hst => ?_, fun hb => ?_,
    fun hb hst huc => goodScaleSample_basis hb hst huc, fun hb hsat ha => ?_⟩, fun now s hs =>
    ⟨_, badScaleSample_runs hs, ?_, fun hn => ?_, fun hn hb => ?_, fun hn _ => ?_, fun hn hlatest hon hst huc => ?_,
      fun hn hp => ?_, fun hn hp => ?_, fun hn hp huc hl => ?_⟩⟩
  · simp
  · simp
  · exact (wrapFrom_range _ _ (by decide)).1
  · have h := (wrapFrom_range (travelMid (setupOf s) - 8388608) ((v.toNat : Int) * 4096 + s.reck.sigma)
      (m := turn) (by decide)).2
    have ht : turn = 16777216 := rfl
    unfold scaleAngle
    omega
  · have h := dvd_sub_wrapFrom (travelMid (setupOf s) - 8388608) turn ((v.toNat : Int) * 4096 + s.reck.sigma)
    exact (dvd_sub_comm).mp h
  · rw [goodScaleSample_unchecked hon]
    exact finish_drift_inactive (scaleTaken_steady now v hst.2).undisturbed
      (by rw [Bool.eq_false_iff]; exact fun h => hon ((driftActive_scaleTaken now v s).mp h))
  · have h : ThetaOfScale (finish false (tick now s) (driftCheck (scaleTaken now v s))).reck :=
      finish_thetaOfScale _ _ (driftCheck_thetaOfScale (recomputeScale_thetaOfScale _))
    obtain ⟨ht, hsat⟩ := h hb
    have hts : (finish false (tick now s) (driftCheck (scaleTaken now v s))).reck.thetaScale
      = some (scaleAngle (setupOf s) s.reck.sigma v.toNat) := by simp
    exact ⟨by rw [ht, hts]; rfl, by rw [hsat _ hts, not_angleInRange]⟩
  · exact goodScaleSample_entry hb hsat (by rw [← Bool.not_eq_true', not_angleInRange]; simpa using ha)
  · simp [badScaleSample_sensor, bump]
  · simpa using (badScaleSample_failed hn).1
  · obtain ⟨hts, h⟩ := badScaleSample_failed (now := now) hn
    rw [(finish_thetaOfScale _ _ h hb).1]
    simp [hts]
  · rw [badScaleSample_few hn]
    simp [scaleMissed]
  · exact badScaleSample_drift hn hlatest hon hst huc
  · obtain ⟨hph, hmem, -⟩ := badScaleSample_third (now := now) hn hp
    exact ⟨hph, hmem⟩
  · obtain ⟨-, -, hg, -⟩ := badScaleSample_third (now := now) hn hp
    exact hg
  · obtain ⟨-, -, -, hk⟩ := badScaleSample_third (now := now) hn hp
    exact hk huc hl

end Sys2Proof.Machine
end

section
/-! PROOFS. What a decision makes of the station (R102 to R118), said once: the verdict, the turn, the grade, the report and
the record of the decision, for every later proof about recovery and re-marks. -/

namespace Sys2Proof.Machine

/-! ### θ recomputed -/

theorem formedAngle_congr {s t : State} (hb : t.reck.basis = s.reck.basis) (hst : t.reck.started = s.reck.started)
    (hc : t.reck.count = s.reck.count) (h0 : t.reck.theta0 = s.reck.theta0) (hl : t.reck.lambda = s.reck.lambda)
    (hs : t.reck.thetaScale = s.reck.thetaScale) (hset : t.port.setup = s.port.setup) (hcp : coupled t = coupled s) :
    formedAngle t = formedAngle s := by
  simp only [formedAngle, setupOf, hb, hst, hc, h0, hl, hs, hset, hcp]

theorem coupled_congr {s t : State} (hp : t.port.frozen = s.port.frozen) (hs : t.port.setup = s.port.setup)
    (hst : t.straps = s.straps) : coupled t = coupled s := by rw [coupled, coupled, lead_congr hp hs hst]

theorem formedAngle_recomputeTheta (s : State) : formedAngle (recomputeTheta s) = formedAngle s :=
  formedAngle_congr (by simp) (by simp) (by simp) (by simp) (by simp) (by simp) (by simp)
    (coupled_congr (by simp) (by simp) (by simp))

theorem recomputeTheta_twice_theta (s : State) :
    (recomputeTheta (recomputeTheta s)).reck.theta = (recomputeTheta s).reck.theta := by
  rw [recomputeTheta_theta, formedAngle_recomputeTheta, recomputeTheta_theta]

/-- Without an entry into saturation a recomputation raises nothing. -/
theorem recomputeTheta_fault {s : State}
    (h : s.reck.saturated = true ∨ ∀ v, formedAngle s = some v → angleInRange v = true) :
    (recomputeTheta s).fault = s.fault ∧ (recomputeTheta s).port = s.port := by
  unfold recomputeTheta
  cases hf : formedAngle s with
  | none => exact ⟨rfl, rfl⟩
  | some v =>
    have hn : (!angleInRange v && !s.reck.saturated) = false := by
      rcases h with h | h
      · simp [h]
      · simp [h v hf]
    dsimp only
    rw [hn]
    exact ⟨rfl, rfl⟩

/-! ### The lead's angle -/

/-- The report that a coupled station decides by. -/
def leadReported (s : State) : Option MarkReport :=
  match s.gradeUnit.leadReport with
  | .present r => if coupled s = true then some r else none
  | .awaited | .missing => none

/-- The λ that a decision takes (R115). -/
def lambdaOf (s : State) : Int := ((leadReported s).bind fun r => r.thetaM).getD s.reck.lambda

theorem takeLeadAngle_eq (s : State) :
    takeLeadAngle s = ((leadReported s).bind fun r => r.thetaM).elim s fun a => setLambda a s := by
  cases hl : s.gradeUnit.leadReport with
  | awaited => cases hc : coupled s <;> simp [takeLeadAngle, leadReported, hl, hc]
  | missing => cases hc : coupled s <;> simp [takeLeadAngle, leadReported, hl, hc]
  | present r =>
    cases hc : coupled s <;> cases ht : r.thetaM <;> simp [takeLeadAngle, leadReported, hl, hc, ht]

theorem takeLeadAngle_lambda (s : State) : (takeLeadAngle s).reck.lambda = lambdaOf s := by
  rw [takeLeadAngle_eq, lambdaOf]
  cases (leadReported s).bind fun r => r.thetaM <;> simp

theorem takeLeadAngle_coupled (s : State) : coupled (takeLeadAngle s) = coupled s :=
  coupled_congr (by simp) (by simp) (by simp)

theorem takeLeadAngle_leadGrade (s : State) : leadGrade (takeLeadAngle s) = leadGrade s :=
  leadGrade_congr (lead_congr (by simp) (by simp) (by simp)) (by simp)

/-! ### The parts of a decision -/

/-- The verdict of the decision by `c` (R110 to R114). -/
def verdictOn (c : Capture) (s : State) : Verdict := judge (takeLeadAngle s) (courseOf s) (kindOf s) c

/-- The station with the turn that the decision fixes, if any (R10, R115). -/
def turnTaken (c : Capture) (s : State) : State :=
  fixTurn (kindOf s) c (verdictOn c s).n (raiseVerdictNotes c (verdictOn c s) (takeLeadAngle s))

/-- The station with the grade set and the lead's grade recorded (R103, R110). -/
def graded (c : Capture) (s : State) : State :=
  recordLead (courseOf s) (verdictOn c s) (gradeByVerdict (verdictOn c s) (turnTaken c s))

/-- The station with the own report that waited queued (R72, R115). -/
def reported (c : Capture) (s : State) : State :=
  if (graded c s).mark.reportAwaiting then
    queueReport c (graded c s).gradeUnit.grade (verdictAngle (takeLeadAngle s) c (verdictOn c s)) (graded c s)
  else graded c s

/-- The station with the decision recorded (R115). -/
def decisionShown (c : Capture) (s : State) : State :=
  { endDecision (reported c s) with
    gradeUnit := { (endDecision (reported c s)).gradeUnit with
      candidates := (verdictOn c s).list
      candidateCapture := if (verdictOn c s).list.isEmpty then none else some c
      lastDecision := some
        { kind := kindOf s, markNumber := (endDecision (reported c s)).mark.number, course := some (courseOf s)
          k := (verdictOn c s).k, agreed := (verdictOn c s).agreed
          result := (endDecision (reported c s)).gradeUnit.grade, n := (verdictOn c s).n.map fun x => x.n } } }

/-- The station after a decision, but for a sum outside the range of M. -/
def decided (c : Capture) (s : State) : State :=
  let u := if (verdictOn c s).list.isEmpty then decisionShown c s else setGradeAttention (decisionShown c s)
  if u.phase = .recovery then setPhase .ready u else u

/-- The sum that M becomes. -/
def sumDecided (c : Capture) (s : State) : Int :=
  match (verdictOn c s).n with
  | none => (takeLeadAngle s).reck.count
  | some n => (takeLeadAngle s).reck.count + offsetOf (setupOf (takeLeadAngle s)) c n.n

theorem decideOn_eq (c : Capture) (s : State) : decideOn c s = raiseIfOutside (sumDecided c s) (decided c s) := (rfl)

theorem decideOn_inRange {c : Capture} {s : State} (h : countInRange (sumDecided c s) = true) :
    decideOn c s = decided c s := by simp [decideOn_eq, raiseIfOutside, h]

/-! ### The grade of a verdict -/

theorem setBasis_none_saturated (s : State) : (setBasis .none s).reck.saturated = s.reck.saturated := by
  unfold setBasis
  split_ifs
  · rfl
  · rw [recomputeTheta_saturated]
    simp [formedAngle]

/-- Without a basis there is no angle, unless one stood where no basis did. -/
theorem setBasis_none_theta {s : State} (h : s.reck.basis ≠ .none ∨ s.reck.theta = none) :
    (setBasis .none s).reck.theta = none := by
  unfold setBasis
  split_ifs with hb
  · simpa [hb] using h
  · rw [recomputeTheta_theta]
    simp [formedAngle]

theorem setGradeBasis_lost_reck (g : Grade) (b : Basis) (s : State) : (setGradeBasis g b s).reck = (setBasis b s).reck := by
  unfold setGradeBasis
  dsimp only
  split_ifs <;> simp

theorem setGrade_saturated (g : Grade) {b : Basis} {s : State} (h : s.reck.basis = b) :
    (setGrade g b s).reck.saturated = s.reck.saturated := by
  rw [setGrade, setGradeBasis_lost_reck, basisFor]
  split_ifs
  · exact setBasis_none_saturated s
  · rw [setBasis_self h]

section Verdict

variable (v : Verdict) (s : State)

/-- The grade under the ceiling that the verdict's basis leaves (R103). -/
theorem gradeByVerdict_gradeUnit :
    (gradeByVerdict v s).gradeUnit
      = { s.gradeUnit with grade := gradeMin v.grade (ceiling (setBasis (basisOf v) s)) } := by
  simp [gradeByVerdict]

theorem gradeByVerdict_saturated :
    (gradeByVerdict v s).reck.saturated = (setBasis (basisOf v) s).reck.saturated :=
  setGrade_saturated _ (setBasis_basis _ _)

theorem gradeByVerdict_ceiling : ceiling (gradeByVerdict v s) = ceiling (setBasis (basisOf v) s) :=
  ceiling_congr (gradeByVerdict_saturated v s) (by simp)
    (leadGrade_congr (lead_congr (by simp) (by simp) (by simp)) (by simp))

theorem gradeByVerdict_grade :
    (gradeByVerdict v s).gradeUnit.grade = gradeMin v.grade (ceiling (gradeByVerdict v s)) := by
  rw [gradeByVerdict_gradeUnit, gradeByVerdict_ceiling]

theorem gradeByVerdict_reck :
    (gradeByVerdict v s).reck
      = (setBasis (basisFor (gradeByVerdict v s).gradeUnit.grade (basisOf v)) (setBasis (basisOf v) s)).reck := by
  rw [gradeByVerdict_gradeUnit, gradeByVerdict, setGrade, setGradeBasis_lost_reck]

theorem gradeByVerdict_basis :
    (gradeByVerdict v s).reck.basis = basisFor (gradeByVerdict v s).gradeUnit.grade (basisOf v) := by
  rw [gradeByVerdict_reck]
  simp

theorem gradeByVerdict_theta {v : Verdict} {s : State} (h : (gradeByVerdict v s).gradeUnit.grade ≠ .lost) :
    (gradeByVerdict v s).reck = (setBasis (basisOf v) s).reck := by
  rw [gradeByVerdict_reck, basisFor, if_neg h, setBasis_self (setBasis_basis _ _)]

theorem gradeByVerdict_theta_lost {v : Verdict} {s : State} (h : (gradeByVerdict v s).gradeUnit.grade = .lost)
    (hs : s.reck.basis ≠ .none ∨ s.reck.theta = none) : (gradeByVerdict v s).reck.theta = none := by
  rw [gradeByVerdict_reck, h, basisFor, if_pos rfl]
  refine setBasis_none_theta ?_
  by_cases hb : basisOf v = .none
  · right
    rw [hb]
    exact setBasis_none_theta hs
  · left
    simpa using hb

end Verdict

/-! ### The turn -/

/-- The turn offset that the decision applies: 0 where it fixes no count. -/
def shiftOf (c : Capture) (s : State) : Int :=
  ((verdictOn c s).n.map fun x => offsetOf (setupOf s) c x.n).getD 0

section Turn

variable (c : Capture) (s : State)

theorem sumDecided_eq : sumDecided c s = s.reck.count + shiftOf c s := by
  unfold sumDecided shiftOf
  cases (verdictOn c s).n <;> simp [setupOf]

theorem turnTaken_lambda : (turnTaken c s).reck.lambda = lambdaOf s := by
  simp [turnTaken, takeLeadAngle_lambda]

theorem turnTaken_count {c : Capture} {s : State} (h : countInRange (s.reck.count + shiftOf c s) = true) :
    (turnTaken c s).reck.count = s.reck.count + shiftOf c s := by
  unfold turnTaken shiftOf at *
  cases hn : (verdictOn c s).n with
  | none => simp [(fixTurn_none _ _ _).1]
  | some x =>
    rw [hn] at h
    rw [(fixTurn_some _ _ _ _).1]
    simpa [setupOf] using clampCount_of_inRange h

theorem turnTaken_turnOffset :
    (turnTaken c s).reck.turnOffset = if (verdictOn c s).n = none then s.reck.turnOffset else shiftOf c s := by
  unfold turnTaken shiftOf
  cases hn : (verdictOn c s).n with
  | none => simp [(fixTurn_none _ _ _).1]
  | some x => simp [(fixTurn_some _ _ _ _).2.1, setupOf]

theorem turnTaken_gradeUnit :
    (turnTaken c s).gradeUnit
      = { s.gradeUnit with
          recoveryAnchor :=
            if s.phase = .recovery then some (c.count + shiftOf c s)
            else s.gradeUnit.recoveryAnchor.map fun q => q + shiftOf c s } := by
  have hk : (turnTaken c s).gradeUnit
      = { s.gradeUnit with recoveryAnchor := (turnTaken c s).gradeUnit.recoveryAnchor } := by
    unfold turnTaken
    cases hn : (verdictOn c s).n with
    | none => simpa using (fixTurn_none (kindOf s) c (raiseVerdictNotes c (verdictOn c s) (takeLeadAngle s))).2
    | some x => simpa using (fixTurn_some (kindOf s) c x (raiseVerdictNotes c (verdictOn c s) (takeLeadAngle s))).2.2.2
  have ha := fixTurn_recoveryAnchor (kindOf s) c (verdictOn c s).n
    (raiseVerdictNotes c (verdictOn c s) (takeLeadAngle s))
  rw [hk]
  rw [turnTaken, ha, shiftOf, kindOf]
  cases hn : (verdictOn c s).n <;> by_cases hp : s.phase = .recovery <;> simp [hp, setupOf]

end Turn

/-! ### The decision -/

/-- The grade that the decision sets (R103, R110). -/
def resultOf (c : Capture) (s : State) : Grade :=
  (gradeByVerdict (verdictOn c s) (turnTaken c s)).gradeUnit.grade

/-- The capped-by-lead flag that the decision leaves (R104, R110). -/
def cappedOf (c : Capture) (s : State) : Bool :=
  match leadGrade s with
  | none => s.gradeUnit.capped
  | some g => decide (courseOf s = .noLead) || (gradeLt g (verdictOn c s).grade && s.gradeUnit.capped)

/-- The own report queued: from MUSTER onward except in DOWN it takes its slot (R35, R72). -/
theorem queueReport_markReport (c : Capture) (g : Grade) (theta : Option Int) (s : State) :
    (queueReport c g theta s).link.queue.markReport
      = if queueTakes s.phase .markReport = true then some (.markReport (reportOf s c g theta))
        else s.link.queue.markReport := by
  by_cases h : queueTakes s.phase .markReport = true <;>
    simp [queueReport, sendFrame, frameKind, h, PerKind.set, reportOf]

theorem reportOf_congr {s t : State} (h : t.mark.number = s.mark.number) (c : Capture) (g : Grade) (theta : Option Int) :
    reportOf t c g theta = reportOf s c g theta := by simp [reportOf, h]

section Decision

variable (c : Capture) (s : State)

theorem graded_gradeUnit :
    (graded c s).gradeUnit
      = { (turnTaken c s).gradeUnit with
          grade := resultOf c s
          capped := cappedOf c s
          recordedLead := (leadGrade s).orElse fun _ => s.gradeUnit.recordedLead } := by
  have hl : leadGrade (gradeByVerdict (verdictOn c s) (turnTaken c s)) = leadGrade s :=
    leadGrade_congr (lead_congr (by simp [turnTaken]) (by simp [turnTaken]) (by simp [turnTaken])) (by simp [turnTaken])
  unfold graded recordLead cappedOf
  rw [hl]
  cases leadGrade s <;>
    simp [resultOf, gradeByVerdict_gradeUnit, turnTaken_gradeUnit]

theorem graded_mark : (graded c s).mark = s.mark := by simp [graded, turnTaken]

theorem graded_reck : (graded c s).reck = (gradeByVerdict (verdictOn c s) (turnTaken c s)).reck := by
  simp [graded]

theorem reported_gradeUnit : (reported c s).gradeUnit = (graded c s).gradeUnit := by
  unfold reported
  split_ifs <;> simp

theorem reported_mark : (reported c s).mark = { s.mark with reportAwaiting := false } := by
  have hm := graded_mark c s
  unfold reported
  split_ifs with h
  · unfold queueReport sendFrame
    split_ifs <;> simp [hm]
  · have h' : s.mark.reportAwaiting = false := by simpa [hm] using h
    rw [hm, ← h']

theorem decided_gradeUnit :
    (decided c s).gradeUnit
      = { s.gradeUnit with
          grade := resultOf c s, capped := cappedOf c s
          recordedLead := (leadGrade s).orElse fun _ => s.gradeUnit.recordedLead
          sub := .idle, readPending := false, held := none, leadReport := .awaited
          recoveryAnchor :=
            if s.phase = .recovery then some (c.count + shiftOf c s)
            else s.gradeUnit.recoveryAnchor.map fun q => q + shiftOf c s
          candidates := (verdictOn c s).list
          candidateCapture := if (verdictOn c s).list.isEmpty then none else some c
          lastDecision := some
            { kind := kindOf s, markNumber := s.mark.number, course := some (courseOf s)
              k := (verdictOn c s).k, agreed := (verdictOn c s).agreed
              result := resultOf c s, n := (verdictOn c s).n.map fun x => x.n } } := by
  have hs : (decided c s).gradeUnit = (decisionShown c s).gradeUnit := by
    unfold decided
    dsimp only
    split_ifs <;> simp
  rw [hs]
  simp [decisionShown, endDecision, reported_gradeUnit, graded_gradeUnit, turnTaken_gradeUnit, reported_mark]

theorem decided_reck : (decided c s).reck = (gradeByVerdict (verdictOn c s) (turnTaken c s)).reck := by
  have hr : (reported c s).reck = (graded c s).reck := by
    unfold reported
    split_ifs <;> simp
  rw [← graded_reck, ← hr]
  unfold decided
  dsimp only
  split_ifs <;> simp [decisionShown, endDecision]

theorem decided_phase : (decided c s).phase = if s.phase = .recovery then .ready else s.phase := by
  have hp : (reported c s).phase = s.phase := by
    unfold reported
    split_ifs <;> simp [graded, turnTaken]
  unfold decided
  dsimp only
  split_ifs <;> simp_all [decisionShown, endDecision, setPhase]

theorem decided_mark : (decided c s).mark = { s.mark with reportAwaiting := false, leadWait := .stopped } := by
  have hm := reported_mark c s
  unfold decided
  dsimp only
  split_ifs <;> simp [decisionShown, endDecision, hm]

theorem reported_frame :
    (reported c s).phase = s.phase ∧ (reported c s).sensor = s.sensor ∧ (reported c s).straps = s.straps
      ∧ (reported c s).port.setup = s.port.setup
      ∧ (reported c s).port.frozen = s.port.frozen ∧ (reported c s).port.tau = s.port.tau
      ∧ (reported c s).peers.entries = s.peers.entries
      ∧ (reported c s).search.sub = s.search.sub ∧ (reported c s).search.leadHold = s.search.leadHold := by
  unfold reported
  split_ifs <;> simp [graded, turnTaken]

theorem decided_frame :
    (decided c s).sensor = s.sensor ∧ (decided c s).straps = s.straps ∧ (decided c s).port.setup = s.port.setup
      ∧ (decided c s).port.frozen = s.port.frozen ∧ (decided c s).port.tau = s.port.tau
      ∧ (decided c s).peers.entries = s.peers.entries
      ∧ (decided c s).search.sub = s.search.sub ∧ (decided c s).search.leadHold = s.search.leadHold := by
  have hr := reported_frame c s
  unfold decided
  dsimp only
  split_ifs <;> simpa [decisionShown, endDecision] using hr.2

theorem decided_leadGrade : leadGrade (decided c s) = leadGrade s := by
  obtain ⟨-, hst, hset, hf, -, he, -⟩ := decided_frame c s
  exact leadGrade_congr (lead_congr hf hset hst) he

theorem decided_ceiling :
    ceiling (decided c s) = ceiling (gradeByVerdict (verdictOn c s) (turnTaken c s)) := by
  obtain ⟨hsens, -⟩ := decided_frame c s
  refine ceiling_congr (by rw [decided_reck]) (by rw [hsens]; simp [turnTaken]) ?_
  rw [decided_leadGrade]
  exact (leadGrade_congr (lead_congr (by simp [turnTaken]) (by simp [turnTaken]) (by simp [turnTaken]))
    (by simp [turnTaken])).symm

theorem resultOf_eq : resultOf c s = gradeMin (verdictOn c s).grade (ceiling (decided c s)) := by
  rw [decided_ceiling]
  exact gradeByVerdict_grade _ _

/-- The decision sets no grade above its ceiling (R103). -/
theorem resultOf_le_ceiling : gradeCode (resultOf c s) ≤ gradeCode (ceiling (decided c s)) := by
  rw [resultOf_eq, gradeCode_gradeMin]
  exact min_le_right _ _

theorem resultOf_le_verdict : gradeCode (resultOf c s) ≤ gradeCode (verdictOn c s).grade := by
  rw [resultOf_eq, gradeCode_gradeMin]
  exact min_le_left _ _

/-- The own report that waited for the decision (R72, R115). -/
theorem decided_markReport :
    (decided c s).link.queue.markReport
      = if s.mark.reportAwaiting = true ∧ queueTakes s.phase .markReport = true then
          some (.markReport (reportOf s c (resultOf c s) (verdictAngle (takeLeadAngle s) c (verdictOn c s))))
        else s.link.queue.markReport := by
  have hq : (decided c s).link = (reported c s).link := by
    unfold decided
    dsimp only
    split_ifs <;> simp [decisionShown, endDecision]
  have hg : (graded c s).phase = s.phase ∧ (graded c s).link = s.link := by simp [graded, turnTaken]
  obtain ⟨hp, hl⟩ := hg
  rw [hq, reported, graded_mark]
  by_cases ha : s.mark.reportAwaiting = true
  · rw [if_pos ha, queueReport_markReport, reportOf_congr (t := graded c s) (s := s) (by rw [graded_mark]), graded_gradeUnit, hp, hl]
    simp [ha]
  · rw [if_neg ha, if_neg (fun h => ha h.1), hl]

end Decision

/-! ### Every decision, whatever becomes of its sum -/

/-- A decision in RECOVERY or READY leaves READY, or FAULTED where its sum lies outside the range of M (R9, R109, R115). -/
theorem decideOn_phase {c : Capture} {s : State} (h : s.phase = .recovery ∨ s.phase = .ready) :
    (decideOn c s).phase = .ready
      ∨ (decideOn c s).phase = .faulted ∧ .motorCountOverflow ∈ (decideOn c s).fault.stopSet := by
  have hp : (decided c s).phase = .ready := by
    rw [decided_phase]
    rcases h with h | h <;> simp [h]
  rw [decideOn_eq, raiseIfOutside]
  split_ifs
  · exact .inl hp
  · have hstop : stopsIn (decided c s).phase = true := by simp [hp, stopsIn]
    exact .inr ⟨by rw [raiseStop_phase, if_pos hstop], mem_raiseStop _ _ _ _ (stopFalls_of_stopsIn hstop)⟩

/-- What every decision leaves of the grade unit: nothing in hand, and the decision shown (R115). -/
theorem decideOn_gradeUnit (c : Capture) (s : State) :
    (decideOn c s).gradeUnit.sub = .idle ∧ (decideOn c s).gradeUnit.held = none
      ∧ (decideOn c s).gradeUnit.readPending = false ∧ (decideOn c s).gradeUnit.leadReport = .awaited
      ∧ (decideOn c s).gradeUnit.lastDecision = (decided c s).gradeUnit.lastDecision
      ∧ gradeCode (decideOn c s).gradeUnit.grade ≤ gradeCode (resultOf c s) := by
  have hd := decided_gradeUnit c s
  rw [decideOn_eq, raiseIfOutside]
  split_ifs
  · rw [hd]
    simp
  · have hg := raiseStop_grade_le .motorCountOverflow (limitCode (sumDecided c s)) 0 (decided c s)
    have hr : resultOf c s = (decided c s).gradeUnit.grade := by rw [hd]
    rw [hr]
    refine ⟨?_, ?_, ?_, ?_, ?_, hg⟩ <;> rw [raiseStop_gradeUnit] <;> split_ifs <;> simp [hd]

/-- After a decision no wait for the lead's report runs. -/
theorem decideOn_leadHeard (c : Capture) (s : State) : LeadHeard (decideOn c s) := by
  refine leadHeard_of_not_waiting ?_
  have hw : (decided c s).mark.leadWait = .stopped := by rw [decided_mark]
  rw [decideOn_eq, raiseIfOutside]
  split_ifs
  · simp [leadWaiting, hw, timerRunning]
  · by_cases hp : stopsIn (decided c s).phase = true
    · rw [raiseStop_stops hp]
      exact stopEffects_leadWaiting _ _ _
    · rcases (stopsIn_false_iff _).mp (by simpa using hp) with h | h | h
      · simp [raiseStop_idle (.inl h), leadWaiting, hw, timerRunning]
      · simp [raiseStop_faulted h, leadWaiting, hw, timerRunning]
      · simp [raiseStop_idle (.inr h), leadWaiting, hw, timerRunning]

theorem decideOn_no_search {c : Capture} {s : State} (h : s.search.sub = .none) : (decideOn c s).search.sub = .none := by
  have hs : (decided c s).search.sub = .none := by
    obtain ⟨-, -, -, -, -, -, hs, -⟩ := decided_frame c s
    rw [hs, h]
  rw [decideOn_eq, raiseIfOutside]
  split_ifs
  · exact hs
  · unfold raiseStop
    dsimp only
    split <;> first | exact stopEffects_searching _ _ _ | simp [hs]

theorem decideOn_undisturbed {c : Capture} {s : State} (h : s.search.sub = .none) : Undisturbed (decideOn c s) :=
  undisturbed_of_no_search (decideOn_leadHeard c s) (decideOn_no_search h)

end Sys2Proof.Machine
end

section
/-! PROOFS. O38: the store's answer to the recovery read. -/

namespace Sys2Proof.Machine

/-! ### A calibration taken -/

theorem setSigma_sigma (v : Int) (s : State) : (setSigma v s).reck.sigma = v := by
  unfold setSigma
  split_ifs with h
  · exact h.symm
  · unfold recomputeScale
    by_cases hb : s.reck.basis = .scale <;> simp [hb]

theorem takeCalibration_taken (a b : Int) (m : Bool) (s : State) :
    (takeCalibration a b m s).reck.theta0 = a ∧ (takeCalibration a b m s).reck.sigma = b
      ∧ (takeCalibration a b m s).reck.calibrated = m := by
  simp [takeCalibration, setSigma_sigma]

theorem recomputeTheta_fault_of {s : State}
    (h : s.reck.basis = .none ∨ s.reck.saturated = true ∨ (recomputeTheta s).reck.saturated = false) :
    (recomputeTheta s).fault = s.fault := by
  refine (recomputeTheta_fault ?_).1
  rcases h with h | h | h
  · exact .inr fun v hv => by simp [formedAngle, h] at hv
  · exact .inl h
  · refine .inr fun v hv => ?_
    simpa [recomputeTheta_saturated, hv] using h

/-- A second recomputation finds the SATURATED flag as the first one left it. -/
theorem recomputeTheta_twice_fault (s : State) :
    (recomputeTheta (recomputeTheta s)).fault = (recomputeTheta s).fault := by
  refine (recomputeTheta_fault ?_).1
  rw [recomputeTheta_saturated, formedAngle_recomputeTheta]
  cases hf : formedAngle s with
  | none => simp
  | some v => cases hv : angleInRange v <;> simp [hv]

theorem recomputeTheta_twice_saturated (s : State) :
    (recomputeTheta (recomputeTheta s)).reck.saturated = (recomputeTheta s).reck.saturated := by
  rw [recomputeTheta_saturated, formedAngle_recomputeTheta, recomputeTheta_saturated]
  cases formedAngle s <;> rfl

/-- With the basis NONE or the SATURATED flag set already, and where the flag is clear afterwards, a calibration taken raises
nothing (R15). -/
theorem takeCalibration_fault {a b : Int} {m : Bool} {s : State}
    (h : s.reck.basis = .none ∨ s.reck.saturated = true ∨ (takeCalibration a b m s).reck.saturated = false) :
    (takeCalibration a b m s).fault = s.fault := by
  unfold takeCalibration setSigma at *
  dsimp only at *
  split_ifs at h ⊢ with hs
  · exact recomputeTheta_fault_of h
  · by_cases hb : s.reck.basis = .scale
    · rw [recomputeScale_scale (by simpa using hb)] at h ⊢
      rw [recomputeTheta_twice_fault]
      rw [recomputeTheta_twice_saturated] at h
      exact recomputeTheta_fault_of h
    · rw [recomputeScale_other (by simpa using hb)] at h ⊢
      exact recomputeTheta_fault_of h

/-! ### The answer -/

/-- The station with the calibration read and the TORN slots noted (R96, R108). -/
def calibrationRead (s : State) : State := readCalibration (noteTorn s)

/-- The station with the snapshot chosen. -/
def snapshotChosen (s : State) : State :=
  { calibrationRead s with
    gradeUnit := { (calibrationRead s).gradeUnit with chosen := chooseSnapshot (calibrationRead s), readPending := false } }

theorem answerRead_marking {s : State} (h : s.gradeUnit.held = none) :
    answerRead s
      = { snapshotChosen s with gradeUnit := { (snapshotChosen s).gradeUnit with sub := .marking } } := by
  have hh : (snapshotChosen s).gradeUnit.held = none := by simpa [snapshotChosen, calibrationRead] using h
  unfold snapshotChosen calibrationRead at hh ⊢
  unfold answerRead
  dsimp only at hh ⊢
  rw [hh]

theorem answerRead_held {s : State} {c : Capture} (h : s.gradeUnit.held = some c) :
    answerRead s = advanceDecision (snapshotChosen s) := by
  have hh : (snapshotChosen s).gradeUnit.held = some c := by simpa [snapshotChosen, calibrationRead] using h
  unfold snapshotChosen calibrationRead at hh ⊢
  unfold answerRead
  dsimp only at hh ⊢
  rw [hh]

theorem snapshotChosen_frame (s : State) :
    (snapshotChosen s).phase = s.phase ∧ (snapshotChosen s).mark = s.mark ∧ (snapshotChosen s).search = s.search
      ∧ (snapshotChosen s).store = s.store
      ∧ (snapshotChosen s).gradeUnit = { s.gradeUnit with chosen := chooseSnapshot s, readPending := false } := by
  have hc : chooseSnapshot (calibrationRead s) = chooseSnapshot s := by
    simp [chooseSnapshot, newest, calibrationRead]
  simp [snapshotChosen, hc]
  simp [calibrationRead]

theorem snapshotChosen_inputs (s : State) : leadInputs (snapshotChosen s) = leadInputs s := by
  simp [leadInputs, snapshotChosen, calibrationRead]

/-- The three ways in which the answer goes on: no capture held, the lead's report awaited, or the decision (R96, R109). -/
theorem answerRead_cases (s : State) :
    s.gradeUnit.held = none
        ∧ answerRead s = { snapshotChosen s with gradeUnit := { (snapshotChosen s).gradeUnit with sub := .marking } }
      ∨ (∃ c, s.gradeUnit.held = some c) ∧ leadAwaited s = true
        ∧ answerRead s = { snapshotChosen s with gradeUnit := { (snapshotChosen s).gradeUnit with sub := .leadWait } }
      ∨ ∃ c, s.gradeUnit.held = some c ∧ leadAwaited s = false ∧ answerRead s = decideOn c (snapshotChosen s) := by
  obtain ⟨-, -, -, -, hg⟩ := snapshotChosen_frame s
  have ha : leadAwaited (snapshotChosen s) = leadAwaited s := by
    rw [leadAwaited, leadAwaited, coupled_of_inputs (snapshotChosen_inputs s), hg]
  cases hh : s.gradeUnit.held with
  | none => exact .inl ⟨rfl, answerRead_marking hh⟩
  | some c =>
    have hr := answerRead_held hh
    cases hw : leadAwaited s with
    | true => exact .inr (.inl ⟨⟨c, rfl⟩, rfl, by rw [hr, advanceDecision, ha, hw, if_pos rfl]⟩)
    | false => exact .inr (.inr ⟨c, rfl, rfl, by simp [hr, advanceDecision, ha, hw, hg, decideHeld, hh]⟩)

theorem answerRead_undisturbed {s : State} (h : LeadHeard s) (hs : s.search.sub = .none) : Undisturbed (answerRead s) := by
  obtain ⟨-, -, hsub, -, hg⟩ := snapshotChosen_frame s
  have hsub' : (snapshotChosen s).search.sub = .none := by rw [hsub, hs]
  have hstay : ∀ sub, Undisturbed
      { snapshotChosen s with gradeUnit := { (snapshotChosen s).gradeUnit with sub := sub } } := fun sub =>
    undisturbed_of_no_search (leadHeard_of_inputs (s := s) (snapshotChosen_inputs s) h) hsub'
  rcases answerRead_cases s with ⟨-, ha⟩ | ⟨-, -, ha⟩ | ⟨c, -, -, ha⟩
  · rw [ha]
    exact hstay _
  · rw [ha]
    exact hstay _
  · rw [ha]
    exact decideOn_undisturbed hsub'

theorem answerRead_readPending (s : State) : (answerRead s).gradeUnit.readPending = false := by
  obtain ⟨-, -, -, -, hg⟩ := snapshotChosen_frame s
  rcases answerRead_cases s with ⟨-, ha⟩ | ⟨-, -, ha⟩ | ⟨c, -, -, ha⟩
  · rw [ha, hg]
  · rw [ha, hg]
  · rw [ha]
    exact (decideOn_gradeUnit c _).2.2.1

theorem answerRead_reck (s : State) :
    (answerRead s).reck.theta0 = (calibrationRead s).reck.theta0
      ∧ (answerRead s).reck.sigma = (calibrationRead s).reck.sigma
      ∧ (answerRead s).reck.calibrated = (calibrationRead s).reck.calibrated := by
  rcases answerRead_cases s with ⟨-, ha⟩ | ⟨-, -, ha⟩ | ⟨c, -, -, ha⟩ <;> rw [ha] <;> simp [snapshotChosen]

theorem answerRead_chosen (s : State) : (answerRead s).gradeUnit.chosen = chooseSnapshot s := by
  obtain ⟨-, -, -, -, hg⟩ := snapshotChosen_frame s
  rcases answerRead_cases s with ⟨-, ha⟩ | ⟨-, -, ha⟩ | ⟨c, -, -, ha⟩ <;> rw [ha] <;> simp [hg]

theorem answerRead_shown {r : FaultRecord} {s : State} (h : FaultShown r (calibrationRead s)) :
    FaultShown r (answerRead s) := by
  have h' : FaultShown r (snapshotChosen s) := h
  rcases answerRead_cases s with ⟨-, ha⟩ | ⟨-, -, ha⟩ | ⟨c, -, -, ha⟩ <;> rw [ha]
  · exact h'
  · exact h'
  · exact decideOn_faultShown c h'

/-! ### What is noted -/

/-- A TORN slot is noted, slot A's first (R96; the order is the model's, log 54). -/
theorem noteTorn_shown {s : State} (h : s.store.imageA = .torn ∨ s.store.imageB = .torn) :
    FaultShown (raise (.note .storeTorn) (if s.store.imageA = .torn then 1 else 2) 0 (own s) s).fault.record
      (noteTorn s) := by
  unfold noteTorn
  by_cases ha : s.store.imageA = .torn
  · have h1 := raise_shown (.note .storeTorn) 1 0 (own s) s
    simp only [ha, ↓reduceIte]
    split_ifs
    · exact note_faultShown _ _ _ h1
    · exact h1
  · simp only [ha, ↓reduceIte, h.resolve_left ha]
    exact raise_shown _ _ _ _ _

theorem noteTorn_whole {s : State} (ha : s.store.imageA ≠ .torn) (hb : s.store.imageB ≠ .torn) : noteTorn s = s := by
  simp [noteTorn, ha, hb]

theorem calibrationRead_valid {s : State} {r : CalRecord} (h : s.store.imageCal = .valid r) :
    calibrationRead s = takeCalibration r.body.theta0 r.body.sigma true (noteTorn s) := by
  simp [calibrationRead, readCalibration, h]

/-- The absent calibration: the defaults, with CAL_ABSENT and the record's class (R108). -/
theorem calibrationRead_absent {s : State} (h : s.store.imageCal = .empty ∨ s.store.imageCal = .torn) :
    calibrationRead s
      = raise (.note .calAbsent) (if s.store.imageCal = .empty then 1 else 2) 0 (own s)
          (takeCalibration 0 (setupOf s).scaleOffsetDefault false (noteTorn s)) := by
  have ho : own (takeCalibration 0 (setupOf s).scaleOffsetDefault false (noteTorn s)) = own s := by simp [own]
  have hset : setupOf (noteTorn s) = setupOf s := by simp [setupOf]
  rcases h with h | h <;> simp [calibrationRead, readCalibration, h, note, hset, ho]

theorem chooseSnapshot_iff (s : State) (ch : ChosenSnapshot) :
    chooseSnapshot s = some ch ↔
      newest s = some (ch.slot, ch.r) ∧ ch.r.body.state = .sound ∧ (∃ r, s.store.imageCal = .valid r)
        ∧ ∃ q, s.store.calSeq = some q ∧ ch.r.body.calSeq = some q := by
  obtain ⟨slot, r⟩ := ch
  unfold chooseSnapshot
  cases hn : newest s with
  | none => simp
  | some p =>
    cases s.store.imageCal <;> cases hq : s.store.calSeq <;> simp
    constructor
    · rintro ⟨⟨h1, h2⟩, rfl, rfl⟩
      exact ⟨rfl, h1, h2⟩
    · rintro ⟨rfl, h1, h2⟩
      exact ⟨⟨h1, h2⟩, rfl, rfl⟩

/-- The ceiling's test leaves the SATURATED flag. -/
theorem applyCeiling_saturated (s : State) : (applyCeiling s).reck.saturated = s.reck.saturated := by
  unfold applyCeiling
  dsimp only
  split_ifs
  · rfl
  · exact setGrade_saturated _ rfl
  · exact setGrade_saturated _ rfl

/-- The course of a decision without a calibration, and the most that it gives (R106). -/
theorem resultOf_uncalibrated {c : Capture} {s : State} (h : s.reck.calibrated = false) :
    courseOf s = .noCalibration ∧ gradeCode (resultOf c s) ≤ gradeCode .coarse := by
  have hc : courseOf s = .noCalibration := by simp [courseOf, h]
  refine ⟨hc, (resultOf_le_verdict c s).trans ?_⟩
  rw [verdictOn, hc]
  unfold judge
  dsimp only
  split_ifs <;> simp [verdictOf, gradeCode]

/-- Settles O38: the answer's three ways on, with what it notes first. -/
theorem recoveryReadAnswered : Obligations.RecoveryReadAnswered := by
  intro now s hs hheard hphase hsearch hread hquiet
  have hout : exec (.recoveryRead now) s = .next (finish false (tick now s) (answerRead (tick now s))) := by
    change Host.Outcome.next (running now s _ _) = _
    rw [running_out hs]
    have hq : storeQuiet (tick now s) = true := by simpa [storeQuiet] using hquiet
    simp [readEvent, hread, hq]
  have hinputs : leadInputs (tick now s) = leadInputs s := by simp [leadInputs]
  have hu : Undisturbed (answerRead (tick now s)) :=
    answerRead_undisturbed (leadHeard_of_inputs hinputs hheard) (by simpa using hsearch)
  have hawait : leadAwaited (tick now s) = true ↔ coupled s = true ∧ s.gradeUnit.leadReport = .awaited := by
    simp [leadAwaited, coupled_of_inputs hinputs]
  have hm : (answerRead (tick now s)).phase ≠ .muster := by
    obtain ⟨hp, -⟩ := snapshotChosen_frame (tick now s)
    have hp' : (snapshotChosen (tick now s)).phase = .recovery := by simpa [hphase] using hp
    rcases answerRead_cases (tick now s) with ⟨-, ha⟩ | ⟨-, -, ha⟩ | ⟨c, -, -, ha⟩ <;> rw [ha]
    · simp [hp']
    · simp [hp']
    · rcases decideOn_phase (c := c) (.inl hp') with h | ⟨h, -⟩ <;> simp [h]
  obtain ⟨hfp, hfg, -, -, hfs, -⟩ := finish_undisturbed_frame (force := false) (s0 := tick now s) hu hm
  have hstop : (finish false (tick now s) (answerRead (tick now s))).fault.stopSet
      = (answerRead (tick now s)).fault.stopSet := by
    rw [finish_of_undisturbed hu]
    simp
  intro awaited absent
  refine ⟨_, hout, ?_, fun hh => ?_, fun r hr => ?_, fun hab => ?_, fun hl ht => ?_, fun hl ha hb hab hsat => ?_,
    fun ch => ?_, fun c hc haw => ?_, fun c hc haw => ?_⟩
  · rw [hfg]
    simpa using answerRead_readPending (tick now s)
  · rw [hfg, answerRead_marking (by simpa using hh)]
    simp
  · obtain ⟨h1, h2, h3⟩ := answerRead_reck (tick now s)
    rw [calibrationRead_valid (s := tick now s) (r := r) (by simpa using hr)] at h1 h2 h3
    obtain ⟨k1, k2, k3⟩ := takeCalibration_taken r.body.theta0 r.body.sigma true (noteTorn (tick now s))
    simp only [finish_frame]
    exact ⟨h1.trans k1, h2.trans k2, h3.trans k3⟩
  · obtain ⟨h1, h2, h3⟩ := answerRead_reck (tick now s)
    have hread' := calibrationRead_absent (s := tick now s) (by simpa using hab)
    obtain ⟨k1, k2, k3⟩ := takeCalibration_taken 0 (setupOf (tick now s)).scaleOffsetDefault false (noteTorn (tick now s))
    rw [hread'] at h1 h2 h3
    simp only [finish_frame]
    refine ⟨h1.trans (by simpa using k1), h2.trans (by simpa [setupOf] using k2), h3.trans (by simpa using k3), ?_⟩
    have hshown := finish_faultShown false (tick now s)
      (answerRead_shown (s := tick now s) (by rw [hread']; exact raise_shown _ _ _ _ _))
    exact hshown.1
  · have hshown := finish_faultShown false (tick now s)
      (answerRead_shown (readCalibration_faultShown (noteTorn_shown (s := tick now s) (by simpa using ht))))
    obtain ⟨-, -, hrec⟩ := hshown.record
    obtain ⟨h1, -, h2, h3⟩ := hrec (by simpa using hl)
    refine ⟨h1, h2.trans ?_, h3⟩
    simp only [tick_frame]
    split_ifs <;> rfl
  · have hread' := calibrationRead_absent (s := tick now s) (by simpa using hab)
    have hw : noteTorn (tick now s) = tick now s := noteTorn_whole (by simpa using ha) (by simpa using hb)
    rw [hw] at hread'
    have hshown := finish_faultShown false (tick now s) (answerRead_shown (s := tick now s)
      (r := (calibrationRead (tick now s)).fault.record) (by rw [hread']; exact raise_shown _ _ _ _ _))
    rw [hread'] at hshown
    obtain ⟨-, -, hrec⟩ := hshown.record
    have htaken : (takeCalibration 0 (setupOf (tick now s)).scaleOffsetDefault false (tick now s)).fault = s.fault := by
      refine (takeCalibration_fault ?_).trans (by simp)
      rcases hsat with h | h | ⟨hh, h⟩
      · exact .inl (by simpa using h)
      · exact .inr (.inl (by simpa using h))
      · right; right
        rw [hfs, applyCeiling_saturated, answerRead_marking (by simpa using hh)] at h
        simpa [snapshotChosen, hread'] using h
    obtain ⟨h1, h0, h2, h3⟩ := hrec (by rw [htaken]; exact hl)
    refine ⟨h1, h2.trans ?_, h3, by simpa [own] using h0⟩
    simp only [tick_frame]
    split_ifs <;> rfl
  · rw [hfg]
    simpa [answerRead_chosen, newest] using chooseSnapshot_iff (tick now s) ch
  · rcases answerRead_cases (tick now s) with ⟨hh, -⟩ | ⟨-, -, ha⟩ | ⟨-, -, hw, -⟩
    · simp [hc] at hh
    · obtain ⟨hp, -, -, -, hg⟩ := snapshotChosen_frame (tick now s)
      rw [hfp, hfg, ha]
      refine ⟨?_, ?_, ?_⟩ <;> simp [hp, hg, hphase, hc]
    · rw [hawait.mpr haw] at hw
      exact absurd hw (by simp)
  · rcases answerRead_cases (tick now s) with ⟨hh, -⟩ | ⟨-, hw, -⟩ | ⟨c', -, hw, ha⟩
    · simp [hc] at hh
    · exact absurd (hawait.mp hw) haw
    · obtain ⟨hp, -, -, hst, hg⟩ := snapshotChosen_frame (tick now s)
      have hp' : (snapshotChosen (tick now s)).phase = .recovery := by simpa [hphase] using hp
      obtain ⟨g1, g2, -, -, g3, g4⟩ := decideOn_gradeUnit c' (snapshotChosen (tick now s))
      rw [hfp, hfg, hstop, ha]
      have hcal : (snapshotChosen (tick now s)).reck.calibrated = (calibrationRead (tick now s)).reck.calibrated := rfl
      have hcoupled : coupled (snapshotChosen (tick now s)) = coupled s :=
        (coupled_of_inputs (snapshotChosen_inputs _)).trans (coupled_of_inputs hinputs)
      have hvalid : (∃ r, s.store.imageCal = .valid r) → (snapshotChosen (tick now s)).reck.calibrated = true := by
        rintro ⟨r, hr⟩
        rw [hcal, calibrationRead_valid (s := tick now s) (r := r) (by simpa using hr)]
        exact (takeCalibration_taken _ _ _ _).2.2
      have hcourse : (decided c' (snapshotChosen (tick now s))).gradeUnit.lastDecision
          = some { kind := kindOf (snapshotChosen (tick now s)), markNumber := (snapshotChosen (tick now s)).mark.number
                   course := some (courseOf (snapshotChosen (tick now s)))
                   k := (verdictOn c' (snapshotChosen (tick now s))).k
                   agreed := (verdictOn c' (snapshotChosen (tick now s))).agreed
                   result := resultOf c' (snapshotChosen (tick now s))
                   n := (verdictOn c' (snapshotChosen (tick now s))).n.map fun x => x.n } := by
        rw [decided_gradeUnit]
      refine ⟨by simpa using g1, by simpa using g2, decideOn_phase (.inl hp'), _,
        by rw [(applyCeiling_keeps _).2.1, g3, hcourse], by simp [kindOf, hp'], fun hab => ?_, fun hv hcp => ?_,
        fun hv hcp => ?_⟩
      · have hu' : (snapshotChosen (tick now s)).reck.calibrated = false := by
          rw [hcal, calibrationRead_absent (s := tick now s) (by simpa using hab)]
          simpa using (takeCalibration_taken 0 _ false (noteTorn (tick now s))).2.2
        obtain ⟨hco, hgr⟩ := resultOf_uncalibrated (c := c') hu'
        exact ⟨by rw [hco], (applyCeiling_grade_le _).trans (g4.trans hgr)⟩
      · simp [courseOf, hvalid hv, hcoupled, hcp]
      · simp only [courseOf, hvalid hv, hcoupled, hcp, hg, tick_frame]
        cases s.gradeUnit.leadReport with
        | awaited => simp
        | missing => simp
        | present r => by_cases hr : gradeCode r.grade < gradeCode .resolved <;> simp [hr]

end Sys2Proof.Machine
end

section
/-! PROOFS. O9: without a held capture no decision is made. What a command may do to the grade is a property of the grade
unit's block: it raises nothing but where a decision is made, and no decision gives REFERENCED. -/

namespace Sys2Proof.Machine

/-- The grade stands at `n` at most; and no capture is held, unless `b` allows decisions, whose grades then lie under `n`. -/
def Capped (b : Prop) (n : Nat) (u : GradeUnit) : Prop :=
  (b → gradeCode .restored ≤ n) ∧ gradeCode u.grade ≤ n ∧ (b ∨ u.held = none)

theorem Capped.of_le {b : Prop} {n : Nat} {u v : GradeUnit} (h : Capped b n u)
    (hg : gradeCode v.grade ≤ gradeCode u.grade) (hh : u.held = none → v.held = none) : Capped b n v := by
  obtain ⟨hr, hn, hd⟩ := h
  exact ⟨hr, hg.trans hn, hd.imp_right hh⟩

/-! ### Falls -/

theorem raiseStop_held {c : StopCause} {a b : Int} {s : State} (h : s.gradeUnit.held = none) :
    (raiseStop c a b s).gradeUnit.held = none := by
  rw [raiseStop_gradeUnit]
  split_ifs <;> simp [h]

@[simp] theorem applyCeiling_capped {b : Prop} {n : Nat} {s : State} (h : Capped b n s.gradeUnit) :
    Capped b n (applyCeiling s).gradeUnit := by
  exact h.of_le (applyCeiling_grade_le s) (by simp)

@[simp] theorem raiseStop_capped (c : StopCause) (x y : Int) {b : Prop} {n : Nat} {s : State} (h : Capped b n s.gradeUnit) :
    Capped b n (raiseStop c x y s).gradeUnit := by
  exact h.of_le (raiseStop_grade_le c x y s) raiseStop_held

@[simp] theorem raiseIfOutside_capped (x : Int) {b : Prop} {n : Nat} {s : State} (h : Capped b n s.gradeUnit) :
    Capped b n (raiseIfOutside x s).gradeUnit := by
  unfold raiseIfOutside
  split_ifs <;> simp [h]

@[simp] theorem endDecision_capped {b : Prop} {n : Nat} {s : State} (h : Capped b n s.gradeUnit) :
    Capped b n (endDecision s).gradeUnit := by
  exact h.of_le (by simp) (fun _ => rfl)

@[simp] theorem emptyCandidates_capped {b : Prop} {n : Nat} {s : State} (h : Capped b n s.gradeUnit) :
    Capped b n (emptyCandidates s).gradeUnit := by
  exact h.of_le (by simp) (by simp)

@[simp] theorem jumpTest_capped (d : Int) {b : Prop} {n : Nat} {s : State} (h : Capped b n s.gradeUnit) :
    Capped b n (jumpTest d s).gradeUnit := by
  unfold jumpTest
  split_ifs <;> simp [h]

@[simp] theorem overflowTest_capped (w : Bool) (x : Int) {b : Prop} {n : Nat} {s : State} (h : Capped b n s.gradeUnit) :
    Capped b n (overflowTest w x s).gradeUnit := by
  unfold overflowTest
  split_ifs <;> simp [h]

@[simp] theorem countGood_capped (p : Nat) {b : Prop} {n : Nat} {s : State} (h : Capped b n s.gradeUnit) :
    Capped b n (countGood p s).gradeUnit := by
  unfold countGood
  dsimp only
  split_ifs
  · have h1 : Capped b n (evaluateRest (motorFailed s) (addStep (stepOf s p) p (takeGood p s))).gradeUnit := by simp [h]
    exact overflowTest_capped _ _ (jumpTest_capped _ h1)
  · simp [h]

@[simp] theorem directionCheck_capped {b : Prop} {n : Nat} {s : State} (h : Capped b n s.gradeUnit) :
    Capped b n (directionCheck s).gradeUnit := by
  unfold directionCheck
  (repeat' split) <;> simp [h]

@[simp] theorem stillnessCheck_capped {b : Prop} {n : Nat} {s : State} (h : Capped b n s.gradeUnit) :
    Capped b n (stillnessCheck s).gradeUnit := by
  unfold stillnessCheck
  (repeat' split) <;> simp [h]

@[simp] theorem driftCheck_capped {b : Prop} {n : Nat} {s : State} (h : Capped b n s.gradeUnit) :
    Capped b n (driftCheck s).gradeUnit := by
  unfold driftCheck
  split
  · dsimp only
    split_ifs
    · exact h
    · exact h
    · exact raiseStop_capped _ _ _ h
  · exact h

@[simp] theorem goodScaleSample_capped (v : Nat) {b : Prop} {n : Nat} {s : State} (h : Capped b n s.gradeUnit) :
    Capped b n (goodScaleSample v s).gradeUnit := by
  simp [goodScaleSample, h]

@[simp] theorem badScaleSample_capped {b : Prop} {n : Nat} {s : State} (h : Capped b n s.gradeUnit) :
    Capped b n (badScaleSample s).gradeUnit := by
  unfold badScaleSample
  dsimp only
  split_ifs <;> simp [h]

@[simp] theorem failKind_capped (k : FrameKind) {b : Prop} {n : Nat} {s : State} (h : Capped b n s.gradeUnit) :
    Capped b n (failKind k s).gradeUnit := by
  simp [failKind, h]

@[simp] theorem bitErrorEvent_capped (m : Nat) {b : Prop} {n : Nat} {s : State} (h : Capped b n s.gradeUnit) :
    Capped b n (bitErrorEvent m s).gradeUnit := by
  unfold bitErrorEvent
  dsimp only
  (repeat' split) <;> simp [h]

@[simp] theorem duplicate_capped (k : Station) (f : Frame) {b : Prop} {n : Nat} {s : State} (h : Capped b n s.gradeUnit) :
    Capped b n (duplicate k f s).gradeUnit := by
  simp [duplicate, h]

@[simp] theorem untakenEvent_capped {b : Prop} {n : Nat} {s : State} (h : Capped b n s.gradeUnit) :
    Capped b n (untakenEvent s).gradeUnit := by
  unfold untakenEvent
  split_ifs <;> simp [h]

@[simp] theorem allowanceEvent_capped {b : Prop} {n : Nat} {s : State} (h : Capped b n s.gradeUnit) :
    Capped b n (allowanceEvent s).gradeUnit := by
  unfold allowanceEvent
  split_ifs <;> simp [h]

@[simp] theorem enterDown_capped {b : Prop} {n : Nat} {s : State} (h : Capped b n s.gradeUnit) :
    Capped b n (enterDown s).gradeUnit := by
  exact h.of_le (by simp) (fun _ => by simp [enterDown, endDecision])

@[simp] theorem pfailEvent_capped {b : Prop} {n : Nat} {s : State} (h : Capped b n s.gradeUnit) :
    Capped b n (pfailEvent s).gradeUnit := by
  unfold pfailEvent
  dsimp only
  (repeat' split) <;> simp [h]

@[simp] theorem start_capped {b : Prop} {n : Nat} {s : State} (h : Capped b n s.gradeUnit) :
    Capped b n (start s).gradeUnit := by
  unfold start
  dsimp only
  split_ifs <;> simp [h]

@[simp] theorem goAct_capped {b : Prop} {n : Nat} {s : State} (h : Capped b n s.gradeUnit) :
    Capped b n (goAct s).gradeUnit := by
  unfold goAct
  (repeat' split) <;> simp [h]

@[simp] theorem enterRecovery_capped {b : Prop} {n : Nat} {s : State} (h : Capped b n s.gradeUnit) :
    Capped b n (enterRecovery s).gradeUnit := by
  exact h.of_le (by simp) (fun _ => by unfold enterRecovery; dsimp only; split_ifs <;> simp)

@[simp] theorem tryMuster_capped {b : Prop} {n : Nat} {s : State} (h : Capped b n s.gradeUnit) :
    Capped b n (tryMuster s).gradeUnit := by
  unfold tryMuster
  split_ifs <;> simp [h]

@[simp] theorem leaveFaulted_capped {b : Prop} {n : Nat} {s : State} (h : Capped b n s.gradeUnit) :
    Capped b n (leaveFaulted s).gradeUnit := by
  unfold leaveFaulted
  split_ifs <;> simp [h]

@[simp] theorem faultClearAct_capped {b : Prop} {n : Nat} {s : State} (h : Capped b n s.gradeUnit) :
    Capped b n (faultClearAct s).gradeUnit := by
  unfold faultClearAct
  split_ifs
  · split <;> simp [h]
  · simp [h]

@[simp] theorem referenceStartAct_capped {b : Prop} {n : Nat} {s : State} (h : Capped b n s.gradeUnit) :
    Capped b n (referenceStartAct s).gradeUnit := by
  unfold referenceStartAct
  (repeat' split) <;> simp [h]

/-! ### Decisions -/

theorem verdictOn_le_restored (c : Capture) (s : State) : gradeCode (verdictOn c s).grade ≤ gradeCode .restored := by
  unfold verdictOn judge
  dsimp only
  split
  · split_ifs <;> simp [verdictOf, gradeCode]
  · split_ifs <;> simp [verdictOf, gradeCode]
  · unfold tableOf
    dsimp only
    split
    · simp [verdictOf, gradeCode]
    · simp [gradeCode]
    · split <;> simp [gradeCode]
    · split_ifs <;> simp [verdictOf, gradeCode]

@[simp] theorem decideHeld_capped {b : Prop} {n : Nat} {s : State} (h : Capped b n s.gradeUnit) :
    Capped b n (decideHeld s).gradeUnit := by
  obtain ⟨hr, hn, hd⟩ := h
  unfold decideHeld
  split
  · exact ⟨hr, hn, hd⟩
  · next c hc =>
    obtain ⟨-, hh, -, -, -, hg⟩ := decideOn_gradeUnit c s
    have hb : b := hd.resolve_right (by simp [hc])
    exact ⟨hr, hg.trans ((resultOf_le_verdict c s).trans ((verdictOn_le_restored c s).trans (hr hb))), .inl hb⟩

@[simp] theorem advanceDecision_capped {b : Prop} {n : Nat} {s : State} (h : Capped b n s.gradeUnit) :
    Capped b n (advanceDecision s).gradeUnit := by
  unfold advanceDecision
  split_ifs
  · exact h
  · exact h
  · exact decideHeld_capped h

@[simp] theorem leadResolved_capped (l : LeadReport) {b : Prop} {n : Nat} {s : State} (h : Capped b n s.gradeUnit) :
    Capped b n (leadResolved l s).gradeUnit := by
  unfold leadResolved
  dsimp only
  split_ifs
  · exact advanceDecision_capped h
  · exact h

@[simp] theorem leadLost_capped {b : Prop} {n : Nat} {s : State} (h : Capped b n s.gradeUnit) :
    Capped b n (leadLost s).gradeUnit := by
  unfold leadLost
  (repeat' split) <;> simp [h]

@[simp] theorem leadAtEdge_capped {b : Prop} {n : Nat} {s : State} (h : Capped b n s.gradeUnit) :
    Capped b n (leadAtEdge s).gradeUnit := by
  unfold leadAtEdge
  (repeat' split) <;> first | exact h | exact leadResolved_capped _ h

@[simp] theorem leadReports_capped (k : Station) (r : MarkReport) {b : Prop} {n : Nat} {s : State} (h : Capped b n s.gradeUnit) :
    Capped b n (leadReports k r s).gradeUnit := by
  unfold leadReports
  split_ifs <;> simp [h]

@[simp] theorem reportFromPeer_capped (k : Station) (r : MarkReport) {b : Prop} {n : Nat} {s : State} (h : Capped b n s.gradeUnit) :
    Capped b n (reportFromPeer k r s).gradeUnit := by
  simp [reportFromPeer, h]

@[simp] theorem markEdge_capped {b : Prop} {n : Nat} {s : State} (h : Capped b n s.gradeUnit) :
    Capped b n (markEdge s).gradeUnit := by
  unfold markEdge
  split_ifs <;> simp [h]

@[simp] theorem riseEvent_capped {b : Prop} {n : Nat} {s : State} (h : Capped b n s.gradeUnit) :
    Capped b n (riseEvent s).gradeUnit := by
  unfold riseEvent
  split_ifs <;> simp [h]

@[simp] theorem leadWaitEvent_capped {b : Prop} {n : Nat} {s : State} (h : Capped b n s.gradeUnit) :
    Capped b n (leadWaitEvent s).gradeUnit := by
  unfold leadWaitEvent
  split_ifs <;> simp [h]

@[simp] theorem answerRead_capped {b : Prop} {n : Nat} {s : State} (h : Capped b n s.gradeUnit) :
    Capped b n (answerRead s).gradeUnit := by
  obtain ⟨-, -, -, -, hg⟩ := snapshotChosen_frame s
  have h1 : Capped b n (snapshotChosen s).gradeUnit := by
    rw [hg]
    exact h
  cases hh : s.gradeUnit.held with
  | none =>
    rw [answerRead_marking hh]
    exact h1
  | some c =>
    rw [answerRead_held hh]
    exact advanceDecision_capped h1

@[simp] theorem readEvent_capped {b : Prop} {n : Nat} {s : State} (h : Capped b n s.gradeUnit) :
    Capped b n (readEvent s).gradeUnit := by
  unfold readEvent
  split_ifs <;> simp [h]

/-! ### Samples, TURN_CONFIRM and completions -/

theorem searchCapture_gradeUnit (c : Capture) (s : State) : (searchCapture c s).gradeUnit = s.gradeUnit := by simp

theorem flagSample_gradeUnit (level : Bool) (s : State) : (flagSample level s).gradeUnit = s.gradeUnit := by simp

section Deciding

variable {b : Prop} {n : Nat} {s : State} (hb : b) (h : Capped b n s.gradeUnit)

include hb h

theorem gradeCapture_capped (c : Capture) (served : Needs) : Capped b n (gradeCapture c served s).gradeUnit := by
  unfold gradeCapture
  obtain ⟨hr, hn, -⟩ := h
  split_ifs
  · exact advanceDecision_capped ⟨hr, hn, .inl hb⟩
  · have h1 : Capped b n s.gradeUnit := ⟨hr, hn, .inl hb⟩
    simpa using h1

theorem captureAnswered_capped (c : Capture) : Capped b n (captureAnswered c s).gradeUnit := by
  have hg : ∀ (u : State) (w : Needs), Capped b n u.gradeUnit → Capped b n (gradeCapture c w u).gradeUnit :=
    fun u w hu => gradeCapture_capped hb hu c w
  unfold captureAnswered
  dsimp only
  split_ifs
  · rw [searchCapture_gradeUnit]
    exact hg _ _ h
  · simpa using h
  · exact hg _ _ h
  · simpa using h

theorem answerCapture_capped (c : Capture) : Capped b n (answerCapture c s).gradeUnit := by
  unfold answerCapture
  split_ifs
  · exact captureAnswered_capped hb h c
  · exact h

theorem goodMotorSample_capped (p : Nat) (flag : Bool) : Capped b n (goodMotorSample p flag s).gradeUnit := by
  have h1 : Capped b n (flagSample flag (countGood p s)).gradeUnit := by simpa using countGood_capped p h
  have h2 := answerCapture_capped hb h1 (goodCapture p (flagSample flag (countGood p s)))
  simpa [goodMotorSample] using stillnessCheck_capped (s := trySettle (directionCheck _))
    (by simpa using directionCheck_capped h2)

theorem badMotorSample_capped (flag : Bool) : Capped b n (badMotorSample flag s).gradeUnit := by
  unfold badMotorSample
  dsimp only
  rw [flagSample_gradeUnit]
  split_ifs
  · refine answerCapture_capped hb ?_ _
    exact raiseStop_capped _ _ _ (by simpa using h)
  · exact h

theorem confirmTurn_capped (c : Candidate) (cap : Capture) : Capped b n (confirmTurn c cap s).gradeUnit := by
  obtain ⟨hr, -, -⟩ := h
  refine raiseIfOutside_capped _ ⟨hr, ?_, .inl hb⟩
  refine le_trans ?_ (hr hb)
  simp [emptyCandidates, gradeCode]

theorem turnConfirmAct_capped (ps : List Byte) : Capped b n (turnConfirmAct ps s).gradeUnit := by
  have h1 : Capped b n (answerOk 10 .none s).gradeUnit := by simpa using h
  unfold turnConfirmAct
  split_ifs
  · simpa using h
  · simpa using h
  · simpa using h
  · split
    · exact confirmTurn_capped hb h1 _ _
    · simpa using h

end Deciding

/-- The completion of a write that no search waits for changes no grade. -/
theorem writeEvent_gradeUnit {rb : ReadBack} {s : State}
    (h : (∃ r, s.store.inFlight = some (.cal r)) → ownCalibration s = false) :
    (writeEvent rb s).gradeUnit = s.gradeUnit := by
  unfold writeEvent
  split
  · rfl
  · simp
  · next r hr =>
    have ho := h ⟨r, hr⟩
    simp [calDone, ho]
    split_ifs <;> simp

/-- The tests at the end of a command make no decision that `b` does not allow. -/
theorem finish_capped (force : Bool) (s0 : State) {b : Prop} {n : Nat} {s : State} (h : Capped b n s.gradeUnit) :
    Capped b n (finish force s0 s).gradeUnit := by
  have h1 : Capped b n (applyCeiling (watchLead (leadLost s))).gradeUnit := by
    have h2 := leadLost_capped h
    exact applyCeiling_capped (by simpa using h2)
  simpa [finish] using tryMuster_capped (s := tryClaim (tryPrereq (applyCeiling (watchLead (leadLost s))))) (by simpa using h1)

/-! ### M without a decision -/

/-- Without a held capture nothing is decided: M and the turn offset stay. -/
theorem advanceDecision_unheld {s : State} (h : s.gradeUnit.held = none) :
    (advanceDecision s).reck.count = s.reck.count ∧ (advanceDecision s).reck.turnOffset = s.reck.turnOffset := by
  unfold advanceDecision
  split_ifs
  · exact ⟨rfl, rfl⟩
  · exact ⟨rfl, rfl⟩
  · simp [decideHeld, h]

theorem leadResolved_unheld (l : LeadReport) {s : State} (h : s.gradeUnit.held = none) :
    (leadResolved l s).reck.count = s.reck.count ∧ (leadResolved l s).reck.turnOffset = s.reck.turnOffset := by
  unfold leadResolved
  dsimp only
  split_ifs
  · exact advanceDecision_unheld h
  · exact ⟨rfl, rfl⟩

theorem leadLost_unheld {s : State} (h : s.gradeUnit.held = none) :
    (leadLost s).reck.count = s.reck.count ∧ (leadLost s).reck.turnOffset = s.reck.turnOffset := by
  unfold leadLost
  (repeat' split) <;> first | exact ⟨rfl, rfl⟩ | exact leadResolved_unheld _ h

theorem leadAtEdge_unheld {s : State} (h : s.gradeUnit.held = none) :
    (leadAtEdge s).reck.count = s.reck.count ∧ (leadAtEdge s).reck.turnOffset = s.reck.turnOffset := by
  unfold leadAtEdge
  (repeat' split) <;> first | exact ⟨rfl, rfl⟩ | exact leadResolved_unheld _ h

theorem reportFromPeer_unheld (k : Station) (r : MarkReport) {s : State} (h : s.gradeUnit.held = none) :
    (reportFromPeer k r s).reck.count = s.reck.count
      ∧ (reportFromPeer k r s).reck.turnOffset = s.reck.turnOffset := by
  unfold reportFromPeer leadReports
  split_ifs
  · simpa using leadResolved_unheld _ (s := countReport k r.number s) (by simpa using h)
  · simpa using leadResolved_unheld _ (s := countReport k r.number s) (by simpa using h)
  · simp

theorem riseEvent_unheld {s : State} (h : s.gradeUnit.held = none) :
    (riseEvent s).reck.count = s.reck.count ∧ (riseEvent s).reck.turnOffset = s.reck.turnOffset := by
  have hm : ∀ u : State, u.gradeUnit.held = none →
      (markEdge u).reck.count = u.reck.count ∧ (markEdge u).reck.turnOffset = u.reck.turnOffset := by
    intro u hu
    unfold markEdge
    split_ifs
    · exact leadAtEdge_unheld hu
    · exact ⟨rfl, rfl⟩
  unfold riseEvent
  split_ifs
  · exact ⟨rfl, rfl⟩
  · simpa using hm (startQuiet { s with levels := { s.levels with alhHigh := true } }) (by simpa using h)

theorem leadWaitEvent_unheld {s : State} (h : s.gradeUnit.held = none) :
    (leadWaitEvent s).reck.count = s.reck.count ∧ (leadWaitEvent s).reck.turnOffset = s.reck.turnOffset := by
  unfold leadWaitEvent
  split_ifs
  · exact leadResolved_unheld _ h
  · exact ⟨rfl, rfl⟩

theorem readEvent_unheld {s : State} (h : s.gradeUnit.held = none) :
    (readEvent s).reck.count = s.reck.count ∧ (readEvent s).reck.turnOffset = s.reck.turnOffset := by
  unfold readEvent
  split_ifs
  · rw [answerRead_marking h]
    simp [snapshotChosen, calibrationRead]
  · exact ⟨rfl, rfl⟩

/-! ### Every command -/

/-- The commands that may make a decision without a held capture, and those that set the count anew (R102, R107). -/
def decides : Instr → Bool
  | .motorSample _ _ _ | .turnConfirm _ _ => true
  | _ => false

theorem effectOf_capped (c : Instr) {b : Prop} {n : Nat} {s : State} (hd : decides c = true → b)
    (hw : (∃ now rb, c = .writeCompletion now rb) → (∃ r, s.store.inFlight = some (.cal r)) → ownCalibration s = false)
    (h : Capped b n s.gradeUnit) : Capped b n (effectOf c s).gradeUnit := by
  cases c with
  | motorSample now r flag =>
    cases r with
    | good p => exact goodMotorSample_capped (hd rfl) h _ _
    | bad => exact badMotorSample_capped (hd rfl) h _
  | scaleSample now r => cases r <;> simp [effectOf, h]
  | writeCompletion now rb =>
    rw [effectOf, writeEvent_gradeUnit (hw ⟨now, rb, rfl⟩)]
    exact h
  | turnConfirm now rest =>
    refine command_keeps (P := fun u => Capped b n u.gradeUnit) _ _ _ _ _ _ _ (by simp [h]) fun ps _ _ => ?_
    exact turnConfirmAct_capped (hd rfl) (by simpa using h) ps
  | statusRead | peerRead | faultRead | faultClear | directiveTake | storeRead | markRequest | referenceStart
  | referenceAbort | peerForget | setup | go =>
    refine command_keeps (P := fun u => Capped b n u.gradeUnit) _ _ _ _ _ _ _ ?_ ?_ <;> simp [h]
  | haltArrival | powerDownArrival | markCallArrival | markReportArrival | claimArrival | releaseArrival
  | statusArrival | helloArrival =>
    refine arrive_keeps (P := fun u => Capped b n u.gradeUnit) _ _ _ _ _ h ?_ ?_ ?_ ?_ <;> simp [h]
  | _ => simp [effectOf, h]

/-- Without a held capture no command but the motor sample, TURN_CONFIRM and SETUP moves M (R102). -/
theorem effectOf_unheld (c : Instr) {s : State} (hd : decides c = false) (hset : ∀ now r, c ≠ .setup now r)
    (h : s.gradeUnit.held = none) :
    (effectOf c s).reck.count = s.reck.count ∧ (effectOf c s).reck.started = s.reck.started
      ∧ (effectOf c s).reck.turnOffset = s.reck.turnOffset := by
  cases c with
  | motorSample | turnConfirm => exact absurd hd (by simp [decides])
  | setup now r => exact absurd rfl (hset now r)
  | scaleSample now r => cases r <;> simp [effectOf]
  | recoveryRead => simp [effectOf, readEvent_unheld h]
  | alhRise => simp [effectOf, riseEvent_unheld h]
  | leadReportWaitExpiry => simp [effectOf, leadWaitEvent_unheld h]
  | statusRead | peerRead | faultRead | faultClear | directiveTake | storeRead | markRequest | referenceStart
  | referenceAbort | peerForget | go =>
    refine command_keeps (P := fun u => u.reck.count = s.reck.count ∧ u.reck.started = s.reck.started
      ∧ u.reck.turnOffset = s.reck.turnOffset) _ _ _ _ _ _ _ ?_ ?_ <;> simp
  | markReportArrival now k r =>
    refine arrive_keeps (P := fun u => u.reck.count = s.reck.count ∧ u.reck.started = s.reck.started
      ∧ u.reck.turnOffset = s.reck.turnOffset) _ _ _ _ _ ?_ ?_ ?_ ?_ ?_
    · simp
    · simp
    · simp
    · simp
    · simpa using reportFromPeer_unheld k r (s := peerArrival k (.markReport r) (setLine .waitingForIdle s)) (by simpa using h)
  | haltArrival | powerDownArrival | markCallArrival | claimArrival | releaseArrival | statusArrival | helloArrival =>
    refine arrive_keeps (P := fun u => u.reck.count = s.reck.count ∧ u.reck.started = s.reck.started
      ∧ u.reck.turnOffset = s.reck.turnOffset) _ _ _ _ _ ?_ ?_ ?_ ?_ ?_ <;> simp
  | _ => simp [effectOf]

theorem finish_unheld {force : Bool} {s0 s : State} (h : s.gradeUnit.held = none) :
    (finish force s0 s).reck.count = s.reck.count ∧ (finish force s0 s).reck.turnOffset = s.reck.turnOffset := by
  rw [finish_eq_closing]
  simpa using leadLost_unheld h

/-- A reset sets the grade to LOST, or leaves the station as it was (R184). -/
theorem exec_reset_grade {c : Instr} {s t : State} (h : exec c s = .next t) (hr : isReset c = true)
    (hg : t.gradeUnit.grade = .referenced) : s.gradeUnit.grade = .referenced := by
  have hend : ∀ k pins cut x u, (endReset k pins cut x u).gradeUnit.grade = .lost := by
    intro k pins cut x u
    simp [endReset, resetBlocks, gradeReset]
  cases c with
  | por pins cut =>
    cases h
    split at hg
    · exact hg
    · simp [hend] at hg
  | pinReset pins cut =>
    cases h
    simp [hend] at hg
  | rstNLow cut =>
    cases h
    split at hg
    · exact hg
    · simp [resetBlocks, gradeReset] at hg
  | reset now r pins cut =>
    cases h
    revert hg
    unfold reading
    split_ifs
    · exact id
    · exact command_keeps (P := fun u => u.gradeUnit.grade = .referenced → s.gradeUnit.grade = .referenced)
        _ _ _ _ _ _ _ (by simp) (fun ps _ _ => by simp [resetAct, hend])
  | _ => exact absurd hr Bool.noConfusion

/-- Settles O9: the grade is capped at its own code, or under REFERENCED, through every command. -/
theorem raisesHaveTheirCauses : Obligations.RaisesHaveTheirCauses := by
  intro c s t h hw
  have hkeep : ∀ {b : Prop} {n : Nat}, isReset c = false → (decides c = true → b) → Capped b n s.gradeUnit →
      Capped b n t.gradeUnit := by
    intro b n hr hd hc
    obtain rfl | ⟨-, rfl⟩ | ⟨-, -, rfl⟩ := exec_cases h hr
    · exact hc
    · exact effectOf_capped c hd (by simpa [ownCalibration] using hw) (by simpa using hc)
    · exact finish_capped _ _ (effectOf_capped c hd (by simpa [ownCalibration] using hw) (by simpa using hc))
  refine ⟨fun hg => ?_, fun hh hm ht hset hr => ?_⟩
  · cases hr : isReset c with
    | true => exact exec_reset_grade h hr hg
    | false =>
      by_contra hs
      have hle : gradeCode s.gradeUnit.grade ≤ gradeCode .restored := by
        revert hs
        cases s.gradeUnit.grade <;> simp [gradeCode]
      obtain ⟨-, hn, -⟩ := hkeep (b := True) (n := gradeCode .restored) hr (fun _ => trivial)
        ⟨fun _ => le_rfl, hle, .inl trivial⟩
      rw [hg] at hn
      exact absurd hn (by decide)
  · have hd : decides c = false := by
      cases c with
      | motorSample now r f => exact absurd rfl (hm now r f)
      | turnConfirm now r => exact absurd rfl (ht now r)
      | _ => rfl
    obtain ⟨-, hn, -⟩ := hkeep (b := False) (n := gradeCode s.gradeUnit.grade) hr (by simp [hd])
      ⟨False.elim, le_rfl, .inr hh⟩
    refine ⟨hn, ?_⟩
    have hcap : Capped False (gradeCode s.gradeUnit.grade) (effectOf c (tick (instantOf c) s)).gradeUnit :=
      effectOf_capped c (by simp [hd]) (by simpa [ownCalibration] using hw) ⟨False.elim, by simp, .inr (by simpa using hh)⟩
    obtain ⟨h1, h2, h3⟩ := effectOf_unheld c (s := tick (instantOf c) s) hd hset (by simpa using hh)
    obtain rfl | ⟨-, rfl⟩ | ⟨-, -, rfl⟩ := exec_cases h hr
    · exact ⟨rfl, rfl, rfl⟩
    · exact ⟨by simpa using h1, by simpa using h2, by simpa using h3⟩
    · obtain ⟨-, -, hheld⟩ := hcap
      obtain ⟨k1, k2⟩ := finish_unheld (force := forcesStatus c s) (s0 := tick (instantOf c) s) (hheld.resolve_left id)
      exact ⟨k1.trans (by simpa using h1), by simpa using h2, k2.trans (by simpa using h3)⟩

end Sys2Proof.Machine
end

section
/-! PROOFS. The motor sample: the count and the rest that every good sample sets (R6, R7, R20, R21), kept apart from the faults
that it may raise and from the checks that follow. -/

namespace Sys2Proof.Machine

theorem motorSample_runs {now : Instant} {p : BitVec 16} {flag : Bool} {s : State} (hs : s.levels.rstLow = false) :
    exec (.motorSample now (.good p) flag) s
      = .next (finish false (tick now s) (goodMotorSample (p.toNat % cprOf (setupOf s)) flag (tick now s))) := by
  change Host.Outcome.next (running now s _ _) = _
  rw [running_out hs]
  rfl

theorem badMotorSample_runs {now : Instant} {flag : Bool} {s : State} (hs : s.levels.rstLow = false) :
    exec (.motorSample now .bad flag) s = .next (finish false (tick now s) (badMotorSample flag (tick now s))) := by
  change Host.Outcome.next (running now s _ _) = _
  rw [running_out hs]

/-! ### The count -/

/-- The station with the count, the angle and rest of a good sample, before its faults. -/
def counted (p : Nat) (s : State) : State :=
  if s.reck.started then evaluateRest (motorFailed s) (addStep (stepOf s p) p (takeGood p s))
  else startCount p (takeGood p s)

theorem countGood_eq (p : Nat) (s : State) :
    countGood p s =
      if s.reck.started then
        overflowTest s.reck.held (s.reck.count + stepOf s p) (jumpTest (stepOf s p) (counted p s))
      else counted p s := by
  unfold countGood counted
  split_ifs <;> rfl

section Counted

variable (p : Nat) (s : State)

@[simp] theorem counted_frame :
    (counted p s).phase = s.phase ∧ (counted p s).ms = s.ms ∧ (counted p s).straps = s.straps
      ∧ (counted p s).levels = s.levels ∧ (counted p s).link = s.link ∧ (counted p s).peers = s.peers
      ∧ (counted p s).mark = s.mark ∧ (counted p s).gradeUnit = s.gradeUnit ∧ (counted p s).claim = s.claim
      ∧ (counted p s).search = s.search ∧ (counted p s).zone = s.zone ∧ (counted p s).fault.stopSet = s.fault.stopSet
      ∧ (counted p s).port.setup = s.port.setup ∧ (counted p s).port.frozen = s.port.frozen
      ∧ (counted p s).port.tau = s.port.tau
      ∧ (counted p s).store.cellsA = s.store.cellsA ∧ (counted p s).store.cellsB = s.store.cellsB
      ∧ (counted p s).store.cellsCal = s.store.cellsCal ∧ (counted p s).store.imageCal = s.store.imageCal
      ∧ (counted p s).store.calSeq = s.store.calSeq
      ∧ (counted p s).store.inFlight = s.store.inFlight ∧ (counted p s).store.scanDone = s.store.scanDone
      ∧ (counted p s).store.pendingSnap = s.store.pendingSnap ∧ (counted p s).store.pendingCal = s.store.pendingCal
      ∧ (counted p s).reck.theta0 = s.reck.theta0 ∧ (counted p s).reck.sigma = s.reck.sigma
      ∧ (counted p s).reck.calibrated = s.reck.calibrated ∧ (counted p s).reck.lambda = s.reck.lambda
      ∧ (counted p s).reck.basis = s.reck.basis ∧ (counted p s).reck.thetaScale = s.reck.thetaScale
      ∧ (counted p s).reck.turnOffset = s.reck.turnOffset ∧ (counted p s).reck.started = true
      ∧ (counted p s).reck.lastGood = some p
      ∧ (counted p s).sensor = { s.sensor with latestMotor := some p, badMotor := 0 } := by
  unfold counted
  split_ifs with h <;> simp [takeGood, addStep, startCount, h]

theorem counted_inputs : leadInputs (counted p s) = leadInputs s := by simp [leadInputs]

theorem counted_count :
    (counted p s).reck.count = if s.reck.started = true then clampCount (s.reck.count + stepOf s p) else (p : Int) := by
  unfold counted
  split_ifs <;> simp [takeGood, addStep, startCount]

theorem counted_held :
    (counted p s).reck.held
      = if s.reck.started = true then
          !countInRange (s.reck.count + stepOf s p) || (s.reck.held && decide (stepOf s p = 0))
        else s.reck.held := by
  unfold counted
  split_ifs <;> simp [takeGood, addStep, startCount]

/-- The count of the sample is counted anew wherever the angle is formed. -/
theorem counted_formedAngle :
    formedAngle (counted p s)
      = formedAngle { s with reck := { s.reck with count := (counted p s).reck.count, started := true } } :=
  formedAngle_congr (by simp) (by simp) rfl (by simp) (by simp) (by simp) (by simp)
    (coupled_congr (by simp) (by simp) (by simp))

/-- The station with the count moved or started, before its angle is formed. -/
def moved (p : Nat) (s : State) : State :=
  if s.reck.started then
    { takeGood p s with
      reck := { s.reck with
        count := clampCount (s.reck.count + stepOf s p)
        held := !countInRange (s.reck.count + stepOf s p) || (s.reck.held && decide (stepOf s p = 0))
        lastGood := some p } }
  else
    { takeGood p s with
      reck := { s.reck with
        count := (p : Int), started := true, lastGood := some p
        anchor := some { count := (p : Int), time := s.ms }, atRest := false } }

/-- The angle, the SATURATED flag and what a recomputation raises are those of the station with its count moved. -/
theorem counted_recomputed :
    (counted p s).reck.theta = (recomputeTheta (moved p s)).reck.theta
      ∧ (counted p s).reck.saturated = (recomputeTheta (moved p s)).reck.saturated
      ∧ (counted p s).fault = (recomputeTheta (moved p s)).fault
      ∧ (counted p s).port = (recomputeTheta (moved p s)).port := by
  unfold counted moved
  split_ifs
  · simp only [evaluateRest_frame]
    exact ⟨rfl, rfl, rfl, rfl⟩
  · exact ⟨rfl, rfl, rfl, rfl⟩

theorem moved_fault : (moved p s).fault = s.fault ∧ (moved p s).port = s.port
    ∧ (moved p s).reck.saturated = s.reck.saturated ∧ own (moved p s) = own s := by
  unfold moved
  split_ifs <;> exact ⟨rfl, rfl, rfl, rfl⟩

theorem moved_formedAngle : formedAngle (moved p s) = formedAngle (counted p s) := by
  have hr : (moved p s).reck.basis = s.reck.basis ∧ (moved p s).reck.started = true
      ∧ (moved p s).reck.count = (counted p s).reck.count ∧ (moved p s).reck.theta0 = s.reck.theta0
      ∧ (moved p s).reck.lambda = s.reck.lambda ∧ (moved p s).reck.thetaScale = s.reck.thetaScale
      ∧ (moved p s).port = s.port ∧ (moved p s).straps = s.straps := by
    rw [counted_count]
    unfold moved
    split_ifs with h <;> simp [takeGood, h]
  obtain ⟨h1, h2, h3, h4, h5, h6, h7, h8⟩ := hr
  exact formedAngle_congr (by simp [h1]) (by simp [h2]) h3 (by simp [h4]) (by simp [h5]) (by simp [h6]) (by simp [h7])
    (coupled_congr (by simp [h7]) (by simp [h7]) (by simp [h8]))

theorem counted_theta : (counted p s).reck.theta = (formedAngle (counted p s)).map clampAngle := by
  rw [(counted_recomputed p s).1, recomputeTheta_theta, moved_formedAngle]

theorem counted_saturated :
    (counted p s).reck.saturated
      = (formedAngle (counted p s)).elim s.reck.saturated fun v => !angleInRange v := by
  obtain ⟨-, -, hs, -⟩ := moved_fault p s
  rw [(counted_recomputed p s).2.1, recomputeTheta_saturated, moved_formedAngle, hs]
  cases formedAngle (counted p s) <;> rfl

/-- Without an entry into saturation the count of a sample raises nothing. -/
theorem counted_fault {p : Nat} {s : State}
    (h : s.reck.saturated = true ∨ ∀ x, formedAngle (counted p s) = some x → angleInRange x = true) :
    (counted p s).fault = s.fault := by
  obtain ⟨hf, -, hs, -⟩ := moved_fault p s
  rw [(counted_recomputed p s).2.2.1, (recomputeTheta_fault (by rwa [moved_formedAngle, hs])).1, hf]

/-- The entry into saturation at a sample (R15). -/
theorem counted_entry {p : Nat} {s : State} {x : Int} (hx : formedAngle (counted p s) = some x)
    (hr : angleInRange x = false) (hs : s.reck.saturated = false) :
    ∃ u, u.fault = s.fault
      ∧ FaultShown (raise (.note .angleSaturated) (if x < angleMin then 2 else 1) 0 (own u) u).fault.record (counted p s) := by
  obtain ⟨hf, -, hsat, -⟩ := moved_fault p s
  obtain ⟨-, -, hcf, hcp⟩ := counted_recomputed p s
  obtain ⟨u, hu, huf⟩ := recomputeTheta_entry (s := moved p s) (by rw [moved_formedAngle, hx]) hr (by rw [hsat, hs])
  refine ⟨u, by rw [huf, hf], ?_⟩
  rw [FaultShown, hcf, hcp, hu]
  exact raise_shown _ _ _ _ _

end Counted

/-! ### The faults of the count -/

theorem jumpTest_within {d : Int} {s : State} (h : 4 * d.natAbs ≤ cprOf (setupOf s)) : jumpTest d s = s := by
  unfold jumpTest
  rw [if_neg]
  omega

theorem countGood_quiet {p : Nat} {s : State}
    (h : s.reck.started = true → 4 * (stepOf s p).natAbs ≤ cprOf (setupOf s)
      ∧ countInRange (s.reck.count + stepOf s p) = true) : countGood p s = counted p s := by
  rw [countGood_eq]
  split_ifs with hst
  · obtain ⟨hj, hr⟩ := h hst
    rw [jumpTest_within (by simpa [setupOf] using hj), overflowTest]
    split_ifs
    · rfl
    · simp [raiseIfOutside, hr]
  · rfl

end Sys2Proof.Machine
end

section
/-! PROOFS. O30: the checks of obedience at a good motor sample, each by what it does where it has nothing to find and where it
raises its fault. -/

namespace Sys2Proof.Machine

/-! ### The flag -/

@[simp] theorem flagSample_search (level : Bool) (s : State) :
    (flagSample level s).search.moveStart = s.search.moveStart ∧ (flagSample level s).search.theta0 = s.search.theta0
      ∧ (flagSample level s).search.sigma = s.search.sigma ∧ (flagSample level s).search.centre = s.search.centre
      ∧ (flagSample level s).search.lastDelta = s.search.lastDelta
      ∧ (flagSample level s).search.heldLambda = s.search.heldLambda
      ∧ (flagSample level s).search.awaitingWrite = s.search.awaitingWrite
      ∧ (flagSample level s).search.parkOutcome = s.search.parkOutcome
      ∧ (flagSample level s).search.parkLimit = s.search.parkLimit
      ∧ (flagSample level s).search.returning = s.search.returning
      ∧ (flagSample level s).search.restartPending = s.search.restartPending := by
  unfold flagSample takeEdge
  dsimp only
  (repeat' split) <;> simp

/-- The station with the count and the flag of a good sample taken. -/
def flagged (p : Nat) (flag : Bool) (s : State) : State := flagSample flag (counted p s)

/-- A sample that takes no capture and neither jumps nor overflows goes through the checks alone. -/
theorem goodMotorSample_quiet {p : Nat} {flag : Bool} {s : State}
    (h : s.reck.started = true → 4 * (stepOf s p).natAbs ≤ cprOf (setupOf s)
      ∧ countInRange (s.reck.count + stepOf s p) = true) (hc : s.mark.captureRequested = false) :
    goodMotorSample p flag s = searchSample (stillnessCheck (trySettle (directionCheck (flagged p flag s)))) := by
  have hc' : (flagSample flag (counted p s)).mark.captureRequested = false := by simpa using hc
  rw [goodMotorSample, countGood_quiet h]
  simp [answerCapture, hc, flagged]

/-! ### Each check with nothing to find -/

theorem directionCheck_idle {s : State}
    (h : s.claim.dirState ≠ .taken ∨ s.claim.dir.kind ≠ some .jogPos ∧ s.claim.dir.kind ≠ some .jogNeg) :
    directionCheck s = s := by
  unfold directionCheck
  split
  · next hd hk _ => simp [hd, hk] at h
  · next hd hk _ => simp [hd, hk] at h
  · rfl

theorem trySettle_idle {s : State} (h : s.claim.dirState ≠ .taken ∨ s.claim.dir.kind ≠ some .stop) :
    trySettle s = s := by
  unfold trySettle
  rw [if_neg]
  rintro ⟨-, hd, hk, -⟩
  simp [hd, hk] at h

theorem stillnessCheck_idle {s : State} (h : stillExpected s = false ∨ s.claim.still = none) : stillnessCheck s = s := by
  unfold stillnessCheck
  split
  · rfl
  · next q hq =>
    rw [if_neg]
    rcases h with h | h
    · simp [h]
    · simp [h] at hq

theorem searchSample_idle {s : State} (h : moving s = false ∨ s.search.stage ≠ .underway) : searchSample s = s := by
  unfold searchSample
  rw [if_neg]
  rintro ⟨hs, hm⟩
  simp [hs, hm] at h

theorem moving_of_stop {s : State} (h : s.claim.dir.kind = some .stop) : moving s = false := by
  simp [moving, h]

/-! ### The end of a sample that raised a STOP fault -/

/-- What the closing tests leave of a STOP fault in a phase of R178. -/
theorem finish_raiseStop {c : StopCause} {a b : Int} {s s0 : State} {force : Bool} (h : stopsIn s.phase = true) :
    (finish force s0 (raiseStop c a b s)).phase = .faulted
      ∧ (finish force s0 (raiseStop c a b s)).fault.stopSet = (raiseStop c a b s).fault.stopSet
      ∧ c ∈ (finish force s0 (raiseStop c a b s)).fault.stopSet
      ∧ (finish force s0 (raiseStop c a b s)).claim.dirState = (raiseStop c a b s).claim.dirState
      ∧ (finish force s0 (raiseStop c a b s)).claim.allowanceStop = (raiseStop c a b s).claim.allowanceStop
      ∧ stopCurrent (finish force s0 (raiseStop c a b s)) = true
      ∧ (finish force s0 (raiseStop c a b s)).reck.count = s.reck.count
      ∧ FaultShown (raise (.stop c) a b (own s) s).fault.record (finish force s0 (raiseStop c a b s)) := by
  have hu := raiseStop_undisturbed (c := c) (a := a) (b := b) h
  have hp : (raiseStop c a b s).phase = .faulted := by rw [raiseStop_phase, if_pos h]
  have hshown := finish_faultShown force s0 (raiseStop_shown c a b s)
  obtain ⟨h1, -⟩ := finish_undisturbed_frame (force := force) (s0 := s0) hu (by simp [hp])
  have hcur : stopCurrent (raiseStop c a b s) = true := by
    rw [raiseStop_stops h]
    exact stopEffects_stopCurrent _ _ _
  have hmem := mem_raiseStop c a b s (stopFalls_of_stopsIn h)
  rw [finish_of_undisturbed hu] at *
  refine ⟨h1.trans hp, by simp, by simpa using hmem, by simp, by simp, ?_, by simp, hshown⟩
  rw [← hcur]
  exact stopCurrent_congr (by simp) (by simp)

theorem postStop_kind (s : State) : (postStop s).claim.dir.kind = some .stop := by
  have h := postStop_current_after s
  unfold stopCurrent at h
  split at h
  · assumption
  · assumption
  · simp at h

/-- A STOP posted anew: nothing of the directive before it is left (R133, R141). -/
theorem postStop_anew {s : State} (h : stopCurrent s = false) :
    (postStop s).claim.dirState = .posted ∧ (postStop s).claim.still = none
      ∧ (postStop s).claim.allowanceStop = none := by
  simp [postStop, h, postStopAnew, postDirective]

/-- Whether a claim is released with a STOP or without one. -/
theorem releaseClaim_claim (s : State) :
    ((releaseClaim s).claim.dirState = (postStop s).claim.dirState ∧ (releaseClaim s).claim.dir = (postStop s).claim.dir
        ∧ (releaseClaim s).claim.still = (postStop s).claim.still
        ∧ (releaseClaim s).claim.allowanceStop = (postStop s).claim.allowanceStop)
      ∨ (releaseClaim s).claim.dirState = s.claim.dirState ∧ (releaseClaim s).claim.dir = s.claim.dir
        ∧ (releaseClaim s).claim.still = s.claim.still ∧ (releaseClaim s).claim.furthest = s.claim.furthest
        ∧ (releaseClaim s).claim.allowanceStop = s.claim.allowanceStop := by
  unfold releaseClaim beginRelease sendFrame
  cases hs : s.claim.state <;> dsimp only
  · simp
  · simp
  · simp
  · by_cases hm : moving s = true <;> simp only [hm, ↓reduceIte] <;> split_ifs <;> simp
  · simp

/-- Where no STOP was current, the STOP effects post one (R133). -/
theorem stopEffects_posted {c : StopCause} {a : Int} {s : State} (h : stopCurrent s = false) :
    (stopEffects c a s).claim.dirState = .posted ∧ (stopEffects c a s).claim.dir.kind = some .stop
      ∧ (stopEffects c a s).claim.still = none ∧ (stopEffects c a s).claim.allowanceStop = none := by
  have hu : (endSearchByFault (gradeFall c s)).claim = s.claim := by simp
  have hclaim : (stopEffects c a s).claim = (postStop (releaseClaim (endSearchByFault (gradeFall c s)))).claim := by
    simp [stopEffects, endDecision]
  have hcur : stopCurrent (endSearchByFault (gradeFall c s)) = false := by
    rw [← h]
    exact stopCurrent_congr (by rw [hu]) (by rw [hu])
  rw [hclaim]
  have hpost := postStop_kind (releaseClaim (endSearchByFault (gradeFall c s)))
  rcases releaseClaim_claim (endSearchByFault (gradeFall c s)) with ⟨h1, h2, h3, h4⟩ | ⟨h1, h2, -, -, -⟩
  · have hc : stopCurrent (releaseClaim (endSearchByFault (gradeFall c s))) = true :=
      (stopCurrent_congr (t := releaseClaim _) (s := postStop _) h1 h2).trans (postStop_current_after _)
    obtain ⟨k1, k2, k3⟩ := postStop_anew hcur
    rw [postStop_current _ hc] at hpost ⊢
    exact ⟨h1.trans k1, hpost, h3.trans k2, h4.trans k3⟩
  · obtain ⟨k1, k2, k3⟩ := postStop_anew ((stopCurrent_congr (t := releaseClaim _) h1 h2).trans hcur)
    exact ⟨k1, hpost, k2, k3⟩

theorem raiseStop_posted {c : StopCause} {a b : Int} {s : State} (h : stopsIn s.phase = true) (hc : stopCurrent s = false) :
    (raiseStop c a b s).claim.dirState = .posted ∧ (raiseStop c a b s).claim.dir.kind = some .stop
      ∧ (raiseStop c a b s).claim.still = none ∧ (raiseStop c a b s).claim.allowanceStop = none := by
  rw [raiseStop_stops h]
  exact stopEffects_posted ((stopCurrent_congr (by simp) (by simp)).trans hc)

/-- The checks after one that has raised a STOP fault, its STOP posted, have nothing to find. -/
theorem checks_after_stop {s : State} (hd : s.claim.dirState = .posted) (hk : s.claim.dir.kind = some .stop)
    (hs : s.claim.still = none) : searchSample (stillnessCheck (trySettle s)) = s := by
  rw [trySettle_idle (.inl (by simp [hd])), stillnessCheck_idle (.inr hs), searchSample_idle (.inl (moving_of_stop hk))]

/-! ### The sample before its checks -/

section Flagged

variable (p : Nat) (flag : Bool) (s : State)

@[simp] theorem flagged_frame :
    (flagged p flag s).phase = s.phase ∧ (flagged p flag s).ms = s.ms ∧ (flagged p flag s).straps = s.straps
      ∧ (flagged p flag s).claim = s.claim ∧ (flagged p flag s).mark = s.mark
      ∧ (flagged p flag s).gradeUnit = s.gradeUnit ∧ (flagged p flag s).peers = s.peers
      ∧ (flagged p flag s).port = (counted p s).port ∧ (flagged p flag s).fault = (counted p s).fault
      ∧ (flagged p flag s).reck = (counted p s).reck
      ∧ (flagged p flag s).search.sub = s.search.sub ∧ (flagged p flag s).search.stage = s.search.stage
      ∧ (flagged p flag s).search.leadHold = s.search.leadHold
      ∧ (flagged p flag s).search.parkOutcome = s.search.parkOutcome
      ∧ (flagged p flag s).search.parkLimit = s.search.parkLimit
      ∧ (flagged p flag s).sensor.badScale = s.sensor.badScale := by
  simp [flagged]

theorem flagged_reck : (flagged p flag s).reck = (counted p s).reck := by simp

theorem flagged_inputs : leadInputs (flagged p flag s) = leadInputs s := by simp [leadInputs]

theorem flagged_setup : setupOf (flagged p flag s) = setupOf s := by simp [setupOf]

theorem flagged_stopCurrent : stopCurrent (flagged p flag s) = stopCurrent s := stopCurrent_congr (by simp) (by simp)

theorem flagged_moving : moving (flagged p flag s) = moving s := moving_congr (by simp) (by simp)

end Flagged

end Sys2Proof.Machine
end

section
/-! PROOFS. O30: the obedience checks at a good motor sample. -/

namespace Sys2Proof.Machine

/-- A sample that moves M to `m` without a jump, an overflow or a capture. -/
def SteppedTo (p : BitVec 16) (s : State) (m : Int) : Prop :=
  let v := p.toNat % cprOf (setupOf s)
  let d := unwrapStep (cprOf (setupOf s)) v (s.reck.lastGood.getD v)
  Steady s ∧ s.mark.captureRequested = false ∧ s.reck.started = true
    ∧ 4 * d.natAbs ≤ cprOf (setupOf s) ∧ m = s.reck.count + d ∧ countInRange m = true

/-- No entry into saturation at M = `m` (R15). -/
def NoEntryAt (s : State) (m : Int) : Prop :=
  s.reck.saturated = true
    ∨ ∀ x, formedAngle { s with reck := { s.reck with count := m } } = some x → angleInRange x = true

/-- The station after the count and the flag of the sample, before the checks. -/
def atChecks (now : Instant) (p : BitVec 16) (flag : Bool) (s : State) : State :=
  flagged (p.toNat % cprOf (setupOf s)) flag (tick now s)

section Stepped

variable {now : Instant} {p : BitVec 16} {flag : Bool} {s : State} {m : Int} (h : SteppedTo p s m)

include h

theorem SteppedTo.steady : Steady s := h.1

theorem SteppedTo.runs :
    exec (.motorSample now (.good p) flag) s
      = .next (finish false (tick now s)
          (searchSample (stillnessCheck (trySettle (directionCheck (atChecks now p flag s)))))) := by
  obtain ⟨⟨hs, -⟩, hc, -, hd, rfl, hr⟩ := h
  rw [motorSample_runs hs, goodMotorSample_quiet (s := tick now s) (fun _ => ⟨?_, ?_⟩) (by simpa using hc)]
  · rfl
  · simpa [stepOf, setupOf] using hd
  · simpa [stepOf, setupOf] using hr

theorem SteppedTo.count : (atChecks now p flag s).reck.count = m := by
  obtain ⟨-, -, hst, -, rfl, hr⟩ := h
  have hst' : (tick now s).reck.started = true := by simpa using hst
  have hr' : countInRange ((tick now s).reck.count + stepOf (tick now s) (p.toNat % cprOf (setupOf s))) = true := by
    simpa [stepOf, setupOf] using hr
  rw [atChecks, flagged_reck, counted_count, if_pos hst', clampCount_of_inRange hr']
  simp [stepOf, setupOf]

theorem SteppedTo.fault (hn : NoEntryAt s m) : (atChecks now p flag s).fault = s.fault := by
  have hcount := h.count (now := now) (flag := flag)
  rw [atChecks, flagged_reck] at hcount
  have hst : s.reck.started = true := h.2.2.1
  have hf : formedAngle (counted (p.toNat % cprOf (setupOf s)) (tick now s))
      = formedAngle { s with reck := { s.reck with count := m } } :=
    formedAngle_congr (by simp) (by simp [hst]) hcount (by simp) (by simp) (by simp) (by simp)
      (coupled_congr (by simp) (by simp) (by simp))
  have hc := counted_fault (p := p.toNat % cprOf (setupOf s)) (s := tick now s) (by rw [hf]; exact hn)
  simpa [atChecks] using hc

theorem SteppedTo.leadSteady : LeadSteady (atChecks now p flag s) :=
  leadSteady_of_inputs (by simp [leadInputs, atChecks]) h.1.2 (by simp [atChecks])

end Stepped

section AtChecks

variable (now : Instant) (p : BitVec 16) (flag : Bool) (s : State)

@[simp] theorem atChecks_frame :
    (atChecks now p flag s).phase = s.phase ∧ (atChecks now p flag s).claim = s.claim
      ∧ (atChecks now p flag s).gradeUnit = s.gradeUnit
      ∧ (atChecks now p flag s).search.sub = s.search.sub ∧ (atChecks now p flag s).search.stage = s.search.stage
      ∧ (atChecks now p flag s).search.parkOutcome = s.search.parkOutcome
      ∧ (atChecks now p flag s).search.parkLimit = s.search.parkLimit
      ∧ (atChecks now p flag s).search.leadHold = s.search.leadHold
      ∧ (atChecks now p flag s).sensor.badScale = s.sensor.badScale := by
  simp [atChecks]

theorem atChecks_setup : setupOf (atChecks now p flag s) = setupOf s := by simp [atChecks, setupOf]

theorem atChecks_stopCurrent : stopCurrent (atChecks now p flag s) = stopCurrent s :=
  stopCurrent_congr (by simp) (by simp)

theorem atChecks_moving : moving (atChecks now p flag s) = moving s := moving_congr (by simp) (by simp)

end AtChecks

/-! ### What a check that raised its fault leaves at the end of the command -/

/-- The first fault of a sample in a phase of R178, raised where no STOP is current. -/
theorem checkRaised {now : Instant} {p : BitVec 16} {flag : Bool} {s : State} {m : Int} (h : SteppedTo p s m)
    (hp : stopsIn s.phase = true) {c : StopCause} {a b : Int}
    (hrun : searchSample (stillnessCheck (trySettle (directionCheck (atChecks now p flag s))))
      = raiseStop c a b (atChecks now p flag s)) :
    let t := finish false (tick now s)
      (searchSample (stillnessCheck (trySettle (directionCheck (atChecks now p flag s)))))
    t.reck.count = m ∧ t.phase = .faulted ∧ c ∈ t.fault.stopSet ∧ stopCurrent t = true
      ∧ (s.fault.record.locked = false → NoEntryAt s m →
          t.fault.record.cause = some (.stop c) ∧ t.fault.record.a = faultValue a ∧ t.fault.record.b = faultValue b) := by
  intro t
  have ht : t = finish false (tick now s) (raiseStop c a b (atChecks now p flag s)) := by rw [← hrun]
  obtain ⟨h1, -, h2, -, -, h3, h4, h5⟩ := finish_raiseStop (c := c) (a := a) (b := b) (s0 := tick now s) (force := false)
    (s := atChecks now p flag s) (by simpa using hp)
  rw [← ht] at h1 h2 h3 h4 h5
  refine ⟨h4.trans h.count, h1, h2, h3, fun hl hn => ?_⟩
  obtain ⟨-, -, hrec⟩ := h5.record
  obtain ⟨k1, -, k2, k3⟩ := hrec (by rw [h.fault hn]; exact hl)
  exact ⟨k1, k2, k3⟩

/-! ### A taken JOG (R136) -/

/-- How far M lies back from the furthest point of a JOG. -/
def backOf (plus : Bool) (f m : Int) : Int := if plus then f - m else m - f

theorem directionCheck_back {s : State} {plus : Bool} {f : Int} (hd : s.claim.dirState = .taken)
    (hk : s.claim.dir.kind = some (if plus then .jogPos else .jogNeg)) (hf : s.claim.furthest = some f)
    (hb : ((setupOf s).restTol : Int) < backOf plus f s.reck.count) :
    directionCheck s = raiseStop .wrongDirection (backOf plus f s.reck.count) (setupOf s).restTol s := by
  unfold directionCheck backOf at *
  cases plus <;> simp_all

theorem directionCheck_along {s : State} {plus : Bool} {f : Int} (hd : s.claim.dirState = .taken)
    (hk : s.claim.dir.kind = some (if plus then .jogPos else .jogNeg)) (hf : s.claim.furthest = some f)
    (hb : backOf plus f s.reck.count ≤ ((setupOf s).restTol : Int)) :
    directionCheck s
      = { s with claim := { s.claim with furthest := some (if plus then max f s.reck.count else min f s.reck.count) } } := by
  unfold directionCheck backOf at *
  cases plus <;> simp_all

theorem jog_not_stop {s : State} {plus : Bool} (hk : s.claim.dir.kind = some (if plus then .jogPos else .jogNeg)) :
    stopCurrent s = false ∧ s.claim.dir.kind ≠ some .stop := by
  cases plus <;> simp_all [stopCurrent]

theorem jog_moving {s : State} {plus : Bool} (hd : s.claim.dirState = .taken)
    (hk : s.claim.dir.kind = some (if plus then .jogPos else .jogNeg)) : moving s = true := by
  cases plus <;> simp_all [moving]

/-! ### The search's own test of a sample -/

theorem searchSample_phase (s : State) : (searchSample s).phase = s.phase ∨ (searchSample s).phase = .ready := by
  unfold searchSample
  (repeat' split) <;> simp [endMove, failSearch, endSearch, setPhase]

theorem endLeadHold_leadHold (s : State) : (endLeadHold s).search.leadHold = false := by
  unfold endLeadHold
  split_ifs with h
  · dsimp only
    split <;> simp [setLambda]
  · simpa using h

/-- A search that fails lets its claim go, and its lead hold. -/
theorem failSearch_ends (c : FailCause) (n : Int) (s : State) :
    (failSearch c n s).search.leadHold = false
      ∧ ∃ u, u.claim = s.claim ∧ (failSearch c n s).claim = (releaseClaim u).claim := by
  refine ⟨?_, endLeadHold (withdrawCalibration (note .referenceFail (failCode c) n s)), by simp, ?_⟩
  · simp [failSearch, endSearch, clearSearch, endLeadHold_leadHold]
  · simp [failSearch, endSearch]

theorem searchSample_leadHold (s : State) : (searchSample s).search.leadHold = true → s.search.leadHold = true := by
  have hfail : ∀ (c : FailCause) (n : Int), (failSearch c n s).search.leadHold = false := fun c n =>
    (failSearch_ends c n s).1
  unfold searchSample
  (repeat' split) <;> simp [endMove, hfail]

/-- A directive that the search's test leaves in place keeps its furthest point. -/
theorem searchSample_furthest {s : State} (hk : s.claim.dir.kind ≠ some .stop)
    (h : (searchSample s).claim.dir = s.claim.dir) : (searchSample s).claim.furthest = s.claim.furthest := by
  have hpost : ∀ u : State, (postStop u).claim.dir ≠ s.claim.dir := by
    intro u hu
    exact hk (by rw [← hu]; exact postStop_kind u)
  have hfail : ∀ (c : FailCause) (n : Int), (failSearch c n s).claim.dir = s.claim.dir →
      (failSearch c n s).claim.furthest = s.claim.furthest := by
    intro c n hd
    obtain ⟨-, u, hu, hc⟩ := failSearch_ends c n s
    rw [hc] at hd ⊢
    rcases releaseClaim_claim u with ⟨-, h2, -⟩ | ⟨-, -, -, h4, -⟩
    · exact absurd (h2.symm.trans hd) (hpost u)
    · rw [h4, hu]
  revert h
  unfold searchSample
  (repeat' split) <;> intro h
  all_goals first
    | rfl
    | exact absurd h (hpost _)
    | exact hfail _ _ h

theorem finish_undisturbed_phase {force : Bool} {s0 s : State} (hu : Undisturbed s) :
    (finish force s0 s).phase = s.phase ∨ (finish force s0 s).phase = .recovery := by
  rw [finish_of_undisturbed hu]
  simpa [closing] using tryMuster_phase (tryClaim (tryPrereq (applyCeiling s)))

/-- The check of a taken JOG (R136). -/
theorem jogChecked {now : Instant} {p : BitVec 16} {flag : Bool} {s : State} {m f : Int} {plus : Bool}
    (h : SteppedTo p s m) (hp : stopsIn s.phase = true) (hd : s.claim.dirState = .taken)
    (hk : s.claim.dir.kind = some (if plus then .jogPos else .jogNeg)) (hf : s.claim.furthest = some f) :
    ∃ t, exec (.motorSample now (.good p) flag) s = .next t ∧ t.reck.count = m
      ∧ (((setupOf s).restTol : Int) < backOf plus f m →
          t.phase = .faulted ∧ .wrongDirection ∈ t.fault.stopSet ∧ stopCurrent t = true
            ∧ (s.fault.record.locked = false → NoEntryAt s m →
                t.fault.record.cause = some (.stop .wrongDirection) ∧ t.fault.record.a = faultValue (backOf plus f m)
                  ∧ t.fault.record.b = faultValue (setupOf s).restTol))
      ∧ (backOf plus f m ≤ ((setupOf s).restTol : Int) →
          t.phase ≠ .faulted
            ∧ (t.claim.dir = s.claim.dir → t.claim.furthest = some (if plus then max f m else min f m))) := by
  have hcount := h.count (now := now) (flag := flag)
  have hset := atChecks_setup now p flag s
  have hd' : (atChecks now p flag s).claim.dirState = .taken := by simpa using hd
  have hk' : (atChecks now p flag s).claim.dir.kind = some (if plus then .jogPos else .jogNeg) := by simpa using hk
  have hf' : (atChecks now p flag s).claim.furthest = some f := by simpa using hf
  obtain ⟨hcur, hstop⟩ := jog_not_stop hk'
  refine ⟨_, h.runs, ?_⟩
  rcases lt_or_ge ((setupOf s).restTol : Int) (backOf plus f m) with hb | hb
  · have hdir := directionCheck_back hd' hk' hf' (by rwa [hset, hcount])
    rw [hset, hcount] at hdir
    obtain ⟨k1, k2, k3, -⟩ := raiseStop_posted (c := .wrongDirection) (a := backOf plus f m) (b := (setupOf s).restTol)
      (s := atChecks now p flag s) (by simpa using hp) hcur
    have hrun := checks_after_stop k1 k2 k3
    rw [← hdir] at hrun
    obtain ⟨h1, h2, h3, h4, h5⟩ := checkRaised h hp (hrun.trans hdir)
    exact ⟨h1, fun _ => ⟨h2, h3, h4, h5⟩, fun hb' => absurd hb (not_lt.mpr hb')⟩
  · have hdir := directionCheck_along hd' hk' hf' (by rwa [hset, hcount])
    rw [hcount] at hdir
    have hm : moving (directionCheck (atChecks now p flag s)) = true := by
      rw [hdir]
      exact jog_moving hd' hk'
    have hrun : stillnessCheck (trySettle (directionCheck (atChecks now p flag s)))
        = directionCheck (atChecks now p flag s) := by
      rw [trySettle_idle (.inr (by rw [hdir]; exact hstop)), stillnessCheck_idle (.inl (by simp [stillExpected, hm]))]
    rw [hrun]
    have hls : LeadSteady (searchSample (directionCheck (atChecks now p flag s))) := by
      refine leadSteady_of_inputs (s := atChecks now p flag s) (by simp [leadInputs, hdir]) h.leadSteady fun hh => ?_
      simpa [hdir] using searchSample_leadHold _ hh
    have hph : s.phase ≠ .faulted := by
      intro hx
      simp [hx, stopsIn] at hp
    refine ⟨?_, fun hb' => absurd hb' (not_lt.mpr hb), fun _ => ⟨?_, fun hdd => ?_⟩⟩
    · rw [(finish_heard_frame hls.1).1]
      simpa [hdir] using hcount
    · rcases finish_undisturbed_phase (force := false) (s0 := tick now s) hls.undisturbed with hx | hx
      · rw [hx]
        rcases searchSample_phase (directionCheck (atChecks now p flag s)) with hy | hy <;> rw [hy] <;> simp [hdir, hph]
      · simp [hx]
    · rw [finish_of_undisturbed hls.undisturbed] at hdd ⊢
      simp only [closing_frame, applyCeiling_frame] at hdd ⊢
      rw [searchSample_furthest (by rw [hdir]; exact hstop) (by rw [hdd, hdir]; simp), hdir]

end Sys2Proof.Machine
end

section
/-! PROOFS. O30, the rest: the still point, a STOP that settles, a MOVE_TO with its limit. -/

namespace Sys2Proof.Machine

/-! ### The still point (R138) -/

@[simp] theorem applyCeiling_unbidden (s : State) :
    (applyCeiling s).fault.unbiddenStill = s.fault.unbiddenStill
      ∧ (applyCeiling s).fault.unbiddenStop = s.fault.unbiddenStop := by
  have hr : ∀ u : State, (recomputeTheta u).fault.unbiddenStill = u.fault.unbiddenStill
      ∧ (recomputeTheta u).fault.unbiddenStop = u.fault.unbiddenStop := by
    intro u
    unfold recomputeTheta
    dsimp only
    split
    · exact ⟨rfl, rfl⟩
    · split_ifs <;> exact ⟨rfl, rfl⟩
  have hb : ∀ (b : Basis) (u : State), (setBasis b u).fault.unbiddenStill = u.fault.unbiddenStill
      ∧ (setBasis b u).fault.unbiddenStop = u.fault.unbiddenStop := by
    intro b u
    unfold setBasis
    split_ifs
    · exact ⟨rfl, rfl⟩
    · exact hr _
  have hg : ∀ (g : Grade) (b : Basis) (u : State), (setGrade g b u).fault.unbiddenStill = u.fault.unbiddenStill
      ∧ (setGrade g b u).fault.unbiddenStop = u.fault.unbiddenStop := by
    intro g b u
    unfold setGrade setGradeBasis
    dsimp only
    split_ifs <;> simp [hb]
  unfold applyCeiling
  dsimp only
  split_ifs <;> simp [hg]

theorem stopEffects_unbiddenStill (s : State) : (stopEffects .unbiddenMotion 2 s).fault.unbiddenStill = true := by
  simp [stopEffects, joinStopSet]

theorem stillnessCheck_off {s : State} {q : Int} (hq : s.claim.still = some q) (he : stillExpected s = true)
    (hb : ((setupOf s).restTol : Int) < |s.reck.count - q|) :
    stillnessCheck s = raiseStop .unbiddenMotion 2 (|s.reck.count - q|) s := by
  have hd : (setupOf s).restTol < Machine.dist s.reck.count q := by
    have h := dist_eq_abs s.reck.count q
    omega
  simp [stillnessCheck, hq, he, hd, dist_eq_abs]

theorem stillnessCheck_near {s : State} {q : Int} (hq : s.claim.still = some q)
    (hb : |s.reck.count - q| ≤ ((setupOf s).restTol : Int)) : stillnessCheck s = s := by
  have hd : ¬ (setupOf s).restTol < Machine.dist s.reck.count q := by
    have h := dist_eq_abs s.reck.count q
    omega
  simp [stillnessCheck, hq, hd]

theorem stopCurrent_taken {s : State} (hd : s.claim.dirState = .taken) (hk : s.claim.dir.kind = some .stop) :
    stopCurrent s = true := by simp [stopCurrent, hd, hk]

/-- The check of the still point. -/
theorem stillChecked {now : Instant} {p : BitVec 16} {flag : Bool} {s : State} {m q : Int}
    (h : SteppedTo p s m) (hp : stopsIn s.phase = true) (hph : s.phase = .reference) (hm : moving s = false)
    (hc : stopCurrent s = false) (hq : s.claim.still = some q) :
    ∃ t, exec (.motorSample now (.good p) flag) s = .next t ∧ t.reck.count = m
      ∧ (((setupOf s).restTol : Int) < |m - q| →
          t.phase = .faulted ∧ .unbiddenMotion ∈ t.fault.stopSet ∧ stopCurrent t = true
            ∧ causePresent t .unbiddenMotion = !t.reck.atRest
            ∧ (s.fault.record.locked = false → NoEntryAt s m →
                t.fault.record.cause = some (.stop .unbiddenMotion) ∧ t.fault.record.a = 2
                  ∧ t.fault.record.b = faultValue |m - q|))
      ∧ (|m - q| ≤ ((setupOf s).restTol : Int) →
          t.phase ≠ .faulted ∧ (t.claim.dir = s.claim.dir → t.claim.still = some q)) := by
  have hcount := h.count (now := now) (flag := flag)
  have hset := atChecks_setup now p flag s
  have hcur : stopCurrent (atChecks now p flag s) = false := by rw [atChecks_stopCurrent, hc]
  have hmov : moving (atChecks now p flag s) = false := by rw [atChecks_moving, hm]
  have hq' : (atChecks now p flag s).claim.still = some q := by simpa using hq
  have he : stillExpected (atChecks now p flag s) = true := by simp [stillExpected, hmov, hcur, hph]
  have hdir : directionCheck (atChecks now p flag s) = atChecks now p flag s := by
    refine directionCheck_idle ?_
    by_contra hn
    rw [not_or, not_not] at hn
    obtain ⟨hd, hk⟩ := hn
    unfold moving at hmov
    split at hmov <;> simp_all
  have htry : trySettle (atChecks now p flag s) = atChecks now p flag s := by
    refine trySettle_idle ?_
    by_contra hn
    rw [not_or, not_not, not_not] at hn
    obtain ⟨hd, hk⟩ := hn
    rw [stopCurrent_taken hd hk] at hcur
    exact absurd hcur (by simp)
  refine ⟨_, h.runs, ?_⟩
  rcases lt_or_ge ((setupOf s).restTol : Int) |m - q| with hb | hb
  · have hraise := stillnessCheck_off hq' he (by rwa [hset, hcount])
    rw [hcount] at hraise
    obtain ⟨k1, k2, -, k4⟩ := raiseStop_posted (c := .unbiddenMotion) (a := 2) (b := |m - q|)
      (s := atChecks now p flag s) (by simpa using hp) hcur
    have hrun : searchSample (stillnessCheck (trySettle (directionCheck (atChecks now p flag s))))
        = raiseStop .unbiddenMotion 2 (|m - q|) (atChecks now p flag s) := by
      rw [hdir, htry, hraise, searchSample_idle (.inl (moving_of_stop k2))]
    obtain ⟨h1, h2, h3, h4, h5⟩ := checkRaised h hp hrun
    refine ⟨h1, fun _ => ⟨h2, h3, h4, ?_, h5⟩, fun hb' => absurd hb (not_lt.mpr hb')⟩
    rw [hrun]
    have hstop : stopsIn (atChecks now p flag s).phase = true := by simpa using hp
    obtain ⟨-, -, -, -, ha, -⟩ := finish_raiseStop (c := .unbiddenMotion) (a := 2) (b := |m - q|) (s0 := tick now s)
      (force := false) hstop
    have hstill : (finish false (tick now s) (raiseStop .unbiddenMotion 2 (|m - q|) (atChecks now p flag s))).fault.unbiddenStill
        = true := by
      rw [finish_of_undisturbed (raiseStop_undisturbed hstop)]
      simpa [raiseStop_stops hstop] using stopEffects_unbiddenStill _
    simp [causePresent, ha, k4, hstill]
  · have hrun : searchSample (stillnessCheck (trySettle (directionCheck (atChecks now p flag s))))
        = atChecks now p flag s := by
      rw [hdir, htry, stillnessCheck_near hq' (by rwa [hset, hcount]), searchSample_idle (.inl hmov)]
    rw [hrun]
    have hls := h.leadSteady (now := now) (flag := flag)
    refine ⟨?_, fun hb' => absurd hb' (not_lt.mpr hb), fun _ => ⟨?_, fun _ => ?_⟩⟩
    · rw [(finish_heard_frame hls.1).1, hcount]
    · rcases finish_undisturbed_phase (force := false) (s0 := tick now s) hls.undisturbed with hx | hx <;> simp [hx, hph]
    · rw [finish_of_undisturbed hls.undisturbed]
      simpa using hq

/-! ### A taken STOP (R137) -/

/-- A taken STOP outside a search settles at rest, and nothing follows. -/
theorem trySettle_settles {s : State} (hp : s.phase ≠ .down) (hs : s.search.sub = .none) (hd : s.claim.dirState = .taken)
    (hk : s.claim.dir.kind = some .stop) (hr : s.reck.atRest = true) :
    trySettle s
      = { s with
          claim := { s.claim with
            dirState := .settled, allowance := .stopped, allowanceStop := none
            still := if s.phase = .reference then some s.reck.count else s.claim.still } } := by
  unfold trySettle
  rw [if_pos ⟨hp, hd, hk, hr⟩]
  simp [advanceSearch, searching, hs]

/-- The sample that shows the joint at rest settles a taken STOP, another leaves it taken. -/
theorem stopChecked {now : Instant} {p : BitVec 16} {flag : Bool} {s : State} {m : Int} (h : SteppedTo p s m)
    (hp : s.phase ≠ .down) (hs : s.search.sub = .none) (hd : s.claim.dirState = .taken)
    (hk : s.claim.dir.kind = some .stop) :
    ∃ t, exec (.motorSample now (.good p) flag) s = .next t ∧ t.claim.dir = s.claim.dir
      ∧ (t.reck.atRest = true →
          t.claim.dirState = .settled ∧ t.claim.allowance = .stopped ∧ t.claim.allowanceStop = none)
      ∧ (t.reck.atRest = false →
          t.claim.dirState = .taken ∧ t.claim.allowance = s.claim.allowance
            ∧ t.claim.allowanceStop = s.claim.allowanceStop) := by
  have hdir : directionCheck (atChecks now p flag s) = atChecks now p flag s :=
    directionCheck_idle (.inr (by simp [hk]))
  have hls := h.leadSteady (now := now) (flag := flag)
  refine ⟨_, h.runs, ?_⟩
  rw [hdir]
  cases hr : (atChecks now p flag s).reck.atRest with
  | true =>
    have htry := trySettle_settles (s := atChecks now p flag s) (by simpa using hp) (by simpa using hs)
      (by simpa using hd) (by simpa using hk) hr
    have hstop : (trySettle (atChecks now p flag s)).claim.dir.kind = some .stop := by
      rw [htry]
      simpa using hk
    have hstill : stillnessCheck (trySettle (atChecks now p flag s)) = trySettle (atChecks now p flag s) := by
      by_cases href : s.phase = .reference
      · refine stillnessCheck_near (q := (atChecks now p flag s).reck.count) ?_ ?_
        · rw [htry]
          simp [href]
        · rw [htry]
          simp
      · refine stillnessCheck_idle (.inl ?_)
        rw [htry]
        simp [stillExpected, href]
    have hls' : LeadSteady (trySettle (atChecks now p flag s)) :=
      leadSteady_of_inputs (s := atChecks now p flag s) (by simp [leadInputs, htry]) hls (by simp [htry])
    rw [hstill, searchSample_idle (.inl (moving_of_stop hstop)), finish_of_undisturbed hls'.undisturbed, htry]
    simp [hr]
  | false =>
    have htry : trySettle (atChecks now p flag s) = atChecks now p flag s := by simp [trySettle, hr]
    have hcur : stopCurrent (atChecks now p flag s) = true := by
      rw [atChecks_stopCurrent]
      exact stopCurrent_taken hd hk
    rw [htry, stillnessCheck_idle (.inl (by simp [stillExpected, hcur])),
      searchSample_idle (.inl (moving_of_stop (by simpa using hk))), finish_of_undisturbed hls.undisturbed]
    simp [hr, hd]

/-! ### A MOVE_TO (R139, R159) -/

@[simp] theorem requestSnapshot_search (c : SnapCause) (w : SnapState) (s : State) :
    (requestSnapshot c w s).search.parkLimit = s.search.parkLimit
      ∧ (requestSnapshot c w s).search.parkOutcome = s.search.parkOutcome
      ∧ (requestSnapshot c w s).search.theta0 = s.search.theta0
      ∧ (requestSnapshot c w s).search.sigma = s.search.sigma
      ∧ (requestSnapshot c w s).search.awaitingWrite = s.search.awaitingWrite
      ∧ (requestSnapshot c w s).search.moveStart = s.search.moveStart
      ∧ (requestSnapshot c w s).search.calWrite = s.search.calWrite := by
  unfold requestSnapshot putSnapshot
  (repeat' split) <;> simp

@[simp] theorem setGrade_search (g : Grade) (b : Basis) (s : State) :
    (setGrade g b s).search.parkLimit = s.search.parkLimit
      ∧ (setGrade g b s).search.parkOutcome = s.search.parkOutcome
      ∧ (setGrade g b s).search.theta0 = s.search.theta0 ∧ (setGrade g b s).search.sigma = s.search.sigma
      ∧ (setGrade g b s).search.awaitingWrite = s.search.awaitingWrite
      ∧ (setGrade g b s).search.moveStart = s.search.moveStart
      ∧ (setGrade g b s).search.calWrite = s.search.calWrite := by
  unfold setGrade setGradeBasis
  dsimp only
  split_ifs <;> simp

@[simp] theorem applyCeiling_search (s : State) :
    (applyCeiling s).search.parkLimit = s.search.parkLimit
      ∧ (applyCeiling s).search.parkOutcome = s.search.parkOutcome
      ∧ (applyCeiling s).search.theta0 = s.search.theta0 ∧ (applyCeiling s).search.sigma = s.search.sigma
      ∧ (applyCeiling s).search.awaitingWrite = s.search.awaitingWrite
      ∧ (applyCeiling s).search.moveStart = s.search.moveStart
      ∧ (applyCeiling s).search.calWrite = s.search.calWrite := by
  unfold applyCeiling
  dsimp only
  split_ifs <;> simp

theorem inCounts_abs (su : Setup) (a b : Int) :
    inCounts su (Machine.dist a b : Int)
      = rdiv (|a - b| * (su.gearNum : Int) * 2 ^ su.motorBits) ((su.gearDen : Int) * 16777216) := by
  rw [dist_eq_abs, inCounts]
  simp [cprOf, turn]

/-- The take of a MOVE_TO outside DOWN, whose limit follows from the target and θ. -/
theorem takePosted_move {s : State} {target a : Int} (hp : s.phase ≠ .down) (hk : s.claim.dir.kind = some .moveTo)
    (ht : s.claim.dir.target = some target) (ha : s.reck.theta = some a) :
    takePosted s
      = { s with
          claim := { s.claim with
            dirState := .taken, dir := { s.claim.dir with taken := true }, takePoint := some s.reck.count
            untakenOpen := false, untakenReported := false, untakenSince := none, untakenTimer := .stopped }
          search := { s.search with
            parkLimit := some ((inCounts (setupOf s) (Machine.dist target a : Int)).toNat + (setupOf s).searchSpan) } } := by
  unfold takePosted
  simp only [hp, ↓reduceIte]
  unfold beginChecks
  simp only [hk, ht, ha]
  exact trySettle_idle (.inr (by simp))

/-- The take of a MOVE_TO sets its limit and its take point. -/
theorem moveTaken {now : Instant} {rest : List Byte} {s : State} {target a : Int} (hst : Steady s)
    (hpar : parameters 5 rest = some []) (hp : s.phase ≠ .down) (hd : s.claim.dirState = .posted)
    (hk : s.claim.dir.kind = some .moveTo) (ht : s.claim.dir.target = some target) (ha : s.reck.theta = some a) :
    ∃ t, exec (.directiveTake now rest) s = .next t ∧ t.claim.takePoint = some s.reck.count
      ∧ t.search.parkLimit =
          some ((rdiv (|target - a| * ((setupOf s).gearNum : Int) * 2 ^ (setupOf s).motorBits)
            (((setupOf s).gearDen : Int) * 16777216)).toNat + (setupOf s).searchSpan) := by
  have hout : exec (.directiveTake now rest) s
      = .next (finish false (tick now s) (directiveTakeAct (opened now s))) := by
    change Host.Outcome.next (running now s _ _) = _
    rw [running_out hst.1, command_accepted hpar rfl rfl rfl]
    rfl
  have hact : ∃ u, directiveTakeAct (opened now s) = u ∧ u.claim.takePoint = some s.reck.count
      ∧ u.search.parkLimit = some ((inCounts (setupOf s) (Machine.dist target a : Int)).toNat + (setupOf s).searchSpan)
      ∧ leadInputs u = leadInputs s ∧ u.search.leadHold = s.search.leadHold := by
    have hd' : (opened now s).claim.dirState = .posted := by simpa using hd
    refine ⟨_, rfl, ?_⟩
    unfold directiveTakeAct
    rw [if_pos hd', takePosted_move (a := a) (target := target) (by simpa using hp) (by simpa using hk)
      (by simpa using ht) (by simpa using ha)]
    simp [leadInputs, setupOf]
  obtain ⟨u, hu, h1, h2, h3, h4⟩ := hact
  have hls : LeadSteady u := leadSteady_of_inputs h3 hst.2 (by simp [h4])
  refine ⟨_, hout, ?_⟩
  rw [hu, finish_of_undisturbed hls.undisturbed, ← inCounts_abs]
  simpa using ⟨h1, h2⟩

/-- The ceiling's test leaves the reckoning unit where it does not take the grade down to LOST. -/
theorem applyCeiling_reck_kept {s : State}
    (h : s.phase ≠ .config → s.phase ≠ .down → ceiling s = .lost → s.gradeUnit.grade = .lost) :
    (applyCeiling s).reck = s.reck := by
  by_cases hc : s.phase = .config
  · rw [applyCeiling_idle (.inl hc)]
  by_cases hd : s.phase = .down
  · rw [applyCeiling_idle (.inr hd)]
  by_cases hg : gradeCode s.gradeUnit.grade ≤ gradeCode (ceiling s)
  · rw [applyCeiling_under hg]
  · refine applyCeiling_reck ?_
    rw [applyCeiling_grade hc hd, gradeMin_eq_right (le_of_lt (not_le.mp hg))]
    exact fun hl => hg (by simp [h hc hd hl, gradeCode])

/-- A station under its ceiling is not taken down to LOST while the lead grade stays. -/
theorem UnderCeiling.not_lost {s u : State} (huc : UnderCeiling s) (hp : u.phase = s.phase)
    (hg : u.gradeUnit.grade = s.gradeUnit.grade) (hl : leadGrade u = leadGrade s) :
    u.phase ≠ .config → u.phase ≠ .down → ceiling u = .lost → u.gradeUnit.grade = .lost := by
  intro hc hd hlost
  have hs : ceiling s = .lost := by rwa [ceiling_lost_iff, ← hl, ← ceiling_lost_iff]
  have hle := huc (hp ▸ hc) (hp ▸ hd)
  rw [hs] at hle
  rw [hg]
  exact gradeCode_inj.mp (Nat.le_zero.mp (by simpa [gradeCode] using hle))

theorem moveComplete_iff {s : State} {target a : Int} (hd : s.claim.dirState = .taken)
    (hk : s.claim.dir.kind = some .moveTo) (ht : s.claim.dir.target = some target) (ha : s.reck.theta = some a) :
    moveComplete s = true ↔ |a - target| ≤ restTolAngle (setupOf s) ∧ s.reck.atRest = true := by
  simp [moveComplete, hd, hk, ht, ha, dist_eq_abs]

theorem parkOvertravel_iff {s : State} (hd : s.claim.dirState = .taken) :
    parkOvertravel s = true ↔
      ∃ q lim, s.claim.takePoint = some q ∧ s.search.parkLimit = some lim ∧ (lim : Int) < |s.reck.count - q| := by
  unfold parkOvertravel
  rw [hd]
  cases hq : s.claim.takePoint <;> cases hl : s.search.parkLimit <;> simp [← dist_eq_abs]

/-- What ends the move of a search: the stage and the STOP posted (R148). -/
theorem endMove_stops (s : State) :
    (endMove s).search.stage = .stopping ∧ stopCurrent (endMove s) = true
      ∧ (endMove s).search.parkOutcome = s.search.parkOutcome ∧ leadInputs (endMove s) = leadInputs s
      ∧ (endMove s).search.sub = s.search.sub ∧ (endMove s).search.leadHold = s.search.leadHold
      ∧ (endMove s).phase = s.phase ∧ (endMove s).reck = s.reck ∧ (endMove s).gradeUnit = s.gradeUnit := by
  refine ⟨by simp [endMove], postStop_current_after _, ?_⟩
  simp [endMove, leadInputs]

theorem tryPrereq_other {s : State} (h : s.search.sub ≠ .waitPrereq) : tryPrereq s = s := by simp [tryPrereq, h]

/-- What the closing tests leave of a parking move's sample. -/
theorem finish_park {now : Instant} {p : BitVec 16} {flag : Bool} {s u : State} {m : Int} (h : SteppedTo p s m)
    (huc : UnderCeiling s) (hp : s.phase = .reference) (hup : u.phase = s.phase) (hs : u.search.sub = .park)
    (hi : leadInputs u = leadInputs (atChecks now p flag s)) (hh : u.search.leadHold = s.search.leadHold)
    (hr : u.reck = (atChecks now p flag s).reck) (hg : u.gradeUnit = s.gradeUnit) :
    let t := finish false (tick now s) u
    t.phase = .reference ∧ t.search.sub = .park ∧ t.reck.count = m ∧ t.reck.theta = (atChecks now p flag s).reck.theta
      ∧ t.reck.atRest = (atChecks now p flag s).reck.atRest ∧ t.search.parkOutcome = u.search.parkOutcome
      ∧ t.search.stage = u.search.stage ∧ stopCurrent t = stopCurrent u ∧ t.claim.dir = u.claim.dir
      ∧ t.claim.dirState = u.claim.dirState := by
  intro t
  have hw : leadInputs (atChecks now p flag s) = leadInputs s := by simp [leadInputs, atChecks]
  have hls : LeadSteady u := leadSteady_of_inputs hi h.leadSteady (by simp [hh])
  have hm : u.phase ≠ .muster := by simp [hup, hp]
  have ht : t = closing false (tick now s) (applyCeiling u) := finish_of_undisturbed hls.undisturbed
  have hk : (applyCeiling u).reck = u.reck :=
    applyCeiling_reck_kept (huc.not_lost hup (by rw [hg]) (leadGrade_of_inputs (hi.trans hw)))
  obtain ⟨h1, -⟩ := closing_outside (force := false) (s0 := tick now s) (s := applyCeiling u) (by simpa using hm)
  have hmus : tryMuster (tryClaim (applyCeiling u)) = tryClaim (applyCeiling u) := tryMuster_outside (by simpa using hm)
  have hsub : (closing false (tick now s) (applyCeiling u)).search.sub = .park := by
    simp [closing, tryPrereq_other (s := applyCeiling u) (by simp [hs]), hmus, hs]
  have hcount := h.count (now := now) (flag := flag)
  rw [ht]
  refine ⟨?_, hsub, ?_, ?_, ?_, ?_, ?_, stopCurrent_congr ?_ ?_, ?_, ?_⟩
  · rw [h1]
    simp [hup, hp]
  all_goals simp [hk, hr, hcount]

/-- The check of the parking move (R139, R159). -/
theorem parkChecked {now : Instant} {p : BitVec 16} {flag : Bool} {s : State} {m target : Int}
    (h : SteppedTo p s m) (huc : UnderCeiling s) (hp : s.phase = .reference) (hs : s.search.sub = .park)
    (hu : s.search.stage = .underway) (hd : s.claim.dirState = .taken) (hk : s.claim.dir.kind = some .moveTo)
    (ht : s.claim.dir.target = some target) :
    ∃ t, exec (.motorSample now (.good p) flag) s = .next t ∧ t.reck.count = m ∧ t.phase = .reference
      ∧ t.search.sub = .park
      ∧ (∀ a, t.reck.theta = some a → |a - target| ≤ restTolAngle (setupOf s) → t.reck.atRest = true →
          t.search.parkOutcome = .reached ∧ t.search.stage = .stopping ∧ stopCurrent t = true)
      ∧ ((∀ a, t.reck.theta = some a → t.reck.atRest = true → restTolAngle (setupOf s) < |a - target|) →
          let beyond : Prop :=
            ∃ q lim, s.claim.takePoint = some q ∧ s.search.parkLimit = some lim ∧ (lim : Int) < |m - q|
          (beyond → t.search.parkOutcome = .overtravel ∧ t.search.stage = .stopping ∧ stopCurrent t = true)
            ∧ (¬ beyond → t.search.parkOutcome = s.search.parkOutcome ∧ t.search.stage = .underway
                ∧ t.claim.dir = s.claim.dir ∧ t.claim.dirState = .taken)) := by
  have hd' : (atChecks now p flag s).claim.dirState = .taken := by simpa using hd
  have hk' : (atChecks now p flag s).claim.dir.kind = some .moveTo := by simpa using hk
  have ht' : (atChecks now p flag s).claim.dir.target = some target := by simpa using ht
  have hm : moving (atChecks now p flag s) = true := by simp [moving, hd, hk]
  have hchecks : stillnessCheck (trySettle (directionCheck (atChecks now p flag s))) = atChecks now p flag s := by
    rw [directionCheck_idle (.inr (by simp [hk])), trySettle_idle (.inr (by simp [hk])),
      stillnessCheck_idle (.inl (by simp [stillExpected, hm]))]
  have hset := atChecks_setup now p flag s
  have hcount := h.count (now := now) (flag := flag)
  have hover := parkOvertravel_iff (s := atChecks now p flag s) hd'
  rw [hcount] at hover
  simp only [atChecks_frame] at hover
  have hsample : searchSample (atChecks now p flag s)
      = if moveComplete (atChecks now p flag s) = true then
          endMove { atChecks now p flag s with search := { (atChecks now p flag s).search with parkOutcome := .reached } }
        else if parkOvertravel (atChecks now p flag s) = true then
          endMove
            { atChecks now p flag s with search := { (atChecks now p flag s).search with parkOutcome := .overtravel } }
        else atChecks now p flag s := by
    unfold searchSample
    rw [if_pos ⟨by simpa using hu, hm⟩]
    simp [hs]
  have hrun := h.runs (now := now) (flag := flag)
  rw [hchecks, hsample] at hrun
  refine ⟨_, hrun, ?_⟩
  have hiff : ∀ a, (atChecks now p flag s).reck.theta = some a →
      (moveComplete (atChecks now p flag s) = true
        ↔ |a - target| ≤ restTolAngle (setupOf s) ∧ (atChecks now p flag s).reck.atRest = true) := by
    intro a ha
    rw [← hset]
    exact moveComplete_iff hd' hk' ht' ha
  have hended : ∀ (o : ParkOutcome) (u : State),
      u = endMove { atChecks now p flag s with search := { (atChecks now p flag s).search with parkOutcome := o } } →
      leadInputs u = leadInputs (atChecks now p flag s) ∧ u.search.leadHold = s.search.leadHold ∧ u.phase = s.phase
        ∧ u.search.sub = .park ∧ u.reck = (atChecks now p flag s).reck ∧ u.gradeUnit = s.gradeUnit
        ∧ u.search.parkOutcome = o ∧ u.search.stage = .stopping ∧ stopCurrent u = true := by
    rintro o u rfl
    obtain ⟨h1, h2, h3, h4, -, -, -, h8, -⟩ := endMove_stops
      { atChecks now p flag s with search := { (atChecks now p flag s).search with parkOutcome := o } }
    exact ⟨h4, by simp, by simp, by simp [hs], h8, by simp, h3, h1, h2⟩
  by_cases hc : moveComplete (atChecks now p flag s) = true
  · rw [if_pos hc]
    obtain ⟨e1, e2, e3, e4, e5, e6, e7, e8, e9⟩ := hended _ _ rfl
    obtain ⟨k1, k2, k3, k4, k5, k6, k7, k8, -⟩ := finish_park h huc hp e3 e4 e1 e2 e5 e6
    refine ⟨k3, k1, k2, fun a _ _ _ => ⟨k6.trans e7, k7.trans e8, k8.trans e9⟩, fun hno => ?_⟩
    have htheta : ∃ a, (atChecks now p flag s).reck.theta = some a := by
      unfold moveComplete at hc
      rw [hd', hk', ht'] at hc
      cases hth : (atChecks now p flag s).reck.theta with
      | none => simp [hth] at hc
      | some a => exact ⟨a, rfl⟩
    obtain ⟨a, ha⟩ := htheta
    obtain ⟨h1, h2⟩ := (hiff a ha).mp hc
    exact absurd h1 (not_le.mpr (hno a (k4.trans ha) (k5.trans h2)))
  · rw [if_neg hc]
    have hno : ∀ t : State, t.reck.theta = (atChecks now p flag s).reck.theta →
        t.reck.atRest = (atChecks now p flag s).reck.atRest →
        ∀ a, t.reck.theta = some a → |a - target| ≤ restTolAngle (setupOf s) → t.reck.atRest = true → False := by
      intro t h1 h2 a ha hle hrest
      exact hc ((hiff a (by rw [← h1, ha])).mpr ⟨hle, by rw [← h2, hrest]⟩)
    by_cases ho : parkOvertravel (atChecks now p flag s) = true
    · rw [if_pos ho]
      obtain ⟨e1, e2, e3, e4, e5, e6, e7, e8, e9⟩ := hended _ _ rfl
      obtain ⟨k1, k2, k3, k4, k5, k6, k7, k8, -⟩ := finish_park h huc hp e3 e4 e1 e2 e5 e6
      exact ⟨k3, k1, k2, fun a ha hle hrest => (hno _ k4 k5 a ha hle hrest).elim,
        fun _ => ⟨fun _ => ⟨k6.trans e7, k7.trans e8, k8.trans e9⟩, fun hb => absurd (hover.mp ho) hb⟩⟩
    · rw [if_neg ho]
      obtain ⟨k1, k2, k3, k4, k5, k6, k7, -, k9, k10⟩ := finish_park h huc hp (u := atChecks now p flag s) (by simp)
        (by simpa using hs) rfl (by simp) rfl (by simp)
      exact ⟨k3, k1, k2, fun a ha hle hrest => (hno _ k4 k5 a ha hle hrest).elim,
        fun _ => ⟨fun hb => absurd (hover.mpr hb) ho,
          fun _ => ⟨by simpa using k6, by simpa [hu] using k7, by simpa using k9, by simpa [hd] using k10⟩⟩⟩

/-- Settles O30, each check by its own lemma. -/
theorem obedienceChecks : Obligations.ObedienceChecks := by
  refine ⟨fun now p flag s m f plus h hd hk hf => jogChecked h.1 h.2 hd hk hf,
    fun now p flag s m q h hp hm hc hq => stillChecked h.1 h.2 hp hm hc hq,
    fun now p flag s m h hp hs hd hk => stopChecked h hp hs hd hk,
    fun now rest s target a hst hpar hp hd hk ht ha => moveTaken hst hpar hp hd hk ht ha,
    fun now p flag s m target h huc hp hs hu hd hk ht => parkChecked h.1 huc hp hs hu hd hk ht⟩

end Sys2Proof.Machine
end

section
/-! PROOFS. The motor sample (O32): a search in CONFIG, a state that the machine does not reach but that the premises of O32
allow, ends at the sample with the joint past the span of a search; the READY that it ends in holds the grade under the
lead's, LOST, which takes the basis from COUNTS to NONE. -/

namespace Sys2Proof.Machine

/-- Station 2 in CONFIG, coupled to a lead at LOST, RESOLVED on the counts, and in CLEAR with a JOG under way that has
passed the span of a search. -/
def searchInConfig : State :=
  { State.reset with
    straps := { st := 2#3, lr := false, lastReset := .por }
    port := { State.reset.port with
      frozen := true
      setup := { setupDefault with
        coupleNum := 1
        plan := { setupDefault.plan with lead := (PerStation.all none).set .j2 (some .j3) } } }
    peers := { State.reset.peers with
      entries := State.reset.peers.entries.set .j3 { entryReset with presence := .alive, grade := .lost } }
    gradeUnit := { gradeReset with grade := .resolved }
    reck := { reckoningReset with
      started := true, lastGood := some 0, basis := .counts, theta := some 5, count := 4194314
      anchor := some { count := 0, time := 0#32 } }
    search := { searchReset with sub := .clear, stage := .underway, plus := false, moveStart := some 0 }
    claim := { claimReset with dirState := .taken, dir := { directiveReset with kind := some .jogPos } } }

/-- The motor sample that shows the joint of `searchInConfig` where it stood. -/
def unmovedSample : Instr := .motorSample { ms := 0#32, pfail := false } (.good 0#16) false

theorem searchInConfig_steady : Steady searchInConfig :=
  ⟨by decide, fun k _ waits => absurd waits (by decide), fun holds => absurd holds (by decide)⟩

theorem searchInConfig_underCeiling : UnderCeiling searchInConfig := fun notConfig => absurd rfl notConfig

/-- The basis that an outcome leaves, if it leaves one. -/
def basisLeft : Host.Outcome State Fault Refusal → Option Basis
  | .next t => some t.reck.basis
  | _ => none

theorem unmovedSample_takes_basis {t : State} (h : exec unmovedSample searchInConfig = .next t) :
    t.reck.basis = .none := by
  have run : basisLeft (exec unmovedSample searchInConfig) = some .none := by decide +kernel
  rw [h] at run
  exact Option.some.inj run

/-- Refutes O32: in basis COUNTS a sample without a jump or an overflow leaves the basis in every phase but CONFIG and
DOWN alone; a search that stands in CONFIG and fails at the sample leads to READY, where the ceiling of a lead at LOST
takes the basis to NONE. -/
theorem not_motorSampleTaken : ¬ Obligations.MotorSampleTaken := by
  intro holds
  obtain ⟨-, -, -, -, angle, -, -⟩ := holds
  obtain ⟨t, step, -, keepsCounts, -⟩ := angle { ms := 0#32, pfail := false } 0#16 false searchInConfig rfl
  have onCounts : t.reck.basis = .counts :=
    keepsCounts rfl rfl searchInConfig_steady searchInConfig_underCeiling fun _ => by decide +kernel
  exact absurd (onCounts.symm.trans (unmovedSample_takes_basis step)) (by decide)

end Sys2Proof.Machine
end

section
/-! PROOFS. Every decision by its course (R110, R114, R115): the verdict of each course in the terms of the station that
decides, and what the decision by it leaves where its sum lies in the range of M. -/

namespace Sys2Proof.Machine

section Verdicts

variable (c : Capture) (s : State)

/-- The candidates of the decision by `c` (R111). -/
def candidatesTaken : List Candidate :=
  candidatesOf (setupOf s) (s.port.tau.getD 0) s.reck.theta0 (leadTerm (setupOf s) (coupled s) (lambdaOf s))
    (captureScale s c) c.pM

/-- The snapshot that counts for the decision by `c` (R118). -/
def snapshotTaken : Option ChosenSnapshot :=
  if (decide (s.phase = .recovery)
      || s.gradeUnit.recoveryAnchor.any fun a => decide (dist c.count a ≤ (setupOf s).restTol)) = true then
    s.gradeUnit.chosen
  else none

/-- What turn resolution gives for the capture `c` (R114). -/
def tableTaken : Verdict :=
  tableOf (setupOf s) (coupled s) s.reck.theta0 c.pM (candidatesTaken c s)
    ((snapshotTaken c s).bind (snapTestOf (setupOf s) (coupled s)))

theorem decisionCandidates_taken : decisionCandidates (takeLeadAngle s) c = candidatesTaken c s := by
  simp [decisionCandidates, candidatesTaken, decisionLeadTerm, captureScale, scaleTau, setupOf, takeLeadAngle_coupled,
    takeLeadAngle_lambda]

theorem snapshotFor_taken : snapshotFor (takeLeadAngle s) (kindOf s) c = snapshotTaken c s := by
  unfold snapshotFor snapshotTaken kindOf
  by_cases hp : s.phase = .recovery
  · simp [hp]
  · cases ha : s.gradeUnit.recoveryAnchor with
    | none => simp [hp, ha]
    | some a =>
      have hset : setupOf (takeLeadAngle s) = setupOf s := by simp [setupOf]
      by_cases hd : dist c.count a ≤ (setupOf s).restTol
      · simp [hp, ha, hset, hd]
      · simp only [hp, ↓reduceIte, takeLeadAngle_frame, ha, hset, if_neg hd]
        simp [hd]

/-- The verdict without a calibration (R112). -/
theorem verdictOn_noCalibration (h : courseOf s = .noCalibration) :
    verdictOn c s
      = if (setupOf s).scaleWraps then
          { verdictOf .lost with k := (candidatesTaken c s).length, list := candidatesTaken c s }
        else verdictOf .coarse := by
  have hs : setupOf (takeLeadAngle s) = setupOf s := by simp [setupOf]
  rw [verdictOn, h, judge, decisionCandidates_taken, hs]

/-- The verdict without a lead of RESOLVED or above (R110). -/
theorem verdictOn_noLead (h : courseOf s = .noLead) :
    verdictOn c s = if (setupOf s).scaleWraps then verdictOf .lost else verdictOf .coarse := by
  have hs : setupOf (takeLeadAngle s) = setupOf s := by simp [setupOf]
  rw [verdictOn, h, judge, hs]

/-- The verdict of turn resolution (R114). -/
theorem verdictOn_resolution (h : courseOf s = .resolution) : verdictOn c s = tableTaken c s := by
  have hs : setupOf (takeLeadAngle s) = setupOf s := by simp [setupOf]
  rw [verdictOn, h, judge, snapshotFor_taken, decisionCandidates_taken, takeLeadAngle_coupled, hs]
  simp [tableTaken]

end Verdicts

/-! ### The course -/

theorem courseOf_uncalibrated {s : State} (h : s.reck.calibrated = false) : courseOf s = .noCalibration := by
  simp [courseOf, h]

/-- The lead's report carries RESOLVED or above. -/
def leadResolves (s : State) : Bool :=
  (leadReported s).any fun r => decide (gradeCode .resolved ≤ gradeCode r.grade)

theorem courseOf_noLead {s : State} (hc : s.reck.calibrated = true) (hl : coupled s = true)
    (h : leadResolves s = false) : courseOf s = .noLead := by
  cases hr : s.gradeUnit.leadReport <;> simp_all [courseOf, leadResolves, leadReported, gradeLt_iff]

theorem courseOf_resolution {s : State} (hc : s.reck.calibrated = true)
    (h : coupled s = false ∨ leadResolves s = true) : courseOf s = .resolution := by
  rcases h with h | h
  · simp [courseOf, hc, h]
  · cases hl : coupled s <;> cases hr : s.gradeUnit.leadReport <;>
      simp_all [courseOf, leadResolves, leadReported, gradeLt_iff]

/-! ### The angle of a fixed count -/

theorem setRecoveryAnchor_formed (k : DecisionKind) (a : Int) (s : State) :
    (setRecoveryAnchor k a s).reck = s.reck ∧ formedAngle (setRecoveryAnchor k a s) = formedAngle s := by
  cases k <;> exact ⟨rfl, rfl⟩

theorem fixTurn_theta (k : DecisionKind) (c : Capture) (x : Candidate) (s : State) :
    (fixTurn k c (some x) s).reck.theta = (formedAngle (fixTurn k c (some x) s)).map clampAngle := by
  unfold fixTurn applyOffset
  dsimp only
  obtain ⟨hr, hf⟩ := setRecoveryAnchor_formed k (c.count + offsetOf (setupOf s) c x.n)
    (applyOffset (offsetOf (setupOf s) c x.n) { s with reck := { s.reck with basis := .counts } })
  unfold applyOffset at hr hf
  rw [hr, hf, formedAngle_recomputeTheta, recomputeTheta_theta]

/-- The angle that a fixed count gives (R14, R115). -/
theorem turnTaken_theta {c : Capture} {s : State} (hn : (verdictOn c s).n ≠ none) (hst : s.reck.started = true)
    (hsum : countInRange (s.reck.count + shiftOf c s) = true) :
    (setBasis .counts (turnTaken c s)).reck.theta
      = some (clampAngle (angleOfCount (setupOf s) s.reck.theta0 (leadTerm (setupOf s) (coupled s) (lambdaOf s))
          (s.reck.count + shiftOf c s))) := by
  obtain ⟨x, hx⟩ := Option.ne_none_iff_exists'.mp hn
  have hb : (turnTaken c s).reck.basis = .counts := by
    rw [turnTaken, hx]
    exact (fixTurn_some _ _ _ _).2.2.1
  have ht : (turnTaken c s).reck.theta = (formedAngle (turnTaken c s)).map clampAngle := by
    rw [turnTaken, hx]
    exact fixTurn_theta _ _ _ _
  have hcp : coupled (turnTaken c s) = coupled s :=
    coupled_congr (by simp [turnTaken]) (by simp [turnTaken]) (by simp [turnTaken])
  have hset : setupOf (turnTaken c s) = setupOf s := by simp [turnTaken, setupOf]
  have hstarted : (turnTaken c s).reck.started = true := by simpa [turnTaken] using hst
  have h0 : (turnTaken c s).reck.theta0 = s.reck.theta0 := by simp [turnTaken]
  rw [setBasis_self hb, ht, formedAngle, hb]
  simp [hstarted, h0, hcp, hset, turnTaken_lambda, turnTaken_count hsum]

/-! ### What a decision leaves -/

/-- What a decision by `c` leaves whose course, grade, count, numbers and list are these, where its sum lies in the range of M
(R10, R103, R104, R106, R110, R112, R115). -/
def DecidedBy (c : Capture) (s : State) (course : Course) (g : Grade) (n : Option Candidate) (k agreed : Nat)
    (list : List Candidate) : Prop :=
  let su := setupOf s
  let led := coupled s
  let lambda := lambdaOf s
  let scaleTheta := scaleAngle su s.reck.sigma (c.scaleCount.getD 0)
  let kind : DecisionKind := if s.phase = .recovery then .recovery else .reMark
  let t := decideOn c s
  let d : Int := (n.map fun x => x.n * (cprOf su : Int) + (c.pM : Int) - c.count).getD 0
  let result := gradeMin g (ceiling t)
  countInRange (s.reck.count + d) = true →
    t.phase = .ready ∧ t.gradeUnit.grade = result ∧ t.reck.count = s.reck.count + d ∧ t.reck.lambda = lambda
      ∧ t.reck.turnOffset = (if n = none then s.reck.turnOffset else d)
      ∧ t.reck.basis = (if result = .lost then .none else if n = none then .scale else .counts)
      ∧ (result = .lost → s.reck.basis ≠ .none ∨ s.reck.theta = none → t.reck.theta = none)
      ∧ (result ≠ .lost → n ≠ none → s.reck.started = true →
          t.reck.theta = some (clampInt angleMin angleMax
            (angleOfCount su s.reck.theta0 (leadTerm su led lambda) (s.reck.count + d))))
      ∧ t.gradeUnit.sub = .idle ∧ t.gradeUnit.held = none ∧ t.gradeUnit.readPending = false
      ∧ t.gradeUnit.candidates = list ∧ t.gradeUnit.candidateCapture = (if list = [] then none else some c)
      ∧ t.gradeUnit.lastDecision =
          some { kind := kind, markNumber := s.mark.number, course := some course, k := k, agreed := agreed
                 result := result, n := n.map fun x => x.n }
      ∧ t.gradeUnit.recordedLead = (if led = true then leadGrade s else s.gradeUnit.recordedLead)
      ∧ (led = true → t.gradeUnit.capped =
          (decide (course = .noLead)
            || (s.gradeUnit.capped && (leadGrade s).any fun x => decide (gradeCode x < gradeCode g))))
      ∧ (led = false → t.gradeUnit.capped = s.gradeUnit.capped)
      ∧ t.gradeUnit.recoveryAnchor =
          (if s.phase = .recovery then some (c.count + d) else s.gradeUnit.recoveryAnchor.map fun q => q + d)
      ∧ t.mark.reportAwaiting = false
      ∧ (s.mark.reportAwaiting = false → t.link.queue.markReport = s.link.queue.markReport)
      ∧ (s.mark.reportAwaiting = true → c.good = true →
          t.link.queue.markReport =
            some (.markReport
              { number := s.mark.number, grade := result, captureGood := true, scaleValid := c.scaleValid
                pM := BitVec.ofNat 16 c.pM, sM := BitVec.ofNat 16 (c.scaleCount.getD 0)
                thetaM :=
                  if result = .lost then none
                  else some (clampInt angleMin angleMax ((n.map fun x => x.theta).getD scaleTheta)) }))

/-- The basis that a decision leaves (R115). -/
theorem decided_basis (c : Capture) (s : State) :
    (decided c s).reck.basis
      = if resultOf c s = .lost then .none else if (verdictOn c s).n = none then .scale else .counts := by
  rw [decided_reck, gradeByVerdict_basis, basisFor, resultOf]
  split_ifs with hl hn
  · rfl
  · cases hg : (verdictOn c s).grade with
    | lost =>
      refine absurd ?_ hl
      have := resultOf_le_verdict c s
      rw [hg] at this
      revert this
      rw [resultOf]
      cases (gradeByVerdict (verdictOn c s) (turnTaken c s)).gradeUnit.grade <;> simp [gradeCode]
    | _ => simp [basisOf, hn, hg]
  · obtain ⟨x, hx⟩ := Option.ne_none_iff_exists'.mp hn
    simp [basisOf, hx]

theorem resultOf_lost {c : Capture} {s : State} (h : (verdictOn c s).grade = .lost) : resultOf c s = .lost := by
  have hle := resultOf_le_verdict c s
  rw [h] at hle
  revert hle
  cases resultOf c s <;> simp [gradeCode]

/-- The angle that the own report carries for the captured instant: θ(n) or θ_scale, and none with LOST (R72). -/
theorem verdict_angleCarried (c : Capture) (s : State) :
    angleCarried (resultOf c s) (verdictAngle (takeLeadAngle s) c (verdictOn c s))
      = if resultOf c s = .lost then none
        else some (clampAngle (((verdictOn c s).n.map fun x => x.theta).getD (captureScale s c))) := by
  have hset : captureScale (takeLeadAngle s) c = captureScale s c := by simp [captureScale, setupOf]
  unfold angleCarried
  split_ifs with hl
  · rfl
  · have hg : (verdictOn c s).grade ≠ .lost := fun h => hl (resultOf_lost h)
    unfold verdictAngle
    cases hn : (verdictOn c s).n with
    | some x => rfl
    | none => cases hv : (verdictOn c s).grade <;> simp_all

/-- A recomputation on the way to a decision gives no angle where there was neither a basis nor an angle. -/
theorem turnTaken_without_basis {c : Capture} {s : State} (h : s.reck.basis ≠ .none ∨ s.reck.theta = none) :
    (turnTaken c s).reck.basis ≠ .none ∨ (turnTaken c s).reck.theta = none := by
  unfold turnTaken
  cases hn : (verdictOn c s).n with
  | some x => exact .inl (by rw [(fixTurn_some _ _ _ _).2.2.1]; simp)
  | none =>
    rw [(fixTurn_none _ _ _).1]
    by_cases hb : s.reck.basis = .none
    · right
      have ht : s.reck.theta = none := h.resolve_left fun hne => hne hb
      rw [takeLeadAngle_eq]
      cases (leadReported s).bind fun r => r.thetaM with
      | none => simpa using ht
      | some a => simp [setLambda, recomputeTheta_theta, formedAngle, hb]
    · exact .inl (by simpa using hb)

/-- A decision leaves what its verdict says. -/
theorem decidedBy {c : Capture} {s : State} {v : Verdict} (hp : s.phase = .recovery ∨ s.phase = .ready)
    (hv : verdictOn c s = v) : DecidedBy c s (courseOf s) v.grade v.n v.k v.agreed v.list := by
  subst hv
  unfold DecidedBy
  intro su led lambda scaleTheta kind t d result hsum
  have hd : shiftOf c s = d := rfl
  have hsum' : countInRange (s.reck.count + shiftOf c s) = true := hsum
  have ht : t = decided c s := decideOn_inRange (by rw [sumDecided_eq]; exact hsum')
  have hg := decided_gradeUnit c s
  have hresult : resultOf c s = result := by rw [resultOf_eq, ← ht]
  have htakes : queueTakes s.phase .markReport = true := by rcases hp with h | h <;> simp [h, queueTakes]
  have hreck := decided_reck c s
  rw [hresult, hd] at hg
  rw [ht]
  refine ⟨?_, by rw [hg], ?_, ?_, ?_, ?_, fun hl hb => ?_, fun hl hn hst => ?_, by rw [hg], by rw [hg], by rw [hg],
    by rw [hg], ?_, by rw [hg]; rfl, ?_, fun hled => ?_, fun hled => ?_, by rw [hg], ?_, fun ha => ?_, fun ha hgood => ?_⟩
  · rw [decided_phase]
    rcases hp with h | h <;> simp [h]
  · rw [hreck, ← hd]
    simpa using turnTaken_count hsum'
  · rw [hreck]
    simpa using turnTaken_lambda c s
  · rw [hreck]
    simpa [hd] using turnTaken_turnOffset c s
  · rw [decided_basis, hresult]
  · rw [hreck]
    exact gradeByVerdict_theta_lost (hresult.trans hl) (turnTaken_without_basis hb)
  · have hkept : (gradeByVerdict (verdictOn c s) (turnTaken c s)).gradeUnit.grade ≠ .lost := fun h => hl (hresult ▸ h)
    have hbasis : basisOf (verdictOn c s) = .counts := by
      obtain ⟨x, hx⟩ := Option.ne_none_iff_exists'.mp hn
      simp [basisOf, hx]
    rw [hreck, gradeByVerdict_theta hkept, hbasis]
    exact turnTaken_theta hn hst hsum'
  · rw [hg]
    cases (verdictOn c s).list <;> simp
  · rw [hg]
    cases hlg : leadGrade s with
    | none =>
      have hno : led = false := by simpa [leadGrade, led, coupled] using hlg
      simp [hno]
    | some g =>
      have hyes : led = true := by
        cases hld : lead s <;> simp [leadGrade, led, coupled, hld] at hlg ⊢
      simp [hyes]
  · rw [hg]
    obtain ⟨m, hm⟩ := Option.isSome_iff_exists.mp hled
    simp [cappedOf, leadGrade, hm, gradeLt, Bool.and_comm]
  · rw [hg]
    have hno : lead s = none := by simpa [led, coupled] using hled
    simp [cappedOf, leadGrade, hno]
  · rw [decided_mark]
  · rw [decided_markReport, if_neg (by simp [ha])]
  · rw [decided_markReport, if_pos ⟨ha, htakes⟩]
    have hc := verdict_angleCarried c s
    rw [hresult] at hc ⊢
    simp only [reportOf, hgood, Bool.true_and, ↓reduceIte, hc]
    rfl

end Sys2Proof.Machine
end

section
/-! PROOFS. A frame taken from a peer (R46, R47): the sender's entry after it, and the lead's report that a held capture
waits for, at which the decision is made (R73, R110). -/

namespace Sys2Proof.Machine

/-! ### The taking of a frame -/

theorem arrive_peer {k : Station} {f : Frame} {onEcho onPeer : State → State} {s : State}
    (hl : s.link.line ≠ .waitingForIdle) (hf : frameContentOk f = true) (ho : own s ≠ some k) :
    arrive k f onEcho onPeer s = onPeer (peerArrival k f (setLine .waitingForIdle s)) := by
  simp [arrive, receiverOpen, hl, hf, isOwn, ho]

/-- The entry's digest differs from the own one (R59). -/
def mismatches (own : Option (BitVec 16)) (e : PeerEntry) : Bool :=
  e.digest.any fun d => own.any fun o => decide (d ≠ o)

/-- The sender's entry once its digest has been tested (R59). -/
def entryTested (s : State) (k : Station) (f : Frame) : PeerEntry :=
  { entryAfter s k f with
    mismatchReported :=
      (entryAfter s k f).mismatchReported || (carriesDigest f && mismatches s.peers.digest (entryAfter s k f)) }

theorem reported_eq_self {e : PeerEntry} {b : Bool} (h : e.mismatchReported = b) : { e with mismatchReported := b } = e := by
  subst h
  rfl

theorem mismatchTest_entry (k : Station) (s : State) :
    entry (mismatchTest k s) k
      = { entry s k with
          mismatchReported := (entry s k).mismatchReported || mismatches s.peers.digest (entry s k) } := by
  unfold mismatchTest mismatches
  cases hd : (entry s k).digest with
  | none => exact (reported_eq_self (by simp)).symm
  | some d =>
    cases ho : s.peers.digest with
    | none => exact (reported_eq_self (by simp)).symm
    | some o =>
      dsimp only
      split_ifs with h
      · simp [h.1]
      · refine (reported_eq_self ?_).symm
        by_cases hne : d = o
        · simp [hne]
        · simpa [hne] using h

theorem mismatchTest_entries {k : Station} {s t : State} (h : t.peers = s.peers) :
    (mismatchTest k t).peers.entries = (mismatchTest k s).peers.entries := by
  have he : entry t k = entry s k := by rw [entry, entry, h]
  unfold mismatchTest
  rw [he, h]
  cases (entry s k).digest with
  | none => exact congrArg _ h
  | some d =>
    cases s.peers.digest with
    | none => exact congrArg _ h
    | some o =>
      dsimp only
      split_ifs
      · simp [setEntry, h]
      · exact congrArg _ h

/-- The station with the sender's entry written, before the notes of the arrival (R46 to R48, R55). -/
def frameEntered (k : Station) (f : Frame) (s : State) : State :=
  let s1 := setEntry k (entryAfter s k f) s
  let s2 : State :=
    if isRestart (entry s k) f then
      addChangedPeer k { s1 with mark := { s1.mark with reported := maskDrop s1.mark.reported k } }
    else s1
  if (entry s k).presence = presenceBy f then s2 else addChangedPeer k s2

/-- The station with the digest of the arrival tested (R59). -/
def digestTested (k : Station) (f : Frame) (s : State) : State :=
  if carriesDigest f then mismatchTest k (frameEntered k f s) else frameEntered k f s

theorem peerArrival_eq (k : Station) (f : Frame) (s : State) :
    peerArrival k f s
      = if inconsistent (entry s k).phase f then
          noteOf k .peerInconsistent (frameClass (frameKind f) : Int) 0 (digestTested k f s)
        else digestTested k f s := (rfl)

theorem frameEntered_peers (k : Station) (f : Frame) (s : State) :
    (frameEntered k f s).peers = (setEntry k (entryAfter s k f) s).peers := by
  unfold frameEntered
  dsimp only
  split_ifs <;> rfl

theorem peerArrival_entries (k : Station) (f : Frame) (s : State) :
    (peerArrival k f s).peers.entries
      = if carriesDigest f then (mismatchTest k (setEntry k (entryAfter s k f) s)).peers.entries
        else (setEntry k (entryAfter s k f) s).peers.entries := by
  have hnote : (peerArrival k f s).peers.entries = (digestTested k f s).peers.entries := by
    rw [peerArrival_eq]
    split_ifs <;> simp
  rw [hnote, digestTested]
  split_ifs
  · exact mismatchTest_entries (frameEntered_peers k f s)
  · exact congrArg _ (frameEntered_peers k f s)

/-- The sender's entry after its frame (R46 to R48, R59). -/
theorem peerArrival_entry (k : Station) (f : Frame) (s : State) :
    entry (peerArrival k f s) k = entryTested s k f := by
  have hset : entry (setEntry k (entryAfter s k f) s) k = entryAfter s k f := by simp
  rw [entry, peerArrival_entries]
  unfold entryTested
  cases hc : carriesDigest f
  · simpa [reported_eq_self, entry] using hset
  · rw [if_pos rfl, Bool.true_and]
    refine (mismatchTest_entry _ _).trans ?_
    rw [hset]
    rfl

/-- A frame without a digest that R49 does not object to raises nothing. -/
theorem peerArrival_fault {k : Station} {f : Frame} {s : State} (hi : inconsistent (entry s k).phase f = false)
    (hc : carriesDigest f = false) : (peerArrival k f s).fault = s.fault := by
  rw [peerArrival_eq, hi, digestTested, hc]
  simp only [Bool.false_eq_true, ↓reduceIte]
  unfold frameEntered
  dsimp only
  split_ifs <;> rfl

theorem peerArrival_reportAwaiting (k : Station) (f : Frame) (s : State) :
    (peerArrival k f s).mark.reportAwaiting = s.mark.reportAwaiting := by
  have hf : (frameEntered k f s).mark.reportAwaiting = s.mark.reportAwaiting := by
    unfold frameEntered
    dsimp only
    split_ifs <;> rfl
  rw [peerArrival_eq, digestTested]
  split_ifs <;> simp [hf]

/-! ### The lead's report -/

/-- The report counted, and the lead's (R73, R74): the station as the decision at it finds it. -/
def reportTaken (now : Instant) (m : Station) (r : MarkReport) (s : State) : State :=
  let u := countReport m r.number (peerArrival m (.markReport r) (setLine .waitingForIdle (tick now s)))
  { u with
    gradeUnit := { u.gradeUnit with leadReport := .present r }
    mark := { u.mark with leadWait := .stopped } }

theorem reportTaken_frame (now : Instant) (m : Station) (r : MarkReport) (s : State) :
    (reportTaken now m r s).phase = s.phase ∧ (reportTaken now m r s).sensor = s.sensor
      ∧ (reportTaken now m r s).reck = s.reck ∧ (reportTaken now m r s).search = s.search
      ∧ (reportTaken now m r s).straps = s.straps ∧ (reportTaken now m r s).port.setup = s.port.setup
      ∧ (reportTaken now m r s).port.frozen = s.port.frozen ∧ (reportTaken now m r s).port.tau = s.port.tau
      ∧ (reportTaken now m r s).link.queue = s.link.queue ∧ (reportTaken now m r s).mark.number = s.mark.number
      ∧ (reportTaken now m r s).mark.reportAwaiting = s.mark.reportAwaiting
      ∧ (reportTaken now m r s).gradeUnit = { s.gradeUnit with leadReport := .present r }
      ∧ (reportTaken now m r s).fault = s.fault := by
  have hq := peerArrival_fault (k := m) (f := .markReport r) (s := setLine .waitingForIdle (tick now s)) rfl rfl
  have ha := peerArrival_reportAwaiting m (.markReport r) (setLine .waitingForIdle (tick now s))
  unfold reportTaken countReport
  dsimp only
  split_ifs <;> simp [hq, ha]

/-- The lead's report shows the lead's grade (R104). -/
theorem reportTaken_lead {now : Instant} {m : Station} {r : MarkReport} {s : State} (hl : lead s = some m) :
    lead (reportTaken now m r s) = some m ∧ leadGrade (reportTaken now m r s) = some r.grade
      ∧ coupled (reportTaken now m r s) = true := by
  obtain ⟨-, -, -, -, hst, hset, hf, -⟩ := reportTaken_frame now m r s
  have hlead : lead (reportTaken now m r s) = some m := (lead_congr hf hset hst).trans hl
  have he : entry (reportTaken now m r s) m
      = entryTested (setLine .waitingForIdle (tick now s)) m (.markReport r) := by
    rw [← peerArrival_entry, entry, entry]
    refine congrArg (fun p : PerStation PeerEntry => p.get m) ?_
    unfold reportTaken countReport
    dsimp only
    split_ifs <;> rfl
  refine ⟨hlead, ?_, by simp [coupled, hlead]⟩
  rw [leadGrade, hlead, Option.map_some, he]
  rfl

/-- The lead's report at which the decision of a held capture is made (R73, R110). -/
theorem markReportArrival_decides {now : Instant} {m : Station} {r : MarkReport} {c : Capture} {s : State}
    (hrst : s.levels.rstLow = false) (hown : own s ≠ some m) (hlead : lead s = some m)
    (hline : s.link.line ≠ .waitingForIdle) (hok : frameContentOk (.markReport r) = true)
    (hwait : leadWaiting s = true) (hnumber : r.number = s.mark.number) (hsub : s.gradeUnit.sub = .leadWait)
    (hheld : s.gradeUnit.held = some c) (hread : s.gradeUnit.readPending = false) :
    exec (.markReportArrival now m r) s
      = .next (finish false (tick now s) (decideOn c (reportTaken now m r s))) := by
  have hown' : own (tick now s) ≠ some m := by simpa [own] using hown
  obtain ⟨-, -, -, -, -, -, -, -, -, -, -, hg, -⟩ := reportTaken_frame now m r s
  obtain ⟨-, -, hcoupled⟩ := reportTaken_lead (now := now) (r := r) hlead
  have hstep : leadReports m r (countReport m r.number
        (peerArrival m (.markReport r) (setLine .waitingForIdle (tick now s))))
      = advanceDecision (reportTaken now m r s) := by
    have hw : leadWaiting (countReport m r.number
        (peerArrival m (.markReport r) (setLine .waitingForIdle (tick now s)))) = true := by
      simpa [leadWaiting] using hwait
    have hl : lead (countReport m r.number
        (peerArrival m (.markReport r) (setLine .waitingForIdle (tick now s)))) = some m := by
      rw [← hlead]
      exact lead_congr (by simp) (by simp) (by simp)
    have hn : r.number = (countReport m r.number
        (peerArrival m (.markReport r) (setLine .waitingForIdle (tick now s)))).mark.number := by simpa using hnumber
    have hs : (reportTaken now m r s).gradeUnit.sub = .leadWait := by rw [hg]; exact hsub
    rw [leadReports, if_pos ⟨hl, hw⟩, if_pos hn, leadResolved]
    exact if_pos hs
  have hdecide : advanceDecision (reportTaken now m r s) = decideOn c (reportTaken now m r s) := by
    simp [advanceDecision, leadAwaited, hg, hread, decideHeld, hheld]
  change Host.Outcome.next (running now s _ _) = _
  rw [running_out hrst, arrive_peer (by simpa using hline) hok hown', reportFromPeer, hstep, hdecide]

end Sys2Proof.Machine
end

section
/-! PROOFS. O7: the re-mark. -/

namespace Sys2Proof.Machine

/-! ### The angle of a candidate -/

theorem mem_insertCandidate {c x : Candidate} {l : List Candidate} (h : x ∈ insertCandidate c l) : x = c ∨ x ∈ l := by
  induction l with
  | nil => exact .inl (by simpa [insertCandidate] using h)
  | cons d ds ih =>
    unfold insertCandidate at h
    split_ifs at h
    · simpa using h
    · exact .inr h
    · rcases List.mem_cons.mp h with h | h
      · exact .inr (by simp [h])
      · exact (ih h).imp id (List.mem_cons_of_mem d)

theorem mem_foldl_insertCandidate {x : Candidate} {l acc : List Candidate}
    (h : x ∈ l.foldl (fun l c => insertCandidate c l) acc) : x ∈ l ∨ x ∈ acc := by
  induction l generalizing acc with
  | nil => exact .inr h
  | cons d ds ih =>
    rcases ih h with h | h
    · exact .inl (List.mem_cons_of_mem d h)
    · exact (mem_insertCandidate h).imp (fun e => by simp [e]) id

/-- Every candidate is that of its count (R111). -/
theorem candidate_of_count {su : Setup} {tau theta0 cLead thetaScale : Int} {pM : Nat} {x : Candidate}
    (h : x ∈ candidatesOf su tau theta0 cLead thetaScale pM) : x = candidateOf su theta0 cLead pM x.n := by
  rcases mem_foldl_insertCandidate h with h | h
  · obtain ⟨a, -, ha⟩ := List.mem_flatMap.mp h
    obtain ⟨n, -, rfl⟩ := List.mem_map.mp (List.mem_filter.mp ha).1
    rfl
  · simp at h

theorem tableOn_mem {su : Setup} {b : Bool} {theta0 : Int} {pM : Nat} {cands agreeing : List Candidate}
    {snap : Option SnapTest} {x : Candidate} (hsub : ∀ y ∈ agreeing, y ∈ cands)
    (h : (tableOn su b theta0 pM cands agreeing snap).n = some x) : x ∈ cands := by
  unfold tableOn at h
  dsimp only at h
  split at h
  · simp [verdictOf] at h
  · exact Option.some.inj h ▸ hsub _ (List.mem_singleton_self _)
  · simpa using (Option.some.inj h).symm
  · split_ifs at h <;> simp [verdictOf] at h

/-- Turn resolution fixes one of its candidates or none (R114). -/
theorem tableOf_mem {su : Setup} {b : Bool} {theta0 : Int} {pM : Nat} {cands : List Candidate} {snap : Option SnapTest}
    {x : Candidate} (h : (tableOf su b theta0 pM cands snap).n = some x) : x ∈ cands := by
  rw [tableOf_eq] at h
  refine tableOn_mem (fun y hy => ?_) h
  cases snap with
  | none => simp [agreeingOf] at hy
  | some t => exact (List.mem_filter.mp hy).1

/-- The angle of the count that a decision fixes (R14, R114). -/
theorem verdictOn_theta {c : Capture} {s : State} {x : Candidate} (h : (verdictOn c s).n = some x) :
    x.theta = angleOfCount (setupOf s) s.reck.theta0 (leadTerm (setupOf s) (coupled s) (lambdaOf s))
      (turnCount (setupOf s) c.pM x.n) := by
  have hn : ∀ v : Verdict, verdictOn c s = v → v.n ≠ none := fun v hv hnone => by simp [← hv, h] at hnone
  cases hc : courseOf s with
  | noCalibration => exact absurd (by split_ifs <;> rfl) (hn _ (verdictOn_noCalibration c s hc))
  | noLead => exact absurd (by split_ifs <;> rfl) (hn _ (verdictOn_noLead c s hc))
  | resolution =>
    rw [verdictOn_resolution c s hc, tableTaken] at h
    have hx := congrArg Candidate.theta (candidate_of_count (tableOf_mem h))
    exact hx

/-! ### A decision of a station that is in no search -/

theorem flushReport_quiet {s : State} (h : s.mark.reportAwaiting = false) : flushReport s = s := by
  simp [flushReport, h]

/-- The release of a claim is about the slots of CLAIM and RELEASE alone (R128). -/
theorem releaseClaim_slot {k : FrameKind} (hc : k ≠ .claim) (hr : k ≠ .release) (s : State) :
    (releaseClaim s).link.queue.get k = s.link.queue.get k := by
  have hbegin : ∀ (b : Bool) (u : State), (beginRelease b u).link.queue.get k = u.link.queue.get k := by
    intro b u
    unfold beginRelease
    split_ifs
    · rfl
    · exact sendFrame_other _ _ _ (by simpa [frameKind] using hr)
  unfold releaseClaim
  cases s.claim.state with
  | held =>
    refine (hbegin _ _).trans ?_
    split_ifs <;> simp
  | queued => exact withdrawFrame_other _ _ _ hc
  | none | waiting | releasing => rfl

/-- A STOP fault of a station that is in no search, with no report waiting, leaves the MARK_REPORT slot and λ. -/
theorem stopEffects_quiet {c : StopCause} {a : Int} {s : State} (hs : s.search.sub = .none)
    (ha : s.mark.reportAwaiting = false) :
    (stopEffects c a s).link.queue.markReport = s.link.queue.markReport
      ∧ (stopEffects c a s).reck.lambda = s.reck.lambda := by
  have hns : searching (gradeFall c s) = false := by simp [searching, hs]
  have he : endSearchByFault (gradeFall c s) = gradeFall c s := by simp [endSearchByFault, hns]
  have hawait : ∀ u : State, u.mark.reportAwaiting = false →
      flushReport (dropNeeds (abandonHeld u)) = dropNeeds (abandonHeld u) := fun u hu => by
    refine flushReport_quiet ?_
    unfold abandonHeld
    split_ifs <;> simpa [dropNeeds, withdrawFrame, recordOutcome] using hu
  have hgf : (gradeFall c s).mark.reportAwaiting = false := by simpa using ha
  have hmark : (postStop (releaseClaim (gradeFall c s))).mark.reportAwaiting = false := by simpa using hgf
  have hslot := releaseClaim_slot (k := .markReport) (by simp) (by simp) (gradeFall c s)
  constructor
  · unfold stopEffects markAtFault
    dsimp only
    rw [he, hawait _ hmark]
    refine (sendFrame_other _ .markReport _ (by simp [frameKind])).trans ?_
    have habandon : ∀ u : State, (abandonHeld u).link = u.link := fun u => by simp
    have hdrop : (dropNeeds (abandonHeld (postStop (releaseClaim (gradeFall c s))))).link.queue.get .markReport
        = (releaseClaim (gradeFall c s)).link.queue.get .markReport := by
      refine (withdrawFrame_other _ _ _ (by simp)).trans ?_
      simp
    simpa [PerKind.get, emptyCandidates, endDecision] using hdrop.trans hslot
  · rw [stopEffects_reck, he]
    simp

theorem raiseStop_quiet {c : StopCause} {a b : Int} {s : State} (hs : s.search.sub = .none)
    (ha : s.mark.reportAwaiting = false) :
    (raiseStop c a b s).link.queue.markReport = s.link.queue.markReport
      ∧ (raiseStop c a b s).reck.lambda = s.reck.lambda := by
  have hraised := stopEffects_quiet (c := c) (a := a) (s := raise (.stop c) a b (own s) s) (by simpa using hs)
    (by simpa using ha)
  unfold raiseStop
  dsimp only
  split <;> simp_all

/-- What a decision of a station in no search leaves, whatever becomes of its sum. -/
theorem decideOn_quiet (c : Capture) {s : State} (hs : s.search.sub = .none) :
    (decideOn c s).link.queue.markReport = (decided c s).link.queue.markReport
      ∧ (decideOn c s).reck.lambda = lambdaOf s
      ∧ (decideOn c s).gradeUnit.recordedLead = (decided c s).gradeUnit.recordedLead
      ∧ (decideOn c s).gradeUnit.capped = (decided c s).gradeUnit.capped
      ∧ (decideOn c s).gradeUnit.recoveryAnchor = (decided c s).gradeUnit.recoveryAnchor := by
  have hsub : (decided c s).search.sub = .none := by
    obtain ⟨-, -, -, -, -, -, h, -⟩ := decided_frame c s
    rw [h, hs]
  have hl : (decided c s).reck.lambda = lambdaOf s := by
    rw [decided_reck]
    simpa using turnTaken_lambda c s
  rw [decideOn_eq, raiseIfOutside]
  split_ifs
  · exact ⟨rfl, hl, rfl, rfl, rfl⟩
  · obtain ⟨hq, hlam⟩ := raiseStop_quiet (c := .motorCountOverflow) (a := limitCode (sumDecided c s)) (b := 0) hsub
      (by rw [decided_mark])
    refine ⟨hq, hlam.trans hl, ?_, ?_, ?_⟩ <;> rw [raiseStop_gradeUnit] <;> split_ifs <;> rfl

/-- A decision whose sum lies in the range of M, with the closing tests: the ceiling finds the grade under it (R103). -/
theorem decision_inRange {force : Bool} {s0 : State} {c : Capture} {s : State} (hs : s.search.sub = .none)
    (hsum : countInRange (s.reck.count + shiftOf c s) = true) :
    finish force s0 (decideOn c s) = closing force s0 (decided c s) := by
  have hd : decideOn c s = decided c s := decideOn_inRange (by rw [sumDecided_eq]; exact hsum)
  have hunder : gradeCode (decided c s).gradeUnit.grade ≤ gradeCode (ceiling (decided c s)) := by
    rw [decided_gradeUnit]
    exact resultOf_le_ceiling c s
  rw [finish_of_undisturbed (decideOn_undisturbed hs), hd, applyCeiling_under hunder]

/-- A decision and the closing tests after it (R109, R115): a STOP fault of its sum apart, READY with the grade decided. -/
theorem decision_closes {s0 : State} {c : Capture} {s : State} (hp : s.phase = .recovery ∨ s.phase = .ready)
    (hs : s.search.sub = .none) :
    let t := finish false s0 (decideOn c s)
    t.gradeUnit.lastDecision = (decided c s).gradeUnit.lastDecision ∧ t.gradeUnit.sub = .idle
      ∧ t.gradeUnit.held = none
      ∧ (t.phase = .ready ∧ t.gradeUnit = (decided c s).gradeUnit ∧ t.reck.basis = (decided c s).reck.basis
            ∧ t.reck.theta = (decided c s).reck.theta
          ∨ t.phase = .faulted ∧ .motorCountOverflow ∈ t.fault.stopSet)
      ∧ gradeCode t.gradeUnit.grade ≤ gradeCode (resultOf c s)
      ∧ t.link.queue.markReport = (decided c s).link.queue.markReport ∧ t.reck.lambda = lambdaOf s
      ∧ t.gradeUnit.recoveryAnchor = (decided c s).gradeUnit.recoveryAnchor := by
  intro t
  have hu : Undisturbed (decideOn c s) := decideOn_undisturbed hs
  have hphase := decideOn_phase (c := c) hp
  have hm : (decideOn c s).phase ≠ .muster := by rcases hphase with h | ⟨h, -⟩ <;> simp [h]
  obtain ⟨fp, fg, fb, ft, -, fl⟩ := finish_undisturbed_frame (force := false) (s0 := s0) hu hm
  obtain ⟨hanchor, hlast, -⟩ := applyCeiling_keeps (decideOn c s)
  obtain ⟨g1, g2, -, -, g3, g4⟩ := decideOn_gradeUnit c s
  obtain ⟨qm, ql, -, -, qa⟩ := decideOn_quiet c hs
  have hq : t.link.queue.markReport = (decideOn c s).link.queue.markReport := by
    change (finish false s0 (decideOn c s)).link.queue.markReport = _
    rw [finish_of_undisturbed hu]
    simp
  refine ⟨?_, ?_, ?_, ?_, ?_, hq.trans qm, ?_, ?_⟩
  · rw [fg, hlast, g3]
  · rw [fg]
    simpa using g1
  · rw [fg]
    simpa using g2
  · by_cases hsum : countInRange (s.reck.count + shiftOf c s) = true
    · left
      have hrange : t = closing false s0 (decided c s) := decision_inRange hs hsum
      have hpd : (decided c s).phase = .ready := by
        rw [decided_phase]
        rcases hp with h | h <;> simp [h]
      obtain ⟨kp, kg, -⟩ := closing_outside (force := false) (s0 := s0) (s := decided c s) (by simp [hpd])
      rw [hrange]
      exact ⟨kp.trans hpd, kg, by simp, by simp⟩
    · right
      have hd : decideOn c s = raiseStop .motorCountOverflow (limitCode (sumDecided c s)) 0 (decided c s) := by
        rw [decideOn_eq, raiseIfOutside, if_neg (by rw [sumDecided_eq]; exact hsum)]
      have hpd : stopsIn (decided c s).phase = true := by
        rw [decided_phase]
        rcases hp with h | h <;> simp [h, stopsIn]
      have hstop : t.fault.stopSet = (decideOn c s).fault.stopSet := by
        change (finish false s0 (decideOn c s)).fault.stopSet = _
        rw [finish_of_undisturbed hu]
        simp
      rw [hstop, fp, hd]
      exact ⟨by rw [raiseStop_phase, if_pos hpd], mem_raiseStop _ _ _ _ (stopFalls_of_stopsIn hpd)⟩
  · rw [fg]
    exact (applyCeiling_grade_le _).trans g4
  · rw [fl]
    simpa using ql
  · rw [fg, hanchor, qa]

/-! ### The need -/

theorem leadImproved_iff {s : State} : leadImproved s = true ↔
    ∃ g r, leadGrade s = some g ∧ s.gradeUnit.recordedLead = some r ∧ gradeCode r < gradeCode g := by
  unfold leadImproved
  cases leadGrade s <;> cases s.gradeUnit.recordedLead <;> simp

/-- What the re-mark test judges by (R117). -/
def reMarkParts (s : State) : Option Grade × Option Grade × Bool × Bool × Phase × Bool :=
  (leadGrade s, s.gradeUnit.recordedLead, s.gradeUnit.capped, s.reck.atRest, s.phase, coupled s)

theorem reMarkParts_congr {s t : State} (hi : leadInputs t = leadInputs s)
    (hr : t.gradeUnit.recordedLead = s.gradeUnit.recordedLead) (hc : t.gradeUnit.capped = s.gradeUnit.capped)
    (ha : t.reck.atRest = s.reck.atRest) (hp : t.phase = s.phase) : reMarkParts t = reMarkParts s := by
  rw [reMarkParts, reMarkParts, leadGrade_of_inputs hi, coupled_of_inputs hi, hr, hc, ha, hp]

theorem leadImproved_of_parts {s t : State} (h : reMarkParts t = reMarkParts s) : leadImproved t = leadImproved s := by
  obtain ⟨hg, hr, -⟩ : leadGrade t = leadGrade s ∧ t.gradeUnit.recordedLead = s.gradeUnit.recordedLead ∧ _ := by
    simpa [reMarkParts] using h
  rw [leadImproved, leadImproved, hg, hr]

theorem wantsReMark_of_parts {s t : State} (h : reMarkParts t = reMarkParts s) : wantsReMark t = wantsReMark s := by
  have hi := leadImproved_of_parts h
  obtain ⟨-, -, hc, -, hp, hcp⟩ : leadGrade t = leadGrade s ∧ t.gradeUnit.recordedLead = s.gradeUnit.recordedLead
      ∧ t.gradeUnit.capped = s.gradeUnit.capped ∧ t.reck.atRest = s.reck.atRest ∧ t.phase = s.phase
      ∧ coupled t = coupled s := by
    simpa [reMarkParts] using h
  rw [wantsReMark, wantsReMark, hi, hc, hp, hcp]

/-- The tests that follow the re-mark test. -/
def afterReMark (force : Bool) (s0 s : State) : State :=
  statusTest force s0 (dwellTest (startWrite (restTrigger (driftTest (tryCall (tryComplete (tryRelease s)))))))

theorem finish_eq_afterReMark (force : Bool) (s0 s : State) :
    ∃ u, finish force s0 s = afterReMark force s0 (reMarkTest s0 u) := ⟨_, rfl⟩

theorem afterReMark_keeps (force : Bool) (s0 s : State) :
    (afterReMark force s0 s).mark.needs = s.mark.needs ∧ reMarkParts (afterReMark force s0 s) = reMarkParts s := by
  constructor
  · simp [afterReMark]
  · refine reMarkParts_congr ?_ ?_ ?_ ?_ ?_ <;> simp [afterReMark, leadInputs]

theorem reMarkTest_parts (s0 s : State) : reMarkParts (reMarkTest s0 s) = reMarkParts s := by
  unfold reMarkTest
  split_ifs <;> rfl

/-- The need that the re-mark test leaves (R117). -/
theorem reMarkTest_need (s0 s : State) :
    (reMarkTest s0 s).mark.needs.reMark
      = if s.mark.needs.reMark then leadImproved s else reMarkPartChanged s0 s && wantsReMark s && s.reck.atRest := by
  unfold reMarkTest
  cases hn : s.mark.needs.reMark
  · cases hw : reMarkPartChanged s0 s && wantsReMark s && s.reck.atRest <;>
      simp [hn, register, needsUnion, onlyReMark]
  · cases hi : leadImproved s <;> simp [hn, withdrawNeed, needsMinus, onlyReMark]

/-- After the closing tests the need stands only while the lead has improved, and it stands where a part has changed and the
station is to re-mark (R117). -/
theorem finish_reMark (force : Bool) (s0 s : State) :
    ((finish force s0 s).mark.needs.reMark = true → leadImproved (finish force s0 s) = true)
      ∧ (reMarkPartChanged s0 (finish force s0 s) = true → wantsReMark (finish force s0 s) = true →
          (finish force s0 s).reck.atRest = true → (finish force s0 s).mark.needs.reMark = true) := by
  obtain ⟨u, hu⟩ := finish_eq_afterReMark force s0 s
  obtain ⟨hn, hparts⟩ := afterReMark_keeps force s0 (reMarkTest s0 u)
  have hparts' := hparts.trans (reMarkTest_parts s0 u)
  obtain ⟨hg, -, hc, ha, hp, -⟩ : leadGrade (finish force s0 s) = leadGrade u ∧ _
      ∧ (finish force s0 s).gradeUnit.capped = u.gradeUnit.capped ∧ (finish force s0 s).reck.atRest = u.reck.atRest
      ∧ (finish force s0 s).phase = u.phase ∧ _ := by
    simpa [reMarkParts, hu] using hparts'
  have hneed : (finish force s0 s).mark.needs.reMark
      = if u.mark.needs.reMark then leadImproved u else reMarkPartChanged s0 u && wantsReMark u && u.reck.atRest := by
    rw [hu, hn, reMarkTest_need]
  have himproved : leadImproved (finish force s0 s) = leadImproved u := by rw [hu]; exact leadImproved_of_parts hparts'
  have hwants : wantsReMark (finish force s0 s) = wantsReMark u := by rw [hu]; exact wantsReMark_of_parts hparts'
  have hwu : wantsReMark u = true → leadImproved u = true := fun h => by
    simp only [wantsReMark, Bool.and_eq_true] at h
    exact h.2
  have hchanged : reMarkPartChanged s0 (finish force s0 s) = reMarkPartChanged s0 u := by
    rw [reMarkPartChanged, reMarkPartChanged, hg, ha, hc, hp]
  rw [hneed, himproved, hwants, ha, hchanged]
  refine ⟨fun h => ?_, fun hch hw hr => ?_⟩
  · split_ifs at h
    · exact h
    · simp only [Bool.and_eq_true] at h
      exact hwu h.1.2
  · split_ifs
    · exact hwu hw
    · simp only [Bool.and_eq_true]
      exact ⟨⟨hch, hw⟩, hr⟩

/-- The commands that read alone leave the phase, the reckoning, the mark and the grade. -/
theorem effectOf_reads_frame {c : Instr} (h : readsOnly c = true) (s : State) :
    (effectOf c s).phase = s.phase ∧ (effectOf c s).reck = s.reck ∧ (effectOf c s).mark = s.mark
      ∧ (effectOf c s).gradeUnit = s.gradeUnit ∧ leadInputs (effectOf c s) = leadInputs s := by
  unfold leadInputs
  cases c with
  | transactionIgnored | fetch | unknownCommand => simp [effectOf]
  | statusRead | peerRead | faultRead | storeRead =>
    simp only [effectOf, command]
    split
    · simp
    · split_ifs <;> simp
  | _ => exact absurd h Bool.noConfusion

theorem effectOf_reads_parts {c : Instr} (h : readsOnly c = true) (now : Instant) (s : State) :
    reMarkParts (effectOf c (tick now s)) = reMarkParts s
      ∧ (effectOf c (tick now s)).mark.needs = s.mark.needs := by
  obtain ⟨hp, hr, hm, hg, hi⟩ := effectOf_reads_frame h (tick now s)
  refine ⟨reMarkParts_congr (hi.trans (by simp [leadInputs])) ?_ ?_ ?_ ?_, ?_⟩ <;> simp [hp, hr, hm, hg]

/-- A reset leaves no need, or leaves the parts and the needs as they were (R184). -/
theorem exec_reset_need {c : Instr} {s t : State} (h : exec c s = .next t) (hr : isReset c = true) :
    t.mark.needs.reMark = false ∨ reMarkParts t = reMarkParts s ∧ t.mark.needs = s.mark.needs := by
  have hend : ∀ k pins cut x u, (endReset k pins cut x u).mark.needs.reMark = false := by
    intro k pins cut x u
    simp [endReset, resetBlocks, markReset, needsNone]
  cases c with
  | por pins cut =>
    cases h
    split
    · exact .inr ⟨rfl, rfl⟩
    · exact .inl (hend _ _ _ _ _)
  | pinReset pins cut =>
    cases h
    exact .inl (hend _ _ _ _ _)
  | rstNLow cut =>
    cases h
    split
    · exact .inr ⟨rfl, rfl⟩
    · exact .inl rfl
  | reset now r pins cut =>
    cases h
    unfold reading
    split_ifs
    · exact .inr ⟨rfl, rfl⟩
    · refine command_keeps (P := fun u => u.mark.needs.reMark = false ∨ reMarkParts u = reMarkParts s
        ∧ u.mark.needs = s.mark.needs) _ _ _ _ _ _ _ (fun st => .inr ⟨?_, ?_⟩) (fun ps _ _ => .inl ?_)
      · refine reMarkParts_congr ?_ ?_ ?_ ?_ ?_ <;> simp [leadInputs]
      · simp
      · simp [resetAct, hend]
  | _ => exact absurd hr Bool.noConfusion

/-! ### The four parts -/

/-- The need stands only while the lead has improved (R117). -/
theorem exec_need {c : Instr} {s t : State} (hs : s.mark.needs.reMark = true → leadImproved s = true)
    (h : exec c s = .next t) (hn : t.mark.needs.reMark = true) : leadImproved t = true := by
  have hkept : ∀ u : State, reMarkParts u = reMarkParts s → u.mark.needs = s.mark.needs →
      u.mark.needs.reMark = true → leadImproved u = true := fun u hp hm hu => by
    rw [leadImproved_of_parts hp]
    exact hs (hm ▸ hu)
  cases hr : isReset c with
  | true =>
    rcases exec_reset_need h hr with h0 | ⟨hp, hm⟩
    · simp [h0] at hn
    · exact hkept t hp hm hn
  | false =>
    obtain rfl | ⟨hread, rfl⟩ | ⟨-, -, rfl⟩ := exec_cases h hr
    · exact hs hn
    · obtain ⟨hp, hm⟩ := effectOf_reads_parts hread (instantOf c) s
      exact hkept _ hp hm hn
    · exact (finish_reMark _ _ _).1 hn

/-- A change that leaves the station to re-mark registers the need (R117). -/
theorem exec_registers {c : Instr} {s t : State} (h : exec c s = .next t) (hr : isReset c = false)
    (hw : wantsReMark t = true) (ha : t.reck.atRest = true) (hch : reMarkPartChanged s t = true) :
    t.mark.needs.reMark = true := by
  have hsame : reMarkParts t = reMarkParts s → reMarkPartChanged s t = false := fun hp => by
    obtain ⟨hg, -, hc, ha, hp, -⟩ : leadGrade t = leadGrade s ∧ _ ∧ t.gradeUnit.capped = s.gradeUnit.capped
        ∧ t.reck.atRest = s.reck.atRest ∧ t.phase = s.phase ∧ _ := by
      simpa [reMarkParts] using hp
    simp [reMarkPartChanged, hg, hc, ha, hp]
  obtain rfl | ⟨hread, rfl⟩ | ⟨-, -, rfl⟩ := exec_cases h hr
  · simp [hsame rfl] at hch
  · rw [hsame (effectOf_reads_parts hread (instantOf c) s).1] at hch
    simp at hch
  · refine (finish_reMark _ _ _).2 ?_ hw ha
    have hg : leadGrade (tick (instantOf c) s) = leadGrade s := leadGrade_of_inputs (by simp [leadInputs])
    simpa [reMarkPartChanged, hg] using hch

/-- The snapshot that counts for a decision (R118). -/
theorem snapshotFor_near (s : State) (c : Capture) :
    snapshotFor s .recovery c = s.gradeUnit.chosen
      ∧ (∀ a, s.gradeUnit.recoveryAnchor = some a →
          snapshotFor s .reMark c = if (c.count - a).natAbs ≤ (setupOf s).restTol then s.gradeUnit.chosen else none)
      ∧ (s.gradeUnit.recoveryAnchor = none → snapshotFor s .reMark c = none) := by
  refine ⟨?_, fun a ha => ?_, fun ha => ?_⟩
  · cases h : s.gradeUnit.recoveryAnchor <;> rfl
  · simp only [snapshotFor, ha]
    rfl
  · simp only [snapshotFor, ha]

theorem decideOn_leadGrade (c : Capture) (s : State) : leadGrade (decideOn c s) = leadGrade s :=
  leadGrade_congr (lead_congr (by simp) (by simp) (by simp)) (by simp)

/-- Where the lead's grade is the recorded one, the ceiling's test leaves it recorded and leaves a capped station capped. -/
theorem applyCeiling_led {s : State} {g : Grade} (hl : leadGrade s = some g) (hr : s.gradeUnit.recordedLead = some g) :
    (applyCeiling s).gradeUnit.recordedLead = some g
      ∧ (s.gradeUnit.capped = true → (applyCeiling s).gradeUnit.capped = true) := by
  unfold applyCeiling
  dsimp only
  split_ifs <;> simp [hl, hr]

theorem ceiling_le_lead {s : State} {g : Grade} (h : leadGrade s = some g) : gradeCode (ceiling s) ≤ gradeCode g := by
  rw [gradeCode_ceiling, h]
  exact min_le_right _ _

/-- The course of a decision at the lead's report (R110). -/
theorem reportTaken_course {now : Instant} {m : Station} {r : MarkReport} {s : State} (hl : lead s = some m) :
    courseOf (reportTaken now m r s)
        = (if s.reck.calibrated = true then if gradeCode r.grade < gradeCode .resolved then .noLead else .resolution
          else .noCalibration)
      ∧ lambdaOf (reportTaken now m r s) = r.thetaM.getD s.reck.lambda := by
  obtain ⟨-, -, hr, -, -, -, -, -, -, -, -, hg, -⟩ := reportTaken_frame now m r s
  obtain ⟨-, -, hc⟩ := reportTaken_lead (now := now) (r := r) hl
  have hrep : leadReported (reportTaken now m r s) = some r := by simp [leadReported, hg, hc]
  refine ⟨?_, by rw [lambdaOf, hrep, hr]; rfl⟩
  have hcal : (reportTaken now m r s).reck.calibrated = s.reck.calibrated := by rw [hr]
  cases hs : s.reck.calibrated with
  | false => simp [courseOf, hcal, hs]
  | true => by_cases hlow : gradeCode r.grade < gradeCode .resolved <;> simp [courseOf, hcal, hs, hc, hg, gradeLt, hlow]

/-- Settles O7: the need by the re-mark test after every command, and the decision at the lead's report. -/
theorem reMark : Obligations.ReMark := by
  refine ⟨fun c s t hs h hn => ?_, fun c s t h hr hp hcp hcap himp ha hch => ?_, ?_, fun s c => snapshotFor_near s c⟩
  · exact leadImproved_iff.mp (exec_need (fun hm => leadImproved_iff.mpr (hs hm)) h hn)
  · refine exec_registers h hr ?_ ha ?_
    · simp [wantsReMark, hp, hcp, hcap, leadImproved_iff.mpr himp]
    · simpa [reMarkPartChanged, or_assoc] using hch
  · intro now k r c s hrst hown hlead hline hok hwait hnumber hphase hsub hleadWait hheld hread su
    obtain ⟨xp, -, xr, xs, -, xset, -, -, xq, xn, xa, xg, -⟩ := reportTaken_frame now k r s
    obtain ⟨xl, xlg, xc⟩ := reportTaken_lead (now := now) (r := r) hlead
    obtain ⟨xcourse, xlam⟩ := reportTaken_course (now := now) (r := r) hlead
    generalize hx : reportTaken now k r s = x at xp xr xs xset xq xn xa xg xl xlg xc xcourse xlam
    have xphase : x.phase = .ready := xp.trans hphase
    have xsub : x.search.sub = .none := by rw [xs, hsub]
    have hstep := markReportArrival_decides (now := now) hrst hown hlead hline hok hwait hnumber hleadWait hheld hread
    rw [hx] at hstep
    obtain ⟨hlast, hidle, hnone, hend, hle, hmr, hlam, hanchor⟩ :=
      decision_closes (s0 := tick now s) (c := c) (.inr xphase) xsub
    have hdg := decided_gradeUnit c x
    have hset : setupOf x = su := xset
    have hdl : leadGrade (decideOn c x) = some r.grade := (decideOn_leadGrade c x).trans xlg
    obtain ⟨-, -, qr, qc, -⟩ := decideOn_quiet c xsub
    have hrec : (decideOn c x).gradeUnit.recordedLead = some r.grade := by
      rw [qr, hdg, xlg]
      rfl
    obtain ⟨hrecorded, hcapped⟩ := applyCeiling_led hdl hrec
    have hu : Undisturbed (decideOn c x) := decideOn_undisturbed xsub
    have hm : (decideOn c x).phase ≠ .muster := by
      rcases decideOn_phase (c := c) (.inr xphase) with h | ⟨h, -⟩ <;> simp [h]
    obtain ⟨-, fg, -⟩ := finish_undisturbed_frame (force := false) (s0 := tick now s) hu hm
    have hresult : gradeCode (resultOf c x) ≤ gradeCode r.grade :=
      (resultOf_le_ceiling c x).trans (ceiling_le_lead ((decided_leadGrade c x).trans xlg))
    refine ⟨_, _, hstep, by rw [hlast, hdg], hidle, hnone, ?_, ?_, xn, fun ha hgood => ?_, fun hready => ?_, ?_, ?_,
      hle.trans hresult, fun hcal hhigh => ?_, fun hcal hlow => ⟨?_, ?_, ?_⟩, fun hcal => ?_, fun a hth => ?_,
      fun hth => ?_, ?_⟩
    · exact hend.imp And.left id
    · simp [kindOf, xphase]
    · have hcarried := verdict_angleCarried c x
      rw [hmr, decided_markReport, if_pos ⟨xa.trans ha, by simp [xphase, queueTakes]⟩, hlam]
      simp only [reportOf, hgood, Bool.true_and, ↓reduceIte, hcarried, xn]
      cases hn : (verdictOn c x).n with
      | none =>
        have hscale : captureScale x c = scaleAngle su s.reck.sigma (c.scaleCount.getD 0) := by
          rw [captureScale, xr, hset]
        simp only [Option.map_none, Option.getD_none, hscale]
        rfl
      | some q =>
        have hth := verdictOn_theta hn
        rw [xc, xr, hset] at hth
        simp only [Option.map_some, Option.getD_some, hth]
        rfl
    · rcases hend with ⟨-, hg, -⟩ | ⟨hf, -⟩
      · rw [hg, hdg]
      · simp [hf] at hready
    · rw [fg, hrecorded]
    · refine Eq.trans (leadGrade_congr (lead_congr ?_ ?_ ?_) ?_) hdl <;> simp
    · simp [xcourse, hcal, not_lt.mpr hhigh]
    · simp [xcourse, hcal, hlow]
    · rw [fg]
      refine hcapped ?_
      rw [qc, hdg]
      simp [cappedOf, xlg, xcourse, hcal, hlow]
    · refine hle.trans ((resultOf_le_verdict c x).trans ?_)
      rw [verdictOn_noLead c x (by simp [xcourse, hcal, hlow])]
      split_ifs <;> simp [verdictOf, gradeCode]
    · simp [xcourse, hcal]
    · simp [hlam, xlam, hth]
    · simp [hlam, xlam, hth]
    · rw [hanchor, hdg, if_neg (by simp [xphase]), xg, shiftOf, hset]
      cases hn : (verdictOn c x).n with
      | none => simp
      | some q => rfl

end Sys2Proof.Machine
end

section
/-! PROOFS. The capture of a mark at a good sample of a station that is in no search (R24, R72, R109): what serves a recovery
or a re-mark is decided, held, or left as it was. -/

namespace Sys2Proof.Machine

/-! ### A sample outside a search -/

theorem takeEdge_no_search {active : Bool} {s : State} (h : s.search.sub = .none) : takeEdge active s = s := by
  simp [takeEdge, h]

theorem flagSample_no_search {level : Bool} {s : State} (h : s.search.sub = .none) :
    flagSample level s = { s with sensor := { s.sensor with flagLevel := some level } } := by
  unfold flagSample
  dsimp only
  split
  · rfl
  · split_ifs
    · exact takeEdge_no_search h
    · rfl

theorem advanceSearch_no_search {s : State} (h : s.search.sub = .none) : advanceSearch s = s := by
  simp [advanceSearch, searching, h]

/-- Outside a search, with nothing that moves, the checks of a sample leave all but the directive that a STOP settles. -/
theorem checks_no_search {s : State} (hs : s.search.sub = .none) (hm : moving s = false) (hp : s.phase ≠ .reference) :
    ∃ cl, searchSample (stillnessCheck (trySettle (directionCheck s))) = { s with claim := cl } := by
  have hd : directionCheck s = s := by
    refine directionCheck_idle ?_
    by_contra h
    obtain ⟨hst, hk⟩ : s.claim.dirState = .taken ∧ (s.claim.dir.kind ≠ some .jogPos → s.claim.dir.kind = some .jogNeg) := by
      simpa using h
    by_cases hj : s.claim.dir.kind = some .jogPos
    · simp [moving, hst, hj] at hm
    · simp [moving, hst, hk hj] at hm
  have hend : ∀ u : State, u.phase = s.phase → moving u = false → searchSample (stillnessCheck u) = u := by
    intro u hu hmu
    rw [stillnessCheck_idle (.inl (by simp [stillExpected, hu, hp])), searchSample_idle (.inl hmu)]
  rw [hd]
  unfold trySettle
  dsimp only
  split_ifs
  · rw [advanceSearch_no_search (by exact hs)]
    exact ⟨_, hend _ rfl (by simp [moving])⟩
  · exact ⟨s.claim, hend s rfl hm⟩

/-! ### The capture -/

/-- The needs that a capture serves. -/
def servedBy (s : State) : Needs := needsInter s.mark.serving s.mark.needs

/-- The station with the capture taken, before it is used (R24). -/
def captured (c : Capture) (s : State) : State :=
  { s with
    mark := { s.mark with
      lastCapture := some c, captureRequested := false, serving := needsNone
      needs := needsMinus s.mark.needs (servedBy s) } }

/-- The station with the capture held for its decision (R109). -/
def captureHeld (c : Capture) (s : State) : State :=
  { captured c s with
    gradeUnit := { s.gradeUnit with held := some c }
    mark := { (captured c s).mark with reportAwaiting := true } }

theorem searchCapture_no_search {c : Capture} {s : State} (h : s.search.sub = .none) : searchCapture c s = s := by
  simp [searchCapture, h]

/-- The capture used by the grade unit, or reported at once (R72, R109). -/
def captureUsed (c : Capture) (s : State) : State :=
  if ((servedBy s).recovery || (servedBy s).reMark) = true then gradeCapture c (servedBy s) (captured c s)
  else queueReport c s.gradeUnit.grade c.theta (captured c s)

theorem captureAnswered_eq (c : Capture) (s : State) :
    captureAnswered c s = if (servedBy s).calibrate = true then searchCapture c (captureUsed c s) else captureUsed c s :=
  (rfl)

theorem gradeCapture_eq (c : Capture) (s : State) :
    gradeCapture c (servedBy s) (captured c s)
      = if (c.good && c.scaleValid) = true then advanceDecision (captureHeld c s)
        else queueReport c s.gradeUnit.grade c.theta
          (register { servedBy s with calibrate := false, drive := false } (captured c s)) := (rfl)

/-- Outside a search a capture that serves a recovery or a re-mark is for its decision alone. -/
theorem captureAnswered_decides {c : Capture} {s : State} (hs : s.search.sub = .none)
    (hserved : (servedBy s).recovery = true ∨ (servedBy s).reMark = true) :
    captureAnswered c s
      = if (c.good && c.scaleValid) = true then advanceDecision (captureHeld c s)
        else queueReport c s.gradeUnit.grade c.theta
          (register { servedBy s with calibrate := false, drive := false } (captured c s)) := by
  have hfor : ((servedBy s).recovery || (servedBy s).reMark) = true := by simpa using hserved
  have hsub : (captureUsed c s).search.sub = .none := by
    rw [captureUsed, if_pos hfor, gradeCapture_eq]
    unfold advanceDecision
    split_ifs
    · exact hs
    · exact hs
    · unfold decideHeld
      split
      · exact hs
      · exact decideOn_no_search (s := captureHeld c s) hs
    · simpa [queueReport, register, captured] using hs
  rw [captureAnswered_eq, searchCapture_no_search hsub, ite_self, captureUsed, if_pos hfor, gradeCapture_eq]

end Sys2Proof.Machine
end

section
/-! PROOFS. O34: the recovery decision. -/

namespace Sys2Proof.Machine

/-- The needs that the closing tests leave outside MUSTER are those of the re-mark test. -/
theorem closing_needs {force : Bool} {s0 s : State} (h : s.phase ≠ .muster) :
    (closing force s0 s).mark.needs = (reMarkTest s0 (tryClaim (tryPrereq s))).mark.needs := by
  have h1 : tryMuster (tryClaim (tryPrereq s)) = tryClaim (tryPrereq s) := tryMuster_outside (by simpa using h)
  simp [closing, h1]

theorem closing_needs_recovery {force : Bool} {s0 s : State} (h : s.phase ≠ .muster) :
    (closing force s0 s).mark.needs.recovery = s.mark.needs.recovery := by
  rw [closing_needs h]
  unfold reMarkTest
  split_ifs <;> simp [withdrawNeed, register, needsMinus, needsUnion, onlyReMark, needsNone]

theorem closing_needs_reMark {force : Bool} {s0 s : State} (h : s.phase ≠ .muster) (hn : s.mark.needs.reMark = true)
    (hi : leadImproved s = true) : (closing force s0 s).mark.needs.reMark = true := by
  have hparts : reMarkParts (tryClaim (tryPrereq s)) = reMarkParts s :=
    reMarkParts_congr (by simp [leadInputs]) (by simp) (by simp) (by simp) (by simp)
  rw [closing_needs h, reMarkTest_need, if_pos (by simpa using hn), leadImproved_of_parts hparts, hi]

/-! ### The sample of a capture -/

/-- The station at the capture of a good sample. -/
def sampled (now : Instant) (p : Nat) (flag : Bool) (s : State) : State :=
  { counted p (tick now s) with sensor := { (counted p (tick now s)).sensor with flagLevel := some flag } }

theorem sampled_frame (now : Instant) (p : Nat) (flag : Bool) (s : State) :
    (sampled now p flag s).phase = s.phase ∧ (sampled now p flag s).mark = s.mark
      ∧ (sampled now p flag s).gradeUnit = s.gradeUnit ∧ (sampled now p flag s).claim = s.claim
      ∧ (sampled now p flag s).search = s.search ∧ (sampled now p flag s).link = s.link
      ∧ (sampled now p flag s).port.setup = s.port.setup ∧ (sampled now p flag s).port.tau = s.port.tau
      ∧ leadInputs (sampled now p flag s) = leadInputs s
      ∧ (sampled now p flag s).sensor.latestScale = s.sensor.latestScale
      ∧ (sampled now p flag s).sensor.badScale = s.sensor.badScale := by
  simp [sampled, leadInputs]

/-- A good sample that takes a capture, outside a search, with neither a jump nor an overflow nor a move. -/
theorem sample_captures {now : Instant} {p : BitVec 16} {flag : Bool} {s : State} (hrst : s.levels.rstLow = false)
    (hs : s.search.sub = .none) (hc : s.mark.captureRequested = true)
    (hq : s.reck.started = true →
      4 * (unwrapStep (cprOf (setupOf s)) (p.toNat % cprOf (setupOf s))
          (s.reck.lastGood.getD (p.toNat % cprOf (setupOf s)))).natAbs ≤ cprOf (setupOf s)
        ∧ countInRange (s.reck.count + unwrapStep (cprOf (setupOf s)) (p.toNat % cprOf (setupOf s))
          (s.reck.lastGood.getD (p.toNat % cprOf (setupOf s)))) = true) :
    exec (.motorSample now (.good p) flag) s
      = .next (finish false (tick now s) (searchSample (stillnessCheck (trySettle (directionCheck
          (captureAnswered
            (goodCapture (p.toNat % cprOf (setupOf s)) (sampled now (p.toNat % cprOf (setupOf s)) flag s))
            (sampled now (p.toNat % cprOf (setupOf s)) flag s))))))) := by
  have hcount : countGood (p.toNat % cprOf (setupOf s)) (tick now s)
      = counted (p.toNat % cprOf (setupOf s)) (tick now s) := countGood_quiet hq
  have hflag : flagSample flag (counted (p.toNat % cprOf (setupOf s)) (tick now s))
      = sampled now (p.toNat % cprOf (setupOf s)) flag s := flagSample_no_search (by simpa using hs)
  have hreq : (sampled now (p.toNat % cprOf (setupOf s)) flag s).mark.captureRequested = true := by
    simpa [sampled] using hc
  rw [motorSample_runs hrst, goodMotorSample, hcount, hflag, answerCapture, if_pos hreq]

/-- Where the lead's grade does not lie below the own one, the ceiling's test leaves the recorded lead grade. -/
theorem applyCeiling_under_lead {s : State} (h : ∀ g, leadGrade s = some g → gradeCode s.gradeUnit.grade ≤ gradeCode g) :
    (applyCeiling s).gradeUnit.recordedLead = s.gradeUnit.recordedLead := by
  unfold applyCeiling
  cases hl : leadGrade s with
  | none =>
    simp only [Bool.false_eq_true, ↓reduceIte]
    split_ifs <;> simp
  | some g =>
    have hn : gradeLt g s.gradeUnit.grade = false := by simpa [gradeLt] using h g hl
    simp only [hn, Bool.false_eq_true, ↓reduceIte]
    split_ifs <;> simp

/-- The tests at the end of a sample, outside a search. -/
theorem finish_after_capture {s0 u : State} {cl : Claim} (hh : LeadHeard u) (hs : u.search.sub = .none)
    (hm : u.phase ≠ .muster) :
    let t := finish false s0 { u with claim := cl }
    t.phase = u.phase ∧ t.gradeUnit.sub = u.gradeUnit.sub ∧ t.gradeUnit.held = u.gradeUnit.held
      ∧ t.gradeUnit.lastDecision = u.gradeUnit.lastDecision ∧ t.mark.needs.recovery = u.mark.needs.recovery
      ∧ t.mark.lastCapture = u.mark.lastCapture ∧ t.mark.captureRequested = u.mark.captureRequested
      ∧ t.mark.reportAwaiting = u.mark.reportAwaiting ∧ t.link.queue.markReport = u.link.queue.markReport
      ∧ ((∀ g, leadGrade u = some g → gradeCode u.gradeUnit.grade ≤ gradeCode g) → u.mark.needs.reMark = true →
          leadImproved u = true → t.mark.needs.reMark = true) := by
  intro t
  have hu : Undisturbed { u with claim := cl } := undisturbed_of_no_search (leadHeard_of_inputs (s := u) rfl hh) hs
  have ht : t = closing false s0 (applyCeiling { u with claim := cl }) := finish_of_undisturbed hu
  have hm' : (applyCeiling { u with claim := cl }).phase ≠ .muster := by simpa using hm
  obtain ⟨kp, kg, -⟩ := closing_outside (force := false) (s0 := s0) hm'
  rw [ht]
  refine ⟨by rw [kp]; simp, by rw [kg]; simp, by rw [kg]; simp, by rw [kg]; simp, ?_, by simp, by simp, by simp,
    by simp, fun hlead hn hi => ?_⟩
  · rw [closing_needs_recovery hm']
    simp
  · refine closing_needs_reMark hm' (by simpa using hn) ?_
    have hr := applyCeiling_under_lead (s := { u with claim := cl }) hlead
    have hg : leadGrade (applyCeiling { u with claim := cl }) = leadGrade u :=
      leadGrade_congr (lead_congr (by simp) (by simp) (by simp)) (by simp)
    rwa [leadImproved, hr, hg]

theorem flushReport_lastCapture (s : State) : (flushReport s).mark.lastCapture = s.mark.lastCapture := by
  unfold flushReport
  (repeat' split) <;> simp [queueReport]

theorem markAtFault_lastCapture (s : State) : (markAtFault s).mark.lastCapture = s.mark.lastCapture := by
  rw [markAtFault, flushReport_lastCapture]
  unfold abandonHeld
  split_ifs <;> simp [dropNeeds, withdrawFrame, recordOutcome]

theorem stopEffects_lastCapture {c : StopCause} {a : Int} {s : State} (hs : s.search.sub = .none) :
    (stopEffects c a s).mark.lastCapture = s.mark.lastCapture := by
  have he : endSearchByFault (gradeFall c s) = gradeFall c s := by simp [endSearchByFault, searching, hs]
  unfold stopEffects
  dsimp only
  rw [he]
  simp [endDecision, markAtFault_lastCapture]

theorem kind_of_stopCurrent {s : State} (h : stopCurrent s = true) : s.claim.dir.kind = some .stop := by
  unfold stopCurrent at h
  split at h
  · assumption
  · assumption
  · simp at h

/-- A decision gives no directive. -/
theorem decided_directive (c : Capture) (s : State) :
    (decided c s).claim.dirState = s.claim.dirState ∧ (decided c s).claim.dir = s.claim.dir := by
  have hr : (reported c s).claim.dirState = s.claim.dirState ∧ (reported c s).claim.dir = s.claim.dir := by
    unfold reported
    split_ifs <;> simp [graded, turnTaken]
  unfold decided
  dsimp only
  split_ifs <;> simpa [decisionShown, endDecision] using hr

/-- Outside a search a decision leaves the capture, and nothing that moves (R178). -/
theorem decideOn_capture {c : Capture} {s : State} (hp : s.phase = .recovery ∨ s.phase = .ready)
    (hs : s.search.sub = .none) (hm : moving s = false) :
    (decideOn c s).mark.lastCapture = s.mark.lastCapture ∧ moving (decideOn c s) = false := by
  have hsub : (decided c s).search.sub = .none := by
    obtain ⟨-, -, -, -, -, -, h, -⟩ := decided_frame c s
    rw [h, hs]
  have hphase : (decided c s).phase = .ready := by
    rw [decided_phase]
    rcases hp with h | h <;> simp [h]
  have hclaim := decided_directive c s
  rw [decideOn_eq, raiseIfOutside]
  split_ifs
  · exact ⟨by rw [decided_mark], (moving_congr hclaim.1 hclaim.2).trans hm⟩
  · rw [raiseStop_stops (by simp [hphase, stopsIn])]
    refine ⟨?_, moving_of_stop ?_⟩
    · rw [stopEffects_lastCapture (by simpa using hsub)]
      simp [decided_mark]
    · exact kind_of_stopCurrent (stopEffects_stopCurrent _ _ _)

theorem captureHeld_frame (c : Capture) (s : State) :
    (captureHeld c s).phase = s.phase ∧ leadInputs (captureHeld c s) = leadInputs s
      ∧ (captureHeld c s).search = s.search ∧ (captureHeld c s).claim = s.claim
      ∧ (captureHeld c s).gradeUnit = { s.gradeUnit with held := some c }
      ∧ (captureHeld c s).mark.lastCapture = some c ∧ (captureHeld c s).mark.captureRequested = false
      ∧ (captureHeld c s).mark.reportAwaiting = true ∧ (captureHeld c s).link = s.link :=
  ⟨rfl, rfl, rfl, rfl, rfl, rfl, rfl, rfl, rfl⟩

/-- A held capture waits for the lead's report or for the reading of the snapshots, or is decided (R109). -/
theorem advanceDecision_cases {c : Capture} {s : State} (h : s.gradeUnit.held = some c) :
    (leadAwaited s = true ∨ s.gradeUnit.readPending = true)
        ∧ advanceDecision s
          = { s with gradeUnit := { s.gradeUnit with sub := if leadAwaited s = true then .leadWait else .reading } }
      ∨ (leadAwaited s = false ∧ s.gradeUnit.readPending = false) ∧ advanceDecision s = decideOn c s := by
  cases hw : leadAwaited s with
  | true => exact .inl ⟨.inl rfl, by simp [advanceDecision, hw]⟩
  | false =>
    cases hr : s.gradeUnit.readPending with
    | true => exact .inl ⟨.inr rfl, by simp [advanceDecision, hw, hr]⟩
    | false => exact .inr ⟨⟨rfl, rfl⟩, by simp [advanceDecision, hw, hr, decideHeld, h]⟩

/-- A capture for a recovery or a re-mark that its sample does not use: with the scale not valid the need stays and the own
report goes at once; held, it waits for the lead's report or for the reading of the snapshots (R24, R72, R109, R118). -/
theorem capture_waits {now : Instant} {p : BitVec 16} {flag : Bool} {s : State} (hrst : s.levels.rstLow = false)
    (hh : LeadHeard s) (hp : s.phase = .recovery ∨ s.phase = .ready) (hs : s.search.sub = .none)
    (hmove : moving s = false) (hc : s.mark.captureRequested = true)
    (hserved : (servedBy s).recovery = true ∨ (servedBy s).reMark = true)
    (hq : s.reck.started = true →
      4 * (unwrapStep (cprOf (setupOf s)) (p.toNat % cprOf (setupOf s))
          (s.reck.lastGood.getD (p.toNat % cprOf (setupOf s)))).natAbs ≤ cprOf (setupOf s)
        ∧ countInRange (s.reck.count + unwrapStep (cprOf (setupOf s)) (p.toNat % cprOf (setupOf s))
          (s.reck.lastGood.getD (p.toNat % cprOf (setupOf s)))) = true) :
    ∃ t c, exec (.motorSample now (.good p) flag) s = .next t ∧ t.mark.lastCapture = some c
      ∧ t.mark.captureRequested = false
      ∧ (scaleValid s = false →
          t.phase = s.phase ∧ t.gradeUnit.sub = s.gradeUnit.sub ∧ t.gradeUnit.held = s.gradeUnit.held
            ∧ t.gradeUnit.lastDecision = s.gradeUnit.lastDecision
            ∧ t.mark.needs.recovery = s.mark.needs.recovery
            ∧ (s.mark.needs.reMark = true → UnderCeiling s → leadImproved s = true → t.mark.needs.reMark = true)
            ∧ t.link.queue.markReport =
                some (.markReport
                  { number := s.mark.number, grade := s.gradeUnit.grade, captureGood := true, scaleValid := false
                    pM := BitVec.ofNat 16 (p.toNat % cprOf (setupOf s))
                    sM := BitVec.ofNat 16 (s.sensor.latestScale.getD 0)
                    thetaM := if s.gradeUnit.grade = .lost then none else c.theta }))
      ∧ (scaleValid s = true → leadAwaited s = true ∨ s.gradeUnit.readPending = true →
          t.phase = s.phase ∧ t.gradeUnit.sub = (if leadAwaited s = true then .leadWait else .reading)
            ∧ t.gradeUnit.held = some c ∧ t.gradeUnit.lastDecision = s.gradeUnit.lastDecision
            ∧ t.mark.reportAwaiting = true ∧ t.link.queue.markReport = s.link.queue.markReport) := by
  generalize hv : p.toNat % cprOf (setupOf s) = v at *
  obtain ⟨fp, fm, fg, fc, fs, fl, fset, -, fi, fsc, fbad⟩ := sampled_frame now v flag s
  generalize hf : sampled now v flag s = f at *
  have hstep := sample_captures (flag := flag) (now := now) hrst hs hc (by rw [hv]; exact hq)
  rw [hv, hf] at hstep
  have hfs : f.search.sub = .none := by rw [fs, hs]
  have hserved' : servedBy f = servedBy s := by rw [servedBy, servedBy, fm]
  have hans := captureAnswered_decides (c := goodCapture v f) hfs (by rw [hserved']; exact hserved)
  have hvalid : (goodCapture v f).scaleValid = scaleValid s := by
    simp [goodCapture, scaleValid, scaleFailed, fsc, fbad]
  have hnm : f.phase ≠ .muster := by rw [fp]; rcases hp with h | h <;> simp [h]
  have hnr : f.phase ≠ .reference := by rw [fp]; rcases hp with h | h <;> simp [h]
  have htakes : queueTakes f.phase .markReport = true := by rw [fp]; rcases hp with h | h <;> simp [h, queueTakes]
  have hmf : moving f = false := (moving_congr (by rw [fc]) (by rw [fc])).trans hmove
  cases hsv : scaleValid s with
  | false =>
    have hnot : ¬ ((goodCapture v f).good && (goodCapture v f).scaleValid) = true := by simp [hvalid, hsv]
    rw [if_neg hnot] at hans
    generalize hu : queueReport (goodCapture v f) f.gradeUnit.grade (goodCapture v f).theta
      (register { servedBy f with calibrate := false, drive := false } (captured (goodCapture v f) f)) = u at hans
    have uframe : u.phase = f.phase ∧ u.gradeUnit = f.gradeUnit ∧ leadInputs u = leadInputs f ∧ u.search = f.search
        ∧ u.claim = f.claim ∧ u.reck = f.reck ∧ u.sensor = f.sensor ∧ u.mark.lastCapture = some (goodCapture v f)
        ∧ u.mark.captureRequested = false := by
      rw [← hu]
      refine ⟨?_, ?_, ?_, ?_, ?_, ?_, ?_, ?_, ?_⟩ <;> simp [queueReport, register, captured, leadInputs]
    have uneeds : u.mark.needs.recovery = s.mark.needs.recovery ∧ u.mark.needs.reMark = s.mark.needs.reMark := by
      rw [← hu]
      constructor <;>
        simp only [queueReport, register, captured, servedBy, needsUnion, needsMinus, needsInter, sendFrame_frame, fm] <;>
        grind
    have ureport : u.link.queue.markReport
        = some (.markReport (reportOf s (goodCapture v f) s.gradeUnit.grade (goodCapture v f).theta)) := by
      rw [← hu, queueReport_markReport, if_pos (by simpa [register, captured] using htakes), fg]
      exact congrArg (fun r => some (Frame.markReport r)) (reportOf_congr (by simp [register, captured, fm]) _ _ _)
    obtain ⟨up, ug, ui, us, uc, ur, usens, ulast, ureq⟩ := uframe
    obtain ⟨cl, hcl⟩ := checks_no_search (s := u) (by rw [us, hfs])
      ((moving_congr (by rw [uc]) (by rw [uc])).trans hmf) (by rw [up]; exact hnr)
    rw [hans, hcl] at hstep
    obtain ⟨t1, t2, t3, t4, t5, t6, t7, -, t9, t10⟩ := finish_after_capture (s0 := tick now s) (u := u) (cl := cl)
      (leadHeard_of_inputs (ui.trans fi) hh) (by rw [us, hfs]) (by rw [up]; exact hnm)
    refine ⟨_, goodCapture v f, hstep, t6.trans ulast, t7.trans ureq, fun _ => ⟨t1.trans (up.trans fp), ?_, ?_, ?_,
      t5.trans uneeds.1, fun hn hunder hi => t10 ?_ (uneeds.2.trans hn) ?_, t9.trans (ureport.trans ?_)⟩,
      fun h => absurd h (by simp)⟩
    · rw [t2, ug, fg]
    · rw [t3, ug, fg]
    · rw [t4, ug, fg]
    · intro g hg
      rw [ug, fg]
      rw [leadGrade_of_inputs (ui.trans fi)] at hg
      have hphase : s.phase ≠ .config ∧ s.phase ≠ .down := by rcases hp with h | h <;> simp [h]
      exact (hunder hphase.1 hphase.2).trans (ceiling_le_lead hg)
    · rw [leadImproved, ug, fg, leadGrade_of_inputs (ui.trans fi)]
      exact hi
    · rw [reportOf, hvalid]
      simp [goodCapture, fsc, angleCarried, hsv]
  | true =>
    have hyes : ((goodCapture v f).good && (goodCapture v f).scaleValid) = true := by rw [hvalid, hsv]; rfl
    rw [if_pos hyes] at hans
    obtain ⟨xp, xi, xs, xc, xg, xlast, xreq, xawait, xl⟩ := captureHeld_frame (goodCapture v f) f
    generalize captureHeld (goodCapture v f) f = x at xp xi xs xc xg xlast xreq xawait xl hans
    have hxs : x.search.sub = .none := by rw [xs, hfs]
    have hxm : moving x = false := (moving_congr (by rw [xc]) (by rw [xc])).trans hmf
    have hxh : LeadHeard x := leadHeard_of_inputs (xi.trans fi) hh
    have hxp : x.phase = .recovery ∨ x.phase = .ready := by rw [xp, fp]; exact hp
    have hawaited : leadAwaited x = leadAwaited s := by
      rw [leadAwaited, leadAwaited, coupled_of_inputs (xi.trans fi), xg, fg]
    rcases advanceDecision_cases (c := goodCapture v f) (s := x) (by rw [xg]) with ⟨-, hstay⟩ | ⟨⟨hna, hnr'⟩, hdec⟩
    · rw [hstay] at hans
      obtain ⟨cl, hcl⟩ := checks_no_search (s := { x with gradeUnit := { x.gradeUnit with
        sub := if leadAwaited x = true then .leadWait else .reading } }) hxs hxm (by simpa [xp] using hnr)
      rw [hans, hcl] at hstep
      obtain ⟨t1, t2, t3, t4, -, t6, t7, t8, t9, -⟩ := finish_after_capture (s0 := tick now s) (cl := cl)
        (u := { x with gradeUnit := { x.gradeUnit with sub := if leadAwaited x = true then .leadWait else .reading } })
        (leadHeard_of_inputs (s := x) rfl hxh) hxs (by simpa [xp] using hnm)
      refine ⟨_, goodCapture v f, hstep, t6.trans xlast, t7.trans xreq, fun h => absurd h (by simp), fun _ _ =>
        ⟨t1.trans (xp.trans fp), ?_, ?_, ?_, t8.trans xawait, ?_⟩⟩
      · rw [t2, hawaited]
      · rw [t3, xg]
      · rw [t4, xg, fg]
      · rw [t9, xl, fl]
    · rw [hdec] at hans
      obtain ⟨hlast, hmoving⟩ := decideOn_capture (c := goodCapture v f) hxp hxs hxm
      have hdp := decideOn_phase (c := goodCapture v f) hxp
      have hds := decideOn_no_search (c := goodCapture v f) hxs
      obtain ⟨cl, hcl⟩ := checks_no_search hds hmoving (by rcases hdp with h | ⟨h, -⟩ <;> simp [h])
      rw [hans, hcl] at hstep
      obtain ⟨-, -, -, -, -, t6, t7, -, -, -⟩ := finish_after_capture (s0 := tick now s) (cl := cl)
        (decideOn_leadHeard (goodCapture v f) x) hds (by rcases hdp with h | ⟨h, -⟩ <;> simp [h])
      refine ⟨_, goodCapture v f, hstep, t6.trans (hlast.trans xlast), t7.trans ?_, fun h => absurd h (by simp),
        fun _ hwaits => absurd hwaits ?_⟩
      · simpa using xreq
      · rw [← hawaited, hna]
        simpa [xg, fg] using hnr'

end Sys2Proof.Machine
end

section
/-! PROOFS. O34: the decision at the lead's report, and that of an uncoupled station at its capture. -/

namespace Sys2Proof.Machine

/-! ### The ceiling of a decision -/

/-- Of a grade of COARSE or below the ceiling is the lead's grade (R103). -/
theorem gradeMin_ceiling_low {g : Grade} {s : State} (h : gradeCode g ≤ gradeCode .coarse) :
    gradeMin g (ceiling s) = gradeMin g ((leadGrade s).getD .referenced) := by
  refine gradeCode_inj.mp ?_
  rw [gradeCode_gradeMin, gradeCode_gradeMin, gradeCode_ceiling]
  have hsat : gradeCode .coarse ≤ gradeCode (if s.reck.saturated = true then Grade.coarse else .referenced) := by
    split_ifs <;> simp [gradeCode]
  have hscale : gradeCode .coarse ≤ gradeCode (if 3 ≤ s.sensor.badScale then Grade.resolved else .referenced) := by
    split_ifs <;> simp [gradeCode]
  omega

/-- With the angle in range and the scale not failed the ceiling is the lead's grade (R103). -/
theorem ceiling_clear {s : State} (hs : s.reck.saturated = false) (hb : s.sensor.badScale < 3) :
    ceiling s = (leadGrade s).getD .referenced := by
  refine gradeCode_inj.mp ?_
  rw [gradeCode_ceiling, hs, if_neg (by simp), if_neg (not_le.mpr hb)]
  cases (leadGrade s).getD .referenced <;> simp [gradeCode]

/-! ### What a decision in range leaves -/

theorem decided_thetaOfScale {c : Capture} {s : State} (h : ThetaOfScale (takeLeadAngle s).reck) :
    ThetaOfScale (decided c s).reck := by
  rw [decided_reck]
  refine gradeByVerdict_thetaOfScale _ (fixTurn_thetaOfScale _ _ _ ?_)
  simpa using h

theorem fixTurn_saturated (k : DecisionKind) (c : Capture) (x : Candidate) (s : State) :
    (fixTurn k c (some x) s).reck.saturated
      = (formedAngle (fixTurn k c (some x) s)).elim s.reck.saturated fun v => !angleInRange v := by
  unfold fixTurn applyOffset
  dsimp only
  obtain ⟨hr, hf⟩ := setRecoveryAnchor_formed k (c.count + offsetOf (setupOf s) c x.n)
    (applyOffset (offsetOf (setupOf s) c x.n) { s with reck := { s.reck with basis := .counts } })
  unfold applyOffset at hr hf
  rw [hr, hf, formedAngle_recomputeTheta, recomputeTheta_saturated]
  generalize formedAngle _ = a
  cases a <;> rfl

/-- The SATURATED flag of a fixed count whose angle lies in range (R15). -/
theorem decided_saturated {c : Capture} {s : State} (hn : (verdictOn c s).n ≠ none) (hst : s.reck.started = true)
    (hsum : countInRange (s.reck.count + shiftOf c s) = true)
    (ha : angleInRange (angleOfCount (setupOf s) s.reck.theta0 (leadTerm (setupOf s) (coupled s) (lambdaOf s))
      (s.reck.count + shiftOf c s)) = true) : (decided c s).reck.saturated = false := by
  obtain ⟨x, hx⟩ := Option.ne_none_iff_exists'.mp hn
  have hb : (turnTaken c s).reck.basis = .counts := by
    rw [turnTaken, hx]
    exact (fixTurn_some _ _ _ _).2.2.1
  have hbasis : basisOf (verdictOn c s) = .counts := by simp [basisOf, hx]
  have hcp : coupled (turnTaken c s) = coupled s :=
    coupled_congr (by simp [turnTaken]) (by simp [turnTaken]) (by simp [turnTaken])
  have hset : setupOf (turnTaken c s) = setupOf s := by simp [turnTaken, setupOf]
  have hstarted : (turnTaken c s).reck.started = true := by simpa [turnTaken] using hst
  have h0 : (turnTaken c s).reck.theta0 = s.reck.theta0 := by simp [turnTaken]
  have hf : formedAngle (turnTaken c s)
      = some (angleOfCount (setupOf s) s.reck.theta0 (leadTerm (setupOf s) (coupled s) (lambdaOf s))
          (s.reck.count + shiftOf c s)) := by
    simp [formedAngle, hb, hstarted, h0, hcp, hset, turnTaken_lambda, turnTaken_count hsum]
  rw [decided_reck, gradeByVerdict_saturated, hbasis, setBasis_self hb]
  have hsat := fixTurn_saturated (kindOf s) c x (raiseVerdictNotes c (verdictOn c s) (takeLeadAngle s))
  rw [← hx] at hsat
  refine hsat.trans ?_
  rw [show formedAngle (fixTurn (kindOf s) c (verdictOn c s).n (raiseVerdictNotes c (verdictOn c s) (takeLeadAngle s)))
    = formedAngle (turnTaken c s) from rfl, hf]
  simp [ha]

/-- The tests at the end of a command that makes a decision in range. -/
theorem finish_decided {s0 : State} {c : Capture} {s : State} (cl : Claim) (hs : s.search.sub = .none)
    (hsum : countInRange (s.reck.count + shiftOf c s) = true) (hp : s.phase = .recovery ∨ s.phase = .ready) :
    let t := finish false s0 { decideOn c s with claim := cl }
    t.phase = (decideOn c s).phase ∧ t.gradeUnit = (decideOn c s).gradeUnit
      ∧ t.reck.count = (decideOn c s).reck.count ∧ t.reck.lambda = (decideOn c s).reck.lambda
      ∧ t.reck.turnOffset = (decideOn c s).reck.turnOffset ∧ t.reck.basis = (decideOn c s).reck.basis
      ∧ t.reck.theta = (decideOn c s).reck.theta
      ∧ t.link.queue.markReport = (decideOn c s).link.queue.markReport
      ∧ t.port.attention.grade = (decideOn c s).port.attention.grade := by
  intro t
  have hd : decideOn c s = decided c s := decideOn_inRange (by rw [sumDecided_eq]; exact hsum)
  have hu : Undisturbed { decideOn c s with claim := cl } :=
    undisturbed_of_no_search (leadHeard_of_inputs (s := decideOn c s) rfl (decideOn_leadHeard c s))
      (decideOn_no_search (c := c) hs)
  have hunder : gradeCode (decided c s).gradeUnit.grade ≤ gradeCode (ceiling (decided c s)) := by
    rw [decided_gradeUnit]
    exact resultOf_le_ceiling c s
  have hidle : applyCeiling { decideOn c s with claim := cl } = { decideOn c s with claim := cl } :=
    applyCeiling_under (s := { decideOn c s with claim := cl }) (by rw [hd]; exact hunder)
  have hm : (decideOn c s).phase ≠ .muster := by rcases decideOn_phase (c := c) hp with h | ⟨h, -⟩ <;> simp [h]
  obtain ⟨kp, kg, -⟩ := closing_outside (force := false) (s0 := s0) (s := { decideOn c s with claim := cl }) hm
  have ht : t = closing false s0 { decideOn c s with claim := cl } := (finish_of_undisturbed hu).trans (by rw [hidle])
  rw [ht]
  exact ⟨kp, kg, by simp, by simp, by simp, by simp, by simp, by simp, by simp⟩

/-! ### At the lead's report -/

/-- What the decision at the lead's report leaves where it fixes no count (R104, R106, R110, R115). -/
def ReportUnfixed (now : Instant) (m : Station) (r : MarkReport) (c : Capture) (s : State) (course : Course) (g : Grade)
    (k agreed : Nat) (list : List Candidate) (capped : Bool) : Prop :=
  countInRange s.reck.count = true →
    let held := gradeMin g r.grade
    ∃ t, exec (.markReportArrival now m r) s = .next t ∧ t.phase = .ready
      ∧ t.reck.lambda = r.thetaM.getD s.reck.lambda ∧ t.reck.count = s.reck.count ∧ t.reck.turnOffset = s.reck.turnOffset
      ∧ t.reck.basis = (if held = .lost then .none else .scale) ∧ t.gradeUnit.grade = held
      ∧ (held = .lost → s.reck.basis ≠ .none ∨ s.reck.theta = none → t.reck.theta = none)
      ∧ (held ≠ .lost → s.reck.basis ≠ .scale ∨ r.thetaM ≠ none →
          t.reck.theta = s.reck.thetaScale.map clampAngle)
      ∧ t.gradeUnit.recordedLead = some r.grade ∧ t.gradeUnit.capped = capped
      ∧ t.gradeUnit.sub = .idle ∧ t.gradeUnit.held = none ∧ t.gradeUnit.candidates = list
      ∧ t.gradeUnit.candidateCapture = (if list = [] then none else some c)
      ∧ t.gradeUnit.recoveryAnchor = some c.count
      ∧ t.gradeUnit.lastDecision =
          some { kind := .recovery, markNumber := s.mark.number, course := some course, k := k
                 agreed := agreed, result := held, n := none }
      ∧ (s.mark.reportAwaiting = true → c.good = true →
          t.link.queue.markReport =
            some (.markReport
              { number := s.mark.number, grade := held, captureGood := true, scaleValid := c.scaleValid
                pM := BitVec.ofNat 16 c.pM, sM := BitVec.ofNat 16 (c.scaleCount.getD 0)
                thetaM :=
                  if held = .lost then none
                  else
                    some (clampInt angleMin angleMax (scaleAngle (setupOf s) s.reck.sigma (c.scaleCount.getD 0))) }))

/-- Turn resolution fixes a count with RESOLVED or above and lists nothing, or fixes none with COARSE or below (R114). -/
theorem tableOf_grade (su : Setup) (b : Bool) (theta0 : Int) (pM : Nat) (cands : List Candidate) (snap : Option SnapTest) :
    ((tableOf su b theta0 pM cands snap).n ≠ none →
        gradeCode .resolved ≤ gradeCode (tableOf su b theta0 pM cands snap).grade
          ∧ (tableOf su b theta0 pM cands snap).list = [])
      ∧ ((tableOf su b theta0 pM cands snap).n = none →
        gradeCode (tableOf su b theta0 pM cands snap).grade ≤ gradeCode .coarse) := by
  rw [tableOf_eq]
  unfold tableOn
  dsimp only
  split <;> (try split_ifs) <;> simp [verdictOf, gradeCode]

section AtReport

variable {now : Instant} {m : Station} {r : MarkReport} {c : Capture} {s : State}

/-- A verdict that fixes no count, at the lead's report. -/
theorem reportUnfixed {v : Verdict}
    (hstep : exec (.markReportArrival now m r) s
      = .next (finish false (tick now s) (decideOn c (reportTaken now m r s))))
    (hlead : lead s = some m) (hphase : s.phase = .recovery) (hsub : s.search.sub = .none)
    (hv : verdictOn c (reportTaken now m r s) = v) (hn : v.n = none) (hlow : gradeCode v.grade ≤ gradeCode .coarse) :
    ReportUnfixed now m r c s (courseOf (reportTaken now m r s)) v.grade v.k v.agreed v.list
      (decide (courseOf (reportTaken now m r s) = .noLead)
        || (s.gradeUnit.capped && decide (gradeCode r.grade < gradeCode v.grade))) := by
  obtain ⟨xp, -, xr, xs, -, xset, -, -, xq, xn, xa, xg, -⟩ := reportTaken_frame now m r s
  obtain ⟨xl, xlg, xc⟩ := reportTaken_lead (now := now) (r := r) hlead
  obtain ⟨-, xlam⟩ := reportTaken_course (now := now) (r := r) hlead
  intro hsum
  have hrep : leadReported (reportTaken now m r s) = some r := by simp [leadReported, xg, xc]
  generalize reportTaken now m r s = x at *
  have xphase : x.phase = .recovery ∨ x.phase = .ready := .inl (xp.trans hphase)
  have xsub : x.search.sub = .none := by rw [xs, hsub]
  have hset : setupOf x = setupOf s := xset
  have hshift : shiftOf c x = 0 := by rw [shiftOf, hv, hn]; rfl
  have hsum' : countInRange (x.reck.count + shiftOf c x) = true := by rw [hshift, xr, add_zero]; exact hsum
  have hby := decidedBy (c := c) xphase hv
  unfold DecidedBy at hby
  rw [hn] at hby
  obtain ⟨d1, d2, d3, d4, d5, d6, d7, -, d9, d10, -, d12, d13, d14, d15, d16, -, d18, -, -, d21⟩ :=
    hby (by simpa [xr] using hsum)
  have hd : decideOn c x = decided c x := decideOn_inRange (by rw [sumDecided_eq]; exact hsum')
  have hresult : gradeMin v.grade (ceiling (decideOn c x)) = gradeMin v.grade r.grade := by
    rw [gradeMin_ceiling_low hlow, decideOn_leadGrade, xlg]
    rfl
  obtain ⟨t1, t2, t3, t4, t5, t6, t7, t8, -⟩ := finish_decided (s0 := tick now s) (decideOn c x).claim xsub hsum' xphase
  rw [hresult] at d2 d6 d7 d14 d21
  refine ⟨_, hstep, t1.trans d1, (t4.trans d4).trans xlam, (t3.trans d3).trans (by simp [xr]), (t5.trans d5).trans (by simp [xr]),
    (t6.trans d6).trans (by simp), by rw [t2, d2], fun hl hb => t7.trans (d7 hl (by rw [xr]; exact hb)), fun hl hb => ?_,
    by rw [t2, d15, if_pos xc, xlg], by rw [t2, d16 xc, xlg, xg]; rfl, by rw [t2, d9], by rw [t2, d10], by rw [t2, d12],
    by rw [t2, d13], ?_, ?_, fun ha hgood => ?_⟩
  · have htaken : ThetaOfScale (takeLeadAngle x).reck := by
      rcases hb with hb | hb
      · intro hscale
        exact absurd (by simpa [xr] using hscale) hb
      · obtain ⟨a, ha⟩ := Option.ne_none_iff_exists'.mp hb
        have hsome : ((leadReported x).bind fun r => r.thetaM) = some a := by rw [hrep]; exact ha
        rw [takeLeadAngle_eq, hsome]
        exact setLambda_thetaOfScale a x
    have hscale : (decided c x).reck.basis = .scale := by
      rw [← hd, d6, if_neg hl]
      rfl
    rw [t7, hd, (decided_thetaOfScale htaken hscale).1, ← hd]
    simp [xr]
  · rw [t2, d18, if_pos (xp.trans hphase)]
    simp
  · rw [t2, d14, if_pos (xp.trans hphase), xn]
    rfl
  · refine (t8.trans (d21 (xa.trans ha) hgood)).trans ?_
    rw [xn, hset, xr]
    rfl

/-- The candidates and the table of a recovery decision at the lead's report, in the terms of the station before it. -/
theorem reportTaken_table (c : Capture) (hlead : lead s = some m) (hphase : s.phase = .recovery) :
    candidatesTaken c (reportTaken now m r s)
        = candidatesOf (setupOf s) (s.port.tau.getD 0) s.reck.theta0
            (leadTerm (setupOf s) true (r.thetaM.getD s.reck.lambda))
            (scaleAngle (setupOf s) s.reck.sigma (c.scaleCount.getD 0)) c.pM
      ∧ tableTaken c (reportTaken now m r s)
        = tableOf (setupOf s) true s.reck.theta0 c.pM (candidatesTaken c (reportTaken now m r s))
            (s.gradeUnit.chosen.bind (snapTestOf (setupOf s) true)) := by
  obtain ⟨xp, -, xr, -, -, xset, -, xtau, -, -, -, xg, -⟩ := reportTaken_frame now m r s
  obtain ⟨-, -, xc⟩ := reportTaken_lead (now := now) (r := r) hlead
  obtain ⟨-, xlam⟩ := reportTaken_course (now := now) (r := r) hlead
  generalize reportTaken now m r s = x at *
  have hset : setupOf x = setupOf s := xset
  have hsnap : snapshotTaken c x = s.gradeUnit.chosen := by
    rw [snapshotTaken, xp.trans hphase, xg]
    simp
  constructor
  · rw [candidatesTaken, captureScale, xlam, hset, xtau, xr, xc]
  · rw [tableTaken, hset, xc, xr, hsnap]

/-- Turn resolution that fixes a count, at the lead's report. -/
theorem report_fixes {k : Candidate}
    (hstep : exec (.markReportArrival now m r) s
      = .next (finish false (tick now s) (decideOn c (reportTaken now m r s))))
    (hlead : lead s = some m) (hphase : s.phase = .recovery) (hsub : s.search.sub = .none)
    {v : Verdict} (hv : verdictOn c (reportTaken now m r s) = v) (hn : v.n = some k)
    (hcourse : courseOf (reportTaken now m r s) = .resolution)
    (hgrade : gradeMin v.grade r.grade ≠ .lost) (hst : s.reck.started = true) (hbad : s.sensor.badScale < 3)
    (hsum : countInRange (s.reck.count + (k.n * (cprOf (setupOf s) : Int) + (c.pM : Int) - c.count)) = true)
    (hangle : angleInRange (angleOfCount (setupOf s) s.reck.theta0
      (leadTerm (setupOf s) true (r.thetaM.getD s.reck.lambda))
      (s.reck.count + (k.n * (cprOf (setupOf s) : Int) + (c.pM : Int) - c.count))) = true) :
    let d := k.n * (cprOf (setupOf s) : Int) + (c.pM : Int) - c.count
    ∃ t, exec (.markReportArrival now m r) s = .next t ∧ t.phase = .ready
      ∧ t.reck.lambda = r.thetaM.getD s.reck.lambda ∧ t.reck.count = s.reck.count + d ∧ t.reck.turnOffset = d
      ∧ t.reck.basis = .counts
      ∧ t.reck.theta = some (angleOfCount (setupOf s) s.reck.theta0
          (leadTerm (setupOf s) true (r.thetaM.getD s.reck.lambda)) (s.reck.count + d))
      ∧ t.gradeUnit.grade = gradeMin v.grade r.grade ∧ t.gradeUnit.recordedLead = some r.grade
      ∧ t.gradeUnit.capped = (s.gradeUnit.capped && decide (gradeCode r.grade < gradeCode v.grade))
      ∧ t.gradeUnit.sub = .idle ∧ t.gradeUnit.held = none ∧ t.gradeUnit.candidates = v.list
      ∧ t.gradeUnit.recoveryAnchor = some (c.count + d)
      ∧ t.gradeUnit.lastDecision =
          some { kind := .recovery, markNumber := s.mark.number, course := some .resolution, k := v.k
                 agreed := v.agreed, result := gradeMin v.grade r.grade, n := some k.n }
      ∧ (s.mark.reportAwaiting = true → c.good = true →
          t.link.queue.markReport =
            some (.markReport
              { number := s.mark.number, grade := gradeMin v.grade r.grade, captureGood := true
                scaleValid := c.scaleValid, pM := BitVec.ofNat 16 c.pM, sM := BitVec.ofNat 16 (c.scaleCount.getD 0)
                thetaM :=
                  if gradeMin v.grade r.grade = .lost then none else some (clampInt angleMin angleMax k.theta) })) := by
  intro d
  obtain ⟨xp, xsens, xr, xs, -, xset, -, -, xq, xn, xa, xg, -⟩ := reportTaken_frame now m r s
  obtain ⟨xl, xlg, xc⟩ := reportTaken_lead (now := now) (r := r) hlead
  obtain ⟨-, xlam⟩ := reportTaken_course (now := now) (r := r) hlead
  generalize reportTaken now m r s = x at *
  have xphase : x.phase = .recovery ∨ x.phase = .ready := .inl (xp.trans hphase)
  have xsub : x.search.sub = .none := by rw [xs, hsub]
  have hset : setupOf x = setupOf s := xset
  have hshift : shiftOf c x = d := by
    rw [shiftOf, hv, hn, hset]
    rfl
  have hsum' : countInRange (x.reck.count + shiftOf c x) = true := by rw [hshift, xr]; exact hsum
  have hby := decidedBy (c := c) xphase hv
  unfold DecidedBy at hby
  rw [hn, hcourse, hset] at hby
  obtain ⟨d1, d2, d3, d4, d5, d6, -, d8, d9, d10, -, d12, -, d14, d15, d16, -, d18, -, -, d21⟩ :=
    hby (by simpa [xr] using hsum)
  have hd : decideOn c x = decided c x := decideOn_inRange (by rw [sumDecided_eq]; exact hsum')
  have hsat : (decideOn c x).reck.saturated = false := by
    rw [hd]
    refine decided_saturated (by rw [hv, hn]; simp) (by rw [xr]; exact hst) hsum' ?_
    rw [hset, xc, xlam, xr, hshift]
    exact hangle
  have hceiling : ceiling (decideOn c x) = r.grade := by
    rw [ceiling_clear hsat (by simpa [xsens] using hbad), decideOn_leadGrade, xlg]
    rfl
  obtain ⟨t1, t2, t3, t4, t5, t6, t7, t8, -⟩ := finish_decided (s0 := tick now s) (decideOn c x).claim xsub hsum' xphase
  rw [hceiling] at d2 d6 d8 d14 d21
  refine ⟨_, hstep, t1.trans d1, (t4.trans d4).trans xlam, (t3.trans d3).trans (by rw [xr]; rfl), t5.trans d5, ?_, ?_,
    by rw [t2, d2], by rw [t2, d15, if_pos xc, xlg], by rw [t2, d16 xc, xlg, xg]; simp, by rw [t2, d9], by rw [t2, d10],
    by rw [t2, d12], ?_, ?_, fun ha hgood => ?_⟩
  · rw [t6, d6, if_neg hgrade]
    rfl
  · rw [t7, d8 hgrade (by simp) (by rw [xr]; exact hst), xc, xlam, xr]
    exact congrArg some (clampAngle_of_inRange hangle)
  · rw [t2, d18, if_pos (xp.trans hphase)]
    rfl
  · rw [t2, d14, if_pos (xp.trans hphase), xn]
    rfl
  · refine (t8.trans (d21 (xa.trans ha) hgood)).trans ?_
    rw [xn]
    rfl

end AtReport

end Sys2Proof.Machine
end

section
/-! PROOFS. O34: the recovery decision of an uncoupled station at its capture, and the four parts together. -/

namespace Sys2Proof.Machine

/-! ### What a decision notes -/

theorem decided_faultShown {r : FaultRecord} {c : Capture} {s : State}
    (h : FaultShown r (raiseVerdictNotes c (verdictOn c s) (takeLeadAngle s))) : FaultShown r (decided c s) := by
  have h1 : FaultShown r (gradeByVerdict (verdictOn c s) (turnTaken c s)) :=
    gradeByVerdict_faultShown _ (fixTurn_faultShown _ _ _ h)
  unfold decided decisionShown reported graded
  dsimp only
  (repeat' split) <;> simpa [FaultShown] using h1

/-- A decision with candidates listed sets the GRADE cause (R112). -/
theorem decided_gradeAttention {c : Capture} {s : State} (h : (verdictOn c s).list ≠ []) :
    (decided c s).port.attention.grade = true := by
  have he : (verdictOn c s).list.isEmpty = false := by simpa using h
  unfold decided
  simp only [he, Bool.false_eq_true, ↓reduceIte]
  split_ifs <;> rfl

theorem takeLeadAngle_uncoupled {s : State} (h : coupled s = false) : takeLeadAngle s = s := by simp [takeLeadAngle, h]

/-- A verdict without a candidate notes SCALE_DISAGREE first (R114). -/
theorem noted_disagree {c : Capture} {s : State} (hc : coupled s = false) (hv : (verdictOn c s).disagree = true) :
    ∃ a, FaultShown (raise (.note .scaleDisagree) a (scaleTau s) (own s) s).fault.record (decided c s) := by
  refine ⟨(leastDistance (setupOf s) (scaleTau s) s.reck.theta0 (decisionLeadTerm s) (captureScale s c) c.pM : Int),
    decided_faultShown ?_⟩
  rw [takeLeadAngle_uncoupled hc, raiseVerdictNotes, hv, if_pos rfl]
  have h1 := raise_shown (.note .scaleDisagree)
    (leastDistance (setupOf s) (scaleTau s) s.reck.theta0 (decisionLeadTerm s) (captureScale s c) c.pM : Int)
    (scaleTau s) (own s) s
  split
  · exact h1
  · exact note_faultShown _ _ _ h1

/-- A verdict whose snapshot disagrees with its candidate notes SLIP_DETECTED (R114). -/
theorem noted_slip {c : Capture} {s : State} {x : Nat × Nat} (hc : coupled s = false)
    (hd : (verdictOn c s).disagree = false) (hv : (verdictOn c s).slip = some x) :
    FaultShown (raise (.note .slipDetected) (x.1 : Int) (x.2 : Int) (own s) s).fault.record (decided c s) := by
  refine decided_faultShown ?_
  rw [takeLeadAngle_uncoupled hc, raiseVerdictNotes, hd, hv]
  exact raise_shown _ _ _ _ _

/-! ### The decision at the capture -/

/-- The station at the decision of the capture of a good sample. -/
def atDecision (now : Instant) (p : Nat) (flag : Bool) (s : State) : State :=
  captureHeld (goodCapture p (sampled now p flag s)) (sampled now p flag s)

/-- M as the sample leaves it, without an overflow. -/
def countSampled (p : Nat) (s : State) : Int := if s.reck.started = true then s.reck.count + stepOf s p else (p : Int)

section Uncoupled

variable {now : Instant} {p : Nat} {flag : Bool} {s : State}

theorem atDecision_frame :
    (atDecision now p flag s).phase = s.phase ∧ leadInputs (atDecision now p flag s) = leadInputs s
      ∧ (atDecision now p flag s).search = s.search ∧ (atDecision now p flag s).claim = s.claim
      ∧ (atDecision now p flag s).gradeUnit
        = { s.gradeUnit with held := some (goodCapture p (sampled now p flag s)) }
      ∧ (atDecision now p flag s).mark.number = s.mark.number ∧ (atDecision now p flag s).mark.reportAwaiting = true
      ∧ (atDecision now p flag s).port.setup = s.port.setup ∧ (atDecision now p flag s).port.tau = s.port.tau
      ∧ (atDecision now p flag s).sensor.badScale = s.sensor.badScale
      ∧ (atDecision now p flag s).reck = (counted p (tick now s)).reck := by
  obtain ⟨fp, fm, fg, fc, fs, -, fset, ftau, fi, -, fbad⟩ := sampled_frame now p flag s
  refine ⟨fp, fi, fs, fc, ?_, ?_, rfl, fset, ftau, fbad, rfl⟩
  · exact congrArg (fun g : GradeUnit => { g with held := some (goodCapture p (sampled now p flag s)) }) fg
  · change (sampled now p flag s).mark.number = _
    rw [fm]

theorem atDecision_reck
    (hq : s.reck.started = true → countInRange (s.reck.count + stepOf s p) = true) :
    (atDecision now p flag s).reck.count = countSampled p s ∧ (atDecision now p flag s).reck.started = true
      ∧ (atDecision now p flag s).reck.theta0 = s.reck.theta0 ∧ (atDecision now p flag s).reck.sigma = s.reck.sigma
      ∧ (atDecision now p flag s).reck.calibrated = s.reck.calibrated
      ∧ (atDecision now p flag s).reck.lambda = s.reck.lambda ∧ (atDecision now p flag s).reck.basis = s.reck.basis
      ∧ (atDecision now p flag s).reck.thetaScale = s.reck.thetaScale
      ∧ (atDecision now p flag s).reck.turnOffset = s.reck.turnOffset := by
  obtain ⟨-, -, -, -, -, -, -, -, -, -, hr⟩ := atDecision_frame (now := now) (p := p) (flag := flag) (s := s)
  have hcount : (counted p (tick now s)).reck.count = countSampled p s := by
    rw [counted_count, countSampled]
    by_cases hst : s.reck.started = true
    · rw [if_pos (by simpa using hst), if_pos hst]
      exact clampCount_of_inRange (hq hst)
    · rw [if_neg (by simpa using hst), if_neg hst]
  rw [hr, hcount]
  simp

/-- The angle of the sample is that of its basis (R13, R14). -/
theorem atDecision_theta : ThetaOfScale (atDecision now p flag s).reck
    ∧ ((atDecision now p flag s).reck.basis ≠ .none ∨ (atDecision now p flag s).reck.theta = none) := by
  obtain ⟨-, -, -, -, -, -, -, -, -, -, hr⟩ := atDecision_frame (now := now) (p := p) (flag := flag) (s := s)
  rw [hr]
  constructor
  · intro hb
    have hf : formedAngle (counted p (tick now s)) = (counted p (tick now s)).reck.thetaScale := by
      rw [formedAngle, hb]
    rw [counted_theta, counted_saturated, hf]
    exact ⟨rfl, fun a ha => by rw [ha]; rfl⟩
  · by_cases hb : (counted p (tick now s)).reck.basis = .none
    · right
      rw [counted_theta, formedAngle, hb]
      rfl
    · exact .inl hb

/-- Outside basis COUNTS, with θ_scale in range, the sample raises nothing. -/
theorem atDecision_fault (hb : s.reck.basis ≠ .counts) (ha : ∀ a, s.reck.thetaScale = some a → angleInRange a = true) :
    (atDecision now p flag s).fault = s.fault := by
  have hcounted : (counted p (tick now s)).fault = (tick now s).fault := by
    refine counted_fault (.inr fun x hx => ?_)
    unfold formedAngle at hx
    cases hbasis : s.reck.basis with
    | none => simp [hbasis] at hx
    | counts => exact absurd hbasis hb
    | scale => exact ha x (by simpa [hbasis] using hx)
  exact hcounted.trans (by simp)

/-- The good sample at whose capture the decision of an uncoupled station is made (R109). -/
theorem sample_decides {v : BitVec 16} (hrst : s.levels.rstLow = false) (hp : s.phase = .recovery)
    (hs : s.search.sub = .none) (hl : lead s = none) (hc : s.mark.captureRequested = true)
    (hserved : (servedBy s).recovery = true) (hread : s.gradeUnit.readPending = false) (hvalid : scaleValid s = true)
    (hmove : moving s = false) (hv : v.toNat % cprOf (setupOf s) = p)
    (hq : s.reck.started = true → 4 * (stepOf s p).natAbs ≤ cprOf (setupOf s)
      ∧ countInRange (s.reck.count + stepOf s p) = true) :
    ∃ cl, exec (.motorSample now (.good v) flag) s
      = .next (finish false (tick now s)
          { decideOn (goodCapture p (sampled now p flag s)) (atDecision now p flag s) with claim := cl }) := by
  obtain ⟨fp, fm, fg, fc, fs, -, -, -, fi, fsc, fbad⟩ := sampled_frame now p flag s
  have hstep := sample_captures (flag := flag) (now := now) hrst hs hc (by rw [hv]; exact hq)
  rw [hv] at hstep
  have hserved' : servedBy (sampled now p flag s) = servedBy s := by rw [servedBy, servedBy, fm]
  have hans := captureAnswered_decides (c := goodCapture p (sampled now p flag s)) (s := sampled now p flag s)
    (by rw [fs, hs]) (.inl (by rw [hserved']; exact hserved))
  have hused : ((goodCapture p (sampled now p flag s)).good && (goodCapture p (sampled now p flag s)).scaleValid) = true := by
    have h : scaleValid (sampled now p flag s) = scaleValid s := by simp [scaleValid, scaleFailed, fsc, fbad]
    simp [goodCapture, h, hvalid]
  rw [if_pos hused] at hans
  obtain ⟨xp, xi, xs, xc, xg, -⟩ := atDecision_frame (now := now) (p := p) (flag := flag) (s := s)
  change captureAnswered _ _ = advanceDecision (atDecision now p flag s) at hans
  generalize atDecision now p flag s = x at *
  have hxs : x.search.sub = .none := by rw [xs, hs]
  have hxp : x.phase = .recovery ∨ x.phase = .ready := .inl (xp.trans hp)
  have hawait : leadAwaited x = false := by
    rw [leadAwaited, coupled_of_inputs xi, coupled, hl]
    rfl
  have hdec : advanceDecision x = decideOn (goodCapture p (sampled now p flag s)) x := by
    simp [advanceDecision, hawait, xg, hread, decideHeld]
  obtain ⟨-, hmoving⟩ := decideOn_capture (c := goodCapture p (sampled now p flag s)) hxp hxs
    ((moving_congr (by rw [xc]) (by rw [xc])).trans hmove)
  have hdp := decideOn_phase (c := goodCapture p (sampled now p flag s)) hxp
  obtain ⟨cl, hcl⟩ := checks_no_search (decideOn_no_search (c := goodCapture p (sampled now p flag s)) hxs) hmoving
    (by rcases hdp with h | ⟨h, -⟩ <;> simp [h])
  exact ⟨cl, by rw [hstep, hans, hdec, hcl]⟩

/-- The candidates and the table of an uncoupled station's decision, in the terms of the station before the sample. -/
theorem atDecision_table {sm : Nat} (hl : lead s = none) (hp : s.phase = .recovery)
    (hsm : s.sensor.latestScale = some sm) :
    let c := goodCapture p (sampled now p flag s)
    candidatesTaken c (atDecision now p flag s)
        = candidatesOf (setupOf s) (s.port.tau.getD 0) s.reck.theta0 0 (scaleAngle (setupOf s) s.reck.sigma sm) p
      ∧ tableTaken c (atDecision now p flag s)
        = tableOf (setupOf s) false s.reck.theta0 p (candidatesTaken c (atDecision now p flag s))
            (s.gradeUnit.chosen.bind (snapTestOf (setupOf s) false))
      ∧ captureScale (atDecision now p flag s) c = scaleAngle (setupOf s) s.reck.sigma sm := by
  intro c
  obtain ⟨xp, xi, -, -, xg, -, -, xset, xtau, -, xr⟩ := atDecision_frame (now := now) (p := p) (flag := flag) (s := s)
  obtain ⟨-, -, -, -, -, -, -, -, -, fsc, -⟩ := sampled_frame now p flag s
  have hscale : c.scaleCount = some sm := fsc.trans hsm
  generalize atDecision now p flag s = x at *
  have hset : setupOf x = setupOf s := xset
  have hc : coupled x = false := by
    rw [coupled_of_inputs xi, coupled, hl]
    rfl
  have h0 : x.reck.theta0 = s.reck.theta0 := by rw [xr]; simp
  have hsig : x.reck.sigma = s.reck.sigma := by rw [xr]; simp
  have hsnap : snapshotTaken c x = s.gradeUnit.chosen := by
    rw [snapshotTaken, xp.trans hp, xg]
    simp
  have hcap : captureScale x c = scaleAngle (setupOf s) s.reck.sigma sm := by rw [captureScale, hset, hsig, hscale]; rfl
  refine ⟨?_, ?_, hcap⟩
  · rw [candidatesTaken, hset, xtau, h0, hc, hcap]
    rfl
  · rw [tableTaken, hset, hc, h0, hsnap]
    rfl

/-- What the decision of an uncoupled station leaves where it fixes no count (R106, R110, R112, R114). -/
def SampleUnfixed (now : Instant) (w : BitVec 16) (flag : Bool) (s : State) (sm : Nat) (course : Course) (g : Grade)
    (k agreed : Nat) (list : List Candidate) : Prop :=
  let su := setupOf s
  let v := w.toNat % cprOf su
  let d := unwrapStep (cprOf su) v (s.reck.lastGood.getD v)
  let m := if s.reck.started = true then s.reck.count + d else (v : Int)
  let scaleTheta := scaleAngle su s.reck.sigma sm
  let cands := candidatesOf su (s.port.tau.getD 0) s.reck.theta0 0 scaleTheta v
  let steady : Prop := s.reck.basis ≠ .counts ∧ ∀ a, s.reck.thetaScale = some a → angleInRange a = true
  ∃ t, exec (.motorSample now (.good w) flag) s = .next t ∧ t.phase = .ready
    ∧ t.reck.count = m ∧ t.reck.turnOffset = s.reck.turnOffset
    ∧ t.reck.basis = (if g = .lost then .none else .scale) ∧ t.gradeUnit.grade = g
    ∧ (g = .lost → t.reck.theta = none)
    ∧ (g ≠ .lost → ∀ a, s.reck.thetaScale = some a → t.reck.theta = some (clampAngle a))
    ∧ t.gradeUnit.sub = .idle ∧ t.gradeUnit.held = none ∧ t.gradeUnit.candidates = list
    ∧ (list ≠ [] → t.port.attention.grade = true
        ∧ ∃ c, t.gradeUnit.candidateCapture = some c ∧ c.pM = v ∧ c.count = m)
    ∧ t.gradeUnit.recoveryAnchor = some m
    ∧ t.gradeUnit.lastDecision =
        some { kind := .recovery, markNumber := s.mark.number, course := some course, k := k
               agreed := agreed, result := g, n := none }
    ∧ t.link.queue.markReport =
        some (.markReport
          { number := s.mark.number, grade := g, captureGood := true, scaleValid := true, pM := BitVec.ofNat 16 v
            sM := BitVec.ofNat 16 sm
            thetaM := if g = .lost then none else some (clampInt angleMin angleMax scaleTheta) })
    ∧ (course = .resolution → cands = [] → t.port.attention.fault = true
        ∧ (s.fault.record.locked = false → steady →
            t.fault.record.cause = some (.note .scaleDisagree)
              ∧ t.fault.record.b = faultValue (s.port.tau.getD 0)))

end Uncoupled

/-- What a decision of an uncoupled station in RECOVERY stands on at the capture of a good sample. -/
structure CaptureDue (w : BitVec 16) (s : State) (sm : Nat) : Prop where
  awake : s.levels.rstLow = false
  recovering : s.phase = .recovery
  noSearch : s.search.sub = .none
  noLead : lead s = none
  requested : s.mark.captureRequested = true
  served : (servedBy s).recovery = true
  read : s.gradeUnit.readPending = false
  scale : s.sensor.latestScale = some sm
  scaleGood : s.sensor.badScale < 3
  still : moving s = false
  quiet : s.reck.started = true →
    4 * (stepOf s (w.toNat % cprOf (setupOf s))).natAbs ≤ cprOf (setupOf s)
      ∧ countInRange (s.reck.count + stepOf s (w.toNat % cprOf (setupOf s))) = true

section Decisions

variable {now : Instant} {w : BitVec 16} {flag : Bool} {s : State} {sm : Nat}

theorem CaptureDue.valid (h : CaptureDue w s sm) : scaleValid s = true := by
  have := h.scaleGood
  simp [scaleValid, scaleFailed, h.scale, this]

/-- The count of the sample lies in the range of M. -/
theorem CaptureDue.countInRange (h : CaptureDue w s sm) :
    countInRange (countSampled (w.toNat % cprOf (setupOf s)) s) = true := by
  unfold countSampled
  split_ifs with hst
  · exact (h.quiet hst).2
  · have hle : w.toNat % cprOf (setupOf s) ≤ w.toNat := Nat.mod_le _ _
    have hlt : w.toNat < 65536 := w.isLt
    rw [countInRange_iff, countMin, countMax]
    omega

/-- The station `x` and the capture `c` that a decision due at the sample is made of, in the terms of the station before it. -/
structure DecisionAt (w : BitVec 16) (s : State) (sm : Nat) (c : Capture) (x : State) : Prop where
  phase : x.phase = .recovery
  noSearch : x.search.sub = .none
  uncoupled : coupled x = false
  unled : leadGrade x = none
  number : x.mark.number = s.mark.number
  awaiting : x.mark.reportAwaiting = true
  setup : setupOf x = setupOf s
  tau : scaleTau x = s.port.tau.getD 0
  scaleGood : x.sensor.badScale < 3
  count : x.reck.count = countSampled (w.toNat % cprOf (setupOf s)) s
  started : x.reck.started = true
  sigma : x.reck.sigma = s.reck.sigma
  calibrated : x.reck.calibrated = s.reck.calibrated
  thetaScale : x.reck.thetaScale = s.reck.thetaScale
  turnOffset : x.reck.turnOffset = s.reck.turnOffset
  angle : ThetaOfScale x.reck
  basisless : x.reck.basis ≠ .none ∨ x.reck.theta = none
  fault : s.reck.basis ≠ .counts → (∀ a, s.reck.thetaScale = some a → angleInRange a = true) → x.fault = s.fault
  good : c.good = true
  pM : c.pM = w.toNat % cprOf (setupOf s)
  countM : c.count = countSampled (w.toNat % cprOf (setupOf s)) s
  scaleCount : c.scaleCount = some sm
  scaleValid : c.scaleValid = true
  candidates : candidatesTaken c x
    = candidatesOf (setupOf s) (s.port.tau.getD 0) s.reck.theta0 0 (scaleAngle (setupOf s) s.reck.sigma sm)
        (w.toNat % cprOf (setupOf s))
  table : tableTaken c x
    = tableOf (setupOf s) false s.reck.theta0 (w.toNat % cprOf (setupOf s)) (candidatesTaken c x)
        (s.gradeUnit.chosen.bind (snapTestOf (setupOf s) false))

/-- The decision that is due is made at the sample. -/
theorem CaptureDue.decision (h : CaptureDue w s sm) : ∃ c x cl, DecisionAt w s sm c x
    ∧ exec (.motorSample now (.good w) flag) s
      = .next (finish false (tick now s) { decideOn c x with claim := cl }) := by
  generalize hp : w.toNat % cprOf (setupOf s) = p
  obtain ⟨cl, hstep⟩ := sample_decides (now := now) (flag := flag) h.awake h.recovering h.noSearch h.noLead
    h.requested h.served h.read h.valid h.still hp (by have := h.quiet; rwa [hp] at this)
  obtain ⟨xp, xi, xs, -, xg, xn, xa, xset, xtau, xbad, -⟩ :=
    atDecision_frame (now := now) (p := p) (flag := flag) (s := s)
  obtain ⟨xm, xst, x0, xsig, xcal, xlam, xb, xts, xoff⟩ :=
    atDecision_reck (now := now) (p := p) (flag := flag) (s := s) fun hst => by
      have := (h.quiet hst).2
      rwa [hp] at this
  obtain ⟨xscale, xbasis⟩ := atDecision_theta (now := now) (p := p) (flag := flag) (s := s)
  obtain ⟨hcands, htable, -⟩ := atDecision_table (now := now) (p := p) (flag := flag) h.noLead h.recovering h.scale
  obtain ⟨-, -, -, -, -, -, -, -, -, fsc, fbad⟩ := sampled_frame now p flag s
  have hvalid : Sys2Proof.Machine.scaleValid (sampled now p flag s) = Sys2Proof.Machine.scaleValid s := by
    simp [Sys2Proof.Machine.scaleValid, scaleFailed, fsc, fbad]
  refine ⟨_, _, cl, ?_, hstep⟩
  exact
    { phase := xp.trans h.recovering
      noSearch := by rw [xs, h.noSearch]
      uncoupled := by rw [coupled_of_inputs xi, coupled, h.noLead]; rfl
      unled := by rw [leadGrade_of_inputs xi, leadGrade, h.noLead]; rfl
      number := xn, awaiting := xa, setup := xset, tau := congrArg (fun t : Option Int => t.getD 0) xtau
      scaleGood := by rw [xbad]; exact h.scaleGood
      count := by rw [hp]; exact xm
      started := xst, sigma := xsig, calibrated := xcal, thetaScale := xts, turnOffset := xoff, angle := xscale
      basisless := xbasis, fault := fun hb ha => atDecision_fault hb ha, good := rfl, pM := hp.symm
      countM := by rw [hp]; exact xm
      scaleCount := fsc.trans h.scale, scaleValid := hvalid.trans h.valid
      candidates := by rw [hp]; exact hcands
      table := by rw [hp]; exact htable }

section At

variable {c : Capture} {x : State}

/-- A verdict that fixes no count, at the capture. -/
theorem DecisionAt.unfixed {cl : Claim} {v : Verdict} (h : DecisionAt w s sm c x)
    (hstep : exec (.motorSample now (.good w) flag) s
      = .next (finish false (tick now s) { decideOn c x with claim := cl }))
    (hrange : Sys2Proof.Machine.countInRange (countSampled (w.toNat % cprOf (setupOf s)) s) = true)
    (hv : verdictOn c x = v) (hn : v.n = none) (hlow : gradeCode v.grade ≤ gradeCode .coarse)
    (hdis : courseOf x = .resolution → candidatesTaken c x = [] → v.disagree = true) :
    SampleUnfixed now w flag s sm (courseOf x) v.grade v.k v.agreed v.list := by
  have hphase : x.phase = .recovery ∨ x.phase = .ready := .inl h.phase
  have hshift : shiftOf c x = 0 := by rw [shiftOf, hv, hn]; rfl
  have hsum : Sys2Proof.Machine.countInRange (x.reck.count + shiftOf c x) = true := by
    rw [hshift, add_zero, h.count]
    exact hrange
  have hby := decidedBy (c := c) hphase hv
  unfold DecidedBy at hby
  rw [hn] at hby
  obtain ⟨d1, d2, d3, -, d5, d6, d7, -, d9, d10, -, d12, d13, d14, -, -, -, d18, -, -, d21⟩ :=
    hby (by rw [hshift] at hsum; exact hsum)
  have hd : decideOn c x = decided c x := decideOn_inRange (by rw [sumDecided_eq]; exact hsum)
  have hresult : gradeMin v.grade (ceiling (decideOn c x)) = v.grade := by
    rw [gradeMin_ceiling_low hlow, decideOn_leadGrade, h.unled]
    exact gradeMin_eq_left (by cases v.grade <;> simp [gradeCode])
  obtain ⟨t1, t2, t3, -, t5, t6, t7, t8, t9⟩ := finish_decided (s0 := tick now s) cl h.noSearch hsum hphase
  rw [hresult] at d2 d6 d7 d14 d21
  refine ⟨_, hstep, t1.trans d1, (t3.trans d3).trans ((add_zero _).trans h.count), (t5.trans d5).trans h.turnOffset,
    (t6.trans d6).trans rfl, by rw [t2, d2], fun hl => t7.trans (d7 hl h.basisless), fun hl a ha => ?_, by rw [t2, d9],
    by rw [t2, d10], by rw [t2, d12], fun hne => ⟨?_, c, ?_, h.pM, h.countM⟩, ?_, ?_, ?_, fun hres hnil => ?_⟩
  · have hscale : (decided c x).reck.basis = .scale := by
      rw [← hd, d6, if_neg hl]
      rfl
    have htaken : ThetaOfScale (takeLeadAngle x).reck := by rw [takeLeadAngle_uncoupled h.uncoupled]; exact h.angle
    rw [t7, hd, (decided_thetaOfScale htaken hscale).1, ← hd]
    simp [h.thetaScale, ha]
  · rw [t9, hd]
    exact decided_gradeAttention (by rw [hv]; exact hne)
  · rw [t2, d13, if_neg hne]
  · rw [t2, d18, if_pos h.phase, h.countM]
    exact congrArg some (add_zero _)
  · rw [t2, d14, if_pos h.phase, h.number]
    rfl
  · refine (t8.trans (d21 h.awaiting h.good)).trans ?_
    rw [h.number, h.setup, h.sigma, h.pM, h.scaleCount, h.scaleValid]
    rfl
  · obtain ⟨a, hshown⟩ := noted_disagree (c := c) h.uncoupled (by rw [hv]; exact hdis hres (h.candidates.trans hnil))
    rw [← hd] at hshown
    obtain ⟨hatt, -, hrec⟩ := (finish_faultShown false (tick now s) (s := { decideOn c x with claim := cl }) hshown).record
    refine ⟨hatt, fun hlock hsteady => ?_⟩
    obtain ⟨hb, ha⟩ := hsteady
    obtain ⟨hcause, -, -, hbv⟩ := hrec (by rw [h.fault hb ha]; exact hlock)
    exact ⟨hcause, hbv.trans (congrArg faultValue h.tau)⟩

/-- Turn resolution that fixes a count, at the capture of an uncoupled station (R10, R109, R114, R115). -/
theorem DecisionAt.fixed {cl : Claim} {v : Verdict} {k : Candidate} (h : DecisionAt w s sm c x)
    (hstep : exec (.motorSample now (.good w) flag) s
      = .next (finish false (tick now s) { decideOn c x with claim := cl }))
    (hv : verdictOn c x = v) (hn : v.n = some k) (hcal : s.reck.calibrated = true)
    (hhigh : gradeCode .resolved ≤ gradeCode v.grade)
    (hsum : Sys2Proof.Machine.countInRange
      (k.n * (cprOf (setupOf s) : Int) + ((w.toNat % cprOf (setupOf s) : Nat) : Int)) = true)
    (hangle : angleInRange k.theta = true) (hdis : v.disagree = false) :
    let count := k.n * (cprOf (setupOf s) : Int) + ((w.toNat % cprOf (setupOf s) : Nat) : Int)
    ∃ t, exec (.motorSample now (.good w) flag) s = .next t ∧ t.phase = .ready
      ∧ t.reck.count = count ∧ t.reck.basis = .counts
      ∧ t.reck.turnOffset = count - countSampled (w.toNat % cprOf (setupOf s)) s
      ∧ t.reck.theta = some k.theta ∧ t.gradeUnit.grade = v.grade ∧ t.gradeUnit.sub = .idle
      ∧ t.gradeUnit.held = none ∧ t.gradeUnit.candidates = v.list
      ∧ t.gradeUnit.recoveryAnchor = some count
      ∧ t.gradeUnit.lastDecision =
          some { kind := .recovery, markNumber := s.mark.number, course := some .resolution, k := v.k
                 agreed := v.agreed, result := v.grade, n := some k.n }
      ∧ t.link.queue.markReport =
          some (.markReport
            { number := s.mark.number, grade := v.grade, captureGood := true, scaleValid := true
              pM := BitVec.ofNat 16 (w.toNat % cprOf (setupOf s)), sM := BitVec.ofNat 16 sm
              thetaM := if v.grade = .lost then none else some (clampInt angleMin angleMax k.theta) })
      ∧ (∀ y, v.slip = some y → t.port.attention.fault = true
          ∧ (s.fault.record.locked = false →
              (s.reck.basis ≠ .counts ∧ ∀ a, s.reck.thetaScale = some a → angleInRange a = true) →
              t.fault.record.cause = some (.note .slipDetected) ∧ t.fault.record.a = faultValue y.1
                ∧ t.fault.record.b = faultValue y.2)) := by
  intro count
  have hphase : x.phase = .recovery ∨ x.phase = .ready := .inl h.phase
  have hcourse : courseOf x = .resolution := courseOf_resolution (h.calibrated.trans hcal) (.inl h.uncoupled)
  have hshift : shiftOf c x = count - countSampled (w.toNat % cprOf (setupOf s)) s := by
    rw [shiftOf, hv, hn, h.setup]
    change turnCount (setupOf s) c.pM k.n - c.count = _
    rw [h.pM, h.countM]
    rfl
  have hcount : x.reck.count + shiftOf c x = count := by rw [hshift, h.count]; ring
  have hsum' : Sys2Proof.Machine.countInRange (x.reck.count + shiftOf c x) = true := by rw [hcount]; exact hsum
  have hlost : v.grade ≠ .lost := fun hl => by simp [hl, gradeCode] at hhigh
  have hth : angleOfCount (setupOf x) x.reck.theta0 (leadTerm (setupOf x) (coupled x) (lambdaOf x))
      (x.reck.count + shiftOf c x) = k.theta := by
    rw [verdictOn_theta (hv ▸ hn : (verdictOn c x).n = some k), hcount, h.setup, h.pM]
    rfl
  have hsat : (decided c x).reck.saturated = false :=
    decided_saturated (by rw [hv, hn]; simp) h.started hsum' (by rw [hth]; exact hangle)
  have hd : decideOn c x = decided c x := decideOn_inRange (by rw [sumDecided_eq]; exact hsum')
  have hresult : gradeMin v.grade (ceiling (decideOn c x)) = v.grade := by
    rw [hd, ceiling_clear hsat (by rw [(decided_frame c x).1]; exact h.scaleGood), decided_leadGrade, h.unled]
    exact gradeMin_eq_left (by cases v.grade <;> simp [gradeCode])
  have hby := decidedBy (c := c) hphase hv
  unfold DecidedBy at hby
  rw [hn] at hby
  change Sys2Proof.Machine.countInRange (x.reck.count + (turnCount (setupOf x) c.pM k.n - c.count)) = true → _ at hby
  have hoff : turnCount (setupOf x) c.pM k.n - c.count = shiftOf c x := by rw [shiftOf, hv, hn]; rfl
  obtain ⟨d1, d2, d3, -, d5, d6, -, d8, d9, d10, -, d12, -, d14, -, -, -, d18, -, -, d21⟩ :=
    hby (by rw [hoff]; exact hsum')
  rw [hresult] at d2 d6 d8 d14 d21
  obtain ⟨t1, t2, t3, -, t5, t6, t7, t8, -⟩ := finish_decided (s0 := tick now s) cl h.noSearch hsum' hphase
  refine ⟨_, hstep, t1.trans d1, ?_, ?_, ?_, ?_, by rw [t2, d2], by rw [t2, d9], by rw [t2, d10], by rw [t2, d12], ?_, ?_,
    ?_, fun y hy => ?_⟩
  · rw [t3, d3, ← hcount]
    exact congrArg _ hoff
  · rw [t6, d6, if_neg hlost]
    rfl
  · rw [t5, d5, ← hshift]
    exact hoff
  · rw [t7, d8 hlost (by simp) h.started]
    refine congrArg some (Eq.trans (congrArg clampAngle ?_) (clampAngle_of_inRange hangle))
    rw [← hth, ← hoff]
    rfl
  · rw [t2, d18, if_pos h.phase]
    refine congrArg some (Eq.trans (congrArg (c.count + ·) hoff) ?_)
    rw [hshift, h.countM]
    ring
  · rw [t2, d14, if_pos h.phase, h.number, hcourse]
    rfl
  · refine (t8.trans (d21 h.awaiting h.good)).trans ?_
    rw [h.number, h.pM, h.scaleCount, h.scaleValid]
    rfl
  · have hshown := noted_slip (c := c) h.uncoupled (by rw [hv]; exact hdis) (by rw [hv]; exact hy)
    rw [← hd] at hshown
    obtain ⟨hatt, -, hrec⟩ := (finish_faultShown false (tick now s) (s := { decideOn c x with claim := cl }) hshown).record
    refine ⟨hatt, fun hlock hsteady => ?_⟩
    obtain ⟨hb, ha⟩ := hsteady
    obtain ⟨hcause, -, hav, hbv⟩ := hrec (by rw [h.fault hb ha]; exact hlock)
    exact ⟨hcause, hav, hbv⟩

end At

end Decisions

/-! ### The four parts -/

/-- The decision of an uncoupled station at its capture, by its course (R106, R109 to R115). -/
theorem capture_decides {now : Instant} {w : BitVec 16} {flag : Bool} {s : State} {sm : Nat} (h : CaptureDue w s sm) :
    let su := setupOf s
    let v := w.toNat % cprOf su
    let cands := candidatesOf su (s.port.tau.getD 0) s.reck.theta0 0 (scaleAngle su s.reck.sigma sm) v
    let table := tableOf su false s.reck.theta0 v cands (s.gradeUnit.chosen.bind (snapTestOf su false))
    (s.reck.calibrated = true → table.n = none →
        SampleUnfixed now w flag s sm .resolution table.grade table.k table.agreed table.list)
      ∧ (s.reck.calibrated = false → su.scaleWraps = false → SampleUnfixed now w flag s sm .noCalibration .coarse 0 0 [])
      ∧ (s.reck.calibrated = false → su.scaleWraps = true →
          SampleUnfixed now w flag s sm .noCalibration .lost cands.length 0 cands) := by
  intro su v cands table
  obtain ⟨c, x, cl, hx, hstep⟩ := h.decision (now := now) (flag := flag)
  have hcands : candidatesTaken c x = cands := hx.candidates
  have htable : tableTaken c x = table := by rw [hx.table, hcands]
  refine ⟨fun hcal hn => ?_, fun hcal hw => ?_, fun hcal hw => ?_⟩
  · have hcourse : courseOf x = .resolution := courseOf_resolution (hx.calibrated.trans hcal) (.inl hx.uncoupled)
    have hv : verdictOn c x = table := by rw [verdictOn_resolution c x hcourse, htable]
    have hun := hx.unfixed hstep h.countInRange hv hn ((tableOf_grade _ _ _ _ _ _).2 hn) fun _ hnil => by
      have hnil' : cands = [] := hcands.symm.trans hnil
      simp only [table, hnil', tableOf_eq, tableOn_nil]
    rwa [hcourse] at hun
  · have hcourse : courseOf x = .noCalibration := courseOf_uncalibrated (hx.calibrated.trans hcal)
    have hv : verdictOn c x = verdictOf .coarse := by
      rw [verdictOn_noCalibration c x hcourse, hx.setup, show (setupOf s).scaleWraps = false from hw]
      rfl
    have hun := hx.unfixed hstep h.countInRange hv rfl le_rfl fun hres => by simp [hcourse] at hres
    rwa [hcourse] at hun
  · have hcourse : courseOf x = .noCalibration := courseOf_uncalibrated (hx.calibrated.trans hcal)
    have hv : verdictOn c x = { verdictOf .lost with k := cands.length, list := cands } := by
      rw [verdictOn_noCalibration c x hcourse, hx.setup, show (setupOf s).scaleWraps = true from hw, hcands]
      rfl
    have hun := hx.unfixed hstep h.countInRange hv rfl (by simp [verdictOf, gradeCode]) fun hres => by
      simp [hcourse] at hres
    rwa [hcourse] at hun

/-- The decision at the lead's report by its course (R104, R106, R110 to R115). -/
theorem report_decides {now : Instant} {m : Station} {r : MarkReport} {c : Capture} {s : State}
    (hstep : exec (.markReportArrival now m r) s
      = .next (finish false (tick now s) (decideOn c (reportTaken now m r s))))
    (hlead : lead s = some m) (hphase : s.phase = .recovery) (hsub : s.search.sub = .none) :
    let su := setupOf s
    let term := leadTerm su true (r.thetaM.getD s.reck.lambda)
    let cands := candidatesOf su (s.port.tau.getD 0) s.reck.theta0 term
      (scaleAngle su s.reck.sigma (c.scaleCount.getD 0)) c.pM
    let table := tableOf su true s.reck.theta0 c.pM cands (s.gradeUnit.chosen.bind (snapTestOf su true))
    (s.reck.calibrated = true → gradeCode .resolved ≤ gradeCode r.grade → table.n = none →
        ReportUnfixed now m r c s .resolution table.grade table.k table.agreed table.list false)
      ∧ (s.reck.calibrated = true → gradeCode r.grade < gradeCode .resolved →
          ReportUnfixed now m r c s .noLead (if su.scaleWraps = true then .lost else .coarse) 0 0 [] true)
      ∧ (s.reck.calibrated = false → su.scaleWraps = false →
          ReportUnfixed now m r c s .noCalibration .coarse 0 0 []
            (s.gradeUnit.capped && decide (r.grade = .lost)))
      ∧ (s.reck.calibrated = false → su.scaleWraps = true →
          ReportUnfixed now m r c s .noCalibration .lost cands.length 0 cands false) := by
  intro su term cands table
  obtain ⟨xcourse, -⟩ := reportTaken_course (now := now) (r := r) hlead
  obtain ⟨hcands, htable⟩ := reportTaken_table (now := now) (r := r) c hlead hphase
  obtain ⟨-, -, -, -, -, xset, -⟩ := reportTaken_frame now m r s
  have hset : setupOf (reportTaken now m r s) = su := xset
  have hun := fun (v : Verdict) (hv : verdictOn c (reportTaken now m r s) = v) (hn : v.n = none) hlow =>
    reportUnfixed hstep hlead hphase hsub hv hn hlow
  refine ⟨fun hcal hhigh hn => ?_, fun hcal hlow => ?_, fun hcal hw => ?_, fun hcal hw => ?_⟩
  · have hcourse : courseOf (reportTaken now m r s) = .resolution := by
      rw [xcourse, if_pos hcal, if_neg (not_lt.mpr hhigh)]
    have hv : verdictOn c (reportTaken now m r s) = table := by
      rw [verdictOn_resolution c _ hcourse, htable, hcands]
    have hlow := (tableOf_grade su true s.reck.theta0 c.pM cands (s.gradeUnit.chosen.bind (snapTestOf su true))).2 hn
    have hnot : ¬ gradeCode r.grade < gradeCode table.grade :=
      not_lt.mpr (hlow.trans (le_trans (by simp [gradeCode]) hhigh))
    have h := hun table hv hn hlow
    rw [hcourse] at h
    simpa [hnot] using h
  · have hcourse : courseOf (reportTaken now m r s) = .noLead := by rw [xcourse, if_pos hcal, if_pos hlow]
    have hv := verdictOn_noLead c _ hcourse
    rw [hset] at hv
    have h := hun _ hv (by split_ifs <;> rfl) (by split_ifs <;> simp [verdictOf, gradeCode])
    rw [hcourse] at h
    by_cases hw : su.scaleWraps = true
    · rw [if_pos hw] at h ⊢
      exact h
    · rw [if_neg hw] at h ⊢
      exact h
  · have hcourse : courseOf (reportTaken now m r s) = .noCalibration := by
      rw [xcourse, if_neg (by simp [hcal])]
    have hv : verdictOn c (reportTaken now m r s) = verdictOf .coarse := by
      rw [verdictOn_noCalibration c _ hcourse, hset, hw]
      rfl
    have h := hun _ hv rfl le_rfl
    rw [hcourse] at h
    have hlost : decide (gradeCode r.grade < gradeCode (verdictOf .coarse).grade) = decide (r.grade = .lost) := by
      cases r.grade <;> rfl
    rw [hlost] at h
    exact h
  · have hcourse : courseOf (reportTaken now m r s) = .noCalibration := by
      rw [xcourse, if_neg (by simp [hcal])]
    have hv : verdictOn c (reportTaken now m r s) = { verdictOf .lost with k := cands.length, list := cands } := by
      rw [verdictOn_noCalibration c _ hcourse, hset, hw, hcands]
      rfl
    have h := hun _ hv rfl (by simp [verdictOf, gradeCode])
    rw [hcourse] at h
    simpa [verdictOf, gradeCode] using h

/-- Settles O34: the decision at a capture, at the lead's report, the capture that waits, and every decision by its course. -/
theorem recoveryDecision : Obligations.RecoveryDecision := by
  refine ⟨?_, ?_, ?_, ?_⟩
  · intro now w flag s sm hrst hphase hsub hlead hreq hserve hneed hread hscale hbad hmove su v d m scaleTheta cands table
      steady report unfixed hq
    have hdue : CaptureDue w s sm :=
      { awake := hrst, recovering := hphase, noSearch := hsub, noLead := hlead, requested := hreq
        served := by simp [servedBy, needsInter, hserve, hneed]
        read := hread, scale := hscale, scaleGood := hbad, still := hmove, quiet := hq }
    obtain ⟨h1, h2, h3⟩ := capture_decides (now := now) (flag := flag) hdue
    refine ⟨fun k hk hcal hsum hangle => ?_, h1, h2, h3⟩
    obtain ⟨c, x, cl, hx, hstep⟩ := hdue.decision (now := now) (flag := flag)
    have hcands : candidatesTaken c x = cands := hx.candidates
    have hcourse : courseOf x = .resolution := courseOf_resolution (hx.calibrated.trans hcal) (.inl hx.uncoupled)
    have hv : verdictOn c x = table := by rw [verdictOn_resolution c x hcourse, hx.table, hcands]
    obtain ⟨hhigh, hlist⟩ := (tableOf_grade su false s.reck.theta0 v cands
      (s.gradeUnit.chosen.bind (snapTestOf su false))).1 (by rw [show tableOf _ _ _ _ _ _ = table from rfl, hk]; simp)
    have hdis : table.disagree = false := by
      have hne : cands ≠ [] := List.ne_nil_of_mem (tableOf_mem hk)
      simp only [table, tableOf_eq]
      exact tableOn_disagree su false s.reck.theta0 v cands _ _ hne
    have hfix := hx.fixed hstep hv hk hcal hhigh hsum hangle hdis
    rw [show table.list = [] from hlist] at hfix
    exact hfix
  · intro now m r c s hrst hown hlead hline hok hwait hnumber hphase hsub hlw hheld hread su lambda term scaleTheta cands
      table reports unfixed
    have hstep := markReportArrival_decides (now := now) hrst hown hlead hline hok hwait hnumber hlw hheld hread
    obtain ⟨h1, h2, h3, h4⟩ := report_decides hstep hlead hphase hsub
    refine ⟨?_, h1, h2, h3, h4⟩
    intro k hk hcal hhigh hst hbad d theta hsum hangle
    obtain ⟨xcourse, -⟩ := reportTaken_course (now := now) (r := r) hlead
    obtain ⟨hcands, htable⟩ := reportTaken_table (now := now) (r := r) c hlead hphase
    have hcourse : courseOf (reportTaken now m r s) = .resolution := by
      rw [xcourse, if_pos hcal, if_neg (not_lt.mpr hhigh)]
    have hv : verdictOn c (reportTaken now m r s) = table := by
      rw [verdictOn_resolution c _ hcourse, htable, hcands]
    obtain ⟨htg, hlist⟩ := (tableOf_grade su true s.reck.theta0 c.pM cands
      (s.gradeUnit.chosen.bind (snapTestOf su true))).1 (by rw [show tableOf _ _ _ _ _ _ = table from rfl, hk]; simp)
    have hkept : gradeMin table.grade r.grade ≠ .lost := fun hl => by
      have hcode := congrArg gradeCode hl
      rw [gradeCode_gradeMin] at hcode
      have hmin := le_min (show gradeCode .resolved ≤ gradeCode table.grade from htg) hhigh
      rw [hcode] at hmin
      simp [gradeCode] at hmin
    have hfix := report_fixes hstep hlead hphase hsub hv hk hcourse hkept hst hbad hsum hangle
    rw [show table.list = [] from hlist] at hfix
    exact hfix
  · intro now w flag s hrst hh hphase hsub hmove hreq hserved su v d awaited hq
    obtain ⟨t, c, hstep, hlast, hrequested, hidle, hwaits⟩ := capture_waits (now := now) (flag := flag) hrst hh hphase hsub hmove hreq
      (by simpa [servedBy, needsInter] using hserved) hq
    refine ⟨t, c, hstep, hlast, hrequested, fun hv => ?_, hwaits⟩
    obtain ⟨a1, a2, a3, a4, a5, a6, a7⟩ := hidle hv
    refine ⟨a1, a2, a3, a4, a5, fun hn hu hi => a6 hn hu ?_, a7⟩
    rw [leadImproved_iff]
    simpa [Option.any_eq_true] using hi
  · intro c s hphase su led reported leadHigh lambda scaleTheta cands kind near table t decided
    have hby := fun v hv => decidedBy (c := c) (v := v) hphase hv
    refine ⟨fun hcal hw => ?_, fun hcal hw => ?_, fun hcal hled hlow => ?_, fun hcal hhigh => ?_⟩
    · have hcourse := courseOf_uncalibrated hcal
      have h := hby _ (verdictOn_noCalibration c s hcourse)
      rw [hcourse, show (setupOf s).scaleWraps = false from hw] at h
      exact h
    · have hcourse := courseOf_uncalibrated hcal
      have h := hby _ (verdictOn_noCalibration c s hcourse)
      rw [hcourse, show (setupOf s).scaleWraps = true from hw] at h
      exact h
    · have hcourse := courseOf_noLead hcal hled hlow
      have h := hby _ (verdictOn_noLead c s hcourse)
      rw [hcourse] at h
      by_cases hw : su.scaleWraps = true
      · rw [if_pos hw] at h ⊢
        exact h
      · rw [if_neg hw] at h ⊢
        exact h
    · have hcourse := courseOf_resolution hcal hhigh
      have htable : tableTaken c s = table := by
        refine congrArg (tableOf su led s.reck.theta0 c.pM cands) ?_
        change (if near = true then s.gradeUnit.chosen else none).bind (snapTestOf su led) = _
        cases near <;> rfl
      have h := hby _ ((verdictOn_resolution c s hcourse).trans htable)
      rw [hcourse] at h
      exact h

end Sys2Proof.Machine
end

section
/-! PROOFS. What the rest of a command leaves of a calibration write's completion (O37): the write's outcome in the search
record, and no REFERENCE snapshot that was not pending before. -/

namespace Sys2Proof.Machine

/-- No pending REFERENCE request but `p`. -/
def NoReferenceBut (p pending : Option SnapRequest) : Prop :=
  ∀ q, pending = some q → q.cause = .reference → p = some q

section Family

variable {p : Option SnapRequest} {s : State}

theorem requestSnapshot_noReference {c : SnapCause} (w : SnapState) (hc : c ≠ .reference)
    (h : NoReferenceBut p s.store.pendingSnap) : NoReferenceBut p (requestSnapshot c w s).store.pendingSnap := by
  unfold requestSnapshot
  split_ifs
  · exact h
  · intro q hq hr
    cases hq
    exact absurd hr hc

@[simp] theorem setGradeBasis_calWrite (g : Grade) (b : Basis) (s : State) :
    (setGradeBasis g b s).search.calWrite = s.search.calWrite := by
  unfold setGradeBasis
  dsimp only
  split_ifs <;> simp

@[simp] theorem setGradeBasis_noReference (g : Grade) (b : Basis) (h : NoReferenceBut p s.store.pendingSnap) :
    NoReferenceBut p (setGradeBasis g b s).store.pendingSnap := by
  unfold setGradeBasis
  dsimp only
  split_ifs
  · exact requestSnapshot_noReference _ (by simp) (by simpa using h)
  · simpa using h

@[simp] theorem setGrade_noReference (g : Grade) (b : Basis) (h : NoReferenceBut p s.store.pendingSnap) :
    NoReferenceBut p (setGrade g b s).store.pendingSnap := by
  exact setGradeBasis_noReference _ _ h

@[simp] theorem applyCeiling_noReference (h : NoReferenceBut p s.store.pendingSnap) :
    NoReferenceBut p (applyCeiling s).store.pendingSnap := by
  unfold applyCeiling
  dsimp only
  (repeat' split) <;> simp [h]

@[simp] theorem endLeadHold_calWrite (s : State) : (endLeadHold s).search.calWrite = s.search.calWrite := by
  unfold endLeadHold
  dsimp only
  (repeat' split) <;> simp

@[simp] theorem gradeFall_calWrite (c : StopCause) (s : State) : (gradeFall c s).search.calWrite = s.search.calWrite := by
  unfold gradeFall
  split <;> simp

@[simp] theorem gradeFall_noReference (c : StopCause) (h : NoReferenceBut p s.store.pendingSnap) :
    NoReferenceBut p (gradeFall c s).store.pendingSnap := by
  unfold gradeFall
  split <;> simp [h]

@[simp] theorem endSearch_calWrite (o : SearchOutcome) (s : State) : (endSearch o s).search.calWrite = s.search.calWrite := by
  simp [endSearch, clearSearch, withdrawCalibration]

@[simp] theorem endSearch_noReference (o : SearchOutcome) (h : NoReferenceBut p s.store.pendingSnap) :
    NoReferenceBut p (endSearch o s).store.pendingSnap := by
  simpa [endSearch, withdrawCalibration] using h

@[simp] theorem failSearch_calWrite (c : FailCause) (n : Int) (s : State) : (failSearch c n s).search.calWrite = s.search.calWrite := by
  simp [failSearch]

@[simp] theorem failSearch_noReference (c : FailCause) (n : Int) (h : NoReferenceBut p s.store.pendingSnap) :
    NoReferenceBut p (failSearch c n s).store.pendingSnap := by
  exact endSearch_noReference _ (by simpa using h)

@[simp] theorem watchLead_calWrite (s : State) : (watchLead s).search.calWrite = s.search.calWrite := by
  unfold watchLead
  split_ifs <;> simp

@[simp] theorem watchLead_noReference (h : NoReferenceBut p s.store.pendingSnap) :
    NoReferenceBut p (watchLead s).store.pendingSnap := by
  unfold watchLead
  split_ifs <;> simp [h]

@[simp] theorem endSearchByFault_calWrite (s : State) : (endSearchByFault s).search.calWrite = s.search.calWrite := by
  unfold endSearchByFault
  split_ifs <;> simp [clearSearch, withdrawCalibration]

@[simp] theorem endSearchByFault_noReference (h : NoReferenceBut p s.store.pendingSnap) :
    NoReferenceBut p (endSearchByFault s).store.pendingSnap := by
  unfold endSearchByFault
  split_ifs
  · simpa [withdrawCalibration] using h
  · exact h

@[simp] theorem stopEffects_calWrite (c : StopCause) (a : Int) (s : State) : (stopEffects c a s).search.calWrite = s.search.calWrite := by
  simp [stopEffects, endDecision]

@[simp] theorem stopEffects_noReference (c : StopCause) (a : Int) (h : NoReferenceBut p s.store.pendingSnap) :
    NoReferenceBut p (stopEffects c a s).store.pendingSnap := by
  simp [stopEffects, endDecision, h]

@[simp] theorem raiseStop_calWrite (c : StopCause) (a b : Int) (s : State) : (raiseStop c a b s).search.calWrite = s.search.calWrite := by
  unfold raiseStop
  dsimp only
  (repeat' split) <;> simp

@[simp] theorem raiseStop_noReference (c : StopCause) (a b : Int) (h : NoReferenceBut p s.store.pendingSnap) :
    NoReferenceBut p (raiseStop c a b s).store.pendingSnap := by
  unfold raiseStop
  dsimp only
  (repeat' split) <;> simp [h]

@[simp] theorem raiseIfOutside_calWrite (x : Int) (s : State) : (raiseIfOutside x s).search.calWrite = s.search.calWrite := by
  unfold raiseIfOutside
  split_ifs <;> simp

@[simp] theorem raiseIfOutside_noReference (x : Int) (h : NoReferenceBut p s.store.pendingSnap) :
    NoReferenceBut p (raiseIfOutside x s).store.pendingSnap := by
  unfold raiseIfOutside
  split_ifs <;> simp [h]

@[simp] theorem gradeByVerdict_calWrite (v : Verdict) (s : State) : (gradeByVerdict v s).search.calWrite = s.search.calWrite := by
  simp [gradeByVerdict]

@[simp] theorem gradeByVerdict_noReference (v : Verdict) (h : NoReferenceBut p s.store.pendingSnap) :
    NoReferenceBut p (gradeByVerdict v s).store.pendingSnap := by
  simp [gradeByVerdict, h]

@[simp] theorem turnTaken_calWrite (c : Capture) (s : State) : (turnTaken c s).search.calWrite = s.search.calWrite := by
  simp [turnTaken]

@[simp] theorem turnTaken_noReference (c : Capture) (h : NoReferenceBut p s.store.pendingSnap) :
    NoReferenceBut p (turnTaken c s).store.pendingSnap := by
  simpa [turnTaken] using h

@[simp] theorem decided_calWrite (c : Capture) (s : State) : (decided c s).search.calWrite = s.search.calWrite := by
  unfold decided decisionShown reported graded
  dsimp only
  (repeat' split) <;> simp [endDecision]

@[simp] theorem decided_noReference (c : Capture) (h : NoReferenceBut p s.store.pendingSnap) :
    NoReferenceBut p (decided c s).store.pendingSnap := by
  have h1 := gradeByVerdict_noReference (verdictOn c s) (turnTaken_noReference c h)
  unfold decided decisionShown reported graded
  dsimp only
  (repeat' split) <;> simpa [endDecision] using h1

@[simp] theorem decideOn_calWrite (c : Capture) (s : State) : (decideOn c s).search.calWrite = s.search.calWrite := by
  simp [decideOn_eq]

@[simp] theorem decideOn_noReference (c : Capture) (h : NoReferenceBut p s.store.pendingSnap) :
    NoReferenceBut p (decideOn c s).store.pendingSnap := by
  simp [decideOn_eq, h]

@[simp] theorem decideHeld_calWrite (s : State) : (decideHeld s).search.calWrite = s.search.calWrite := by
  unfold decideHeld
  split <;> simp

@[simp] theorem decideHeld_noReference (h : NoReferenceBut p s.store.pendingSnap) :
    NoReferenceBut p (decideHeld s).store.pendingSnap := by
  unfold decideHeld
  split <;> simp [h]

@[simp] theorem advanceDecision_calWrite (s : State) : (advanceDecision s).search.calWrite = s.search.calWrite := by
  unfold advanceDecision
  split_ifs <;> simp

@[simp] theorem advanceDecision_noReference (h : NoReferenceBut p s.store.pendingSnap) :
    NoReferenceBut p (advanceDecision s).store.pendingSnap := by
  unfold advanceDecision
  split_ifs <;> simp [h]

@[simp] theorem leadResolved_calWrite (l : LeadReport) (s : State) : (leadResolved l s).search.calWrite = s.search.calWrite := by
  unfold leadResolved
  dsimp only
  (repeat' split) <;> simp

@[simp] theorem leadResolved_noReference (l : LeadReport) (h : NoReferenceBut p s.store.pendingSnap) :
    NoReferenceBut p (leadResolved l s).store.pendingSnap := by
  unfold leadResolved
  dsimp only
  (repeat' split) <;> simp [h]

@[simp] theorem leadLost_calWrite (s : State) : (leadLost s).search.calWrite = s.search.calWrite := by
  unfold leadLost
  (repeat' split) <;> simp

@[simp] theorem leadLost_noReference (h : NoReferenceBut p s.store.pendingSnap) :
    NoReferenceBut p (leadLost s).store.pendingSnap := by
  unfold leadLost
  (repeat' split) <;> simp [h]

@[simp] theorem tryPrereq_calWrite (s : State) : (tryPrereq s).search.calWrite = s.search.calWrite := by
  unfold tryPrereq
  split_ifs <;> simp

end Family

end Sys2Proof.Machine
end

section
/-! PROOFS. O37: the completion of a calibration write. -/

namespace Sys2Proof.Machine

/-! ### The store at the end of a command -/

/-- The closing tests but the start of a write and what follows it. -/
def beforeWrite (s0 s : State) : State :=
  restTrigger (driftTest (tryCall (tryComplete (tryRelease (reMarkTest s0
    (tryMuster (tryClaim (tryPrereq (applyCeiling (watchLead (leadLost s)))))))))))

theorem finish_eq_startWrite (force : Bool) (s0 s : State) :
    finish force s0 s = statusTest force s0 (dwellTest (startWrite (beforeWrite s0 s))) := (rfl)

theorem beforeWrite_store (s0 s : State) :
    (beforeWrite s0 s).store.imageCal = s.store.imageCal ∧ (beforeWrite s0 s).store.inFlight = s.store.inFlight
      ∧ (beforeWrite s0 s).store.scanDone = s.store.scanDone ∧ (beforeWrite s0 s).search.calWrite = s.search.calWrite := by
  have hcal : ∀ u : State, (restTrigger u).search.calWrite = u.search.calWrite := fun u => by
    unfold restTrigger
    split_ifs <;> simp
  have hmuster : ∀ u : State, (tryMuster u).search.calWrite = u.search.calWrite := fun u => by simp
  unfold beforeWrite
  refine ⟨by simp, by simp, by simp, ?_⟩
  rw [hcal]
  simp

theorem restTrigger_noReference {p : Option SnapRequest} {s : State} (h : NoReferenceBut p s.store.pendingSnap) :
    NoReferenceBut p (restTrigger s).store.pendingSnap := by
  unfold restTrigger
  split_ifs
  · exact requestSnapshot_noReference _ (by simp) h
  · exact h

theorem afterCeiling_pendingSnap (s0 u : State) :
    (driftTest (tryCall (tryComplete (tryRelease (reMarkTest s0 (tryMuster (tryClaim (tryPrereq u)))))))).store.pendingSnap
      = u.store.pendingSnap := by
  simp

theorem beforeWrite_noReference {p : Option SnapRequest} {s0 s : State} (h : NoReferenceBut p s.store.pendingSnap) :
    NoReferenceBut p (beforeWrite s0 s).store.pendingSnap := by
  have hu := applyCeiling_noReference (watchLead_noReference (leadLost_noReference h))
  rw [beforeWrite]
  rw [← afterCeiling_pendingSnap s0] at hu
  exact restTrigger_noReference hu

/-- The pending calibration write starts, or the pending snapshot write, or none (R83, R89). -/
theorem startWrite_cases (s : State) :
    (∃ q, (startWrite s).store.inFlight = some (.cal q) ∧ (startWrite s).store.imageCal = .writing
        ∧ (startWrite s).store.pendingSnap = s.store.pendingSnap)
      ∨ (∃ slot q, (startWrite s).store.inFlight = some (.snap slot { seq := nextSeq s, body := q })
          ∧ slot = nextTarget s ∧ s.store.pendingSnap = some q
          ∧ (startWrite s).store.imageCal = s.store.imageCal ∧ (startWrite s).store.pendingSnap = none)
      ∨ startWrite s = s := by
  unfold startWrite
  split_ifs
  · split
    · exact .inl ⟨_, rfl, rfl, rfl⟩
    · next q _ hq => exact .inr (.inl ⟨_, q, by simp, rfl, hq, by simp, by simp⟩)
    · exact .inr (.inr rfl)
  · exact .inr (.inr rfl)

end Sys2Proof.Machine
end

section
/-! PROOFS. O37: a station without a search stays without one through the tests at the end of a command. -/

namespace Sys2Proof.Machine

/-- No search runs, and the last one ended with the outcome `o`. -/
def NoSearch (o : SearchOutcome) (s : State) : Prop := s.search.sub = .none ∧ s.search.outcome = o

section Family

variable {o : SearchOutcome} {s : State}

theorem NoSearch.congr {t : State} (h : NoSearch o s) (h1 : t.search.sub = s.search.sub)
    (h2 : t.search.outcome = s.search.outcome) : NoSearch o t :=
  ⟨h1.trans h.1, h2.trans h.2⟩

theorem endSearchByFault_noSearch (h : NoSearch o s) : NoSearch o (endSearchByFault s) := by
  simpa [endSearchByFault, searching, h.1] using h

theorem stopEffects_noSearch (c : StopCause) (a : Int) (h : NoSearch o s) : NoSearch o (stopEffects c a s) := by
  have h1 : NoSearch o (gradeFall c s) := h.congr (by simp) (by simp)
  refine (endSearchByFault_noSearch h1).congr ?_ ?_ <;> simp [stopEffects, endDecision]

theorem raiseStop_noSearch (c : StopCause) (a b : Int) (h : NoSearch o s) : NoSearch o (raiseStop c a b s) := by
  have h1 : NoSearch o (raise (.stop c) a b (own s) s) := h.congr (by simp) (by simp)
  unfold raiseStop
  dsimp only
  split
  any_goals exact h1
  any_goals exact stopEffects_noSearch c a h1
  exact h1.congr (by simp) (by simp)

theorem decideOn_noSearch (c : Capture) (h : NoSearch o s) : NoSearch o (decideOn c s) := by
  have h1 : NoSearch o (decided c s) := by
    refine h.congr ?_ ?_ <;> unfold decided decisionShown reported graded <;> dsimp only <;>
      (repeat' split) <;> simp [endDecision, turnTaken, gradeByVerdict]
  rw [decideOn_eq, raiseIfOutside]
  split_ifs
  · exact h1
  · exact raiseStop_noSearch _ _ _ h1

theorem advanceDecision_noSearch (h : NoSearch o s) : NoSearch o (advanceDecision s) := by
  unfold advanceDecision decideHeld
  split_ifs
  · exact h
  · exact h
  · split
    · exact h
    · exact decideOn_noSearch _ h

theorem leadLost_noSearch (h : NoSearch o s) : NoSearch o (leadLost s) := by
  unfold leadLost leadResolved
  split
  · exact h
  · dsimp only
    split_ifs
    · exact advanceDecision_noSearch h
    · exact h
    · exact h

theorem finish_noSearch (force : Bool) (s0 : State) (h : NoSearch o s) : NoSearch o (finish force s0 s) := by
  have h1 := leadLost_noSearch h
  have hw : watchLead (leadLost s) = leadLost s := by simp [watchLead, searching, h1.1]
  have h2 : NoSearch o (applyCeiling (leadLost s)) := h1.congr (by simp) (by simp)
  have hp : tryPrereq (applyCeiling (leadLost s)) = applyCeiling (leadLost s) :=
    if_neg fun hn => absurd (h2.1.symm.trans hn.1) SearchSub.noConfusion
  rw [finish_eq_startWrite, beforeWrite, hw, hp]
  exact h2.congr (by simp) (by simp)

end Family

/-! ### The write that the end of a command starts -/

theorem finish_calWrite (force : Bool) (s0 s : State) : (finish force s0 s).search.calWrite = s.search.calWrite := by
  obtain ⟨-, -, -, h⟩ := beforeWrite_store s0 s
  simp [finish_eq_startWrite, h]

/-- With no write in flight, the end of a command starts a calibration write, a snapshot write or none (R83, R89). -/
theorem finish_starts (force : Bool) (s0 : State) {s : State} (h : s.store.inFlight = none) :
    (∃ q, (finish force s0 s).store.inFlight = some (.cal q) ∧ (finish force s0 s).store.imageCal = .writing
        ∧ (finish force s0 s).store.pendingSnap = (beforeWrite s0 s).store.pendingSnap)
      ∨ (∃ slot n q, (finish force s0 s).store.inFlight = some (.snap slot { seq := n, body := q })
          ∧ (beforeWrite s0 s).store.pendingSnap = some q
          ∧ (finish force s0 s).store.imageCal = s.store.imageCal ∧ (finish force s0 s).store.pendingSnap = none)
      ∨ (finish force s0 s).store.inFlight = none ∧ (finish force s0 s).store.imageCal = s.store.imageCal
          ∧ (finish force s0 s).store.pendingSnap = (beforeWrite s0 s).store.pendingSnap := by
  obtain ⟨himg, hfl, -⟩ := beforeWrite_store s0 s
  have hstore : (finish force s0 s).store = (startWrite (beforeWrite s0 s)).store := by simp [finish_eq_startWrite]
  rw [hstore]
  rcases startWrite_cases (beforeWrite s0 s) with ⟨q, h1, h2, h3⟩ | ⟨slot, q, h1, -, h2, h3, h4⟩ | h1
  · exact .inl ⟨q, h1, h2, h3⟩
  · exact .inr (.inl ⟨slot, _, q, h1, h2, h3.trans himg, h4⟩)
  · rw [h1]
    exact .inr (.inr ⟨hfl.trans h, himg, rfl⟩)

end Sys2Proof.Machine
end

section
/-! PROOFS. O37: the completion of a calibration write, whatever it was requested for. -/

namespace Sys2Proof.Machine

/-! ### The calibration written -/

/-- The store as the read-back leaves it, with STORE_VERIFY where the read-back differs (R90, R91). -/
def readBackTaken (r : CalRecord) (rb : ReadBack) (s : State) : State :=
  let found := foundCells calLength (encodeCal r) rb
  let st : Store := { s.store with inFlight := none, cellsCal := found, calSeq := some r.seq }
  if outcomeOf found (encodeCal r) = .verified then { s with store := { st with imageCal := .valid r } }
  else note .storeVerify 3 (r.seq.toNat : Int) { s with store := { st with imageCal := .torn } }

/-- The calibration of the record taken (R11). -/
def calWritten (r : CalRecord) (rb : ReadBack) (s : State) : State :=
  takeCalibration r.body.theta0 r.body.sigma true (readBackTaken r rb s)

/-- The outcome of the write, in the record of whichever search there is. -/
def outcomeShown (o : WriteOutcome) (s : State) : State := { s with search := { s.search with calWrite := o } }

theorem calDone_eq (r : CalRecord) (rb : ReadBack) (s : State) :
    calDone r rb s = if ownCalibration s then calibrationDone (outcomeOf (foundCells calLength (encodeCal r) rb) (encodeCal r)) (calWritten r rb s)
      else outcomeShown (outcomeOf (foundCells calLength (encodeCal r) rb) (encodeCal r)) (calWritten r rb s) := (rfl)

theorem readBackTaken_frame (r : CalRecord) (rb : ReadBack) (s : State) :
    (readBackTaken r rb s).phase = s.phase ∧ (readBackTaken r rb s).straps = s.straps
      ∧ (readBackTaken r rb s).levels = s.levels ∧ (readBackTaken r rb s).sensor = s.sensor
      ∧ (readBackTaken r rb s).reck = s.reck ∧ (readBackTaken r rb s).link = s.link
      ∧ (readBackTaken r rb s).peers = s.peers ∧ (readBackTaken r rb s).mark = s.mark
      ∧ (readBackTaken r rb s).gradeUnit = s.gradeUnit ∧ (readBackTaken r rb s).claim = s.claim
      ∧ (readBackTaken r rb s).search = s.search ∧ (readBackTaken r rb s).port.setup = s.port.setup
      ∧ (readBackTaken r rb s).port.frozen = s.port.frozen := by
  unfold readBackTaken
  dsimp only
  split_ifs <;> simp

theorem readBackTaken_store (r : CalRecord) (rb : ReadBack) (s : State) :
    (readBackTaken r rb s).store
      = { s.store with
          inFlight := none, cellsCal := foundCells calLength (encodeCal r) rb, calSeq := some r.seq
          imageCal := if foundCells calLength (encodeCal r) rb = encodeCal r then .valid r else .torn } := by
  unfold readBackTaken outcomeOf
  dsimp only
  split_ifs <;> simp_all

theorem calWritten_frame (r : CalRecord) (rb : ReadBack) (s : State) :
    (calWritten r rb s).phase = s.phase ∧ (calWritten r rb s).straps = s.straps
      ∧ (calWritten r rb s).levels = s.levels ∧ (calWritten r rb s).sensor = s.sensor
      ∧ (calWritten r rb s).link = s.link ∧ (calWritten r rb s).peers = s.peers ∧ (calWritten r rb s).mark = s.mark
      ∧ (calWritten r rb s).gradeUnit = s.gradeUnit ∧ (calWritten r rb s).claim = s.claim
      ∧ (calWritten r rb s).search = s.search ∧ (calWritten r rb s).port.setup = s.port.setup
      ∧ (calWritten r rb s).port.frozen = s.port.frozen ∧ (calWritten r rb s).store = (readBackTaken r rb s).store
      ∧ (calWritten r rb s).reck.count = s.reck.count ∧ (calWritten r rb s).reck.started = s.reck.started
      ∧ (calWritten r rb s).reck.lambda = s.reck.lambda ∧ (calWritten r rb s).reck.basis = s.reck.basis
      ∧ (calWritten r rb s).reck.atRest = s.reck.atRest := by
  have h := readBackTaken_frame r rb s
  unfold calWritten
  simp [h]

theorem calWritten_taken (r : CalRecord) (rb : ReadBack) (s : State) :
    (calWritten r rb s).reck.theta0 = r.body.theta0 ∧ (calWritten r rb s).reck.sigma = r.body.sigma
      ∧ (calWritten r rb s).reck.calibrated = true :=
  takeCalibration_taken _ _ _ _

theorem calWritten_faultShown {q : FaultRecord} {r : CalRecord} {rb : ReadBack} {s : State}
    (h : FaultShown q (readBackTaken r rb s)) : FaultShown q (calWritten r rb s) :=
  takeCalibration_faultShown _ _ _ h

/-- After the completion of a calibration write no write is in flight, and the image shows what the read-back found. -/
theorem calDone_store (r : CalRecord) (rb : ReadBack) (s : State) :
    (calDone r rb s).store.inFlight = none ∧ (calDone r rb s).store.cellsCal = foundCells calLength (encodeCal r) rb
      ∧ (calDone r rb s).store.cellsA = s.store.cellsA ∧ (calDone r rb s).store.cellsB = s.store.cellsB
      ∧ (calDone r rb s).store.calSeq = some r.seq
      ∧ (calDone r rb s).store.imageCal
        = (if foundCells calLength (encodeCal r) rb = encodeCal r then .valid r else .torn) := by
  obtain ⟨-, -, -, -, -, -, -, -, -, -, -, -, hst, -⟩ := calWritten_frame r rb s
  rw [calDone_eq]
  split_ifs <;> simp_all [outcomeShown, readBackTaken_store]

theorem tryMove_search (s : State) :
    (tryMove s).search
      = if searching s ∧ s.search.stage = .due ∧ s.levels.alhHigh = true ∧ s.claim.state = .held then
          { s.search with moveStart := some s.reck.count, stage := .underway }
        else s.search := by
  unfold tryMove
  split_ifs
  · dsimp only
    split <;> simp
  · rfl

theorem enterPark_calWrite (s : State) : (enterPark s).search.calWrite = s.search.calWrite := by
  rw [enterPark, beginMove, tryMove_search]
  split_ifs <;> simp

theorem calibrationDone_calWrite (o : WriteOutcome) (s : State) : (calibrationDone o s).search.calWrite = o := by
  unfold calibrationDone
  dsimp only
  split <;> simp [enterPark_calWrite, completeSearch, clearSearch]

theorem calDone_shows (r : CalRecord) (rb : ReadBack) (s : State) :
    (calDone r rb s).reck.theta0 = r.body.theta0 ∧ (calDone r rb s).reck.sigma = r.body.sigma
      ∧ (calDone r rb s).reck.calibrated = true
      ∧ (calDone r rb s).search.calWrite
        = (if foundCells calLength (encodeCal r) rb = encodeCal r then .verified else .failed) := by
  obtain ⟨h0, h1, h2⟩ := calWritten_taken r rb s
  rw [calDone_eq]
  split_ifs <;> simp_all [outcomeShown, calibrationDone_calWrite, outcomeOf]

theorem calDone_shown {q : FaultRecord} {r : CalRecord} {rb : ReadBack} {s : State}
    (h : FaultShown q (readBackTaken r rb s)) : FaultShown q (calDone r rb s) := by
  have h1 := calWritten_faultShown h
  rw [calDone_eq]
  split_ifs
  · exact calibrationDone_faultShown _ h1
  · exact h1

/-! ### The completion of a write that no search waits for -/

theorem calDone_unowned {r : CalRecord} {rb : ReadBack} {s : State} (h : ownCalibration s = false) :
    calDone r rb s = outcomeShown (outcomeOf (foundCells calLength (encodeCal r) rb) (encodeCal r)) (calWritten r rb s) := by
  simp [calDone_eq, h]

theorem calDone_unowned_frame {r : CalRecord} {rb : ReadBack} {s : State} (h : ownCalibration s = false) :
    (calDone r rb s).phase = s.phase ∧ (calDone r rb s).gradeUnit = s.gradeUnit
      ∧ (calDone r rb s).reck.count = s.reck.count ∧ (calDone r rb s).store.pendingSnap = s.store.pendingSnap
      ∧ (calDone r rb s).store.pendingCal = s.store.pendingCal
      ∧ (calDone r rb s).search.sub = s.search.sub ∧ (calDone r rb s).search.outcome = s.search.outcome
      ∧ leadInputs (calDone r rb s) = leadInputs s := by
  obtain ⟨hp, hstr, -, -, -, hpe, hm, hg, -, hse, hset, hfr, hst, hc, -⟩ := calWritten_frame r rb s
  rw [calDone_unowned h]
  simp [outcomeShown, leadInputs, hp, hstr, hpe, hm, hg, hse, hset, hfr, hst, hc, readBackTaken_store]

/-- In DOWN, with no search and no write asked for, the tests at the end of a command leave the store. -/
theorem finish_down_store {force : Bool} {s0 s : State} (hu : Undisturbed s) (hd : s.phase = .down)
    (hc : s.store.pendingCal = none) (hs : s.store.pendingSnap = none) : (finish force s0 s).store = s.store := by
  obtain ⟨hl, hw⟩ := hu
  have hr : ∀ u : State, u.phase = .down → restTrigger u = u := fun u hu => by simp [restTrigger, requestSnapshot, hu]
  have hst : ∀ u : State, u.store.pendingCal = none → u.store.pendingSnap = none → startWrite u = u := fun u h1 h2 => by
    simp [startWrite, h1, h2]
  have hm : tryMuster (tryClaim (tryPrereq s)) = tryClaim (tryPrereq s) := tryMuster_outside (by simp [hd])
  rw [finish_eq_startWrite, beforeWrite, hl, hw, applyCeiling_idle (.inr hd), hm, hr _ (by simp [hd]), hst _ (by simp [hc]) (by simp [hs])]
  simp

theorem readBackTaken_fault {r : CalRecord} {rb : ReadBack} {s : State}
    (h : foundCells calLength (encodeCal r) rb ≠ encodeCal r) :
    ∃ t : State, t.fault = s.fault ∧ own t = own s ∧ readBackTaken r rb s = note .storeVerify 3 (r.seq.toNat : Int) t :=
  ⟨{ s with
      store := { s.store with
        inFlight := none, cellsCal := foundCells calLength (encodeCal r) rb, calSeq := some r.seq, imageCal := .torn } },
    rfl, rfl, by simp [readBackTaken, outcomeOf, h]⟩

end Sys2Proof.Machine
end

section
/-! PROOFS. O37: what holds of the completion of any calibration write. -/

namespace Sys2Proof.Machine

/-- The state after the completion of a calibration write. -/
def completed (now : Instant) (rb : ReadBack) (r : CalRecord) (s : State) : State :=
  finish false (tick now s) (finalWriteTest (calDone r rb (tick now s)))

theorem faultValue_seq (x : BitVec 16) : faultValue (x.toNat : Int) = (x.toNat : Int) := by
  refine faultValue_of_inRange ?_
  have := x.isLt
  exact countInRange_iff.mpr ⟨by unfold countMin; omega, by unfold countMax; omega⟩

section Completion

variable {now : Instant} {rb : ReadBack} {r : CalRecord} {s : State}

theorem exec_writeCompletion (hs : s.levels.rstLow = false) (hfl : s.store.inFlight = some (.cal r)) :
    exec (.writeCompletion now rb) s
      = .next (completed now rb r s) := by
  have hfl' : (tick now s).store.inFlight = some (.cal r) := by simpa using hfl
  have he : writeEvent rb (tick now s) = finalWriteTest (calDone r rb (tick now s)) := by
    unfold writeEvent
    rw [hfl']
  rw [exec_running _ _ rfl rfl, running_out hs, completed, ← he]
  rfl

theorem written_cells :
    (completed now rb r s).store.cellsCal
        = foundCells calLength (encodeCal r) rb
      ∧ (completed now rb r s).store.cellsA = s.store.cellsA
      ∧ (completed now rb r s).store.cellsB = s.store.cellsB
      ∧ (completed now rb r s).store.calSeq = some r.seq
      ∧ (completed now rb r s).reck.theta0 = r.body.theta0
      ∧ (completed now rb r s).reck.sigma = r.body.sigma
      ∧ (completed now rb r s).reck.calibrated = true
      ∧ (completed now rb r s).search.calWrite
        = (if foundCells calLength (encodeCal r) rb = encodeCal r then .verified else .failed) := by
  obtain ⟨-, h1, h2, h3, h4, -⟩ := calDone_store r rb (tick now s)
  obtain ⟨h5, h6, h7, h8⟩ := calDone_shows r rb (tick now s)
  simp [completed, finish_calWrite, h1, h4, h5, h6, h7, h8]

/-- The image is VALID or TORN by the read-back, unless the next calibration write has started at once (R91, R92). -/
theorem written_image :
    ((∃ q, (completed now rb r s).store.inFlight = some (.cal q)) →
        (completed now rb r s).store.imageCal = .writing)
      ∧ ((∀ q, (completed now rb r s).store.inFlight ≠ some (.cal q)) →
        (completed now rb r s).store.imageCal
          = if foundCells calLength (encodeCal r) rb = encodeCal r then .valid r else .torn) := by
  obtain ⟨h1, -, -, -, -, h2⟩ := calDone_store r rb (tick now s)
  unfold completed
  rcases finish_starts false (tick now s) (s := finalWriteTest (calDone r rb (tick now s))) (by simpa using h1) with
    ⟨q, k1, k2, -⟩ | ⟨slot, n, q, k1, -, k2, -⟩ | ⟨k1, k2, -⟩
  · exact ⟨fun _ => k2, fun h => absurd k1 (h q)⟩
  · exact ⟨fun ⟨q', h⟩ => by simp [k1] at h, fun _ => by simpa [h2] using k2⟩
  · exact ⟨fun ⟨q', h⟩ => by simp [k1] at h, fun _ => by simpa [h2] using k2⟩

/-- A read-back that differs raises STORE_VERIFY before anything else (R91). -/
theorem written_fault (hd : foundCells calLength (encodeCal r) rb ≠ encodeCal r) :
    (completed now rb r s).port.attention.fault = true
      ∧ (s.fault.record.locked = false →
        (completed now rb r s).fault.record.cause = some (.note .storeVerify)
          ∧ (completed now rb r s).fault.record.a = 3
          ∧ (completed now rb r s).fault.record.b = (r.seq.toNat : Int)) := by
  obtain ⟨u, hf, -, hu⟩ := readBackTaken_fault (s := tick now s) hd
  have hshown := finish_faultShown false (tick now s) (s := finalWriteTest (calDone r rb (tick now s)))
    (by
      have h := calDone_shown (s := tick now s) (r := r) (rb := rb) (by rw [hu]; exact raise_shown _ _ _ _ _)
      simpa [FaultShown] using h)
  obtain ⟨hatt, -, hrec⟩ := hshown.record
  refine ⟨hatt, fun hl => ?_⟩
  obtain ⟨k1, -, k2, k3⟩ := hrec (by rw [hf]; simpa using hl)
  exact ⟨k1, k2, k3.trans (faultValue_seq _)⟩

/-- The completion of a write that no search waits for raises no grade, moves M no further and asks for no REFERENCE snapshot;
in DOWN it leaves the grade, and the last write in hand sets the final-write flag (R93, R100). -/
theorem written_unowned (hown : s.search.sub ≠ .calibrate ∨ s.search.awaitingWrite = false ∨ s.store.pendingCal ≠ none) :
    let t := completed now rb r s
    (LeadHeard s → gradeCode t.gradeUnit.grade ≤ gradeCode s.gradeUnit.grade ∧ t.reck.count = s.reck.count)
      ∧ (∀ q, t.store.pendingSnap = some q → q.cause = .reference → s.store.pendingSnap = some q)
      ∧ (∀ slot q, t.store.inFlight = some (.snap slot q) → q.body.cause = .reference →
          s.store.pendingSnap = some q.body)
      ∧ (s.search.sub = .none → t.search.sub = .none ∧ t.search.outcome = s.search.outcome)
      ∧ (s.phase = .down → s.search.sub = .none → LeadHeard s →
          t.gradeUnit.grade = s.gradeUnit.grade
            ∧ (s.store.pendingCal = none → s.store.pendingSnap = none →
                t.store.inFlight = none ∧ t.store.finalWrite = true)) := by
  have ho : ownCalibration (tick now s) = false := by
    have hp : s.store.pendingCal ≠ none → s.store.pendingCal.isNone = false := by cases s.store.pendingCal <;> simp
    rcases hown with h | h | h
    · simp [ownCalibration, h]
    · simp [ownCalibration, h]
    · simp [ownCalibration, hp h]
  obtain ⟨hp, hg, hc, hsn, hca, hsub, hout, hin⟩ := calDone_unowned_frame (r := r) (rb := rb) ho
  obtain ⟨hfl, -⟩ := calDone_store r rb (tick now s)
  simp only [completed]
  generalize calDone r rb (tick now s) = u at *
  have hheard : LeadHeard s → LeadHeard (finalWriteTest u) := fun h =>
    leadHeard_of_inputs (t := finalWriteTest u) (s := s)
      (by simpa [leadInputs] using hin) h
  have hb : NoReferenceBut s.store.pendingSnap (beforeWrite (tick now s) (finalWriteTest u)).store.pendingSnap :=
    beforeWrite_noReference (by
      intro q hq hr
      simpa [hsn] using hq)
  refine ⟨fun hh => ?_, ?_, ?_, fun hs => ?_, fun hd hs hh => ?_⟩
  · obtain ⟨k1, -, -, -, k2, -⟩ := finish_heard_frame (force := false) (s0 := tick now s) (hheard hh)
    exact ⟨by simpa [hg] using k2, by simpa [hc] using k1⟩
  · intro q hq hr
    rcases finish_starts false (tick now s) (s := finalWriteTest u) (by simpa using hfl) with
      ⟨q', -, -, k⟩ | ⟨slot, n, q', -, -, -, k⟩ | ⟨-, -, k⟩
    · exact hb q (k ▸ hq) hr
    · rw [k] at hq
      exact absurd hq (by simp)
    · exact hb q (k ▸ hq) hr
  · intro slot q hq hr
    rcases finish_starts false (tick now s) (s := finalWriteTest u) (by simpa using hfl) with
      ⟨q', k, -⟩ | ⟨slot, n, q', k, k', -⟩ | ⟨k, -⟩
    · rw [k] at hq
      exact absurd hq (by simp)
    · rw [k] at hq
      simp only [Option.some.injEq, Write.snap.injEq] at hq
      obtain ⟨-, rfl⟩ := hq
      exact hb q' k' hr
    · rw [k] at hq
      exact absurd hq (by simp)
  · exact finish_noSearch false (tick now s) ⟨by simpa [hsub] using hs, by simp [hout]⟩
  · have hu := undisturbed_of_no_search (hheard hh) (by simpa [hsub] using hs)
    have hd' : (finalWriteTest u).phase = .down := by simpa [hp] using hd
    obtain ⟨-, k1, -⟩ := finish_undisturbed_frame (force := false) (s0 := tick now s) hu (by rw [hd']; exact Phase.noConfusion)
    refine ⟨by rw [k1, applyCeiling_idle (.inr hd')]; simp [hg], fun h1 h2 => ?_⟩
    rw [finish_down_store hu hd' (by simpa [hca] using h1) (by simpa [hsn] using h2)]
    refine ⟨by simpa using hfl, ?_⟩
    have hd2 : u.phase = .down := by simpa using hd'
    have h3 : u.store.pendingCal = none := by simpa [hca] using h1
    have h4 : u.store.pendingSnap = none := by simpa [hsn] using h2
    simp [finalWriteTest, hd2, h3, h4]

end Completion

end Sys2Proof.Machine
end

section
/-! PROOFS. O37: the grade, the angle and the REFERENCE snapshot that the completion of a search's own write sets. -/

namespace Sys2Proof.Machine

/-! ### θ as the count and the basis give it -/

/-- θ and the SATURATED flag are those of the angle formed now. -/
def ThetaFormed (s : State) : Prop :=
  s.reck.theta = (formedAngle s).map clampAngle ∧ ∀ v, formedAngle s = some v → s.reck.saturated = !angleInRange v

theorem recomputeTheta_formed (s : State) : ThetaFormed (recomputeTheta s) := by
  rw [ThetaFormed, formedAngle_recomputeTheta]
  refine ⟨recomputeTheta_theta s, fun v hv => ?_⟩
  simp [recomputeTheta_saturated, hv]

theorem takeCalibration_formed (a b : Int) (m : Bool) (s : State) : ThetaFormed (takeCalibration a b m s) :=
  recomputeTheta_formed _

theorem setBasis_formed {b : Basis} {s : State} (h : ThetaFormed s) : ThetaFormed (setBasis b s) := by
  unfold setBasis
  split_ifs
  · exact h
  · exact recomputeTheta_formed _

theorem ThetaFormed.congr {s t : State} (h : ThetaFormed s) (hr : t.reck = s.reck) (hset : t.port.setup = s.port.setup)
    (hcp : coupled t = coupled s) : ThetaFormed t := by
  have hf : formedAngle t = formedAngle s := by simp only [formedAngle, setupOf, hr, hset, hcp]
  rw [ThetaFormed, hf, hr]
  exact h

theorem setGrade_formed {g : Grade} {b : Basis} {s : State} (h : ThetaFormed s) : ThetaFormed (setGrade g b s) := by
  refine (setBasis_formed (b := basisFor g b) h).congr (setGradeBasis_lost_reck _ _ _) (by simp) ?_
  exact coupled_congr (by simp) (by simp) (by simp)

/-- A lead hold that ends with λ at the lead's angle, or with no such angle, leaves θ (R12). -/
theorem endLeadHold_theta {s : State} (h : ThetaFormed s)
    (hl : ∀ k a, lead s = some k → s.search.leadHold = true → (entry s k).angle = some a → a = s.reck.lambda) :
    (endLeadHold s).reck.theta = s.reck.theta ∧ (endLeadHold s).reck.saturated = s.reck.saturated
      ∧ (endLeadHold s).reck.lambda = s.reck.lambda := by
  have key : ∀ u : State, formedAngle u = formedAngle s → u.reck.saturated = s.reck.saturated →
      (recomputeTheta u).reck.theta = s.reck.theta ∧ (recomputeTheta u).reck.saturated = s.reck.saturated := by
    intro u hu hs
    refine ⟨by rw [recomputeTheta_theta, hu, h.1], ?_⟩
    rw [recomputeTheta_saturated, hu, hs]
    cases hf : formedAngle s with
    | none => rfl
    | some v => exact (h.2 v hf).symm
  unfold endLeadHold
  split_ifs with hh
  · dsimp only
    split
    · next a ha =>
      obtain ⟨k, hk, hka⟩ := Option.bind_eq_some_iff.mp ha
      obtain rfl := hl k a hk hh hka
      unfold setLambda
      obtain ⟨h1, h2⟩ := key { s with
          search := { s.search with leadHold := false }
          reck := { s.reck with lambda := s.reck.lambda, lambdaSource := true } } rfl rfl
      exact ⟨h1, h2, by simp⟩
    · obtain ⟨h1, h2⟩ := key { s with search := { s.search with leadHold := false } } rfl rfl
      exact ⟨h1, h2, by simp⟩
  · exact ⟨rfl, rfl, rfl⟩

/-- While the count is unstarted and the basis is not SCALE, the end of a lead hold leaves the SATURATED flag. -/
theorem endLeadHold_saturated {s : State} (hst : s.reck.started = false) (hb : s.reck.basis ≠ .scale) :
    (endLeadHold s).reck.saturated = s.reck.saturated := by
  have hf : ∀ u : State, u.reck.basis = s.reck.basis → u.reck.started = s.reck.started → formedAngle u = none := by
    intro u h1 h2
    unfold formedAngle
    rw [h1, h2, hst]
    cases hbs : s.reck.basis <;> simp_all
  unfold endLeadHold
  split_ifs
  · dsimp only
    split
    · rw [setLambda, recomputeTheta_saturated, hf _ (by rfl) (by rfl)]
    · rw [recomputeTheta_saturated, hf _ (by rfl) (by rfl)]
  · rfl

/-! ### The grade set, and the REFERENCE snapshot -/

/-- The capped-by-lead flag that the completion leaves. -/
def cappedKept (b : Bool) (lg : Option Grade) : Bool := b && lg.elim false (fun g => gradeLt g .referenced)

/-- REFERENCED under the ceiling, in basis COUNTS (R103, R158). -/
def regraded (s : State) : State :=
  let s1 := setGrade (ceiling (setBasis .counts s)) .counts (setBasis .counts s)
  { s1 with gradeUnit := { s1.gradeUnit with capped := cappedKept s1.gradeUnit.capped (leadGrade s) } }

/-- The REFERENCE snapshot requested, the lead hold ended, and the outcome of the write shown (R93, R158). -/
def referenceServed (o : WriteOutcome) (s : State) : State :=
  let s4 := endLeadHold (requestSnapshot .reference .sound (regraded s))
  { s4 with search := { s4.search with calWrite := o, awaitingWrite := false } }

theorem calibrationDone_eq (o : WriteOutcome) (s : State) :
    (∀ a, (setupOf s).parkAngle = some a → calibrationDone o s = enterPark (referenceServed o s))
      ∧ ((setupOf s).parkAngle = none → calibrationDone o s = completeSearch
          { referenceServed o s with
            search := { (referenceServed o s).search with parkOutcome := .notRequested } }) := by
  have hlead : leadGrade (setBasis .counts s) = leadGrade s :=
    leadGrade_congr (lead_congr (by simp) (by simp) (by simp)) (by simp)
  have hset : (setupOf (setBasis .counts s)).parkAngle = (setupOf s).parkAngle := by simp [setupOf]
  refine ⟨fun a ha => ?_, fun ha => ?_⟩
  · unfold calibrationDone referenceServed regraded cappedKept
    dsimp only
    rw [hset, ha, referenced_gradeMin, hlead]
    cases leadGrade s <;> rfl
  · unfold calibrationDone referenceServed regraded cappedKept
    dsimp only
    rw [hset, ha, referenced_gradeMin, hlead]
    cases leadGrade s <;> rfl

theorem regraded_frame (s : State) :
    (regraded s).phase = s.phase ∧ (regraded s).straps = s.straps ∧ (regraded s).levels = s.levels
      ∧ (regraded s).sensor = s.sensor ∧ (regraded s).link = s.link ∧ (regraded s).peers = s.peers
      ∧ (regraded s).mark = s.mark ∧ (regraded s).claim = s.claim ∧ (regraded s).port.setup = s.port.setup
      ∧ (regraded s).port.frozen = s.port.frozen ∧ (regraded s).reck.count = s.reck.count
      ∧ (regraded s).reck.started = s.reck.started ∧ (regraded s).reck.lambda = s.reck.lambda
      ∧ (regraded s).reck.theta0 = s.reck.theta0 ∧ (regraded s).reck.atRest = s.reck.atRest
      ∧ (regraded s).gradeUnit.grade = ceiling (setBasis .counts s)
      ∧ (regraded s).gradeUnit.leadReport = s.gradeUnit.leadReport
      ∧ (regraded s).search.sub = s.search.sub ∧ (regraded s).search.leadHold = s.search.leadHold
      ∧ (regraded s).store.inFlight = s.store.inFlight ∧ (regraded s).store.pendingCal = s.store.pendingCal
      ∧ (regraded s).store.scanDone = s.store.scanDone ∧ (regraded s).store.calSeq = s.store.calSeq
      ∧ (regraded s).reck.basis = basisFor (ceiling (setBasis .counts s)) .counts
      ∧ (regraded s).reck.saturated = (setBasis .counts s).reck.saturated := by
  have hs := setGrade_saturated (ceiling (setBasis .counts s)) (b := .counts) (s := setBasis .counts s) (by simp)
  simp [regraded, hs]

theorem regraded_formed {s : State} (h : ThetaFormed s) : ThetaFormed (regraded s) :=
  (setGrade_formed (setBasis_formed h)).congr rfl rfl rfl

/-- A fall below RESOLVED replaces a pending REFERENCE request by the GRADE_LOSS snapshot (R93, log 81). -/
theorem setGradeBasis_refSnapshot (g : Grade) (b : Basis) {s : State} (hd : s.phase ≠ .down) :
    (setGradeBasis g b s).search.refSnapshot
      = if gradeCode .resolved ≤ gradeCode s.gradeUnit.grade ∧ gradeCode g < gradeCode .resolved
            ∧ s.store.pendingSnap.map (fun q => q.cause) = some .reference then .replaced
        else s.search.refSnapshot := by
  unfold setGradeBasis
  dsimp only
  by_cases hg : gradeCode .resolved ≤ gradeCode s.gradeUnit.grade ∧ gradeCode g < gradeCode .resolved
  · rw [if_pos (by simpa using hg)]
    simp [requestSnapshot, hd, putSnapshot, replacesReference, snapContents, hg.1, hg.2]
  · rw [if_neg (by simpa using hg), if_neg (fun h => hg ⟨h.1, h.2.1⟩)]
    simp

end Sys2Proof.Machine
end

section
/-! PROOFS. O37: the snapshot that the tests at the end of a command leave of a REFERENCE request, and what they start. -/

namespace Sys2Proof.Machine

/-! ### The snapshot pending at the end of a command -/

theorem requestSnapshot_put {c : SnapCause} {w : SnapState} {s : State} (hd : s.phase ≠ .down) :
    (requestSnapshot c w s).store.pendingSnap = some (snapContents c w s)
      ∧ ((c ≠ .gradeLoss ∧ c ≠ .powerFail) → (requestSnapshot c w s).search.refSnapshot = s.search.refSnapshot) := by
  refine ⟨by simp [requestSnapshot, hd, putSnapshot], fun h => ?_⟩
  simp [requestSnapshot, hd, putSnapshot, replacesReference, snapContents, h.1, h.2]

theorem setGrade_pendingSnap (g : Grade) (b : Basis) (s : State) :
    (setGrade g b s).store.pendingSnap = s.store.pendingSnap ∧ (setGrade g b s).search.refSnapshot = s.search.refSnapshot
      ∨ ∃ q, (setGrade g b s).store.pendingSnap = some q ∧ q.cause = .gradeLoss
          ∧ (s.store.pendingSnap.map (fun q => q.cause) = some .reference →
              (setGrade g b s).search.refSnapshot = .replaced) := by
  by_cases hd : s.phase = .down
  · refine .inl ?_
    unfold setGrade setGradeBasis requestSnapshot
    dsimp only
    split_ifs <;> simp_all
  · by_cases hg : gradeLe .resolved s.gradeUnit.grade && gradeLt g .resolved
    · refine .inr ⟨snapContents .gradeLoss .void (putGrade g (setBasis (basisFor g b) s)), ?_, rfl, fun hr => ?_⟩
      · rw [setGrade, setGradeBasis, if_pos hg]
        exact (requestSnapshot_put (by simpa using hd)).1
      · rw [setGrade, setGradeBasis_refSnapshot _ _ hd, if_pos ⟨by simp_all, by simp_all, hr⟩]
    · refine .inl ?_
      rw [setGrade, setGradeBasis, if_neg hg]
      simp

/-- The ceiling's test leaves the pending request, or puts a GRADE_LOSS in its place, which replaces a REFERENCE request. -/
theorem applyCeiling_pendingSnap (s : State) :
    (applyCeiling s).store.pendingSnap = s.store.pendingSnap ∧ (applyCeiling s).search.refSnapshot = s.search.refSnapshot
      ∨ ∃ q, (applyCeiling s).store.pendingSnap = some q ∧ q.cause = .gradeLoss
          ∧ (s.store.pendingSnap.map (fun q => q.cause) = some .reference →
              (applyCeiling s).search.refSnapshot = .replaced) := by
  unfold applyCeiling
  dsimp only
  split_ifs
  · exact .inl ⟨rfl, rfl⟩
  · exact setGrade_pendingSnap _ _ { s with gradeUnit := { s.gradeUnit with capped := true, recordedLead := leadGrade s } }
  · exact setGrade_pendingSnap _ _ s

theorem restTrigger_pendingSnap (s : State) :
    ((restTrigger s).store.pendingSnap = s.store.pendingSnap
        ∨ ∃ q, (restTrigger s).store.pendingSnap = some q ∧ q.cause = .rest)
      ∧ (restTrigger s).search.refSnapshot = s.search.refSnapshot := by
  unfold restTrigger
  split_ifs with h
  · have hd : s.phase ≠ .down := by
      intro hd
      simp [restWanted, hd] at h
    obtain ⟨h1, h2⟩ := requestSnapshot_put (c := .rest) (w := .sound) hd
    exact ⟨.inr ⟨_, h1, rfl⟩, h2 ⟨SnapCause.noConfusion, SnapCause.noConfusion⟩⟩
  · exact ⟨.inl rfl, rfl⟩

/-- The closing tests before the REST snapshot's and the start of a write. -/
def beforeRest (s0 s : State) : State :=
  driftTest (tryCall (tryComplete (tryRelease (reMarkTest s0 (tryMuster (tryClaim (tryPrereq s)))))))

theorem beforeWrite_eq {s0 s : State} (h : Undisturbed s) : beforeWrite s0 s = restTrigger (beforeRest s0 (applyCeiling s)) := by
  obtain ⟨hl, hw⟩ := h
  rw [beforeWrite, hl, hw, beforeRest]

theorem beforeRest_frame {s0 s : State} (hm : s.phase ≠ .muster) :
    (beforeRest s0 s).store = s.store ∧ (beforeRest s0 s).search.refSnapshot = s.search.refSnapshot
      ∧ (beforeRest s0 s).phase = s.phase ∧ (beforeRest s0 s).gradeUnit.grade = s.gradeUnit.grade
      ∧ (beforeRest s0 s).reck.theta = s.reck.theta ∧ (beforeRest s0 s).port.setup = s.port.setup := by
  have hmu : tryMuster (tryClaim (tryPrereq s)) = tryClaim (tryPrereq s) := tryMuster_outside (by simpa using hm)
  rw [beforeRest, hmu]
  simp

/-- After the tests of the lead, the write of the pending request starts when the scan has ended (R83, R89). -/
theorem finish_starts_snap {force : Bool} {s0 s : State} {q : SnapRequest}
    (hfl : s.store.inFlight = none) (hu : Undisturbed s) (hc : s.store.pendingCal = none)
    (hq : (beforeWrite s0 s).store.pendingSnap = some q) :
    (s.store.scanDone = true → ∃ slot n, (finish force s0 s).store.inFlight = some (.snap slot { seq := n, body := q })
        ∧ (finish force s0 s).store.pendingSnap = none)
      ∧ (s.store.scanDone = false → (finish force s0 s).store.inFlight = none
        ∧ (finish force s0 s).store.pendingSnap = some q) := by
  obtain ⟨-, h1, h2, -⟩ := beforeWrite_store s0 s
  have hcal : (beforeWrite s0 s).store.pendingCal = none := by
    obtain ⟨hl, hw⟩ := hu
    rw [beforeWrite, hl, hw]
    simpa using hc
  have hstore : (finish force s0 s).store = (startWrite (beforeWrite s0 s)).store := by simp [finish_eq_startWrite]
  rw [hfl] at h1
  rw [hstore]
  refine ⟨fun hs => ?_, fun hs => ?_⟩
  · refine ⟨nextTarget (beforeWrite s0 s), nextSeq (beforeWrite s0 s), ?_⟩
    simp [startWrite, h1, h2, hs, hcal, hq]
  · simp [startWrite, h1, h2, hs, hq]

/-- The request left at the end of a command is the one that it finds, a GRADE_LOSS that replaced it or a REST in its place
(R93, R95, log 81). -/
theorem beforeWrite_request {s0 s : State} {q : SnapRequest} (hu : Undisturbed s) (hm : s.phase ≠ .muster)
    (hq : s.store.pendingSnap = some q) (hr : q.cause = .reference) :
    ∃ p, (beforeWrite s0 s).store.pendingSnap = some p
      ∧ (p.cause = .reference ∨ p.cause = .rest
        ∨ p.cause = .gradeLoss ∧ (applyCeiling s).search.refSnapshot = .replaced) := by
  obtain ⟨hst, -⟩ := beforeRest_frame (s0 := s0) (s := applyCeiling s) (by simpa using hm)
  rw [beforeWrite_eq hu]
  rcases (restTrigger_pendingSnap (beforeRest s0 (applyCeiling s))).1 with h | ⟨p, h, hp⟩
  · rw [h, hst]
    rcases applyCeiling_pendingSnap s with ⟨h1, -⟩ | ⟨p, h1, hp, h2⟩
    · exact ⟨q, h1.trans hq, .inl hr⟩
    · exact ⟨p, h1, .inr (.inr ⟨hp, h2 (by simp [hq, hr])⟩)⟩
  · exact ⟨p, h, .inr (.inl hp)⟩

theorem finish_refSnapshot {force : Bool} {s0 s : State} (hu : Undisturbed s) (hm : s.phase ≠ .muster) :
    (finish force s0 s).search.refSnapshot = (applyCeiling s).search.refSnapshot := by
  obtain ⟨-, h1, -⟩ := beforeRest_frame (s0 := s0) (s := applyCeiling s) (by simpa using hm)
  have h2 := (restTrigger_pendingSnap (beforeRest s0 (applyCeiling s))).2
  rw [finish_eq_startWrite, beforeWrite_eq hu]
  simp [h2, h1]

theorem restTolAngle_nonneg (su : Setup) : 0 ≤ restTolAngle su := by
  unfold restTolAngle seenAtJoint rdiv turn
  positivity

/-- A pending request with the grade and the angle that stand now wants no REST snapshot (R95). -/
theorem restWanted_matched {s : State} {q : SnapRequest} (hq : s.store.pendingSnap = some q)
    (hg : q.grade = s.gradeUnit.grade) (ht : q.theta = s.reck.theta)
    (hth : gradeCode .resolved ≤ gradeCode s.gradeUnit.grade → s.reck.theta ≠ none) : restWanted s = false := by
  by_cases hr : gradeCode .resolved ≤ gradeCode s.gradeUnit.grade
  · obtain ⟨a, ha⟩ := Option.ne_none_iff_exists'.mp (hth hr)
    have hd : restDiffers s = false := by
      have hrr : restReference s = some (s.gradeUnit.grade, some a) := by
        unfold restReference
        rw [hq]
        simp [hg, ht, ha]
      unfold restDiffers
      rw [hrr, ha]
      simpa [dist] using restTolAngle_nonneg (setupOf s)
    simp [restWanted, hd]
  · simp [restWanted, hr]

end Sys2Proof.Machine
end

section
/-! PROOFS. O37: the station between the completion of a search's own write and the tests at the end of the command. -/

namespace Sys2Proof.Machine

/-! ### The grade set under the ceiling -/

theorem basisFor_ne_scale (g : Grade) : basisFor g .counts ≠ .scale := by
  unfold basisFor
  split_ifs <;> exact Basis.noConfusion

theorem basisFor_counts {g : Grade} (h : g ≠ .lost) : basisFor g .counts = .counts := by simp [basisFor, h]

/-- The store's request, the lead hold and the record of the search that the completion leaves. -/
theorem referenceServed_frame (o : WriteOutcome) {s : State} (hd : s.phase ≠ .down) :
    (referenceServed o s).phase = s.phase ∧ leadInputs (referenceServed o s) = leadInputs s
      ∧ (referenceServed o s).levels = s.levels ∧ (referenceServed o s).sensor = s.sensor
      ∧ (referenceServed o s).link = s.link ∧ (referenceServed o s).claim = s.claim
      ∧ (referenceServed o s).reck.count = s.reck.count ∧ (referenceServed o s).reck.started = s.reck.started
      ∧ (referenceServed o s).gradeUnit.grade = ceiling (setBasis .counts s)
      ∧ (referenceServed o s).reck.basis = basisFor (ceiling (setBasis .counts s)) .counts
      ∧ (referenceServed o s).search.sub = s.search.sub ∧ (referenceServed o s).search.leadHold = false
      ∧ (referenceServed o s).store.inFlight = s.store.inFlight
      ∧ (referenceServed o s).store.pendingCal = s.store.pendingCal
      ∧ (referenceServed o s).store.scanDone = s.store.scanDone
      ∧ (referenceServed o s).store.pendingSnap = some (snapContents .reference .sound (regraded s))
      ∧ (referenceServed o s).search.refSnapshot = (regraded s).search.refSnapshot := by
  obtain ⟨hp, hstr, hlv, hse, hlk, hpe, hmk, hcl, hset, hfr, hc, hst, -, -, -, hg, hlr, hsub, -, hfl, hca, hsc, -, hb, -⟩ :=
    regraded_frame s
  obtain ⟨h1, h2⟩ := requestSnapshot_put (c := .reference) (w := .sound) (s := regraded s) (by rwa [hp])
  have h2 := h2 ⟨SnapCause.noConfusion, SnapCause.noConfusion⟩
  have h3 : (endLeadHold (requestSnapshot .reference .sound (regraded s))).search.refSnapshot
      = (requestSnapshot .reference .sound (regraded s)).search.refSnapshot := by
    unfold endLeadHold
    split_ifs
    · dsimp only
      split <;> simp
    · rfl
  simp [referenceServed, leadInputs, endLeadHold_leadHold, hp, hstr, hlv, hse, hlk, hpe, hmk, hcl, hset, hfr, hc, hst, hg, hlr,
    hsub, hfl, hca, hsc, hb, h1, h2, h3]

/-- What the entry to PARK and the end of the search leave as they are. -/
theorem calibrationDone_kept (o : WriteOutcome) {s : State} (hd : s.phase ≠ .down) :
    (calibrationDone o s).reck = (referenceServed o s).reck
      ∧ (calibrationDone o s).gradeUnit = (referenceServed o s).gradeUnit
      ∧ leadInputs (calibrationDone o s) = leadInputs s
      ∧ (calibrationDone o s).sensor = s.sensor
      ∧ (calibrationDone o s).search.leadHold = false
      ∧ (calibrationDone o s).store.inFlight = s.store.inFlight
      ∧ (calibrationDone o s).store.pendingCal = s.store.pendingCal
      ∧ (calibrationDone o s).store.scanDone = s.store.scanDone
      ∧ (calibrationDone o s).store.pendingSnap = some (snapContents .reference .sound (regraded s))
      ∧ (calibrationDone o s).search.refSnapshot = (regraded s).search.refSnapshot
      ∧ ((calibrationDone o s).phase = s.phase ∨ (calibrationDone o s).phase = .ready) := by
  obtain ⟨hp, hin, -, hse, -, -, -, -, -, -, -, hlh, hfl, hca, hsc, hsn, hrs⟩ := referenceServed_frame o hd
  obtain ⟨hpark, hdone⟩ := calibrationDone_eq o s
  cases ha : (setupOf s).parkAngle with
  | some a =>
    rw [hpark a ha]
    refine ⟨by simp [enterPark], by simp [enterPark], ?_, by simpa [enterPark] using hse, ?_, by simpa [enterPark] using hfl,
      by simpa [enterPark] using hca, by simpa [enterPark] using hsc, by simpa [enterPark] using hsn, ?_,
      .inl (by simpa [enterPark] using hp)⟩
    · simpa [enterPark, leadInputs] using hin
    · rw [enterPark, beginMove, tryMove_search]
      split_ifs <;> simpa using hlh
    · rw [enterPark, beginMove, tryMove_search]
      split_ifs <;> simpa using hrs
  | none =>
    rw [hdone ha]
    refine ⟨by simp [completeSearch], by simp [completeSearch], ?_, by simpa [completeSearch] using hse,
      by simpa [completeSearch] using hlh, by simpa [completeSearch] using hfl,
      by simpa [completeSearch] using hca, by simpa [completeSearch] using hsc, by simpa [completeSearch] using hsn,
      by simpa [completeSearch, clearSearch] using hrs, .inr (by simp [completeSearch, setPhase])⟩
    simpa [completeSearch, leadInputs] using hin

end Sys2Proof.Machine
end

section
/-! PROOFS. O37: the search that parks, and the search that is completed, through the tests at the end of the command. -/

namespace Sys2Proof.Machine

theorem applyCeiling_referenceDone (s : State) :
    (applyCeiling s).port.attention.referenceDone = s.port.attention.referenceDone := by
  have hth : ∀ u : State, (recomputeTheta u).port.attention.referenceDone = u.port.attention.referenceDone := fun u => by
    unfold recomputeTheta
    split
    · rfl
    · dsimp only
      split_ifs <;> rfl
  have hb : ∀ (b : Basis) (u : State), (setBasis b u).port.attention.referenceDone = u.port.attention.referenceDone :=
    fun b u => by
      unfold setBasis
      split_ifs
      · rfl
      · exact hth _
  have hg : ∀ (g : Grade) (b : Basis) (u : State),
      (setGrade g b u).port.attention.referenceDone = u.port.attention.referenceDone := fun g b u => by
    unfold setGrade setGradeBasis putGrade setGradeAttention
    dsimp only
    split_ifs <;> simp [hb]
  unfold applyCeiling
  dsimp only
  split_ifs <;> simp [hg]

/-- With no claim waiting for its turn the tests at the end leave the claim, the search and the CLAIM slot. -/
theorem finish_claim_kept {force : Bool} {s0 s : State} (hu : Undisturbed s) (hm : s.phase ≠ .muster)
    (hsub : s.search.sub ≠ .waitPrereq) (hc : s.claim.state ≠ .waiting) :
    (finish force s0 s).claim = s.claim ∧ (finish force s0 s).search.sub = s.search.sub
      ∧ (finish force s0 s).search.moveStart = s.search.moveStart
      ∧ (finish force s0 s).search.stage = s.search.stage ∧ (finish force s0 s).search.outcome = s.search.outcome
      ∧ (finish force s0 s).search.parkOutcome = s.search.parkOutcome
      ∧ (finish force s0 s).search.leadHold = s.search.leadHold
      ∧ (finish force s0 s).link.queue.claim = s.link.queue.claim
      ∧ (finish force s0 s).port.attention.referenceDone = s.port.attention.referenceDone := by
  obtain ⟨hl, hw⟩ := hu
  have hp : tryPrereq (applyCeiling s) = applyCeiling s := if_neg fun h => hsub (by simpa using h.1)
  have hcl : tryClaim (applyCeiling s) = applyCeiling s := if_neg fun h => hc (by simpa using h.1)
  have hmu : tryMuster (applyCeiling s) = applyCeiling s := tryMuster_outside (by simpa using hm)
  rw [finish_eq_startWrite, beforeWrite, hl, hw, hp, hcl, hmu]
  simp [applyCeiling_referenceDone]

/-! ### Without a park angle -/

theorem releaseClaim_not_held (s : State) : (releaseClaim s).claim.state ≠ .held ∧ (releaseClaim s).claim.state ≠ .waiting := by
  unfold releaseClaim
  split
  · unfold beginRelease
    split_ifs <;> simp [sendFrame] <;> split_ifs <;> simp
  · simp
  · simp
  · next h => simp [h]
  · next h => simp [h]

theorem completeSearch_ended (s : State) :
    (completeSearch s).phase = .ready ∧ (completeSearch s).search.sub = .none
      ∧ (completeSearch s).search.outcome = .completed
      ∧ (completeSearch s).search.parkOutcome = s.search.parkOutcome
      ∧ (completeSearch s).port.attention.referenceDone = true
      ∧ (completeSearch s).claim = (releaseClaim s).claim := by
  simp [completeSearch, setPhase, clearSearch, setDoneAttention]

/-! ### With a park angle -/

theorem changePurpose_held {s : State} (h : s.claim.state = .held) (hp : s.phase = .reference) :
    (changePurpose s).claim.purpose = some .park ∧ (changePurpose s).link.queue.claim = some (.claim .park) := by
  simp [changePurpose, h, sendFrame, queueTakes, hp, frameKind, PerKind.set]

theorem tryMove_park {s : State} {a : Int} (hsub : s.search.sub = .park) (hstage : s.search.stage = .due)
    (hal : s.levels.alhHigh = true) (h : s.claim.state = .held) (ha : (setupOf s).parkAngle = some a) :
    tryMove s = { postDirective .moveTo 0 (some a) s with
      search := { (postDirective .moveTo 0 (some a) s).search with moveStart := some s.reck.count, stage := .underway } } := by
  unfold tryMove
  rw [if_pos ⟨by simp [searching, hsub], hstage, hal, h⟩, hsub, ha]
  simp [postMove, h]

/-- The move to the park angle: posted while ALH is high, due while it is low (R148, R159). -/
theorem enterPark_held {s : State} {a : Int} (h : s.claim.state = .held) (hp : s.phase = .reference)
    (ha : (setupOf s).parkAngle = some a) :
    (enterPark s).search.sub = .park ∧ (enterPark s).claim.state = .held ∧ (enterPark s).claim.purpose = some .park
      ∧ (enterPark s).link.queue.claim = some (.claim .park)
      ∧ (s.levels.alhHigh = true →
          (enterPark s).claim.dirState = .posted ∧ (enterPark s).claim.dir.kind = some .moveTo
            ∧ (enterPark s).claim.dir.speed = some 0 ∧ (enterPark s).claim.dir.target = some a
            ∧ (enterPark s).search.moveStart = some s.reck.count ∧ (enterPark s).search.stage = .underway)
      ∧ (s.levels.alhHigh = false →
          (enterPark s).claim.dirState = s.claim.dirState ∧ (enterPark s).claim.dir = s.claim.dir
            ∧ (enterPark s).search.stage = .due) := by
  obtain ⟨h1, h2⟩ := changePurpose_held (s := { s with search := { s.search with sub := .park, returning := false } }) h hp
  refine ⟨by simp [enterPark], by simpa [enterPark] using h, by simpa [enterPark] using h1, by simpa [enterPark] using h2,
    fun hal => ?_, fun hal => ?_⟩
  · rw [enterPark, beginMove, tryMove_park (a := a) (by simp) rfl (by simpa using hal) (by simpa using h)
      (by simpa [setupOf] using ha)]
    simp [postDirective, setDirectiveAttention]
  · simp [enterPark, beginMove, tryMove, hal]

end Sys2Proof.Machine
end

section
/-! PROOFS. O37: the completion of a search's own calibration write, and the theorem. -/

namespace Sys2Proof.Machine

/-- The station between the completion of a search's own write and the tests at the end of the command. -/
def ownWritten (now : Instant) (rb : ReadBack) (r : CalRecord) (s : State) : State :=
  calibrationDone (outcomeOf (foundCells calLength (encodeCal r) rb) (encodeCal r)) (calWritten r rb (tick now s))

section Own

variable {now : Instant} {rb : ReadBack} {r : CalRecord} {s : State}

/-- The angle of the motor count under the new calibration (R14). -/
def angleWritten (r : CalRecord) (s : State) : Int :=
  angleOfCount (setupOf s) r.body.theta0 (leadTerm (setupOf s) (coupled s) s.reck.lambda) s.reck.count

theorem calWritten_inputs : leadInputs (calWritten r rb (tick now s)) = leadInputs s := by
  obtain ⟨-, hstr, -, -, -, hpe, hm, hg, -, -, hset, hfr, -⟩ := calWritten_frame r rb (tick now s)
  simp [leadInputs, hstr, hpe, hm, hg, hset, hfr]

theorem calWritten_formed : ThetaFormed (calWritten r rb (tick now s)) := takeCalibration_formed _ _ _ _

theorem ownWritten_facts (hp : s.phase = .reference) :
    (ownWritten now rb r s).gradeUnit.grade = ceiling (setBasis .counts (calWritten r rb (tick now s)))
      ∧ (ownWritten now rb r s).reck.basis = basisFor (ceiling (setBasis .counts (calWritten r rb (tick now s)))) .counts
      ∧ leadInputs (ownWritten now rb r s) = leadInputs s
      ∧ (ownWritten now rb r s).sensor = s.sensor ∧ (ownWritten now rb r s).search.leadHold = false
      ∧ (ownWritten now rb r s).store.inFlight = none
      ∧ (ownWritten now rb r s).store.pendingCal = s.store.pendingCal
      ∧ (ownWritten now rb r s).store.scanDone = s.store.scanDone
      ∧ (ownWritten now rb r s).store.pendingSnap
        = some (snapContents .reference .sound (regraded (calWritten r rb (tick now s))))
      ∧ (ownWritten now rb r s).search.refSnapshot = (regraded (calWritten r rb (tick now s))).search.refSnapshot
      ∧ ((ownWritten now rb r s).phase = .reference ∨ (ownWritten now rb r s).phase = .ready)
      ∧ (ownWritten now rb r s).reck.count = s.reck.count ∧ (ownWritten now rb r s).reck.started = s.reck.started
      ∧ (ownWritten now rb r s).reck
        = (endLeadHold (requestSnapshot .reference .sound (regraded (calWritten r rb (tick now s))))).reck := by
  obtain ⟨wp, -, -, wse, -, -, -, -, -, -, -, -, wst, wc, wstt, -⟩ := calWritten_frame r rb (tick now s)
  have wp' : (calWritten r rb (tick now s)).phase = .reference := wp.trans (by simpa using hp)
  have hd : (calWritten r rb (tick now s)).phase ≠ .down := by rw [wp']; exact Phase.noConfusion
  obtain ⟨k1, k2, k3, k4, k5, k6, k7, k8, k9, k10, k11⟩ :=
    calibrationDone_kept (outcomeOf (foundCells calLength (encodeCal r) rb) (encodeCal r)) hd
  obtain ⟨-, -, -, -, -, -, f1, f2, f3, f4, -⟩ :=
    referenceServed_frame (outcomeOf (foundCells calLength (encodeCal r) rb) (encodeCal r)) hd
  refine ⟨by rw [ownWritten, k2, f3], by rw [ownWritten, k1, f4], k3.trans calWritten_inputs, k4.trans (by simpa using wse), k5,
    k6.trans (by simp [wst, readBackTaken_store]), k7.trans (by simp [wst, readBackTaken_store]),
    k8.trans (by simp [wst, readBackTaken_store]), k9, k10, ?_, ?_, ?_, k1⟩
  · rw [wp'] at k11
    exact k11
  · rw [ownWritten, k1, f1, wc]
    rfl
  · rw [ownWritten, k1, f2, wstt]
    rfl

theorem completed_own (hp : s.phase = .reference) (hown : ownCalibration s = true) :
    completed now rb r s = finish false (tick now s) (ownWritten now rb r s) := by
  have ho : ownCalibration (tick now s) = true := by simpa [ownCalibration] using hown
  have hph := (ownWritten_facts (now := now) (rb := rb) (r := r) hp).2.2.2.2.2.2.2.2.2.2.1
  have hc : calDone r rb (tick now s) = ownWritten now rb r s := by
    rw [calDone_eq, if_pos ho, ownWritten]
  rw [completed, hc, finalWriteTest, if_neg]
  rintro ⟨hd, -⟩
  rcases hph with h | h <;> simp [h] at hd

theorem ownWritten_undisturbed (hp : s.phase = .reference) (hh : LeadHeard s) : Undisturbed (ownWritten now rb r s) := by
  obtain ⟨-, -, hin, -, hlh, -⟩ := ownWritten_facts (now := now) (rb := rb) (r := r) hp
  exact LeadSteady.undisturbed ⟨leadHeard_of_inputs hin hh, fun h => absurd (hlh.symm.trans h) Bool.noConfusion⟩

/-! ### The grade and θ -/

theorem countsSet_formedAngle (hst : s.reck.started = true) :
    formedAngle (setBasis .counts (calWritten r rb (tick now s))) = some (angleWritten r s) := by
  obtain ⟨-, hstr, -, -, -, -, -, -, -, -, hset, hfr, -, hc, hs, hl, -⟩ := calWritten_frame r rb (tick now s)
  obtain ⟨h0, -⟩ := calWritten_taken r rb (tick now s)
  have hcp : coupled (setBasis .counts (calWritten r rb (tick now s))) = coupled s :=
    (coupled_congr (s := calWritten r rb (tick now s)) (by simp) (by simp) (by simp)).trans
      (coupled_of_inputs calWritten_inputs)
  simp [formedAngle, angleWritten, setupOf, hcp, hset, hc, hs, hl, h0, hst]

theorem countsSet_saturated (hst : s.reck.started = true) :
    (setBasis .counts (calWritten r rb (tick now s))).reck.saturated = !angleInRange (angleWritten r s) :=
  (setBasis_formed calWritten_formed).2 _ (countsSet_formedAngle hst)

theorem countsSet_lead : leadGrade (setBasis .counts (calWritten r rb (tick now s))) = leadGrade s :=
  (leadGrade_congr (s := calWritten r rb (tick now s)) (lead_congr (by simp) (by simp) (by simp)) (by simp)).trans
    (leadGrade_of_inputs calWritten_inputs)

theorem countsSet_ceiling_le :
    gradeCode (ceiling (setBasis .counts (calWritten r rb (tick now s)))) ≤ gradeCode ((leadGrade s).getD .referenced) := by
  rw [gradeCode_ceiling, countsSet_lead]
  exact min_le_right _ _

/-- Only a lead of LOST takes the ceiling to LOST (R103). -/
theorem ceiling_ne_lost {t : State} (hl : leadGrade t = leadGrade s) (h : (leadGrade s).getD .referenced ≠ .lost) :
    ceiling t ≠ .lost := by
  intro hc
  rw [ceiling_lost_iff, hl] at hc
  simp [hc] at h

theorem countsSet_ceiling (hb : s.sensor.badScale < 3)
    (hs : (setBasis .counts (calWritten r rb (tick now s))).reck.saturated = false) :
    ceiling (setBasis .counts (calWritten r rb (tick now s))) = (leadGrade s).getD .referenced := by
  obtain ⟨-, -, -, hse, -⟩ := calWritten_frame r rb (tick now s)
  rw [ceiling_clear hs (by simpa [hse] using hb), countsSet_lead]

theorem regraded_angle (hst : s.reck.started = true) :
    (regraded (calWritten r rb (tick now s))).reck.theta
      = if (regraded (calWritten r rb (tick now s))).gradeUnit.grade = .lost then none
        else some (clampAngle (angleWritten r s)) := by
  have hf := (regraded_formed (calWritten_formed (now := now) (rb := rb) (r := r) (s := s))).1
  have hr : (regraded (calWritten r rb (tick now s))).reck
      = (setBasis (basisFor (ceiling (setBasis .counts (calWritten r rb (tick now s)))) .counts)
          (setBasis .counts (calWritten r rb (tick now s)))).reck := setGradeBasis_lost_reck _ _ _
  obtain ⟨-, -, -, -, -, -, -, -, -, -, -, -, -, -, -, hg, -, -, -, -, -, -, -, hb, -⟩ := regraded_frame (calWritten r rb (tick now s))
  rw [hg]
  split_ifs with hl
  · rw [hf, formedAngle, hb, hl]
    rfl
  · rw [hr, basisFor_counts hl, setBasis_self (by simp), (setBasis_formed calWritten_formed).1, countsSet_formedAngle hst]
    rfl

/-- While the end of the lead hold leaves λ, it leaves θ and the SATURATED flag (R12). -/
theorem ownWritten_theta (hp : s.phase = .reference)
    (hl : ∀ k a, lead s = some k → s.search.leadHold = true → (entry s k).angle = some a → a = s.reck.lambda) :
    (ownWritten now rb r s).reck.theta = (regraded (calWritten r rb (tick now s))).reck.theta
      ∧ (ownWritten now rb r s).reck.saturated = (setBasis .counts (calWritten r rb (tick now s))).reck.saturated := by
  obtain ⟨-, -, -, -, -, -, -, -, -, -, -, -, -, hr⟩ := ownWritten_facts (now := now) (rb := rb) (r := r) hp
  obtain ⟨-, hstr, -, -, -, hpe, -, -, -, hse, hset, hfr, -, -, -, hlam, -⟩ := calWritten_frame r rb (tick now s)
  obtain ⟨-, gstr, -, -, -, gpe, -, -, gset, gfr, -, -, glam, -, -, -, -, -, glh, -, -, -, -, -, gsat⟩ :=
    regraded_frame (calWritten r rb (tick now s))
  have hreg : ThetaFormed (regraded (calWritten r rb (tick now s))) := regraded_formed calWritten_formed
  have hform : ThetaFormed (requestSnapshot .reference .sound (regraded (calWritten r rb (tick now s)))) :=
    hreg.congr (by simp) (by simp)
      (coupled_congr (s := regraded (calWritten r rb (tick now s))) (by simp) (by simp) (by simp))
  have hlead : lead (requestSnapshot .reference .sound (regraded (calWritten r rb (tick now s)))) = lead s :=
    lead_congr (by simp [gfr, hfr]) (by simp [gset, hset]) (by simp [gstr, hstr])
  obtain ⟨h1, h2, -⟩ := endLeadHold_theta hform (fun k a hk hh ha => by
    rw [hlead] at hk
    have h3 := hl k a hk (by simpa [glh, hse] using hh) (by simpa [entry, gpe, hpe] using ha)
    simpa [glam, hlam] using h3)
  rw [hr]
  exact ⟨by simpa using h1, by simpa [gsat] using h2⟩

theorem ownWritten_saturated (hp : s.phase = .reference) (hst : s.reck.started = false) :
    (ownWritten now rb r s).reck.saturated = (setBasis .counts (calWritten r rb (tick now s))).reck.saturated := by
  obtain ⟨-, -, -, -, -, -, -, -, -, -, -, -, -, hr⟩ := ownWritten_facts (now := now) (rb := rb) (r := r) hp
  obtain ⟨-, -, -, -, -, -, -, -, -, -, -, -, -, -, wst, -⟩ := calWritten_frame r rb (tick now s)
  obtain ⟨-, -, -, -, -, -, -, -, -, -, -, gst, -, -, -, -, -, -, -, -, -, -, -, gb, gsat⟩ :=
    regraded_frame (calWritten r rb (tick now s))
  have h := endLeadHold_saturated (s := requestSnapshot .reference .sound (regraded (calWritten r rb (tick now s))))
    (by simpa [gst, wst] using hst) (by simpa [gb] using basisFor_ne_scale _)
  rw [hr]
  simpa [gsat] using h

/-- The REFERENCE request, written out (R93, R158). -/
theorem regraded_request (hst : s.reck.started = true) :
    snapContents .reference .sound (regraded (calWritten r rb (tick now s)))
      = { state := if gradeCode .resolved
              ≤ gradeCode (ceiling (setBasis .counts (calWritten r rb (tick now s)))) then .sound else .void
          cause := .reference, grade := ceiling (setBasis .counts (calWritten r rb (tick now s)))
          atRest := s.reck.atRest, count := s.reck.count
          theta := if ceiling (setBasis .counts (calWritten r rb (tick now s))) = .lost then none
            else some (clampAngle (angleWritten r s))
          lambda := if coupled s = true then some s.reck.lambda else none
          calSeq := some r.seq, markNumber := s.mark.number } := by
  obtain ⟨-, hstr, -, -, -, hpe, hmk, -, -, hse, hset, hfr, hsto, hc, -, hlam, -, hat⟩ := calWritten_frame r rb (tick now s)
  obtain ⟨-, gstr, -, -, -, gpe, gmk, -, gset, gfr, gc, -, glam, -, gat, gg, -, -, -, -, -, -, gcs, -, -⟩ :=
    regraded_frame (calWritten r rb (tick now s))
  have hcp : coupled (regraded (calWritten r rb (tick now s))) = coupled s :=
    coupled_congr (by simp [gfr, hfr]) (by simp [gset, hset]) (by simp [gstr, hstr])
  rw [snapContents, regraded_angle hst, hcp, gg, gat, gc, glam, gcs, gmk, hat, hc, hlam, hmk, hsto, readBackTaken_store]
  simp

end Own

end Sys2Proof.Machine
end

section
/-! PROOFS. O37: the completion of a search's own calibration write. -/

namespace Sys2Proof.Machine

section Own

variable {now : Instant} {rb : ReadBack} {r : CalRecord} {s : State} (hp : s.phase = .reference) (hh : LeadHeard s)

include hp

theorem ownWritten_not_idle :
    (ownWritten now rb r s).phase ≠ .config ∧ (ownWritten now rb r s).phase ≠ .down
      ∧ (ownWritten now rb r s).phase ≠ .muster := by
  obtain ⟨-, -, -, -, -, -, -, -, -, -, h, -⟩ := ownWritten_facts (now := now) (rb := rb) (r := r) hp
  rcases h with h | h <;> simp [h]

theorem ownWritten_lead : leadGrade (ownWritten now rb r s) = leadGrade s := by
  obtain ⟨-, -, hin, -⟩ := ownWritten_facts (now := now) (rb := rb) (r := r) hp
  exact leadGrade_of_inputs hin

include hh

/-- The grade is at most the lead's, the basis is COUNTS unless the lead grade is LOST, and with the angle in range the grade
is the lead's (R103, R158). -/
theorem own_grade :
    (((leadGrade s).getD .referenced) ≠ .lost →
        (finish false (tick now s) (ownWritten now rb r s)).reck.basis = .counts)
      ∧ gradeCode (finish false (tick now s) (ownWritten now rb r s)).gradeUnit.grade
        ≤ gradeCode ((leadGrade s).getD .referenced)
      ∧ (s.sensor.badScale < 3 → (s.reck.started = true → angleInRange (angleWritten r s) = true) →
        (finish false (tick now s) (ownWritten now rb r s)).reck.saturated = false →
          (finish false (tick now s) (ownWritten now rb r s)).gradeUnit.grade = (leadGrade s).getD .referenced) := by
  obtain ⟨hg, hb, -, hse, -⟩ := ownWritten_facts (now := now) (rb := rb) (r := r) hp
  obtain ⟨hc, hd, hm⟩ := ownWritten_not_idle (now := now) (rb := rb) (r := r) hp
  obtain ⟨-, fg, fb, -, fs, -⟩ := finish_undisturbed_frame (force := false) (s0 := tick now s)
    (ownWritten_undisturbed (now := now) (rb := rb) (r := r) hp hh) hm
  have hlead := ownWritten_lead (now := now) (rb := rb) (r := r) hp
  rw [fg, fb, fs, applyCeiling_saturated]
  refine ⟨fun hl => ?_, ?_, fun hbad hin hsat => ?_⟩
  · have hbx : (ownWritten now rb r s).reck.basis = .counts := by
      rw [hb, basisFor_counts (ceiling_ne_lost countsSet_lead hl)]
    by_cases hle : gradeCode (ownWritten now rb r s).gradeUnit.grade ≤ gradeCode (ceiling (ownWritten now rb r s))
    · rw [applyCeiling_under hle, hbx]
    · rw [applyCeiling_basis hc hd (not_le.mp hle), hbx, basisFor_counts (ceiling_ne_lost hlead hl)]
  · refine (applyCeiling_grade_le _).trans ?_
    rw [hg]
    exact countsSet_ceiling_le
  · have hA : (setBasis .counts (calWritten r rb (tick now s))).reck.saturated = false := by
      cases hst : s.reck.started with
      | true => rw [countsSet_saturated hst, hin hst]; rfl
      | false => rw [← ownWritten_saturated hp hst, hsat]
    have hX : ceiling (ownWritten now rb r s) = (leadGrade s).getD .referenced := by
      rw [ceiling_clear hsat (by simpa [hse] using hbad), hlead]
    have hgx : (ownWritten now rb r s).gradeUnit.grade = (leadGrade s).getD .referenced := by
      rw [hg, countsSet_ceiling hbad hA]
    rw [applyCeiling_under (by rw [hX, hgx]), hgx]

theorem own_leadHold : (finish false (tick now s) (ownWritten now rb r s)).search.leadHold = false := by
  obtain ⟨-, -, -, -, h, -⟩ := ownWritten_facts (now := now) (rb := rb) (r := r) hp
  obtain ⟨hl, hw⟩ := ownWritten_undisturbed (now := now) (rb := rb) (r := r) hp hh
  rw [finish_eq_closing, hl, hw, closing]
  simpa using h

/-- Once the scan has ended the write of a snapshot starts at once (R83, R93). -/
theorem own_starts (hca : s.store.pendingCal = none) (hsc : s.store.scanDone = true) :
    ∃ slot q, (finish false (tick now s) (ownWritten now rb r s)).store.inFlight = some (.snap slot q)
      ∧ (finish false (tick now s) (ownWritten now rb r s)).store.pendingSnap = none
      ∧ (q.body.cause = .reference ∨ q.body.cause = .rest
        ∨ q.body.cause = .gradeLoss
          ∧ (finish false (tick now s) (ownWritten now rb r s)).search.refSnapshot = .replaced) := by
  obtain ⟨-, -, -, -, -, hfl, hpc, hscan, hsn, -⟩ := ownWritten_facts (now := now) (rb := rb) (r := r) hp
  obtain ⟨-, -, hm⟩ := ownWritten_not_idle (now := now) (rb := rb) (r := r) hp
  have hu := ownWritten_undisturbed (now := now) (rb := rb) (r := r) hp hh
  obtain ⟨p, hq, hcause⟩ := beforeWrite_request (s0 := tick now s) hu hm hsn rfl
  obtain ⟨slot, n, h1, h2⟩ :=
    (finish_starts_snap (force := false) hfl hu (hpc.trans hca) hq).1 (hscan.trans hsc)
  exact ⟨slot, _, h1, h2, by rwa [finish_refSnapshot hu hm]⟩

/-- While the end of the lead hold leaves λ, the ceiling's test has nothing to do and no REST snapshot is wanted. -/
theorem own_settled (hst : s.reck.started = true)
    (hl : ∀ k a, lead s = some k → s.search.leadHold = true → (entry s k).angle = some a → a = s.reck.lambda) :
    applyCeiling (ownWritten now rb r s) = ownWritten now rb r s
      ∧ (beforeWrite (tick now s) (ownWritten now rb r s)).store.pendingSnap
        = some (snapContents .reference .sound (regraded (calWritten r rb (tick now s)))) := by
  obtain ⟨hg, -, -, hse, -, -, -, -, hsn, -⟩ := ownWritten_facts (now := now) (rb := rb) (r := r) hp
  obtain ⟨-, -, hm⟩ := ownWritten_not_idle (now := now) (rb := rb) (r := r) hp
  have hu := ownWritten_undisturbed (now := now) (rb := rb) (r := r) hp hh
  obtain ⟨hth, hsat⟩ := ownWritten_theta (now := now) (rb := rb) (r := r) hp hl
  obtain ⟨-, -, -, wse, -⟩ := calWritten_frame r rb (tick now s)
  obtain ⟨-, -, -, -, -, -, -, -, -, -, -, -, -, -, -, rg, -⟩ := regraded_frame (calWritten r rb (tick now s))
  have hceil : ceiling (ownWritten now rb r s) = ceiling (setBasis .counts (calWritten r rb (tick now s))) :=
    ceiling_congr hsat (by simp [hse, wse]) ((ownWritten_lead hp).trans countsSet_lead.symm)
  have hid : applyCeiling (ownWritten now rb r s) = ownWritten now rb r s := applyCeiling_under (by rw [hceil, hg])
  obtain ⟨h1, -, -, h2, h3, -⟩ := beforeRest_frame (s0 := tick now s) (s := ownWritten now rb r s) hm
  refine ⟨hid, ?_⟩
  have hrest : restWanted (beforeRest (tick now s) (ownWritten now rb r s)) = false := by
    refine restWanted_matched (by rw [h1]; exact hsn) ?_ ?_ fun hres => ?_
    · rw [h2, hg]
      exact rg
    · rw [h3, hth]
      rfl
    · rw [h2, hg] at hres
      rw [h3, hth, regraded_angle hst, rg, if_neg]
      · exact Option.some_ne_none _
      · rintro hlost
        simp [hlost, gradeCode] at hres
  rw [beforeWrite_eq hu, hid, restTrigger, hrest, if_neg Bool.false_ne_true, h1]
  exact hsn

/-- The snapshot of the recorded outcome: REPLACED where the completion lowers the grade below RESOLVED while a REFERENCE
request is pending (R93, log 81). -/
theorem own_refSnapshot (hst : s.reck.started = true)
    (hl : ∀ k a, lead s = some k → s.search.leadHold = true → (entry s k).angle = some a → a = s.reck.lambda) :
    (finish false (tick now s) (ownWritten now rb r s)).search.refSnapshot
      = if gradeCode .resolved ≤ gradeCode s.gradeUnit.grade
            ∧ gradeCode (ceiling (setBasis .counts (calWritten r rb (tick now s)))) < gradeCode .resolved
            ∧ s.store.pendingSnap.map (fun q => q.cause) = some .reference then .replaced
        else s.search.refSnapshot := by
  obtain ⟨-, -, -, -, -, -, -, -, -, hrs, -⟩ := ownWritten_facts (now := now) (rb := rb) (r := r) hp
  obtain ⟨-, -, hm⟩ := ownWritten_not_idle (now := now) (rb := rb) (r := r) hp
  have hu := ownWritten_undisturbed (now := now) (rb := rb) (r := r) hp hh
  obtain ⟨wp, -, -, -, -, -, -, wg, -, wse, -, -, wst, -⟩ := calWritten_frame r rb (tick now s)
  have hd : (setBasis .counts (calWritten r rb (tick now s))).phase ≠ .down := by simp [wp, hp]
  have h := setGradeBasis_refSnapshot (ceiling (setBasis .counts (calWritten r rb (tick now s))))
    (basisFor (ceiling (setBasis .counts (calWritten r rb (tick now s)))) .counts) hd
  rw [finish_refSnapshot hu hm, (own_settled hp hh hst hl).1, hrs]
  refine h.trans ?_
  simp [wg, wse, wst, readBackTaken_store]

end Own

/-! ### What the search goes on with -/

section Search

variable {now : Instant} {rb : ReadBack} {r : CalRecord} {s : State} (hp : s.phase = .reference) (hh : LeadHeard s)

include hp hh

/-- Without a park angle the search is completed (R160). -/
theorem own_ready (ha : (setupOf s).parkAngle = none) :
    (finish false (tick now s) (ownWritten now rb r s)).phase = .ready
      ∧ (finish false (tick now s) (ownWritten now rb r s)).search.sub = .none
      ∧ (finish false (tick now s) (ownWritten now rb r s)).search.outcome = .completed
      ∧ (finish false (tick now s) (ownWritten now rb r s)).search.parkOutcome = .notRequested
      ∧ (finish false (tick now s) (ownWritten now rb r s)).port.attention.referenceDone = true
      ∧ claimFlag (finish false (tick now s) (ownWritten now rb r s)) = false := by
  obtain ⟨-, -, hm⟩ := ownWritten_not_idle (now := now) (rb := rb) (r := r) hp
  have hu := ownWritten_undisturbed (now := now) (rb := rb) (r := r) hp hh
  obtain ⟨-, -, -, -, -, -, -, -, -, -, hset, -⟩ := calWritten_frame r rb (tick now s)
  have ha' : (setupOf (calWritten r rb (tick now s))).parkAngle = none := by simpa [setupOf, hset] using ha
  have hX := (calibrationDone_eq (outcomeOf (foundCells calLength (encodeCal r) rb) (encodeCal r)) _).2 ha'
  obtain ⟨fp, -⟩ := finish_undisturbed_frame (force := false) (s0 := tick now s) hu hm
  rw [← ownWritten] at hX
  obtain ⟨c1, c2, c3, c4, c5, c6⟩ := completeSearch_ended
    { referenceServed (outcomeOf (foundCells calLength (encodeCal r) rb) (encodeCal r)) (calWritten r rb (tick now s)) with
      search := { (referenceServed (outcomeOf (foundCells calLength (encodeCal r) rb) (encodeCal r))
        (calWritten r rb (tick now s))).search with parkOutcome := .notRequested } }
  rw [← hX] at c1 c2 c3 c4 c5 c6
  have hn := releaseClaim_not_held
    { referenceServed (outcomeOf (foundCells calLength (encodeCal r) rb) (encodeCal r)) (calWritten r rb (tick now s)) with
      search := { (referenceServed (outcomeOf (foundCells calLength (encodeCal r) rb) (encodeCal r))
        (calWritten r rb (tick now s))).search with parkOutcome := .notRequested } }
  rw [← c6] at hn
  obtain ⟨k1, k2, -, -, k3, k4, -, -, k5⟩ := finish_claim_kept (force := false) (s0 := tick now s) hu hm
    (by rw [c2]; exact SearchSub.noConfusion) hn.2
  refine ⟨fp.trans c1, k2.trans c2, k3.trans c3, k4.trans c4, k5.trans c5, ?_⟩
  simp [claimFlag, k1, hn.1]

/-- With a park angle the search parks (R127, R148, R159). -/
theorem own_park {a : Int} (ha : (setupOf s).parkAngle = some a)
    (hcl : s.claim.state = .held) :
    (finish false (tick now s) (ownWritten now rb r s)).phase = .reference
      ∧ (finish false (tick now s) (ownWritten now rb r s)).search.sub = .park
      ∧ (finish false (tick now s) (ownWritten now rb r s)).claim.state = .held
      ∧ (finish false (tick now s) (ownWritten now rb r s)).claim.purpose = some .park
      ∧ (finish false (tick now s) (ownWritten now rb r s)).link.queue.claim = some (.claim .park)
      ∧ (s.levels.alhHigh = true →
          (finish false (tick now s) (ownWritten now rb r s)).claim.dirState = .posted
            ∧ (finish false (tick now s) (ownWritten now rb r s)).claim.dir.kind = some .moveTo
            ∧ (finish false (tick now s) (ownWritten now rb r s)).claim.dir.speed = some 0
            ∧ (finish false (tick now s) (ownWritten now rb r s)).claim.dir.target = some a
            ∧ (finish false (tick now s) (ownWritten now rb r s)).search.moveStart
              = some (finish false (tick now s) (ownWritten now rb r s)).reck.count
            ∧ (finish false (tick now s) (ownWritten now rb r s)).search.stage = .underway)
      ∧ (s.levels.alhHigh = false →
          (finish false (tick now s) (ownWritten now rb r s)).claim.dirState = s.claim.dirState
            ∧ (finish false (tick now s) (ownWritten now rb r s)).claim.dir = s.claim.dir
            ∧ (finish false (tick now s) (ownWritten now rb r s)).search.stage = .due) := by
  obtain ⟨-, -, hin, -, -, -, -, -, -, -, -, hcount, -⟩ := ownWritten_facts (now := now) (rb := rb) (r := r) hp
  obtain ⟨-, -, hm⟩ := ownWritten_not_idle (now := now) (rb := rb) (r := r) hp
  have hu := ownWritten_undisturbed (now := now) (rb := rb) (r := r) hp hh
  obtain ⟨wp, -, wlv, -, -, -, -, -, wcl, -, hset, -, -, wc, -⟩ := calWritten_frame r rb (tick now s)
  have wp' : (calWritten r rb (tick now s)).phase = .reference := wp.trans (by simpa using hp)
  have hd : (calWritten r rb (tick now s)).phase ≠ .down := by rw [wp']; exact Phase.noConfusion
  obtain ⟨f1, fin, f2, -, -, f3, f4, -⟩ :=
    referenceServed_frame (outcomeOf (foundCells calLength (encodeCal r) rb) (encodeCal r)) hd
  have ha' : (setupOf (calWritten r rb (tick now s))).parkAngle = some a := by simpa [setupOf, hset] using ha
  have ha2 : (setupOf (referenceServed (outcomeOf (foundCells calLength (encodeCal r) rb) (encodeCal r))
      (calWritten r rb (tick now s)))).parkAngle = some a := by
    simp only [leadInputs, Prod.mk.injEq] at fin
    obtain ⟨-, fset, -⟩ := fin
    simpa [setupOf, fset] using ha'
  have hX := (calibrationDone_eq (outcomeOf (foundCells calLength (encodeCal r) rb) (encodeCal r)) _).1 a ha'
  rw [← ownWritten] at hX
  obtain ⟨e1, e2, e3, e4, e5, e6⟩ := enterPark_held (by rw [f3, wcl]; exact hcl) (f1.trans wp') ha2
  have hphase := enterPark_frame (referenceServed (outcomeOf (foundCells calLength (encodeCal r) rb) (encodeCal r))
    (calWritten r rb (tick now s)))
  rw [f2, wlv, f4, wc] at e5
  rw [f2, wlv, f3, wcl] at e6
  rw [← hX] at e1 e2 e3 e4 e5 e6 hphase
  obtain ⟨k1, k2, k3, k4, -, -, -, k5, -⟩ := finish_claim_kept (force := false) (s0 := tick now s) hu hm
    (by rw [e1]; exact SearchSub.noConfusion) (by rw [e2]; exact ClaimState.noConfusion)
  obtain ⟨fp, -⟩ := finish_undisturbed_frame (force := false) (s0 := tick now s) hu hm
  have hcnt : (finish false (tick now s) (ownWritten now rb r s)).reck.count = s.reck.count := by
    obtain ⟨h, -⟩ := finish_heard_frame (force := false) (s0 := tick now s) (leadHeard_of_inputs hin hh)
    exact h.trans hcount
  rw [k1, k2, k3, k4, k5, hcnt, fp]
  exact ⟨hphase.1.trans (f1.trans wp'), e1, e2, e3, e4, fun h => e5 h, fun h => e6 h⟩

end Search

/-! ### The theorem -/

/-- Settles O37: any completion by `written_cells`, `written_image`, `written_fault` and `written_unowned`, a search's own by the
parts above. -/
theorem calibrationCompletes : Obligations.CalibrationCompletes := by
  refine ⟨fun now rb r s hs hfl => ?_, fun now rb r s hsteady hfl hp hsub hawait hca hbad => ?_⟩
  · intro found
    have hf : found = foundCells calLength (encodeCal r) rb := by cases rb <;> rfl
    obtain ⟨h1, h2, h3, h4, h5, h6, h7, h8⟩ := written_cells (now := now) (rb := rb) (r := r) (s := s)
    obtain ⟨i1, i2⟩ := written_image (now := now) (rb := rb) (r := r) (s := s)
    rw [← hf] at h1 h8 i2
    refine ⟨_, exec_writeCompletion hs hfl, h1, h2, h3, h4, h5, h6, h7, i1, i2, h8, fun hd => ?_, fun hd hl => ?_, fun hown => ?_⟩
    · exact (written_fault (hf ▸ hd)).1
    · exact (written_fault (hf ▸ hd)).2 hl
    · exact written_unowned hown
  · obtain ⟨hs, hh, -⟩ := hsteady
    have hown : ownCalibration s = true := by simp [ownCalibration, hsub, hawait, hca]
    obtain ⟨h1, -, -, h4, h5, h6, h7, h8⟩ := written_cells (now := now) (rb := rb) (r := r) (s := s)
    have hexec := exec_writeCompletion (now := now) (rb := rb) hs hfl
    rw [completed_own hp hown] at hexec h1 h4 h5 h6 h7 h8
    obtain ⟨hg, -, -, -, hhold, hfl', hpc, hsc, -⟩ := ownWritten_facts (now := now) (rb := rb) (r := r) hp
    have hu := ownWritten_undisturbed (now := now) (rb := rb) (r := r) hp hh
    obtain ⟨g1, g2, g3⟩ := own_grade (now := now) (rb := rb) (r := r) hp hh
    intro su cap
    refine ⟨_, hexec, h5, h6, h7, h4, h1.trans (by cases rb <;> rfl), g1, g2, g3 hbad, own_leadHold hp hh, ?_,
      own_starts hp hh hca, fun hst hl => ?_, own_ready hp hh, fun a ha hcl => own_park hp hh ha hcl⟩
    · have hiff : (rb = .agrees ∨ foundCells calLength (encodeCal r) rb = encodeCal r)
          ↔ foundCells calLength (encodeCal r) rb = encodeCal r :=
        or_iff_right_of_imp (by rintro rfl; rfl)
      rw [h8, h1]
      simp only [hiff]
    · obtain ⟨hid, hsn⟩ := own_settled (now := now) (rb := rb) (r := r) hp hh hst hl
      obtain ⟨-, -, hm⟩ := ownWritten_not_idle (now := now) (rb := rb) (r := r) hp
      obtain ⟨-, fg, -⟩ := finish_undisturbed_frame (force := false) (s0 := tick now s) hu hm
      have hgrade : (finish false (tick now s) (ownWritten now rb r s)).gradeUnit.grade
          = ceiling (setBasis .counts (calWritten r rb (tick now s))) := by rw [fg, hid, hg]
      obtain ⟨k1, k2⟩ := finish_starts_snap (force := false) hfl' hu (hpc.trans hca) hsn
      have hrefs := own_refSnapshot (now := now) (rb := rb) (r := r) hp hh hst hl
      rw [regraded_request hst, ← hgrade] at k1 k2
      rw [← hgrade] at hrefs
      intro sound request
      refine ⟨fun h => k1 (hsc.trans h), fun h => k2 (hsc.trans h), fun q hq hr hres hns => ?_, fun hall => ?_⟩
      · rw [hrefs, if_pos ⟨hres, not_le.mp hns, by simp [hq, hr]⟩]
      · rw [hrefs, if_neg]
        rintro ⟨h1, h2, h3⟩
        obtain ⟨q, hq, hr⟩ := Option.map_eq_some_iff.mp h3
        rcases hall q hq hr with h | h
        · exact absurd h (not_lt.mpr h1)
        · exact absurd h (not_le.mpr h2)

end Sys2Proof.Machine
end

section
/-! PROOFS. O41: the receiver that waits for idle is opened by an idle line alone: a frame that is queued or withdrawn leaves
the line (R27, R33). -/

namespace Sys2Proof.Machine

/-- The receiver waits for idle (R27). -/
def waitsForIdle : LineState → Bool
  | .waitingForIdle => true
  | .idle | .sending _ | .receiving | .abandoned => false

theorem waitsForIdle_iff (l : LineState) : waitsForIdle l = true ↔ l = .waitingForIdle := by
  cases l <;> simp [waitsForIdle]

@[simp] theorem sendFrame_waits (f : Frame) (s : State) : waitsForIdle (sendFrame f s).link.line = waitsForIdle s.link.line := by
  unfold sendFrame
  split_ifs
  · change waitsForIdle (markReplaced (frameKind f) s.link.line) = _
    unfold markReplaced
    split
    · split_ifs <;> simp_all [waitsForIdle]
    · rfl
  · rfl

@[simp] theorem withdrawFrame_waits (k : FrameKind) (s : State) :
    waitsForIdle (withdrawFrame k s).link.line = waitsForIdle s.link.line := by
  rfl

@[simp] theorem queueStatus_waits (s : State) :
    waitsForIdle (queueStatus s).link.line = waitsForIdle s.link.line := by
  simp [queueStatus]

@[simp] theorem tryClaim_waits (s : State) :
    waitsForIdle (tryClaim s).link.line = waitsForIdle s.link.line := by
  unfold tryClaim
  split_ifs <;> simp

@[simp] theorem beginRelease_waits (b : Bool) (s : State) :
    waitsForIdle (beginRelease b s).link.line = waitsForIdle s.link.line := by
  unfold beginRelease
  split_ifs <;> simp

@[simp] theorem releaseClaim_waits (s : State) :
    waitsForIdle (releaseClaim s).link.line = waitsForIdle s.link.line := by
  unfold releaseClaim
  (repeat' split) <;> simp

@[simp] theorem tryCall_waits (s : State) :
    waitsForIdle (tryCall s).link.line = waitsForIdle s.link.line := by
  unfold tryCall
  split_ifs <;> simp

@[simp] theorem queueReport_waits (c : Capture) (g : Grade) (theta : Option Int) (s : State) :
    waitsForIdle (queueReport c g theta s).link.line = waitsForIdle s.link.line := by
  simp [queueReport]

@[simp] theorem flushReport_waits (s : State) :
    waitsForIdle (flushReport s).link.line = waitsForIdle s.link.line := by
  unfold flushReport
  (repeat' split) <;> simp

@[simp] theorem dropNeeds_waits (s : State) :
    waitsForIdle (dropNeeds s).link.line = waitsForIdle s.link.line := by
  simp [dropNeeds]

@[simp] theorem markAtFault_waits (s : State) :
    waitsForIdle (markAtFault s).link.line = waitsForIdle s.link.line := by
  simp [markAtFault]

@[simp] theorem endSearch_waits (o : SearchOutcome) (s : State) :
    waitsForIdle (endSearch o s).link.line = waitsForIdle s.link.line := by
  simp [endSearch]

@[simp] theorem failSearch_waits (c : FailCause) (n : Int) (s : State) :
    waitsForIdle (failSearch c n s).link.line = waitsForIdle s.link.line := by
  simp [failSearch]

@[simp] theorem abortSearch_waits (a : AbortReason) (st : Option Station) (s : State) :
    waitsForIdle (abortSearch a st s).link.line = waitsForIdle s.link.line := by
  simp [abortSearch]

@[simp] theorem watchLead_waits (s : State) :
    waitsForIdle (watchLead s).link.line = waitsForIdle s.link.line := by
  unfold watchLead
  split_ifs <;> simp

@[simp] theorem stopEffects_waits (c : StopCause) (a : Int) (s : State) :
    waitsForIdle (stopEffects c a s).link.line = waitsForIdle s.link.line := by
  simp [stopEffects, endDecision]

@[simp] theorem raiseStop_waits (c : StopCause) (a b : Int) (s : State) :
    waitsForIdle (raiseStop c a b s).link.line = waitsForIdle s.link.line := by
  unfold raiseStop
  dsimp only
  (repeat' split) <;> simp

@[simp] theorem raiseIfOutside_waits (x : Int) (s : State) :
    waitsForIdle (raiseIfOutside x s).link.line = waitsForIdle s.link.line := by
  unfold raiseIfOutside
  split_ifs <;> simp

@[simp] theorem decided_waits (c : Capture) (s : State) :
    waitsForIdle (decided c s).link.line = waitsForIdle s.link.line := by
  unfold decided decisionShown reported graded
  dsimp only
  (repeat' split) <;> simp [endDecision, turnTaken, gradeByVerdict]

@[simp] theorem decideOn_waits (c : Capture) (s : State) :
    waitsForIdle (decideOn c s).link.line = waitsForIdle s.link.line := by
  simp [decideOn_eq]

@[simp] theorem decideHeld_waits (s : State) :
    waitsForIdle (decideHeld s).link.line = waitsForIdle s.link.line := by
  unfold decideHeld
  (repeat' split) <;> simp

@[simp] theorem advanceDecision_waits (s : State) :
    waitsForIdle (advanceDecision s).link.line = waitsForIdle s.link.line := by
  unfold advanceDecision
  split_ifs <;> simp

@[simp] theorem leadResolved_waits (l : LeadReport) (s : State) :
    waitsForIdle (leadResolved l s).link.line = waitsForIdle s.link.line := by
  unfold leadResolved
  dsimp only
  (repeat' split) <;> simp

@[simp] theorem leadLost_waits (s : State) :
    waitsForIdle (leadLost s).link.line = waitsForIdle s.link.line := by
  unfold leadLost
  (repeat' split) <;> simp

@[simp] theorem statusTest_waits (force : Bool) (s0 : State) (s : State) :
    waitsForIdle (statusTest force s0 s).link.line = waitsForIdle s.link.line := by
  unfold statusTest
  split_ifs <;> simp

@[simp] theorem adoptCall_waits (n : Byte) (s : State) :
    waitsForIdle (adoptCall n s).link.line = waitsForIdle s.link.line := by
  simp [adoptCall]

@[simp] theorem takeCall_waits (k : Station) (n : Byte) (s : State) :
    waitsForIdle (takeCall k n s).link.line = waitsForIdle s.link.line := by
  unfold takeCall
  split_ifs <;> simp [callHeard] <;> split_ifs <;> simp [startQuiet]

@[simp] theorem claimEcho_waits (s : State) :
    waitsForIdle (claimEcho s).link.line = waitsForIdle s.link.line := by
  unfold claimEcho
  (repeat' split) <;> simp

@[simp] theorem duplicate_waits (k : Station) (f : Frame) (s : State) :
    waitsForIdle (duplicate k f s).link.line = true := by
  rw [duplicate, raiseStop_waits]
  rfl

@[simp] theorem finish_waits (force : Bool) (s0 s : State) :
    waitsForIdle (finish force s0 s).link.line = waitsForIdle s.link.line := by
  simp [finish_eq_closing, closing]

end Sys2Proof.Machine
end

section
/-! PROOFS. O41: PLAN_MISMATCH is raised by the digest of an arrival alone (R59): everything else leaves a record that names
another cause, or none, as one that does. -/

namespace Sys2Proof.Machine

/-- The record names another cause than PLAN_MISMATCH, or none. -/
def NotMismatch (r : FaultRecord) : Prop := r.cause ≠ some (.note .planMismatch)

section Family

variable {s : State}

theorem raise_notMismatch {c : FaultCause} (a b : Int) (st : Option Station) (hc : c ≠ .note .planMismatch)
    (h : NotMismatch s.fault.record) : NotMismatch (raise c a b st s).fault.record := by
  cases hl : s.fault.record.locked with
  | true => rw [NotMismatch, raise_locked _ _ _ _ _ hl]; exact h
  | false => rw [NotMismatch, raise_unlocked _ _ _ _ _ hl]; simpa using hc

@[simp] theorem note_notMismatch {c : NoteCause} (a b : Int) (hc : c ≠ .planMismatch)
    (h : NotMismatch s.fault.record) : NotMismatch (note c a b s).fault.record :=
  raise_notMismatch a b _ (by simpa using hc) h

@[simp] theorem noteOf_notMismatch (k : Station) {c : NoteCause} (a b : Int) (hc : c ≠ .planMismatch)
    (h : NotMismatch s.fault.record) : NotMismatch (noteOf k c a b s).fault.record :=
  raise_notMismatch a b _ (by simpa using hc) h

@[simp] theorem raiseStopCause_notMismatch (c : StopCause) (a b : Int) (st : Option Station)
    (h : NotMismatch s.fault.record) : NotMismatch (raise (.stop c) a b st s).fault.record :=
  raise_notMismatch a b st FaultCause.noConfusion h

@[simp] theorem recomputeTheta_notMismatch (h : NotMismatch s.fault.record) :
    NotMismatch (recomputeTheta s).fault.record := by
  unfold recomputeTheta
  dsimp only
  (repeat' split) <;> simp [h]

@[simp] theorem setLambda_notMismatch (v : Int) (h : NotMismatch s.fault.record) :
    NotMismatch (setLambda v s).fault.record := by
  simp [setLambda, h]

@[simp] theorem applyOffset_notMismatch (d : Int) (h : NotMismatch s.fault.record) :
    NotMismatch (applyOffset d s).fault.record := by
  exact recomputeTheta_notMismatch h

@[simp] theorem setBasis_notMismatch (b : Basis) (h : NotMismatch s.fault.record) :
    NotMismatch (setBasis b s).fault.record := by
  unfold setBasis
  split_ifs <;> simp [h]

@[simp] theorem setGradeBasis_notMismatch (g : Grade) (b : Basis) (h : NotMismatch s.fault.record) :
    NotMismatch (setGradeBasis g b s).fault.record := by
  unfold setGradeBasis
  dsimp only
  split_ifs <;> simp [h]

@[simp] theorem setGrade_notMismatch (g : Grade) (b : Basis) (h : NotMismatch s.fault.record) :
    NotMismatch (setGrade g b s).fault.record := by
  simp [setGrade, h]

@[simp] theorem gradeFall_notMismatch (c : StopCause) (h : NotMismatch s.fault.record) :
    NotMismatch (gradeFall c s).fault.record := by
  unfold gradeFall
  split <;> simp [h]

@[simp] theorem applyCeiling_notMismatch (h : NotMismatch s.fault.record) :
    NotMismatch (applyCeiling s).fault.record := by
  unfold applyCeiling
  dsimp only
  split_ifs <;> simp [h]

@[simp] theorem endLeadHold_notMismatch (h : NotMismatch s.fault.record) :
    NotMismatch (endLeadHold s).fault.record := by
  unfold endLeadHold
  dsimp only
  (repeat' split) <;> simp [h]

@[simp] theorem endSearch_notMismatch (o : SearchOutcome) (h : NotMismatch s.fault.record) :
    NotMismatch (endSearch o s).fault.record := by
  simp [endSearch, h]

@[simp] theorem failSearch_notMismatch (c : FailCause) (n : Int) (h : NotMismatch s.fault.record) :
    NotMismatch (failSearch c n s).fault.record := by
  simp [failSearch, h]

@[simp] theorem abortSearch_notMismatch (a : AbortReason) (st : Option Station) (h : NotMismatch s.fault.record) :
    NotMismatch (abortSearch a st s).fault.record := by
  exact endSearch_notMismatch _ (raise_notMismatch _ _ _ (by simp) h)

@[simp] theorem endSearchByFault_notMismatch (h : NotMismatch s.fault.record) :
    NotMismatch (endSearchByFault s).fault.record := by
  unfold endSearchByFault
  split_ifs <;> simp [h]

@[simp] theorem watchLead_notMismatch (h : NotMismatch s.fault.record) :
    NotMismatch (watchLead s).fault.record := by
  unfold watchLead
  split_ifs <;> simp [h]

@[simp] theorem stopEffects_notMismatch (c : StopCause) (a : Int) (h : NotMismatch s.fault.record) :
    NotMismatch (stopEffects c a s).fault.record := by
  simp [stopEffects, h]

@[simp] theorem raiseStop_notMismatch (c : StopCause) (a b : Int) (h : NotMismatch s.fault.record) :
    NotMismatch (raiseStop c a b s).fault.record := by
  have h1 := raiseStopCause_notMismatch c a b (own s) h
  unfold raiseStop
  dsimp only
  split
  · exact h1
  · exact h1
  · exact gradeFall_notMismatch c (by simpa using h1)
  all_goals exact stopEffects_notMismatch c a h1

@[simp] theorem raiseIfOutside_notMismatch (x : Int) (h : NotMismatch s.fault.record) :
    NotMismatch (raiseIfOutside x s).fault.record := by
  unfold raiseIfOutside
  split_ifs <;> simp [h]

@[simp] theorem takeLeadAngle_notMismatch (h : NotMismatch s.fault.record) :
    NotMismatch (takeLeadAngle s).fault.record := by
  unfold takeLeadAngle
  (repeat' split) <;> simp [h]

@[simp] theorem fixTurn_notMismatch (k : DecisionKind) (c : Capture) (n : Option Candidate) (h : NotMismatch s.fault.record) :
    NotMismatch (fixTurn k c n s).fault.record := by
  unfold fixTurn setRecoveryAnchor
  cases n <;> cases k <;> simp [h]

@[simp] theorem raiseVerdictNotes_notMismatch (c : Capture) (v : Verdict) (h : NotMismatch s.fault.record) :
    NotMismatch (raiseVerdictNotes c v s).fault.record := by
  unfold raiseVerdictNotes
  dsimp only
  (repeat' split) <;> simp [h]

@[simp] theorem gradeByVerdict_notMismatch (v : Verdict) (h : NotMismatch s.fault.record) :
    NotMismatch (gradeByVerdict v s).fault.record := by
  simp [gradeByVerdict, h]

@[simp] theorem decideOn_notMismatch (c : Capture) (h : NotMismatch s.fault.record) :
    NotMismatch (decideOn c s).fault.record := by
  have h1 : NotMismatch (gradeByVerdict (judge (takeLeadAngle s) (courseOf s) (kindOf s) c) (fixTurn (kindOf s) c
      (judge (takeLeadAngle s) (courseOf s) (kindOf s) c).n (raiseVerdictNotes c
        (judge (takeLeadAngle s) (courseOf s) (kindOf s) c) (takeLeadAngle s)))).fault.record :=
    gradeByVerdict_notMismatch _ (fixTurn_notMismatch _ _ _ (by simp [h]))
  exact raiseIfOutside_notMismatch _ (by dsimp only; (repeat' split) <;> simpa using h1)

@[simp] theorem decideHeld_notMismatch (h : NotMismatch s.fault.record) :
    NotMismatch (decideHeld s).fault.record := by
  unfold decideHeld
  split <;> simp [h]

@[simp] theorem advanceDecision_notMismatch (h : NotMismatch s.fault.record) :
    NotMismatch (advanceDecision s).fault.record := by
  unfold advanceDecision
  split_ifs <;> simp [h]

@[simp] theorem leadResolved_notMismatch (l : LeadReport) (h : NotMismatch s.fault.record) :
    NotMismatch (leadResolved l s).fault.record := by
  unfold leadResolved
  dsimp only
  split_ifs <;> simp [h]

@[simp] theorem leadLost_notMismatch (h : NotMismatch s.fault.record) :
    NotMismatch (leadLost s).fault.record := by
  unfold leadLost
  (repeat' split) <;> simp [h]

@[simp] theorem leadAngle_notMismatch (k : Station) (a : Option Int) (h : NotMismatch s.fault.record) :
    NotMismatch (leadAngle k a s).fault.record := by
  unfold leadAngle
  (repeat' split) <;> simp [h]

@[simp] theorem haltFromPeer_notMismatch (k : Station) (h : NotMismatch s.fault.record) :
    NotMismatch (haltFromPeer k s).fault.record := by
  unfold haltFromPeer
  split_ifs <;> simp [h]

@[simp] theorem callHeard_notMismatch (h : NotMismatch s.fault.record) :
    NotMismatch (callHeard s).fault.record := by
  unfold callHeard
  split_ifs <;> simp [h]

@[simp] theorem takeCall_notMismatch (k : Station) (n : Byte) (h : NotMismatch s.fault.record) :
    NotMismatch (takeCall k n s).fault.record := by
  unfold takeCall
  split_ifs <;> simp [adoptCall, h]

@[simp] theorem leadReports_notMismatch (k : Station) (m : MarkReport) (h : NotMismatch s.fault.record) :
    NotMismatch (leadReports k m s).fault.record := by
  unfold leadReports
  split_ifs <;> simp [h]

@[simp] theorem reportFromPeer_notMismatch (k : Station) (m : MarkReport) (h : NotMismatch s.fault.record) :
    NotMismatch (reportFromPeer k m s).fault.record := by
  simp [reportFromPeer, h]

@[simp] theorem claimConflict_notMismatch (j k : Station) (h : NotMismatch s.fault.record) :
    NotMismatch (claimConflict j k s).fault.record := by
  unfold claimConflict
  dsimp only
  split_ifs <;> simp [h]

@[simp] theorem conflictTest_notMismatch (k : Station) (f : StatusFrame) (h : NotMismatch s.fault.record) :
    NotMismatch (conflictTest k f s).fault.record := by
  unfold conflictTest
  (repeat' split) <;> simp [h]

@[simp] theorem statusFromPeer_notMismatch (k : Station) (f : StatusFrame) (h : NotMismatch s.fault.record) :
    NotMismatch (statusFromPeer k f s).fault.record := by
  simp [statusFromPeer, h]

theorem finish_notMismatch (force : Bool) (s0 : State) (h : NotMismatch s.fault.record) :
    NotMismatch (finish force s0 s).fault.record := by
  have h1 : NotMismatch (watchLead (leadLost s)).fault.record := watchLead_notMismatch (leadLost_notMismatch h)
  rw [finish_eq_closing]
  simp [applyCeiling_notMismatch h1]

end Family

end Sys2Proof.Machine
end

section
/-! PROOFS. O41: the arrival of any kind of frame, and the sender's entry. -/

namespace Sys2Proof.Machine

/-! ### What a frame does beyond the sender's entry -/

/-- What a peer's frame does beyond the sender's entry. -/
def onPeerOf (k : Station) : Frame → State → State
  | .halt _, s => haltFromPeer k s
  | .powerDown f, s => leadAngle k f.theta s
  | .markCall n, s => takeCall k n s
  | .markReport r, s => reportFromPeer k r s
  | .claim _, s => claimFromPeer k s
  | .release, s => s
  | .status f, s => statusFromPeer k f s
  | .hello _, s => s

/-- What the own echo does beyond the own entry. -/
def onEchoOf (k : Station) : Frame → State → State
  | .markCall n, s => takeCall k n s
  | .markReport r, s => reportEcho k r.number s
  | .claim _, s => claimEcho s
  | .release, s => releaseEcho s
  | .halt _, s | .powerDown _, s | .status _, s | .hello _, s => s

/-- Whether an arrival forces a STATUS (R44). -/
def arrivalForces (k : Station) : Frame → State → Bool
  | .hello f, s => helloFromPeer k f s
  | .halt _, _ | .powerDown _, _ | .markCall _, _ | .markReport _, _ | .claim _, _ | .release, _ | .status _, _ => false

theorem exec_arrival {c : Instr} {now : Instant} {k : Station} {f : Frame} {s : State}
    (h : arrivalOf c = some (now, k, f)) (hs : s.levels.rstLow = false) :
    exec c s = .next (finish (arrivalForces k f s) (tick now s)
      (arrive k f (onEchoOf k f) (onPeerOf k f) (tick now s))) := by
  cases c with
  | haltArrival n j x => cases h; rw [exec_running _ _ rfl rfl, running_out hs]; rfl
  | powerDownArrival n j x => cases h; rw [exec_running _ _ rfl rfl, running_out hs]; rfl
  | markCallArrival n j x => cases h; rw [exec_running _ _ rfl rfl, running_out hs]; rfl
  | markReportArrival n j x => cases h; rw [exec_running _ _ rfl rfl, running_out hs]; rfl
  | claimArrival n j x => cases h; rw [exec_running _ _ rfl rfl, running_out hs]; rfl
  | releaseArrival n j => cases h; rw [exec_running _ _ rfl rfl, running_out hs]; rfl
  | statusArrival n j x => cases h; rw [exec_running _ _ rfl rfl, running_out hs]; rfl
  | helloArrival n j x => cases h; rw [exec_running _ _ rfl rfl, running_out hs]; rfl
  | _ => exact absurd h (by simp [arrivalOf])

theorem onPeerOf_frame (k : Station) (f : Frame) (s : State) :
    (onPeerOf k f s).peers.entries = s.peers.entries ∧ (onPeerOf k f s).port.changedPeers = s.port.changedPeers
      ∧ (onPeerOf k f s).straps = s.straps ∧ (onPeerOf k f s).port.setup = s.port.setup
      ∧ (onPeerOf k f s).port.frozen = s.port.frozen := by
  cases f <;> simp [onPeerOf, takeCall, claimFromPeer, adoptCall, callHeard, startQuiet]
  all_goals split_ifs <;> simp

theorem onEchoOf_frame (k : Station) (f : Frame) (s : State) :
    (onEchoOf k f s).peers.entries = s.peers.entries ∧ (onEchoOf k f s).link.bitErrors = s.link.bitErrors
      ∧ (onEchoOf k f s).link.txFail = s.link.txFail ∧ (onEchoOf k f s).straps = s.straps
      ∧ (onEchoOf k f s).port.setup = s.port.setup ∧ (onEchoOf k f s).port.frozen = s.port.frozen
      ∧ waitsForIdle (onEchoOf k f s).link.line = waitsForIdle s.link.line := by
  cases f <;> simp [onEchoOf, reportEcho, releaseEcho]
  all_goals (repeat' split) <;> simp

theorem onPeerOf_faultShown (k : Station) (f : Frame) {r : FaultRecord} {s : State} (h : FaultShown r s) :
    FaultShown r (onPeerOf k f s) := by
  cases f with
  | claim p => simpa [FaultShown, onPeerOf, claimFromPeer, apply_ite] using h
  | release => exact h
  | hello x => exact h
  | halt x => exact haltFromPeer_faultShown _ h
  | powerDown x => exact leadAngle_faultShown _ _ h
  | markCall n => exact takeCall_faultShown _ _ h
  | markReport x => exact reportFromPeer_faultShown _ _ h
  | status x => exact statusFromPeer_faultShown _ _ h

theorem onPeerOf_notMismatch (k : Station) (f : Frame) {s : State} (h : NotMismatch s.fault.record) :
    NotMismatch (onPeerOf k f s).fault.record := by
  cases f with
  | claim p =>
    change NotMismatch (claimFromPeer k s).fault.record
    simpa using h
  | release => exact h
  | hello x => exact h
  | halt x => exact haltFromPeer_notMismatch _ h
  | powerDown x => exact leadAngle_notMismatch _ _ h
  | markCall n => exact takeCall_notMismatch _ _ h
  | markReport x => exact reportFromPeer_notMismatch _ _ h
  | status x => exact statusFromPeer_notMismatch _ _ h

end Sys2Proof.Machine
end

section
/-! PROOFS. O41: the fields of the sender's entry, the changed-peer mask and the reported stations after a peer's frame. -/

namespace Sys2Proof.Machine

theorem maskHas_maskDrop (m : StationMask) (k : Station) : maskHas (maskDrop m k) k = false := by
  cases k <;> simp [maskHas, maskDrop, stationBit, stationNumber]

theorem maskAdd_twice (m : StationMask) (k : Station) : maskAdd (maskAdd m k) k = maskAdd m k := by
  simp [maskAdd, BitVec.or_assoc]

theorem pastMuster_iff (p : Phase) :
    pastMuster p = true ↔ p = .recovery ∨ p = .ready ∨ p = .reference ∨ p = .faulted ∨ p = .down := by
  cases p <;> simp [pastMuster]

theorem isRestart_iff (e : PeerEntry) (f : Frame) :
    isRestart e f = true ↔ (e.presence = .down ∧ frameKind f ≠ .powerDown
      ∨ (∃ x, f = .status x ∧ x.phase = .muster
        ∧ (e.phase = .recovery ∨ e.phase = .ready ∨ e.phase = .reference ∨ e.phase = .faulted ∨ e.phase = .down))
      ∨ (∃ x, f = .hello x
        ∧ (e.phase = .recovery ∨ e.phase = .ready ∨ e.phase = .reference ∨ e.phase = .faulted ∨ e.phase = .down))) := by
  cases f <;> simp [isRestart, frameKind, pastMuster_iff]

/-! ### The sender's entry -/

section Entry

variable (s : State) (k : Station) (f : Frame)

theorem entryTested_heard :
    (entryTested s k f).presence = (if frameKind f = .powerDown then .down else .alive)
      ∧ (entryTested s k f).silence = 0 ∧ (entryTested s k f).heard = true ∧ (entryTested s k f).heardInMuster = true
      ∧ (entryTested s k f).lastHeard = some s.ms := by
  cases f <;>
    simp [entryTested, entryAfter, writeFields, markHeard, matchDigest, presenceBy, carriesDigest, frameKind]

theorem entryTested_holds : EntryHolds s.peers.digest (entryTested s k f) f := by
  cases f <;>
    simp +contextual [entryTested, entryAfter, writeFields, markHeard, matchDigest, presenceBy, carriesDigest, frameKind,
      EntryHolds]

variable {s k f}

/-- A restart clears the claim flag, the purpose, the report and the mismatch mark before the fields are written (R48). -/
theorem entryTested_restart (h : isRestart (entry s k) f = true) :
    (¬ (frameKind f = .claim ∨ frameKind f = .release ∨ frameKind f = .status) → (entryTested s k f).claim = false)
      ∧ (frameKind f ≠ .claim → (entryTested s k f).purpose = none)
      ∧ (frameKind f ≠ .markReport → (entryTested s k f).report = none)
      ∧ (entryTested s k f).mismatchReported = (carriesDigest f && mismatches s.peers.digest (entryTested s k f)) := by
  cases f <;>
    simp [entryTested, entryAfter, h, writeFields, markHeard, matchDigest, presenceBy, carriesDigest, frameKind,
      clearForRestart, mismatches]

theorem entryTested_same (h : isRestart (entry s k) f = false) :
    (¬ (frameKind f = .claim ∨ frameKind f = .release ∨ frameKind f = .status) →
        (entryTested s k f).claim = (entry s k).claim ∧ (entryTested s k f).purpose = (entry s k).purpose)
      ∧ (frameKind f ≠ .markReport → (entryTested s k f).report = (entry s k).report)
      ∧ (entryTested s k f).mismatchReported
        = ((entry s k).mismatchReported || (carriesDigest f && mismatches s.peers.digest (entryTested s k f))) := by
  cases f <;>
    simp [entryTested, entryAfter, h, writeFields, markHeard, matchDigest, presenceBy, carriesDigest, frameKind, mismatches]

end Entry

theorem mismatches_iff (own : Option (BitVec 16)) (e : PeerEntry) :
    mismatches own e = true ↔ ∃ d o, e.digest = some d ∧ own = some o ∧ d ≠ o := by
  cases hd : e.digest <;> cases own <;> simp [mismatches, hd]

/-- The digest that a frame shows (R59). -/
def shownDigest : Frame → Option (BitVec 16)
  | .status x => some x.digest
  | .hello x => some x.digest
  | .halt _ | .powerDown _ | .markCall _ | .markReport _ | .claim _ | .release => none

theorem entryTested_mismatches (s : State) (k : Station) (f : Frame) :
    (carriesDigest f && mismatches s.peers.digest (entryTested s k f)) = true
      ↔ ∃ d o, shownDigest f = some d ∧ s.peers.digest = some o ∧ d ≠ o := by
  cases f <;>
    simp [entryTested, entryAfter, writeFields, matchDigest, carriesDigest, mismatches_iff, shownDigest]

theorem carriesDigest_iff (f : Frame) : carriesDigest f = true ↔ frameKind f = .status ∨ frameKind f = .hello := by
  cases f <;> simp [carriesDigest, frameKind]

/-! ### The changed-peer mask and the reported stations -/

section Masks

variable (k : Station) (f : Frame) (s : State)

theorem digestTested_masks :
    (digestTested k f s).port.changedPeers = (frameEntered k f s).port.changedPeers
      ∧ (digestTested k f s).mark = (frameEntered k f s).mark := by
  unfold digestTested
  split_ifs
  · simp
  · exact ⟨rfl, rfl⟩

theorem peerArrival_changedPeers :
    (peerArrival k f s).port.changedPeers
      = if isRestart (entry s k) f = true ∨ (entry s k).presence ≠ presenceBy f then maskAdd s.port.changedPeers k
        else s.port.changedPeers := by
  have hf : (frameEntered k f s).port.changedPeers
      = if isRestart (entry s k) f = true ∨ (entry s k).presence ≠ presenceBy f then maskAdd s.port.changedPeers k
        else s.port.changedPeers := by
    unfold frameEntered
    dsimp only
    split_ifs <;> simp_all [addChangedPeer, setEntry, maskAdd_twice]
  have hd : (peerArrival k f s).port.changedPeers = (frameEntered k f s).port.changedPeers := by
    rw [peerArrival_eq]
    split_ifs <;> simp [digestTested_masks]
  exact hd.trans hf

theorem peerArrival_reported (h : isRestart (entry s k) f = true) :
    maskHas (peerArrival k f s).mark.reported k = false := by
  have hf : maskHas (frameEntered k f s).mark.reported k = false := by
    unfold frameEntered
    dsimp only
    rw [h, if_pos rfl]
    split_ifs <;> exact maskHas_maskDrop _ _
  rw [peerArrival_eq]
  split_ifs <;> simpa [digestTested_masks] using hf

end Masks

theorem onPeerOf_reported {k : Station} {f : Frame} {s : State} (hf : frameKind f ≠ .markReport)
    (h : maskHas s.mark.reported k = false) : maskHas (onPeerOf k f s).mark.reported k = false := by
  cases f with
  | markReport r => exact absurd rfl hf
  | markCall n =>
    change maskHas (takeCall k n s).mark.reported k = false
    unfold takeCall
    split_ifs
    · simp [adoptCall, maskHas]
    · exact h
    · simpa [callHeard, startQuiet, apply_ite] using h
    · simpa [callHeard, startQuiet, apply_ite] using h
  | halt c => simpa [onPeerOf] using h
  | powerDown c => simpa [onPeerOf] using h
  | claim p => simpa [onPeerOf] using h
  | release => exact h
  | status x => simpa [onPeerOf] using h
  | hello x => exact h

end Sys2Proof.Machine
end

section
/-! PROOFS. O41: what a peer's frame raises (R49, R59), the lead's angle that it carries (R12), and the muster that it completes
(R61). -/

namespace Sys2Proof.Machine

/-! ### PLAN_MISMATCH and PEER_INCONSISTENT -/

section Notes

variable {s : State} {k : Station} {f : Frame}

theorem frameEntered_keeps (k : Station) (f : Frame) (s : State) :
    (frameEntered k f s).fault = s.fault ∧ (frameEntered k f s).peers.digest = s.peers.digest
      ∧ entry (frameEntered k f s) k = entryAfter s k f := by
  have hp := frameEntered_peers k f s
  refine ⟨?_, by rw [hp]; rfl, ?_⟩
  · unfold frameEntered
    dsimp only
    split_ifs <;> rfl
  · rw [entry, hp]
    exact entry_setEntry_self k _ s

theorem entryAfter_digest {d : BitVec 16} (h : shownDigest f = some d) :
    (entryAfter s k f).digest = some d ∧ carriesDigest f = true
      ∧ (entryAfter s k f).mismatchReported = (!isRestart (entry s k) f && (entry s k).mismatchReported) := by
  cases f with
  | status x =>
    cases h
    cases hr : isRestart (entry s k) (.status x) <;>
      simp [entryAfter, hr, writeFields, matchDigest, carriesDigest, markHeard, clearForRestart]
  | hello x =>
    cases h
    cases hr : isRestart (entry s k) (.hello x) <;>
      simp [entryAfter, hr, writeFields, matchDigest, carriesDigest, markHeard, clearForRestart]
  | _ => exact absurd h (by simp [shownDigest])

/-- A digest other than the own one is noted, once until a restart (R59). -/
theorem peerArrival_mismatch {d o : BitVec 16} (hd : shownDigest f = some d) (ho : s.peers.digest = some o) (hne : d ≠ o)
    (hr : isRestart (entry s k) f = true ∨ (entry s k).mismatchReported = false) :
    FaultShown (noteOf k .planMismatch (d.toNat : Int) (o.toNat : Int) (frameEntered k f s)).fault.record
      (peerArrival k f s) := by
  obtain ⟨hdg, hc, hm⟩ := entryAfter_digest (s := s) (k := k) hd
  obtain ⟨-, hdig, hent⟩ := frameEntered_keeps k f s
  have hm' : (entryAfter s k f).mismatchReported = false := by
    rw [hm]
    rcases hr with h | h <;> simp [h]
  have htest : digestTested k f s
      = setEntry k { entryAfter s k f with mismatchReported := true }
          (noteOf k .planMismatch (d.toNat : Int) (o.toNat : Int) (frameEntered k f s)) := by
    rw [digestTested, if_pos hc, mismatchTest, hent, hdg, hdig, ho]
    exact if_pos ⟨hne, hm'⟩
  have hshown : FaultShown (noteOf k .planMismatch (d.toNat : Int) (o.toNat : Int) (frameEntered k f s)).fault.record
      (digestTested k f s) := by
    rw [htest]
    exact raise_shown _ _ _ _ _
  rw [peerArrival_eq]
  split_ifs
  · exact noteOf_faultShown _ _ _ _ hshown
  · exact hshown

/-- No other arrival notes a digest. -/
theorem digestTested_fault (h : ∀ d o, shownDigest f = some d → s.peers.digest = some o → d ≠ o →
      isRestart (entry s k) f = false ∧ (entry s k).mismatchReported = true) :
    (digestTested k f s).fault = s.fault := by
  obtain ⟨hf, hdig, hent⟩ := frameEntered_keeps k f s
  unfold digestTested
  split_ifs with hc
  · obtain ⟨d, hd⟩ : ∃ d, shownDigest f = some d := by
      cases f <;> simp_all [carriesDigest, shownDigest]
    obtain ⟨hdg, -, hm⟩ := entryAfter_digest (s := s) (k := k) hd
    rw [← hf, mismatchTest, hent, hdg, hdig]
    cases ho : s.peers.digest with
    | none => rfl
    | some o =>
      dsimp only
      split_ifs with hn
      · obtain ⟨h1, h2⟩ := h d o hd ho hn.1
        simp [hm, h1, h2] at hn
      · rfl
  · exact hf

theorem peerArrival_inconsistent (hi : inconsistent (entry s k).phase f = true) :
    FaultShown (noteOf k .peerInconsistent (frameClass (frameKind f) : Int) 0 (digestTested k f s)).fault.record
      (peerArrival k f s) := by
  rw [peerArrival_eq, if_pos hi]
  exact raise_shown _ _ _ _ _

theorem peerArrival_notMismatch (h : ∀ d o, shownDigest f = some d → s.peers.digest = some o → d ≠ o →
      isRestart (entry s k) f = false ∧ (entry s k).mismatchReported = true) (hs : NotMismatch s.fault.record) :
    NotMismatch (peerArrival k f s).fault.record := by
  have hd := digestTested_fault h
  rw [peerArrival_eq]
  split_ifs
  · exact noteOf_notMismatch k _ _ NoteCause.noConfusion (by rw [hd]; exact hs)
  · rw [hd]
    exact hs

end Notes

/-! ### λ outside a lead hold -/

/-- No lead hold runs, and λ is `a`. -/
def LambdaIs (a : Int) (s : State) : Prop := s.search.leadHold = false ∧ s.reck.lambda = a

section Lambda

variable {a : Int} {s : State}

theorem LambdaIs.congr {t : State} (h : LambdaIs a s) (h1 : t.search.leadHold = s.search.leadHold)
    (h2 : t.reck.lambda = s.reck.lambda) : LambdaIs a t := ⟨h1.trans h.1, h2.trans h.2⟩

theorem endLeadHold_of_none (h : s.search.leadHold = false) : endLeadHold s = s := by simp [endLeadHold, h]

theorem endSearch_lambdaIs (o : SearchOutcome) (h : LambdaIs a s) : LambdaIs a (endSearch o s) := by
  have hw : LambdaIs a (withdrawCalibration s) := h.congr (by simp [withdrawCalibration]) (by simp [withdrawCalibration])
  rw [endSearch, endLeadHold_of_none hw.1]
  exact hw.congr (by simp) (by simp)

theorem endSearchByFault_lambdaIs (h : LambdaIs a s) : LambdaIs a (endSearchByFault s) := by
  have hw : LambdaIs a (withdrawCalibration s) := h.congr (by simp [withdrawCalibration]) (by simp [withdrawCalibration])
  unfold endSearchByFault
  split_ifs
  · rw [endLeadHold_of_none hw.1]
    exact hw.congr (by simp) (by simp)
  · exact h

theorem raiseStop_lambdaIs (c : StopCause) (x y : Int) (h : LambdaIs a s) : LambdaIs a (raiseStop c x y s) := by
  have h1 : LambdaIs a (raise (.stop c) x y (own s) s) := h.congr (by simp) (by simp)
  have h2 : LambdaIs a (stopEffects c x (raise (.stop c) x y (own s) s)) := by
    have hg : LambdaIs a (gradeFall c (raise (.stop c) x y (own s) s)) := h1.congr (by simp) (by simp)
    exact (endSearchByFault_lambdaIs hg).congr (by simp [stopEffects, endDecision]) (by simp [stopEffects, endDecision])
  unfold raiseStop
  dsimp only
  split
  any_goals exact h1
  any_goals exact h2
  exact h1.congr (by simp) (by simp)

theorem decideOn_lambdaIs (c : Capture) (h : LambdaIs a s) (hr : s.gradeUnit.leadReport = .missing) :
    LambdaIs a (decideOn c s) := by
  have ht : takeLeadAngle s = s := by
    unfold takeLeadAngle
    rw [hr]
    exact ite_self _
  obtain ⟨-, -, -, -, -, -, -, hl⟩ := decided_frame c s
  have hd : LambdaIs a (decided c s) := by
    refine h.congr hl ?_
    rw [decided_reck]
    simp [gradeByVerdict, turnTaken, ht]
  rw [decideOn_eq, raiseIfOutside]
  split_ifs
  · exact hd
  · exact raiseStop_lambdaIs _ _ _ hd

theorem leadLost_lambdaIs (h : LambdaIs a s) : LambdaIs a (leadLost s) := by
  unfold leadLost leadResolved
  split
  · exact h
  · dsimp only
    split_ifs
    · unfold advanceDecision decideHeld
      split_ifs
      · exact h
      · exact h
      · split
        · exact h
        · exact decideOn_lambdaIs _ h rfl
    · exact h
    · exact h

theorem finish_lambdaIs (force : Bool) (s0 : State) (h : LambdaIs a s) : (finish force s0 s).reck.lambda = a := by
  have h1 := leadLost_lambdaIs h
  have hw : watchLead (leadLost s) = leadLost s := by simp [watchLead, h1.1]
  rw [finish_eq_closing, hw]
  simpa using h1.2

theorem conflictTest_lambdaIs (k : Station) (x : StatusFrame) (h : LambdaIs a s) : LambdaIs a (conflictTest k x s) := by
  have hconf : ∀ j, LambdaIs a (claimConflict j k s) := fun j => by
    unfold claimConflict
    dsimp only
    have h1 : LambdaIs a (releaseClaim (postStop (noteOf k .claimConflict (stationNumber j : Int) (stationNumber k : Int) s))) :=
      h.congr (by simp) (by simp)
    split_ifs
    · unfold abortSearch
      exact endSearch_lambdaIs _ (h1.congr (by simp) (by simp))
    · exact h1
    · exact h.congr (by simp) (by simp)
  unfold conflictTest
  split
  · exact h
  · split_ifs
    · exact hconf _
    · exact h

theorem leadAngle_lambdaIs {k : Station} (hl : lead s = some k) (hh : s.search.leadHold = false) :
    LambdaIs a (leadAngle k (some a) s) := by
  simp [leadAngle, hl, hh, LambdaIs]

end Lambda

/-! ### The muster -/

/-- The station musters, with no decision and no search in hand. -/
def Mustering (s : State) : Prop := s.phase = .muster ∧ s.gradeUnit.sub = .idle ∧ s.search.sub = .none

section Muster

variable {s : State}

theorem Mustering.congr {t : State} (h : Mustering s) (h1 : t.phase = s.phase) (h2 : t.gradeUnit.sub = s.gradeUnit.sub)
    (h3 : t.search.sub = s.search.sub) : Mustering t := ⟨h1.trans h.1, h2.trans h.2.1, h3.trans h.2.2⟩

theorem leadResolved_mustering (l : LeadReport) (h : Mustering s) : Mustering (leadResolved l s) := by
  unfold leadResolved
  dsimp only
  rw [if_neg (by rw [h.2.1]; simp)]
  exact h

theorem onPeerOf_mustering (k : Station) (f : Frame) (h : Mustering s) : Mustering (onPeerOf k f s) := by
  have hsearch : searching s = false := by simp [searching, h.2.2]
  cases f with
  | release => exact h
  | hello x => exact h
  | halt x => simpa [onPeerOf, haltFromPeer, hsearch] using h
  | powerDown x => exact h.congr (by simp [onPeerOf]) (by simp [onPeerOf]) (by simp [onPeerOf])
  | markCall n =>
    refine h.congr ?_ ?_ ?_ <;> simp [onPeerOf, takeCall, adoptCall, callHeard, startQuiet] <;> split_ifs <;> simp
  | markReport x =>
    change Mustering (leadReports k x (countReport k x.number s))
    have hc : Mustering (countReport k x.number s) := h.congr (by simp) (by simp) (by simp)
    unfold leadReports
    split_ifs
    · exact leadResolved_mustering _ hc
    · exact leadResolved_mustering _ hc
    · exact hc
  | claim p => exact h.congr (by simp [onPeerOf]) (by simp [onPeerOf]) (by simp [onPeerOf])
  | status x =>
    change Mustering (conflictTest k x (leadAngle k x.theta s))
    have hl : Mustering (leadAngle k x.theta s) := h.congr (by simp) (by simp) (by simp)
    have hs : ∀ j, searching (releaseClaim (postStop (noteOf k .claimConflict (stationNumber j : Int) (stationNumber k : Int)
        (leadAngle k x.theta s)))) = false := fun j => by simp [searching, h.2.2]
    unfold conflictTest claimConflict
    split
    · exact hl
    · dsimp only
      split_ifs with _ _ hse
      · simp [hs] at hse
      · exact hl.congr (by simp) (by simp) (by simp)
      · exact hl.congr (by simp) (by simp) (by simp)
      · exact hl

theorem leadLost_mustering (h : Mustering s) : Mustering (leadLost s) := by
  unfold leadLost
  split
  · exact h
  · split_ifs
    · exact leadResolved_mustering _ h
    · exact h

/-- The muster is complete at the end of a command exactly when no peer fails its condition; recovery then begins (R61). -/
theorem finish_musters (force : Bool) (s0 : State) (h : Mustering s) :
    (musterMissing (finish force s0 s) = 0#6 →
        (finish force s0 s).phase = .recovery ∧ (finish force s0 s).peers.musterTimer = .stopped
          ∧ (finish force s0 s).gradeUnit.sub = .reading ∧ (finish force s0 s).gradeUnit.readPending = true
          ∧ (finish force s0 s).mark.needs.recovery = true)
      ∧ (musterMissing (finish force s0 s) ≠ 0#6 → (finish force s0 s).phase = .muster) := by
  have h1 := leadLost_mustering h
  have hw : watchLead (leadLost s) = leadLost s := by simp [watchLead, searching, h1.2.2]
  have h2 : Mustering (tryClaim (tryPrereq (applyCeiling (leadLost s)))) := by
    refine h1.congr (by simp) (by simp) ?_
    have hp : tryPrereq (applyCeiling (leadLost s)) = applyCeiling (leadLost s) := by
      refine if_neg fun hn => ?_
      have h3 : (applyCeiling (leadLost s)).search.sub = .none := by simpa using h1.2.2
      exact absurd (h3.symm.trans hn.1) SearchSub.noConfusion
    simp [hp]
  have hmiss : musterMissing (finish force s0 s) = musterMissing (tryClaim (tryPrereq (applyCeiling (leadLost s)))) := by
    unfold musterMissing isOwn own entry
    simp
  rw [hmiss, finish_eq_closing, hw, closing]
  generalize tryClaim (tryPrereq (applyCeiling (leadLost s))) = u at *
  unfold tryMuster
  constructor
  · intro hm
    rw [if_pos ⟨h2.1, hm⟩]
    unfold enterRecovery
    dsimp only
    split_ifs <;> simp [setPhase, register, needsUnion, onlyRecovery, startQuiet, h2.1]
  · intro hm
    rw [if_neg (fun hn => hm hn.2)]
    simpa using h2.1

end Muster

end Sys2Proof.Machine
end

section
/-! PROOFS. O41: a peer's frame at the end of its command. -/

namespace Sys2Proof.Machine

section Peer

variable {now : Instant} {k : Station} {f : Frame} {s : State}

/-- The station at the end of a peer's frame. -/
def peerTaken (now : Instant) (k : Station) (f : Frame) (s : State) : State :=
  finish (arrivalForces k f s) (tick now s) (onPeerOf k f (peerArrival k f (setLine .waitingForIdle (tick now s))))

theorem exec_peer {c : Instr} (h : arrivalOf c = some (now, k, f)) (hs : s.levels.rstLow = false)
    (hok : frameContentOk f = true) (hl : s.link.line ≠ .waitingForIdle) (ho : own s ≠ some k) :
    exec c s = .next (peerTaken now k f s) := by
  rw [exec_arrival h hs, arrive_peer (by simpa using hl) hok (by simpa [own] using ho)]
  rfl

theorem peerTaken_entries :
    (peerTaken now k f s).peers.entries = (peerArrival k f (setLine .waitingForIdle (tick now s))).peers.entries := by
  obtain ⟨h, -⟩ := onPeerOf_frame k f (peerArrival k f (setLine .waitingForIdle (tick now s)))
  simp only [peerTaken, finish_frame]
  exact h

theorem peerTaken_entry :
    entry (peerTaken now k f s) k = entryTested (setLine .waitingForIdle (tick now s)) k f := by
  rw [entry, peerTaken_entries]
  exact peerArrival_entry k f _

theorem peerTaken_changedPeers :
    (peerTaken now k f s).port.changedPeers
      = if isRestart (entry s k) f = true ∨ (entry s k).presence ≠ presenceBy f then maskAdd s.port.changedPeers k
        else s.port.changedPeers := by
  obtain ⟨-, h, -⟩ := onPeerOf_frame k f (peerArrival k f (setLine .waitingForIdle (tick now s)))
  simp only [peerTaken, finish_frame]
  exact h.trans (peerArrival_changedPeers k f _)

theorem peerTaken_reported (hf : frameKind f ≠ .markReport) (h : isRestart (entry s k) f = true) :
    maskHas (peerTaken now k f s).mark.reported k = false := by
  simp only [peerTaken, finish_frame]
  exact onPeerOf_reported hf (peerArrival_reported k f _ h)

theorem peerTaken_shown {r : FaultRecord}
    (h : FaultShown r (peerArrival k f (setLine .waitingForIdle (tick now s)))) : FaultShown r (peerTaken now k f s) :=
  finish_faultShown _ _ (onPeerOf_faultShown k f h)

/-- What a restart makes of the sender's entry (R48, R55, R59). -/
theorem peerTaken_restart (h : isRestart (entry s k) f = true) :
    (peerTaken now k f s).port.changedPeers = maskAdd s.port.changedPeers k
      ∧ (¬ (frameKind f = .claim ∨ frameKind f = .release ∨ frameKind f = .status) →
          (entry (peerTaken now k f s) k).claim = false)
      ∧ (frameKind f ≠ .claim → (entry (peerTaken now k f s) k).purpose = none)
      ∧ (frameKind f ≠ .markReport → (entry (peerTaken now k f s) k).report = none
          ∧ maskHas (peerTaken now k f s).mark.reported k = false)
      ∧ ((entry (peerTaken now k f s) k).mismatchReported = true ↔
          (frameKind f = .status ∨ frameKind f = .hello)
            ∧ ∃ o, s.peers.digest = some o ∧ (entry (peerTaken now k f s) k).digest ≠ some o) := by
  obtain ⟨h1, h2, h3, h4⟩ := entryTested_restart (s := setLine .waitingForIdle (tick now s)) (k := k) (f := f) h
  rw [peerTaken_changedPeers, if_pos (.inl h), peerTaken_entry]
  refine ⟨rfl, h1, h2, fun hf => ⟨h3 hf, peerTaken_reported hf h⟩, ?_⟩
  rw [h4, Bool.and_eq_true, carriesDigest_iff]
  refine and_congr_right fun hk => ?_
  rw [mismatches_iff]
  obtain ⟨d, hd⟩ : ∃ d, (entryTested (setLine .waitingForIdle (tick now s)) k f).digest = some d := by
    have hd : ∃ d, shownDigest f = some d := by
      cases f <;> simp_all [frameKind, shownDigest]
    obtain ⟨d, hd⟩ := hd
    exact ⟨d, (entryAfter_digest hd).1⟩
  constructor
  · rintro ⟨d', o, hd', ho, hne⟩
    exact ⟨o, ho, fun he => hne (Option.some.inj (hd'.symm.trans he))⟩
  · rintro ⟨o, ho, hne⟩
    exact ⟨d, o, hd, ho, fun he => hne (by rw [hd, he])⟩

theorem peerTaken_same (h : isRestart (entry s k) f = false) :
    (peerTaken now k f s).port.changedPeers
        = (if (entry (peerTaken now k f s) k).presence = (entry s k).presence then s.port.changedPeers
          else maskAdd s.port.changedPeers k)
      ∧ (¬ (frameKind f = .claim ∨ frameKind f = .release ∨ frameKind f = .status) →
          (entry (peerTaken now k f s) k).claim = (entry s k).claim
            ∧ (entry (peerTaken now k f s) k).purpose = (entry s k).purpose)
      ∧ (frameKind f ≠ .markReport → (entry (peerTaken now k f s) k).report = (entry s k).report) := by
  obtain ⟨h1, h2, -⟩ := entryTested_same (s := setLine .waitingForIdle (tick now s)) (k := k) (f := f) h
  obtain ⟨hp, -⟩ := entryTested_heard (setLine .waitingForIdle (tick now s)) k f
  rw [peerTaken_changedPeers, peerTaken_entry, hp]
  refine ⟨?_, h1, h2⟩
  rw [h]
  by_cases he : (entry s k).presence = presenceBy f
  · rw [if_neg (by simp [he]), he, presenceBy, if_pos rfl]
  · rw [if_pos (.inr he), if_neg]
    exact fun hn => he (by rw [presenceBy, hn])

/-- A digest other than the own one raises PLAN_MISMATCH, once until a restart (R59). -/
theorem peerTaken_mismatch {d o : BitVec 16} (hd : shownDigest f = some d) (ho : s.peers.digest = some o) (hne : d ≠ o)
    (hr : isRestart (entry s k) f = true ∨ (entry s k).mismatchReported = false) :
    (peerTaken now k f s).port.attention.fault = true ∧ (entry (peerTaken now k f s) k).mismatchReported = true
      ∧ (s.fault.record.locked = false →
          (peerTaken now k f s).fault.record.cause = some (.note .planMismatch)
            ∧ (peerTaken now k f s).fault.record.station = some k
            ∧ (peerTaken now k f s).fault.record.a = (d.toNat : Int)
            ∧ (peerTaken now k f s).fault.record.b = (o.toNat : Int)) := by
  have hshown := peerTaken_shown (now := now) (peerArrival_mismatch (s := setLine .waitingForIdle (tick now s)) (k := k) hd ho hne hr)
  obtain ⟨hatt, -, hrec⟩ := hshown.record
  obtain ⟨hf, -⟩ := frameEntered_keeps k f (setLine .waitingForIdle (tick now s))
  refine ⟨hatt, ?_, fun hl => ?_⟩
  · rw [peerTaken_entry]
    have hm := (entryTested_mismatches (setLine .waitingForIdle (tick now s)) k f).mpr ⟨d, o, hd, ho, hne⟩
    cases hi : isRestart (entry (setLine .waitingForIdle (tick now s)) k) f with
    | true => exact ((entryTested_restart hi).2.2.2).trans hm
    | false =>
      obtain ⟨-, -, h3⟩ := entryTested_same hi
      rw [h3, hm, Bool.or_true]
  · obtain ⟨h1, h2, h3, h4⟩ := hrec (by rw [hf]; exact hl)
    exact ⟨h1, h2, h3.trans (faultValue_seq d), h4.trans (faultValue_seq o)⟩

/-- No other arrival raises it (R59). -/
theorem peerTaken_no_mismatch (h : ∀ d o, shownDigest f = some d → s.peers.digest = some o → d ≠ o →
      isRestart (entry s k) f = false ∧ (entry s k).mismatchReported = true) :
    (isRestart (entry s k) f = false →
        (entry (peerTaken now k f s) k).mismatchReported = (entry s k).mismatchReported)
      ∧ (s.fault.record.cause ≠ some (.note .planMismatch) →
        (peerTaken now k f s).fault.record.cause ≠ some (.note .planMismatch)) := by
  refine ⟨fun hi => ?_, fun hc => ?_⟩
  · rw [peerTaken_entry]
    obtain ⟨-, -, h3⟩ := entryTested_same (s := setLine .waitingForIdle (tick now s)) (k := k) (f := f) hi
    rw [h3]
    cases hm : (carriesDigest f && mismatches (setLine .waitingForIdle (tick now s)).peers.digest
        (entryTested (setLine .waitingForIdle (tick now s)) k f)) with
    | false => exact Bool.or_false _
    | true =>
      obtain ⟨d, o, hd, ho, hne⟩ := (entryTested_mismatches _ _ _).mp hm
      have h2 := (h d o hd ho hne).2
      rw [Bool.or_true]
      exact h2.symm
  · exact finish_notMismatch _ _ (onPeerOf_notMismatch k f
      (peerArrival_notMismatch (s := setLine .waitingForIdle (tick now s)) h hc))

/-- PEER_INCONSISTENT, which an unlocked record holds where no PLAN_MISMATCH came first (R49, log 60). -/
theorem peerTaken_inconsistent (hi : inconsistent (entry s k).phase f = true)
    (hm : ∀ d o, shownDigest f = some d → s.peers.digest = some o → d = o) :
    (peerTaken now k f s).port.attention.fault = true
      ∧ (s.fault.record.locked = false →
          (peerTaken now k f s).fault.record.cause = some (.note .peerInconsistent)
            ∧ (peerTaken now k f s).fault.record.station = some k
            ∧ (peerTaken now k f s).fault.record.a = (frameClass (frameKind f) : Int)
            ∧ (peerTaken now k f s).fault.record.b = 0) := by
  have hshown := peerTaken_shown (now := now) (peerArrival_inconsistent (s := setLine .waitingForIdle (tick now s)) hi)
  obtain ⟨hatt, -, hrec⟩ := hshown.record
  have hf : (digestTested k f (setLine .waitingForIdle (tick now s))).fault = s.fault :=
    digestTested_fault fun d o hd ho hne => absurd (hm d o hd ho) hne
  refine ⟨hatt, fun hl => ?_⟩
  obtain ⟨h1, h2, h3, h4⟩ := hrec (by rw [hf]; exact hl)
  refine ⟨h1, h2, h3.trans ?_, h4⟩
  cases f <;> rfl

end Peer

end Sys2Proof.Machine
end

section
/-! PROOFS. O41: the STATUS that a HELLO asks for, the lead's angle, the own echo and the duplicate. -/

namespace Sys2Proof.Machine

/-! ### The STATUS slot at the end of a command -/

theorem queueStatus_content (s : State) : statusContent (queueStatus s) = statusContent s := by
  unfold statusContent claimFlag effective
  simp [setupOf]

/-- The tests at the end leave the STATUS slot, or put the content of the end of the command there (R42, log 6). -/
theorem statusTest_slot (force : Bool) (s0 s : State) :
    (statusTest force s0 s).link.queue.status = s.link.queue.status
      ∨ (statusTest force s0 s).link.queue.status = some (.status (statusContent (statusTest force s0 s))) := by
  unfold statusTest
  split_ifs
  · rw [queueStatus_content]
    unfold queueStatus sendFrame
    split_ifs
    · exact .inr rfl
    · exact .inl rfl
  · exact .inl rfl

theorem queueStatus_slot {s : State} (hc : s.phase ≠ .config) (hd : s.phase ≠ .down) :
    (queueStatus s).link.queue.status = some (.status (statusContent s)) := by
  have ht : queueTakes s.phase .status = true := by
    cases hp : s.phase <;> simp_all [queueTakes]
  simp [queueStatus, sendFrame, frameKind, ht, PerKind.set]

theorem finish_forced {s0 s : State} (hc : (finish true s0 s).phase ≠ .config) (hd : (finish true s0 s).phase ≠ .down) :
    (finish true s0 s).link.queue.status = some (.status (statusContent (finish true s0 s))) := by
  have hf : ∀ u : State, statusTest true s0 u = queueStatus u := fun u => by simp [statusTest]
  rw [finish_eq_startWrite, hf] at *
  generalize dwellTest (startWrite (beforeWrite s0 s)) = u at *
  rw [queueStatus_content]
  exact queueStatus_slot (by simpa using hc) (by simpa using hd)

/-! ### A peer's HELLO, STATUS and POWER_DOWN -/

section Peer

variable {now : Instant} {k : Station} {s : State}

theorem peerTaken_hello {x : HelloFrame} (hok : frameContentOk (.hello x) = true) (hl : s.link.line ≠ .waitingForIdle)
    (ho : own s ≠ some k) (hc : (peerTaken now k (.hello x) s).phase ≠ .config)
    (hd : (peerTaken now k (.hello x) s).phase ≠ .down) :
    (peerTaken now k (.hello x) s).link.queue.status = some (.status (statusContent (peerTaken now k (.hello x) s))) := by
  have hforce : arrivalForces k (.hello x) s = true := by
    simp [arrivalForces, helloFromPeer, receiverOpen, hl, hok, isOwn, ho]
  simp only [peerTaken, hforce] at hc hd ⊢
  exact finish_forced hc hd

theorem peerArrival_lead (f : Frame) : lead (peerArrival k f (setLine .waitingForIdle (tick now s))) = lead s :=
  lead_congr (by simp) (by simp) (by simp)

/-- The angle of a lead's STATUS or POWER_DOWN becomes λ outside a lead hold (R12). -/
theorem peerTaken_lambda {f : Frame} {a : Int} (hl : lead s = some k) (hh : s.search.leadHold = false)
    (hf : (∃ x, f = .status x ∧ x.theta = some a) ∨ ∃ x, f = .powerDown x ∧ x.theta = some a) :
    (peerTaken now k f s).reck.lambda = a := by
  have hset : LambdaIs a (leadAngle k (some a) (peerArrival k f (setLine .waitingForIdle (tick now s)))) :=
    leadAngle_lambdaIs ((peerArrival_lead f).trans hl) (by simpa using hh)
  refine finish_lambdaIs _ _ ?_
  rcases hf with ⟨x, rfl, hx⟩ | ⟨x, rfl, hx⟩
  · change LambdaIs a (conflictTest k x (leadAngle k x.theta _))
    rw [hx]
    exact conflictTest_lambdaIs k x hset
  · change LambdaIs a (leadAngle k x.theta _)
    rw [hx]
    exact hset

end Peer

/-! ### The own echo -/

section Echo

variable {now : Instant} {k : Station} {f : Frame} {s : State} {a : Attempt}

/-- The own echo at the own entry, with the attempt completed (R33, R34, R50). -/
def echoHeard (now : Instant) (k : Station) (f : Frame) (a : Attempt) (s : State) : State :=
  ownArrival k f (completeAttempt a (tick now s))

/-- The station at the end of an own echo. -/
def echoTaken (now : Instant) (k : Station) (f : Frame) (a : Attempt) (s : State) : State :=
  finish (arrivalForces k f s) (tick now s) (onEchoOf k f (echoHeard now k f a s))

theorem exec_echo {c : Instr} (h : arrivalOf c = some (now, k, f)) (hs : s.levels.rstLow = false)
    (hok : frameContentOk f = true) (ho : own s = some k) (hl : s.link.line = .sending a) (ha : a.frame = f) :
    exec c s = .next (echoTaken now k f a s) := by
  have hown : isOwn (tick now s) k = true := by simpa [isOwn, own] using ho
  have hecho : echoOf f (tick now s) = some a := by simp [echoOf, hl, ha]
  have hopen : receiverOpen (tick now s) = true := by simp [receiverOpen, hl]
  rw [exec_arrival h hs, arrive, if_neg (by simp [hopen]), if_neg (by simp [hok]), if_pos hown, hecho]
  rfl

theorem echoTaken_entry :
    (entry (echoTaken now k f a s) k).presence = (entry s k).presence ∧ (entry (echoTaken now k f a s) k).silence = 0
      ∧ (entry (echoTaken now k f a s) k).heard = true ∧ (entry (echoTaken now k f a s) k).heardInMuster = true
      ∧ (entry (echoTaken now k f a s) k).lastHeard = some now.ms
      ∧ EntryHolds s.peers.digest (entry (echoTaken now k f a s) k) f := by
  obtain ⟨h, -⟩ := onEchoOf_frame k f (echoHeard now k f a s)
  have he : entry (echoTaken now k f a s) k
      = (if carriesDigest f then matchDigest s.peers.digest (writeFields f (markHeard now.ms (entry s k)))
        else writeFields f (markHeard now.ms (entry s k))) := by
    rw [entry]
    simp only [echoTaken, finish_frame, h]
    exact entry_setEntry_self k _ _
  rw [he]
  cases f <;> simp +contextual [carriesDigest, writeFields, markHeard, matchDigest, EntryHolds]

theorem echoTaken_link (ha : a.frame = f) :
    (echoTaken now k f a s).link.line = .waitingForIdle ∧ (echoTaken now k f a s).link.bitErrors.get (frameKind f) = 0
      ∧ (echoTaken now k f a s).link.txFail = false ∧ causePresent (echoTaken now k f a s) .linkTxFail = false := by
  obtain ⟨-, h1, h2, -, -, -, h3⟩ := onEchoOf_frame k f (echoHeard now k f a s)
  have htx : (echoTaken now k f a s).link.txFail = false := by
    simp only [echoTaken, finish_frame]
    exact h2
  refine ⟨(waitsForIdle_iff _).mp ?_, ?_, htx, htx⟩
  · rw [echoTaken, finish_waits, h3]
    rfl
  · simp only [echoTaken, finish_frame, h1]
    subst ha
    exact queue_get_set_self _ _ _

end Echo

/-! ### The duplicate -/

section Duplicate

variable {now : Instant} {k : Station} {f : Frame} {s : State}

/-- The station at the end of a duplicate's frame. -/
def duplicateTaken (now : Instant) (k : Station) (f : Frame) (s : State) : State :=
  finish (arrivalForces k f s) (tick now s) (duplicate k f (tick now s))

theorem exec_duplicate {c : Instr} (h : arrivalOf c = some (now, k, f)) (hs : s.levels.rstLow = false)
    (hok : frameContentOk f = true) (ho : own s = some k) (hl : s.link.line ≠ .waitingForIdle)
    (hno : ∀ a, s.link.line = .sending a → a.frame ≠ f) : exec c s = .next (duplicateTaken now k f s) := by
  have hown : isOwn (tick now s) k = true := by simpa [isOwn, own] using ho
  have hecho : echoOf f (tick now s) = none := by
    cases hline : s.link.line <;> simp_all [echoOf]
  have hopen : receiverOpen (tick now s) = true := by simp [receiverOpen, hl]
  rw [exec_arrival h hs, arrive, if_neg (by simp [hopen]), if_neg (by simp [hok]), if_pos hown, hecho]
  rfl

theorem duplicateTaken_frame :
    (duplicateTaken now k f s).peers.entries = s.peers.entries
      ∧ (duplicateTaken now k f s).link.line = .waitingForIdle
      ∧ (duplicateTaken now k f s).link.lastDuplicate = some now.ms := by
  refine ⟨by simp [duplicateTaken, duplicate], (waitsForIdle_iff _).mp ?_, by simp [duplicateTaken, duplicate, tick]⟩
  rw [duplicateTaken, finish_waits, duplicate_waits]

theorem duplicateTaken_stops (h : stopsIn s.phase = true) :
    (duplicateTaken now k f s).phase = .faulted ∧ .duplicateStation ∈ (duplicateTaken now k f s).fault.stopSet
      ∧ causePresent (duplicateTaken now k f s) .duplicateStation = true
      ∧ (s.fault.record.locked = false →
          (duplicateTaken now k f s).fault.record.cause = some (.stop .duplicateStation)
            ∧ (duplicateTaken now k f s).fault.record.a = (frameClass (frameKind f) : Int)
            ∧ (duplicateTaken now k f s).fault.record.b = (stationNumber k : Int)) := by
  obtain ⟨h1, -, h2, -, -, -, -, hshown⟩ := finish_raiseStop (c := .duplicateStation) (a := (frameClass (frameKind f) : Int))
    (b := (stationNumber k : Int)) (force := arrivalForces k f s) (s0 := tick now s)
    (s := { tick now s with link := { s.link with line := .waitingForIdle, lastDuplicate := some now.ms } }) h
  refine ⟨h1, h2, ?_, fun hl => ?_⟩
  · obtain ⟨-, -, hlast⟩ := duplicateTaken_frame (now := now) (k := k) (f := f) (s := s)
    have hms : (duplicateTaken now k f s).ms = now.ms := by simp [duplicateTaken, duplicate, tick]
    unfold causePresent
    rw [hlast, hms]
    simp [elapsed]
  · obtain ⟨-, -, hrec⟩ := hshown.record
    obtain ⟨k1, -, k2, k3⟩ := hrec hl
    refine ⟨k1, k2.trans ?_, k3.trans ?_⟩
    · cases f <;> rfl
    · cases k <;> rfl

end Duplicate

end Sys2Proof.Machine
end

section
/-! PROOFS. O41: the slot of the frame that the own echo completes. -/

namespace Sys2Proof.Machine

section Echo

variable {now : Instant} {k : Station} {f : Frame} {s : State} {a : Attempt}

/-- What the completed attempt leaves of its slot: nothing, or the frame that replaced the one sent (R33). -/
def slotKept (a : Attempt) (s : State) : Option Frame :=
  if a.replaced = true then s.link.queue.get (frameKind a.frame) else none

theorem echoHeard_slot : (echoHeard now k f a s).link.queue.get (frameKind a.frame) = slotKept a s := by
  have h : (echoHeard now k f a s).link.queue
      = if a.replaced then s.link.queue else s.link.queue.set (frameKind a.frame) none := rfl
  rw [h, slotKept]
  split_ifs
  · rfl
  · exact queue_get_set_self _ _ _

theorem echoHeard_frame :
    (echoHeard now k f a s).phase = s.phase ∧ (echoHeard now k f a s).claim = s.claim
      ∧ (echoHeard now k f a s).search = s.search ∧ (echoHeard now k f a s).mark = s.mark
      ∧ (echoHeard now k f a s).gradeUnit = s.gradeUnit ∧ (echoHeard now k f a s).straps = s.straps
      ∧ (echoHeard now k f a s).port = s.port := ⟨rfl, rfl, rfl, rfl, rfl, rfl, rfl⟩

theorem onEchoOf_lead (k : Station) (f : Frame) (s : State) :
    (onEchoOf k f s).gradeUnit.leadReport = s.gradeUnit.leadReport ∧ (onEchoOf k f s).mark.leadWait = s.mark.leadWait
      ∧ (frameKind f ≠ .claim → (onEchoOf k f s).search.leadHold = s.search.leadHold) := by
  cases f <;> simp [onEchoOf, reportEcho, releaseEcho, frameKind]
  all_goals (repeat' split) <;> simp

/-- An echo at the own entry leaves the lead's, another station's. -/
theorem echo_lead (hk : lead s ≠ some k) :
    lead (onEchoOf k f (echoHeard now k f a s)) = lead s
      ∧ ∀ j, lead s = some j → entry (onEchoOf k f (echoHeard now k f a s)) j = entry s j := by
  obtain ⟨he, -, -, hst, hset, hfr, -⟩ := onEchoOf_frame k f (echoHeard now k f a s)
  refine ⟨(lead_congr hfr hset hst).trans (lead_congr rfl rfl rfl), fun j hj => ?_⟩
  rw [entry, he]
  exact entry_setEntry_ne k j _ _ fun h => hk (h ▸ hj)

theorem echo_heard (hk : lead s ≠ some k) (hh : LeadHeard s) : LeadHeard (onEchoOf k f (echoHeard now k f a s)) := by
  obtain ⟨hl, he⟩ := echo_lead (now := now) (f := f) (a := a) hk
  obtain ⟨hr, hw, -⟩ := onEchoOf_lead k f (echoHeard now k f a s)
  have hr : (onEchoOf k f (echoHeard now k f a s)).gradeUnit.leadReport = s.gradeUnit.leadReport := hr
  have hw : (onEchoOf k f (echoHeard now k f a s)).mark.leadWait = s.mark.leadWait := hw
  intro j hj hwait
  rw [hl] at hj
  rw [he j hj]
  refine hh j hj ?_
  simpa [leadWaiting, hr, hw] using hwait

theorem echo_settled (hk : lead s ≠ some k) : leadSettled (onEchoOf k f (echoHeard now k f a s)) = leadSettled s := by
  obtain ⟨hl, he⟩ := echo_lead (now := now) (f := f) (a := a) hk
  unfold leadSettled leadAtRest leadGrade
  rw [hl]
  cases hj : lead s with
  | none => rfl
  | some j => simp [he j hj]

theorem echo_undisturbed (hk : lead s ≠ some k) (hs : Steady s) (hf : frameKind f ≠ .claim) :
    Undisturbed (onEchoOf k f (echoHeard now k f a s)) := by
  obtain ⟨-, hh, hset⟩ := hs
  obtain ⟨-, -, hhold⟩ := onEchoOf_lead k f (echoHeard now k f a s)
  exact LeadSteady.undisturbed ⟨echo_heard hk hh, fun h => (echo_settled hk).trans (hset ((hhold hf) ▸ h))⟩

/-! ### Every kind but CLAIM -/

theorem onEchoOf_slot (k : Station) (hm : frameKind f ≠ .markCall) (hc : frameKind f ≠ .claim) :
    (onEchoOf k f s).link.queue.get (frameKind f) = s.link.queue.get (frameKind f) := by
  cases f <;> simp_all [onEchoOf, reportEcho, releaseEcho, frameKind]
  all_goals split_ifs <;> rfl

theorem closing_slot (force : Bool) (s0 s : State) {j : FrameKind} (hm : j ≠ .markCall) (hc : j ≠ .claim)
    (hs : j ≠ .status) : (closing force s0 s).link.queue.get j = s.link.queue.get j := by
  have h := closing_frame force s0 s
  cases j <;> simp_all [PerKind.get]

theorem echoTaken_slot (hk : lead s ≠ some k) (hs : Steady s) (ha : a.frame = f) (hm : frameKind f ≠ .markCall)
    (hc : frameKind f ≠ .claim) (hst : frameKind f ≠ .status) :
    (echoTaken now k f a s).link.queue.get (frameKind f) = slotKept a s := by
  rw [echoTaken, finish_of_undisturbed (echo_undisturbed hk hs hc), closing_slot _ _ _ hm hc hst]
  have hq : (applyCeiling (onEchoOf k f (echoHeard now k f a s))).link = (onEchoOf k f (echoHeard now k f a s)).link := by
    simp
  rw [hq, onEchoOf_slot k hm hc, ← echoHeard_slot (now := now) (k := k) (f := f), ha]

theorem closing_status (force : Bool) (s0 s : State) :
    (closing force s0 s).link.queue.status = s.link.queue.status
      ∨ (closing force s0 s).link.queue.status = some (.status (statusContent (closing force s0 s))) := by
  unfold closing
  dsimp only
  refine (statusTest_slot force s0 _).imp_left fun h => h.trans ?_
  simp

theorem echoTaken_status (hk : lead s ≠ some k) (hs : Steady s) (ha : a.frame = f) (hf : frameKind f = .status) :
    (echoTaken now k f a s).link.queue.get (frameKind f) = slotKept a s
      ∨ (echoTaken now k f a s).link.queue.get (frameKind f) = some (.status (statusContent (echoTaken now k f a s))) := by
  have hslot := echoHeard_slot (now := now) (k := k) (f := f) (a := a) (s := s)
  rw [ha, ← onEchoOf_slot k (by simp [hf]) (by simp [hf]), hf] at hslot
  rw [echoTaken, finish_of_undisturbed (echo_undisturbed hk hs (by simp [hf])), hf]
  refine (closing_status (arrivalForces k f s) (tick now s) _).imp_left fun h => h.trans ?_
  rw [← hslot]
  simp [PerKind.get]

theorem tryCall_markCall (s : State) :
    (tryCall s).link.queue.markCall = s.link.queue.markCall
      ∨ (tryCall s).link.queue.markCall = some (.markCall ((tryCall s).mark.number + 1#8)) := by
  unfold tryCall sendFrame
  split_ifs
  · exact .inr rfl
  · exact .inl rfl
  · exact .inl rfl

theorem closing_markCall (force : Bool) (s0 s : State) :
    (closing force s0 s).link.queue.markCall = s.link.queue.markCall
      ∨ (closing force s0 s).link.queue.markCall = some (.markCall ((closing force s0 s).mark.number + 1#8)) := by
  unfold closing
  dsimp only
  have h := tryCall_markCall (tryComplete (tryRelease (reMarkTest s0 (tryMuster (tryClaim (tryPrereq s))))))
  simpa using h

theorem takeCall_markCall (k : Station) (n : Byte) (s : State) :
    (takeCall k n s).link.queue.markCall = s.link.queue.markCall ∨ (takeCall k n s).link.queue.markCall = none := by
  unfold takeCall
  split_ifs
  · exact .inr rfl
  · exact .inl rfl
  · exact .inl (by simp [callHeard, startQuiet, apply_ite])
  · exact .inl (by simp [callHeard, startQuiet, apply_ite])

theorem echoTaken_markCall (hk : lead s ≠ some k) (hs : Steady s) (ha : a.frame = f) (hf : frameKind f = .markCall) :
    (echoTaken now k f a s).link.queue.get (frameKind f) = slotKept a s
      ∨ (echoTaken now k f a s).link.queue.get (frameKind f) = none
      ∨ (echoTaken now k f a s).link.queue.get (frameKind f)
        = some (.markCall ((echoTaken now k f a s).mark.number + 1#8)) := by
  obtain ⟨n, rfl⟩ : ∃ n, f = .markCall n := by
    cases f <;> simp_all [frameKind]
  have hslot := echoHeard_slot (now := now) (k := k) (f := .markCall n) (a := a) (s := s)
  rw [ha] at hslot
  have hu := echo_undisturbed (now := now) (a := a) (f := .markCall n) hk hs (by simp [frameKind])
  rw [echoTaken, finish_of_undisturbed hu]
  rcases closing_markCall (arrivalForces k (.markCall n) s) (tick now s)
    (applyCeiling (onEchoOf k (.markCall n) (echoHeard now k (.markCall n) a s))) with h | h
  · have hq : (applyCeiling (onEchoOf k (.markCall n) (echoHeard now k (.markCall n) a s))).link.queue.markCall
        = (takeCall k n (echoHeard now k (.markCall n) a s)).link.queue.markCall := by simp [onEchoOf]
    rcases takeCall_markCall k n (echoHeard now k (.markCall n) a s) with h2 | h2
    · exact .inl ((h.trans (hq.trans h2)).trans hslot)
    · exact .inr (.inl (h.trans (hq.trans h2)))
  · exact .inr (.inr h)

/-! ### The CLAIM -/

theorem claimEcho_claim (s : State) :
    (claimEcho s).link.queue.claim = s.link.queue.claim ∧ (claimEcho s).phase = s.phase
      ∧ ((claimEcho s).claim.state = .held ∨ (claimEcho s).claim.state = .releasing
        ∨ (claimEcho s).phase = .down ∧ (claimEcho s).claim.state = .none) := by
  have hb : ∀ w : Bool, (beginRelease w s).link.queue.claim = s.link.queue.claim ∧ (beginRelease w s).phase = s.phase
      ∧ ((beginRelease w s).claim.state = .held ∨ (beginRelease w s).claim.state = .releasing
        ∨ (beginRelease w s).phase = .down ∧ (beginRelease w s).claim.state = .none) := fun w => by
    unfold beginRelease
    split_ifs with hd
    · exact ⟨rfl, rfl, .inr (.inr ⟨hd, rfl⟩)⟩
    · exact ⟨sendFrame_other .release .claim _ FrameKind.noConfusion, by simp, .inr (.inl (by simp))⟩
  unfold claimEcho
  split
  · next h => exact ⟨rfl, rfl, .inl h⟩
  · split_ifs
    · exact ⟨by simp, by simp, .inl (by simp)⟩
    · exact hb _
  · exact hb _
  · exact hb _
  · exact hb _

/-- A claim that cannot wait for its turn at this command's end. -/
def ClaimSettled (s : State) : Prop :=
  s.claim.state = .held ∨ s.claim.state = .releasing ∨ s.phase = .down
    ∨ s.claim.state = .none ∧ s.search.sub = .none

/-- Such a claim leaves its slot to the end of the command; in DOWN no CLAIM is queued. -/
theorem closing_claim (force : Bool) (s0 : State) {s : State} (h : ClaimSettled s) :
    (closing force s0 s).link.queue.claim = s.link.queue.claim := by
  have hp : (tryPrereq s).claim.state ≠ .waiting ∨ s.phase = .down := by
    rcases h with h | h | h | ⟨h, hs⟩
    · exact .inl (by unfold tryPrereq requestClaim; split_ifs <;> simp [h])
    · exact .inl (by unfold tryPrereq requestClaim; split_ifs <;> simp [h])
    · exact .inr h
    · exact .inl (by simp [tryPrereq, h, hs])
  have hc : (tryClaim (tryPrereq s)).link.queue.claim = s.link.queue.claim := by
    unfold tryClaim
    split_ifs with hw
    · rcases hp with hp | hp
      · exact absurd hw.1 hp
      · simp [sendFrame, queueTakes, hp, frameKind]
    · simp
  unfold closing
  dsimp only
  simpa using hc

theorem releaseClaim_settled {s : State}
    (h : s.claim.state = .held ∨ s.claim.state = .releasing ∨ s.claim.state = .none) :
    (releaseClaim s).link.queue.claim = s.link.queue.claim
      ∧ ((releaseClaim s).claim.state = .releasing ∨ (releaseClaim s).claim.state = .none) := by
  have hbegin : ∀ (w : Bool) (u : State), (beginRelease w u).link.queue.claim = u.link.queue.claim
      ∧ ((beginRelease w u).claim.state = .releasing ∨ (beginRelease w u).claim.state = .none) := fun w u => by
    unfold beginRelease
    split_ifs with hd
    · exact ⟨rfl, .inr rfl⟩
    · exact ⟨sendFrame_other .release .claim _ FrameKind.noConfusion, .inl (by simp)⟩
  unfold releaseClaim
  rcases h with h | h | h
  · rw [h]
    refine (hbegin _ _).imp_left fun hb => hb.trans ?_
    split_ifs <;> simp
  · rw [h]
    exact ⟨rfl, .inl h⟩
  · rw [h]
    exact ⟨rfl, .inr h⟩

theorem watchLead_claim {s : State}
    (h : s.claim.state = .held ∨ s.claim.state = .releasing ∨ s.phase = .down ∧ s.claim.state = .none) :
    (watchLead s).link.queue.claim = s.link.queue.claim ∧ ClaimSettled (watchLead s) := by
  unfold watchLead
  split_ifs
  · have hr := fun u : State => releaseClaim_settled (s := u)
    unfold failSearch endSearch
    generalize hu : endLeadHold (withdrawCalibration (note .referenceFail (failCode .leadUnsettled)
      (((lead s).map stationNumber).getD 0 : Int) s)) = u
    have hc : u.claim = s.claim ∧ u.link = s.link := by
      subst hu
      constructor <;> simp [withdrawCalibration]
    obtain ⟨h1, h2⟩ := hr u (by rw [hc.1]; exact h.imp_right fun h => h.imp_right fun h => h.2)
    rw [hc.2] at h1
    refine ⟨by simpa using h1, ?_⟩
    rcases h2 with h2 | h2
    · exact .inr (.inl (by simpa using h2))
    · exact .inr (.inr (.inr ⟨by simpa using h2, by simp [clearSearch]⟩))
  · refine ⟨rfl, ?_⟩
    rcases h with h | h | h
    · exact .inl h
    · exact .inr (.inl h)
    · exact .inr (.inr (.inl h.1))

theorem echoTaken_claim (hk : lead s ≠ some k) (hs : Steady s) (ha : a.frame = f) (hf : frameKind f = .claim) :
    (echoTaken now k f a s).link.queue.get (frameKind f) = slotKept a s := by
  obtain ⟨p, rfl⟩ : ∃ p, f = .claim p := by
    cases f <;> simp_all [frameKind]
  have hslot := echoHeard_slot (now := now) (k := k) (f := .claim p) (a := a) (s := s)
  rw [ha] at hslot
  obtain ⟨-, hh, -⟩ := hs
  have hl := leadLost_of_heard (echo_heard (now := now) (f := .claim p) (a := a) hk hh)
  obtain ⟨h1, -, h2⟩ := claimEcho_claim (echoHeard now k (.claim p) a s)
  obtain ⟨h3, h4⟩ := watchLead_claim h2
  have hX : onEchoOf k (.claim p) (echoHeard now k (.claim p) a s) = claimEcho (echoHeard now k (.claim p) a s) := rfl
  rw [echoTaken, finish_eq_closing, hl, hX]
  refine (closing_claim _ _ (by simpa [ClaimSettled] using h4)).trans ?_
  have hq : (applyCeiling (watchLead (claimEcho (echoHeard now k (.claim p) a s)))).link
      = (watchLead (claimEcho (echoHeard now k (.claim p) a s))).link := by simp
  rw [hq, h3, h1]
  exact hslot

end Echo

end Sys2Proof.Machine
end

section
/-! PROOFS. O41: the theorem. -/

namespace Sys2Proof.Machine

section Arrival

variable {now : Instant} {k : Station} {f : Frame} {s : State}

/-- The slot of the frame whose own echo has arrived (R33, R42, R66, R68). -/
theorem echoTaken_queue {a : Attempt} (hk : lead s ≠ some k) (hs : Steady s) (ha : a.frame = f) :
    (frameKind f ≠ .markCall → frameKind f ≠ .status →
        (echoTaken now k f a s).link.queue.get (frameKind f) = slotKept a s)
      ∧ (frameKind f = .status → (echoTaken now k f a s).link.queue.get (frameKind f) = slotKept a s
          ∨ (echoTaken now k f a s).link.queue.get (frameKind f)
            = some (.status (statusContent (echoTaken now k f a s))))
      ∧ (frameKind f = .markCall → (echoTaken now k f a s).link.queue.get (frameKind f) = slotKept a s
          ∨ (echoTaken now k f a s).link.queue.get (frameKind f) = none
          ∨ (echoTaken now k f a s).link.queue.get (frameKind f)
            = some (.markCall ((echoTaken now k f a s).mark.number + 1#8))) := by
  refine ⟨fun hm hst => ?_, fun hf => echoTaken_status hk hs ha hf, fun hf => echoTaken_markCall hk hs ha hf⟩
  by_cases hc : frameKind f = .claim
  · exact echoTaken_claim hk hs ha hc
  · exact echoTaken_slot hk hs ha hm hc hst

theorem arrive_waiting {onEcho onPeer : State → State} (h : s.link.line = .waitingForIdle) :
    arrive k f onEcho onPeer s = s := by
  simp [arrive, receiverOpen, h]

/-- In MUSTER the muster is judged at the end of the arrival (R61). -/
theorem peerTaken_musters (h : Mustering s) :
    (musterMissing (peerTaken now k f s) = 0#6 →
        (peerTaken now k f s).phase = .recovery ∧ (peerTaken now k f s).peers.musterTimer = .stopped
          ∧ (peerTaken now k f s).gradeUnit.sub = .reading ∧ (peerTaken now k f s).gradeUnit.readPending = true
          ∧ (peerTaken now k f s).mark.needs.recovery = true)
      ∧ (musterMissing (peerTaken now k f s) ≠ 0#6 → (peerTaken now k f s).phase = .muster) :=
  finish_musters _ _ (onPeerOf_mustering k f (h.congr (by simp) (by simp) (by simp)))

end Arrival

/-- Settles O41: a peer's frame, the own echo, a duplicate and an arrival that is not heard. -/
theorem arrivalReachesTheEntry : Obligations.ArrivalReachesTheEntry := by
  unfold Obligations.ArrivalReachesTheEntry
  intro past restart writesClaim inconsistentAt digestOf c now k f s harr hs hok
  have hrestart : restart (entry s k) f ↔ isRestart (entry s k) f = true := (isRestart_iff _ _).symm
  have hno : ¬ restart (entry s k) f ↔ isRestart (entry s k) f = false := by rw [hrestart, Bool.not_eq_true]
  have hdigest : digestOf f = shownDigest f := by cases f <;> rfl
  refine ⟨fun hl ho => ?_, fun a ho hl ha => ?_, fun ho hl hne => ?_, fun hl => ?_⟩
  · obtain ⟨e1, e2, e3, e4, e5⟩ := entryTested_heard (setLine .waitingForIdle (tick now s)) k f
    have e6 := entryTested_holds (setLine .waitingForIdle (tick now s)) k f
    rw [← peerTaken_entry] at e1 e2 e3 e4 e5 e6
    refine ⟨_, exec_peer harr hs hok hl ho, e1, e2, e3, e4, e5, e6, fun h => peerTaken_restart (hrestart.mp h),
      fun h => peerTaken_same (hno.mp h), fun d o hd hdo hne hr => ?_, fun hall => ?_, fun p hf h1 h2 => ?_,
      fun x hf hx hph hown => ?_, fun x hf hc hd => ?_, fun x a hf hx hlead hh => ?_, fun x a hf hx hlead hh => ?_,
      fun h1 h2 h3 => peerTaken_musters ⟨h1, h2, h3⟩⟩
    · exact peerTaken_mismatch (hdigest ▸ hd) hdo hne (hr.imp_left hrestart.mp)
    · obtain ⟨h1, h2⟩ := peerTaken_no_mismatch (now := now) (k := k) (f := f) (s := s) fun d o hd hdo hne => by
        obtain ⟨h3, h4⟩ := hall d o (hdigest.trans hd) hdo hne
        exact ⟨hno.mp h3, h4⟩
      exact ⟨fun h => h1 (hno.mp h), h2⟩
    · subst hf
      exact peerTaken_inconsistent (by simp [inconsistent, h1, h2]) fun d o hd => absurd hd (by simp [shownDigest])
    · subst hf
      refine peerTaken_inconsistent (by simp [inconsistent, hx, hph]) fun d o hd hdo => ?_
      rw [hown o hdo]
      exact (Option.some.inj hd).symm
    · subst hf
      exact peerTaken_hello hok hl ho hc hd
    · exact peerTaken_lambda hlead hh (.inl ⟨x, hf, hx⟩)
    · exact peerTaken_lambda hlead hh (.inr ⟨x, hf, hx⟩)
  · obtain ⟨e1, e2, e3, e4, e5, e6⟩ := echoTaken_entry (now := now) (k := k) (f := f) (a := a) (s := s)
    obtain ⟨l1, l2, l3, l4⟩ := echoTaken_link (now := now) (k := k) (s := s) ha
    refine ⟨_, exec_echo harr hs hok ho hl ha, l1, e1, e2, e3, e4, e5, e6, l2, l3, l4, fun hst hlead => ?_⟩
    have hq := echoTaken_queue (now := now) hlead hst ha
    rw [slotKept, ha] at hq
    exact hq
  · obtain ⟨d1, d2, d3⟩ := duplicateTaken_frame (now := now) (k := k) (f := f) (s := s)
    exact ⟨_, exec_duplicate harr hs hok ho hl hne, d1, d2, d3, fun h => duplicateTaken_stops h⟩
  · refine ⟨_, exec_arrival harr hs, ?_, (waitsForIdle_iff _).mp ?_⟩
    · rw [arrive_waiting (by simpa using hl)]
      simp
    · rw [finish_waits, arrive_waiting (by simpa using hl)]
      exact (waitsForIdle_iff _).mpr hl

end Sys2Proof.Machine
end

section
/-! PROOFS. O21: a frame sent is a frame received, and the bits of characters sent back to back read back as the
characters. -/

namespace Sys2Proof.Machine

/-! ### Characters and words -/

theorem byte_toNat (n : Nat) : (byte n).toNat = n % 256 := BitVec.toNat_ofNat n 8

@[simp] theorem bytes16_length (w : BitVec 16) : (bytes16 w).length = 2 := rfl

theorem bytes16_toNat (w : BitVec 16) : (bytes16 w).map BitVec.toNat = [w.toNat / 256, w.toNat % 256] := by
  have := w.isLt
  simp [bytes16, BitVec.extractLsb'_toNat, Nat.shiftRight_eq_div_pow]
  omega

@[simp] theorem word16_bytes (w : BitVec 16) : word16 (w.extractLsb' 8 8) (w.extractLsb' 0 8) = w :=
  (BitVec.extractLsb'_append_extractLsb'_eq_extractLsb' rfl).trans BitVec.extractLsb'_eq_self

theorem word32_bytes (w : BitVec 32) :
    w.extractLsb' 24 8 ++ w.extractLsb' 16 8 ++ (w.extractLsb' 8 8 ++ w.extractLsb' 0 8) = w := by
  have hhigh : w.extractLsb' 24 8 ++ w.extractLsb' 16 8 = w.extractLsb' 16 16 :=
    BitVec.extractLsb'_append_extractLsb'_eq_extractLsb' rfl
  have hlow : w.extractLsb' 8 8 ++ w.extractLsb' 0 8 = w.extractLsb' 0 16 :=
    BitVec.extractLsb'_append_extractLsb'_eq_extractLsb' rfl
  rw [hhigh, hlow]
  exact (BitVec.extractLsb'_append_extractLsb'_eq_extractLsb' rfl).trans BitVec.extractLsb'_eq_self

/-- Every angle that a frame may carry comes back from its four characters (R28, R37). -/
theorem readAngle_angleField (theta : Option Int) (h : theta.all angleInRange = true) :
    readAngle (angleField theta) = some theta := by
  cases theta with
  | none => rfl
  | some a =>
    have hrange : -67108864 ≤ a ∧ a ≤ 67108863 := by
      rwa [Option.all_some, angleInRange, Bool.and_eq_true, decide_eq_true_eq, decide_eq_true_eq] at h
    have hword : (BitVec.ofInt 32 a).toInt = a := by
      rw [BitVec.toInt_ofInt, Int.bmod_eq_of_le] <;> omega
    simp only [angleField, bytes32, readAngle, int32, word32_bytes, hword]

theorem angleField_length (theta : Option Int) : (angleField theta).length ≤ 4 := by cases theta <;> simp [angleField, bytes32]

/-! ### Codes -/

@[simp] theorem gradeOf_code (g : Grade) : gradeOf (byte (gradeCode g)).toNat = some g := by cases g <;> rfl

@[simp] theorem phaseOf_code (p : Phase) : phaseOf (byte (phaseCode p)).toNat = some p := by cases p <;> rfl

@[simp] theorem zoneIndexOf_code (z : ZoneIndex) : zoneIndexOf (byte (zoneIndexCode z)).toNat = some z := by
  cases z <;> rfl

@[simp] theorem stopOf_code (c : StopCause) : stopOf (byte (stopCode c)).toNat = some c := by cases c <;> rfl

@[simp] theorem purposeOf_code (p : Purpose) : purposeOf (byte (purposeCode p)).toNat = some p := by cases p <;> rfl

/-- The four flag bits stand in their order (R30). -/
theorem flagBits_bits (b0 b1 b2 b3 : Bool) :
    (flagBits b0 b1 b2 b3)[0] = b0 ∧ (flagBits b0 b1 b2 b3)[1] = b1
      ∧ (flagBits b0 b1 b2 b3)[2] = b2 ∧ (flagBits b0 b1 b2 b3)[3] = b3 := by
  revert b0 b1 b2 b3; decide

/-- The arbitration character holds the class above the station number above the two 1 bits (R28). -/
theorem arbitrationChar_fields (k : Station) (f : FrameKind) :
    (arbitrationChar k f).toNat = 32 * frameClass f + 4 * stationNumber k + 3
      ∧ (arbitrationChar k f).extractLsb' 0 2 = 3#2
      ∧ stationOf ((arbitrationChar k f).extractLsb' 2 3).toNat = some k
      ∧ ((arbitrationChar k f).extractLsb' 5 3).toNat = frameClass f := by
  cases k <;> cases f <;> decide

/-! ### Payloads -/

/-- A payload has at most 11 characters (Table 2-1). -/
theorem payload_length_le (f : Frame) : (payload f).length ≤ 12 := by
  cases f with
  | powerDown x => have := angleField_length x.theta; simp [payload]; omega
  | markReport r => have := angleField_length r.thetaM; simp [payload]; omega
  | status x => have := angleField_length x.theta; simp [payload]; omega
  | _ => simp [payload]

theorem payload_length_byte (f : Frame) : (byte (payload f).length).toNat = (payload f).length := by
  rw [byte_toNat]
  exact Nat.mod_eq_of_lt (Nat.lt_of_le_of_lt (payload_length_le f) (by decide))

/-- The payload of a frame that passes the content tests of R37 is read back as the frame. -/
theorem readPayload_payload (f : Frame) (h : frameContentOk f = true) :
    readPayload (frameClass (frameKind f)) (payload f) = some f := by
  cases f with
  | powerDown x =>
    have hangle : readAngle (angleField x.theta) = some x.theta :=
      readAngle_angleField _ (by simp only [frameContentOk, Bool.and_eq_true] at h; exact h.1)
    simp [readPayload, payload, frameKind, frameClass, hangle]
  | markReport r =>
    have hangle : readAngle (angleField r.thetaM) = some r.thetaM :=
      readAngle_angleField _ (by simp only [frameContentOk, Bool.and_eq_true] at h; exact h.1.1)
    obtain ⟨hgood, hvalid, -, -⟩ := flagBits_bits r.captureGood r.scaleValid false false
    simp [readPayload, payload, frameKind, frameClass, bytes16, hangle, hgood, hvalid]
  | status x =>
    have hangle : readAngle (angleField x.theta) = some x.theta :=
      readAngle_angleField _ (by simp only [frameContentOk, Bool.and_eq_true] at h; exact h.1)
    obtain ⟨hrest, hclaim, hfault, hsat⟩ := flagBits_bits x.atRest x.claim x.fault x.saturated
    simp [readPayload, payload, frameKind, frameClass, bytes16, hangle, hrest, hclaim, hfault, hsat]
  | halt c => simp [readPayload, payload, frameKind, frameClass]
  | claim p => simp [readPayload, payload, frameKind, frameClass]
  | markCall n => rfl
  | release => rfl
  | hello x => simp [readPayload, payload, frameKind, frameClass, bytes16]

/-! ### Frames -/

/-- The characters of a frame before its check (2.2). -/
def frameBody (k : Station) (f : Frame) : List Byte :=
  arbitrationChar k (frameKind f) :: byte (payload f).length :: payload f

theorem encodeFrame_eq (k : Station) (f : Frame) :
    encodeFrame k f = frameBody k f ++ bytes16 (crc16 (frameBody k f)) := rfl

theorem frameBody_length (k : Station) (f : Frame) : (frameBody k f).length = (payload f).length + 2 := rfl

theorem encodeFrame_take (k : Station) (f : Frame) :
    (encodeFrame k f).take ((payload f).length + 2) = frameBody k f := by
  rw [encodeFrame_eq, ← frameBody_length k f, List.take_left]

theorem encodeFrame_drop (k : Station) (f : Frame) :
    (encodeFrame k f).drop ((payload f).length + 2) = bytes16 (crc16 (frameBody k f)) := by
  rw [encodeFrame_eq, ← frameBody_length k f, List.drop_left]

theorem encodeFrame_toNat (k : Station) (f : Frame) :
    (encodeFrame k f).map BitVec.toNat
      = (32 * frameClass (frameKind f) + 4 * stationNumber k + 3) :: (payload f).length
          :: ((payload f).map BitVec.toNat ++ ((encodeFrame k f).drop ((payload f).length + 2)).map BitVec.toNat) := by
  rw [encodeFrame_drop, encodeFrame_eq, List.map_append, frameBody, List.map_cons, List.map_cons,
    (arbitrationChar_fields k (frameKind f)).1, payload_length_byte]
  rfl

theorem receiveFrame_encodeFrame (k : Station) (f : Frame) (h : frameContentOk f = true) :
    receiveFrame (encodeFrame k f) = some (k, f) := by
  obtain ⟨-, hlow, hstation, hclass⟩ := arbitrationChar_fields k (frameKind f)
  have htake : (payload f ++ bytes16 (crc16 (frameBody k f))).take (payload f).length = payload f := List.take_left
  have hdrop : (payload f ++ bytes16 (crc16 (frameBody k f))).drop (payload f).length
      = bytes16 (crc16 (frameBody k f)) := List.drop_left
  rw [encodeFrame_eq, frameBody, List.cons_append, List.cons_append, receiveFrame]
  rw [← frameBody, payload_length_byte, htake, hdrop]
  rw [if_pos ⟨payload_length_le f, by simp, rfl, hlow⟩, hstation, hclass, readPayload_payload f h]
  simp [h]

/-- A frame that the receiver takes ends in the check characters of what stands before them (R29, R37). -/
theorem receiveFrame_checked (cs : List Byte) (k : Station) (f : Frame) (h : receiveFrame cs = some (k, f)) :
    ∃ body, cs = body ++ bytes16 (crc16 body) := by
  unfold receiveFrame at h
  split at h
  · next arb len rest =>
    dsimp only at h
    split at h
    · next hok =>
      obtain ⟨-, -, hcheck, -⟩ := hok
      refine ⟨arb :: len :: rest.take len.toNat, ?_⟩
      rw [← hcheck, List.cons_append, List.cons_append, List.take_append_drop]
    · cases h
  · cases h

/-! ### The CRC -/

/-- One bit entering the register, with its top bit written as bit 15 (R29). -/
theorem crcBit_eq (r : BitVec 16) (b : Bool) :
    crcBit r b = (r <<< 1) ^^^ (if r.getLsbD 15 = b then 0#16 else 0x1021#16) := by
  have hmsb : r.msb = r.getLsbD 15 := BitVec.msb_eq_getLsbD_last r
  unfold crcBit
  rw [hmsb]
  cases r.getLsbD 15 <;> cases b <;> simp

theorem crc16_concat (cs : List Byte) (c : Byte) : crc16 (cs ++ [c]) = crcByte (crc16 cs) c := by
  simp [crc16]

/-! ### The bits of the line -/

theorem characterOf_dataBits (c : Byte) :
    characterOf (dataBit (c.getLsbD 7)) (dataBit (c.getLsbD 6)) (dataBit (c.getLsbD 5)) (dataBit (c.getLsbD 4))
      (dataBit (c.getLsbD 3)) (dataBit (c.getLsbD 2)) (dataBit (c.getLsbD 1)) (dataBit (c.getLsbD 0)) = c := by
  revert c; decide

theorem readBits_character (c : Byte) (rest : List LineBit) :
    readBits (characterBits c ++ rest) = (readBits rest).map (c :: ·) := by
  simp only [characterBits, List.cons_append, List.nil_append, readBits, characterOf_dataBits]

theorem readBits_lineBits (cs : List Byte) : readBits (lineBits cs) = some cs := by
  induction cs with
  | nil => rfl
  | cons c cs ih => rw [lineBits_cons, readBits_character, ih]; rfl

theorem lineBits_length (cs : List Byte) : (lineBits cs).length = 10 * cs.length := by
  induction cs with
  | nil => rfl
  | cons c cs ih => rw [lineBits_cons, List.length_append, ih, characterBits_length, List.length_cons]; omega

/-- A bit that spoils the reading of any character that starts the line spoils it wherever that character stands. -/
theorem readBits_set (n : Nat) (b : LineBit) (hn : n < 10)
    (hfirst : ∀ c rest, readBits ((characterBits c).set n b ++ rest) = none) (cs : List Byte) (i : Nat)
    (hi : i < cs.length) : readBits ((lineBits cs).set (10 * i + n) b) = none := by
  induction cs generalizing i with
  | nil => simp at hi
  | cons c cs ih =>
    rw [lineBits_cons]
    cases i with
    | zero => rw [Nat.mul_zero, Nat.zero_add, List.set_append_left _ _ (by simpa using hn)]; exact hfirst c _
    | succ i =>
      have hlen : (characterBits c).length ≤ 10 * (i + 1) + n := by rw [characterBits_length]; omega
      have hsub : 10 * (i + 1) + n - (characterBits c).length = 10 * i + n := by rw [characterBits_length]; omega
      rw [List.set_append_right _ _ hlen, hsub, readBits_character, ih i (by simpa using hi)]
      rfl

/-- Settles O21. -/
theorem framesRoundTrip : Obligations.FramesRoundTrip := by
  refine ⟨receiveFrame_encodeFrame, fun k f => ⟨?_, encodeFrame_toNat k f⟩, fun k f => ?_, receiveFrame_checked,
    bytes16_toNat, rfl, fun cs c => ?_, by decide +kernel, fun cs => ⟨readBits_lineBits cs, lineBits_length cs⟩,
    fun c i hi => ?_, fun c => ⟨rfl, rfl⟩, fun cs i hi => ⟨?_, ?_⟩⟩
  · rw [encodeFrame_eq, List.length_append, frameBody_length, bytes16_length]
  · rw [encodeFrame_drop, encodeFrame_take]
  · rw [crc16_concat, crcByte, funext fun r => funext fun i => crcBit_eq r (c.getLsbD i)]
  · interval_cases i <;> rfl
  · exact readBits_set 0 .recessive (by decide) (fun c rest => by simp [characterBits, readBits]) cs i hi
  · exact readBits_set 9 .dominant (by decide) (fun c rest => by simp [characterBits, readBits]) cs i hi

end Sys2Proof.Machine
end

section
/-! PROOFS. O10: a change that R42 names queues a STATUS. The closing tests compare the parts of R42 with those that the
command found, and a command without closing tests changes none of them. -/

namespace Sys2Proof.Machine

/-- What a STATUS is due for when it changes: the phase, the grade, the claim flag, the at-rest flag and the fault flag
(R42). -/
def statusParts (s : State) : Phase × Grade × Bool × Bool × Bool :=
  (s.phase, s.gradeUnit.grade, claimFlag s, s.reck.atRest, s.fault.record.locked)

theorem statusDue_iff (s0 s : State) : statusDue s0 s = true ↔ statusParts s0 ≠ statusParts s := by
  simp only [statusDue, statusParts, ne_eq, Prod.mk.injEq, Bool.or_eq_true, decide_eq_true_eq, bne_iff_ne]
  tauto

theorem statusParts_congr {s t : State} (hp : t.phase = s.phase) (hg : t.gradeUnit = s.gradeUnit) (hc : t.claim = s.claim)
    (hr : t.reck = s.reck) (hf : t.fault.record.locked = s.fault.record.locked) : statusParts t = statusParts s := by
  rw [statusParts, statusParts, claimFlag, claimFlag, hp, hg, hc, hr, hf]

theorem queueStatus_parts (s : State) : statusParts (queueStatus s) = statusParts s :=
  statusParts_congr (by simp) (by simp) (by simp) (by simp) (by simp)

/-- A STATUS that is due at the end of a command is queued with the content of that end, outside CONFIG and DOWN (R42,
log 6). -/
theorem statusTest_due {force : Bool} {s0 s : State} (hc : s.phase ≠ .config) (hd : s.phase ≠ .down)
    (hdue : statusParts s0 ≠ statusParts s) :
    (statusTest force s0 s).link.queue.status = some (.status (statusContent (statusTest force s0 s))) := by
  have hq : statusTest force s0 s = queueStatus s := by simp [statusTest, (statusDue_iff s0 s).mpr hdue]
  rw [hq, queueStatus_content]
  exact queueStatus_slot hc hd

theorem statusTest_parts (force : Bool) (s0 s : State) : statusParts (statusTest force s0 s) = statusParts s := by
  unfold statusTest
  split_ifs
  · exact queueStatus_parts s
  · rfl

theorem finish_due {force : Bool} {s0 s : State} (hc : (finish force s0 s).phase ≠ .config)
    (hd : (finish force s0 s).phase ≠ .down) (hdue : statusParts s0 ≠ statusParts (finish force s0 s)) :
    (finish force s0 s).link.queue.status = some (.status (statusContent (finish force s0 s))) := by
  rw [finish_eq_startWrite] at *
  rw [statusTest_parts] at hdue
  exact statusTest_due (by simpa using hc) (by simpa using hd) hdue

/-- The commands that read alone change none of the parts. -/
theorem effectOf_reads_statusParts {c : Instr} (h : readsOnly c = true) (s : State) :
    statusParts (effectOf c s) = statusParts s := by
  have hkept : (effectOf c s).claim = s.claim ∧ (effectOf c s).fault = s.fault := by
    cases c with
    | transactionIgnored | fetch | unknownCommand => simp [effectOf]
    | statusRead | peerRead | faultRead | storeRead =>
      simp only [effectOf, command]
      split
      · simp
      · split_ifs <;> simp
    | _ => exact absurd h Bool.noConfusion
  obtain ⟨hclaim, hfault⟩ := hkept
  obtain ⟨hphase, hreck, -, hgrade, -⟩ := effectOf_reads_frame h s
  exact statusParts_congr hphase hgrade hclaim hreck (by rw [hfault])

theorem tick_statusParts (now : Instant) (s : State) : statusParts (tick now s) = statusParts s := rfl

/-- A reset, or a command that keeps the station in one, ends in CONFIG or changes none of the parts (R186). -/
theorem exec_reset_statusParts {c : Instr} {s t : State} (h : exec c s = .next t) (hr : isReset c = true) :
    t.phase = .config ∨ statusParts s = statusParts t := by
  have hend : ∀ k pins cut x u, (endReset k pins cut x u).phase = .config := fun k pins cut x u => by
    simp [endReset, resetBlocks]
  cases c with
  | por pins cut =>
    cases h
    split
    · exact .inr rfl
    · exact .inl (hend _ _ _ _ _)
  | pinReset pins cut => cases h; exact .inl (hend _ _ _ _ _)
  | rstNLow cut =>
    cases h
    split
    · exact .inr rfl
    · exact .inl rfl
  | reset now r pins cut =>
    cases h
    unfold reading
    split_ifs
    · exact .inr rfl
    · refine command_keeps (P := fun u => u.phase = .config ∨ statusParts s = statusParts u) _ _ _ _ _ _ _
        (fun st => .inr (statusParts_congr ?_ ?_ ?_ ?_ ?_).symm) (fun ps _ _ => .inl (hend _ _ _ _ _)) <;> simp
  | _ => exact absurd hr Bool.noConfusion

/-- Settles O10: a command that runs ends with the test of R42, and no other changes a part of it. -/
theorem changesQueueStatus : Obligations.ChangesQueueStatus := by
  intro c s t h hconfig hdown hchange
  have hparts : statusParts s ≠ statusParts t := by
    simp only [statusParts, ne_eq, Prod.mk.injEq]
    tauto
  cases hr : isReset c with
  | true =>
    obtain hp | hp := exec_reset_statusParts h hr
    · exact absurd hp hconfig
    · exact absurd hp hparts
  | false =>
    obtain rfl | ⟨hreads, rfl⟩ | ⟨-, -, rfl⟩ := exec_cases h hr
    · exact absurd rfl hparts
    · rw [effectOf_reads_statusParts hreads] at hparts
      exact absurd (tick_statusParts _ _).symm hparts
    · exact finish_due hconfig hdown (by rwa [tick_statusParts])

end Sys2Proof.Machine
end

section
/-! PROOFS. O19: the outgoing queue holds only the kinds that the phase takes (R35). Whether it does is a property of the phase
and the queue alone: an operation that leaves both keeps it by its frame, one that ends in a phase in which every kind is
taken has it whatever the queue, and the others have one lemma each below. -/

namespace Sys2Proof.Machine

/-- Every pending frame is of a kind that the phase takes (R35). -/
def QueueFits (p : Phase) (q : PerKind (Option Frame)) : Prop := ∀ k, q.get k ≠ none → queueTakes p k = true

theorem queueByPhase_iff (s : State) : QueueByPhase s ↔ QueueFits s.phase s.link.queue := by
  unfold QueueByPhase QueueFits
  cases s.phase with
  | config => simp [queueTakes]
  | down =>
    simp only [reduceCtorEq, false_imp_iff, true_and, true_imp_iff]
    exact forall_congr' fun k => by cases k <;> simp [queueTakes]
  | _ => simp [queueTakes]

/-- A phase other than CONFIG and DOWN takes every kind. -/
@[simp] theorem queueFits_open {p : Phase} (hc : p ≠ .config) (hd : p ≠ .down) (q : PerKind (Option Frame)) :
    QueueFits p q := by
  intro k _
  cases p <;> simp_all [queueTakes]

@[simp] theorem queueFits_empty (p : Phase) : QueueFits p (PerKind.all none) := by
  intro k hk
  cases k <;> exact absurd rfl hk

/-! ### The queue alone -/

section Queue

variable {p : Phase} {s : State}

@[simp] theorem set_none_queueFits {q : PerKind (Option Frame)} (k : FrameKind) (h : QueueFits p q) :
    QueueFits p (q.set k none) := by
  intro j hj
  by_cases hjk : j = k
  · subst hjk
    exact absurd (queue_get_set_self _ _ _) hj
  · exact h j (by rwa [queue_get_set_ne _ _ _ _ hjk] at hj)

@[simp] theorem sendFrame_queueFits (f : Frame) (hp : s.phase = p) (h : QueueFits p s.link.queue) :
    QueueFits p (sendFrame f s).link.queue := by
  subst hp
  intro j hj
  by_cases hjk : j = frameKind f
  · subst hjk
    cases ht : queueTakes s.phase (frameKind f) with
    | true => rfl
    | false =>
      rw [sendFrame_discarded _ _ ht] at hj
      exact ht.symm.trans (h _ hj)
  · exact h j (by rwa [sendFrame_other _ _ _ hjk] at hj)

@[simp] theorem withdrawFrame_queueFits (k : FrameKind) (h : QueueFits p s.link.queue) :
    QueueFits p (withdrawFrame k s).link.queue := set_none_queueFits k h

@[simp] theorem queueStatus_queueFits (hp : s.phase = p) (h : QueueFits p s.link.queue) :
    QueueFits p (queueStatus s).link.queue := sendFrame_queueFits _ hp h

@[simp] theorem tryClaim_queueFits (hp : s.phase = p) (h : QueueFits p s.link.queue) :
    QueueFits p (tryClaim s).link.queue := by
  unfold tryClaim
  split_ifs <;> simp [hp, h]

@[simp] theorem beginRelease_queueFits (b : Bool) (hp : s.phase = p) (h : QueueFits p s.link.queue) :
    QueueFits p (beginRelease b s).link.queue := by
  unfold beginRelease
  split_ifs
  · exact h
  · exact sendFrame_queueFits _ hp h

@[simp] theorem releaseClaim_queueFits (hp : s.phase = p) (h : QueueFits p s.link.queue) :
    QueueFits p (releaseClaim s).link.queue := by
  unfold releaseClaim
  cases s.claim.state with
  | held => split_ifs <;> simp [hp, h]
  | _ => simp [h]

@[simp] theorem changePurpose_queueFits (hp : s.phase = p) (h : QueueFits p s.link.queue) :
    QueueFits p (changePurpose s).link.queue := by
  unfold changePurpose
  split_ifs <;> simp [hp, h]

@[simp] theorem tryCall_queueFits (hp : s.phase = p) (h : QueueFits p s.link.queue) :
    QueueFits p (tryCall s).link.queue := by
  unfold tryCall
  split_ifs <;> simp [hp, h]

@[simp] theorem queueReport_queueFits (c : Capture) (g : Grade) (theta : Option Int) (hp : s.phase = p)
    (h : QueueFits p s.link.queue) : QueueFits p (queueReport c g theta s).link.queue := by
  simp [queueReport, hp, h]

@[simp] theorem flushReport_queueFits (hp : s.phase = p) (h : QueueFits p s.link.queue) :
    QueueFits p (flushReport s).link.queue := by
  unfold flushReport
  (repeat' split) <;> simp [hp, h]

@[simp] theorem dropNeeds_queueFits (h : QueueFits p s.link.queue) : QueueFits p (dropNeeds s).link.queue := by
  simp [dropNeeds, h]

@[simp] theorem enterPark_queueFits (hp : s.phase = p) (h : QueueFits p s.link.queue) :
    QueueFits p (enterPark s).link.queue := by
  simp [enterPark, hp, h]

@[simp] theorem statusTest_queueFits (force : Bool) (s0 : State) (hp : s.phase = p) (h : QueueFits p s.link.queue) :
    QueueFits p (statusTest force s0 s).link.queue := by
  unfold statusTest
  split_ifs <;> simp [hp, h]

@[simp] theorem completeAttempt_queueFits (a : Attempt) (h : QueueFits p s.link.queue) :
    QueueFits p (completeAttempt a s).link.queue := by
  unfold completeAttempt
  dsimp only
  split_ifs <;> simp [h]

@[simp] theorem adoptCall_queueFits (n : Byte) (h : QueueFits p s.link.queue) :
    QueueFits p (adoptCall n s).link.queue := by
  simp [adoptCall, h]

@[simp] theorem takeCall_queueFits (k : Station) (n : Byte) (h : QueueFits p s.link.queue) :
    QueueFits p (takeCall k n s).link.queue := by
  have hheard : (callHeard s).link = s.link := by unfold callHeard; split_ifs <;> rfl
  unfold takeCall
  split_ifs <;> simp [hheard, h]

@[simp] theorem claimFromPeer_queueFits (k : Station) (h : QueueFits p s.link.queue) :
    QueueFits p (claimFromPeer k s).link.queue := by
  unfold claimFromPeer
  split_ifs <;> simp [h]

@[simp] theorem claimEcho_queueFits (hp : s.phase = p) (h : QueueFits p s.link.queue) :
    QueueFits p (claimEcho s).link.queue := by
  unfold claimEcho
  (repeat' split) <;> simp [hp, h]

end Queue

/-! ### Searches and faults -/

section Phases

variable {s : State}

@[simp] theorem setPhase_phase (p : Phase) (s : State) : (setPhase p s).phase = p := rfl

@[simp] theorem endSearch_queueFits (o : SearchOutcome) (s : State) :
    QueueFits (endSearch o s).phase (endSearch o s).link.queue := by
  simp [endSearch]

@[simp] theorem failSearch_queueFits (c : FailCause) (n : Int) (s : State) :
    QueueFits (failSearch c n s).phase (failSearch c n s).link.queue := endSearch_queueFits _ _

@[simp] theorem abortSearch_queueFits (r : AbortReason) (st : Option Station) (s : State) :
    QueueFits (abortSearch r st s).phase (abortSearch r st s).link.queue := endSearch_queueFits _ _

@[simp] theorem completeSearch_queueFits (s : State) :
    QueueFits (completeSearch s).phase (completeSearch s).link.queue := by
  simp [completeSearch]

@[simp] theorem advanceSearch_queueFits (h : QueueFits s.phase s.link.queue) :
    QueueFits (advanceSearch s).phase (advanceSearch s).link.queue := by
  unfold advanceSearch
  (repeat' split) <;> simp [h]

@[simp] theorem trySettle_queueFits (h : QueueFits s.phase s.link.queue) :
    QueueFits (trySettle s).phase (trySettle s).link.queue := by
  unfold trySettle
  split_ifs <;> simp [h]

@[simp] theorem searchSample_queueFits (h : QueueFits s.phase s.link.queue) :
    QueueFits (searchSample s).phase (searchSample s).link.queue := by
  unfold searchSample
  (repeat' split) <;> simp [h]

@[simp] theorem inhibitNotice_queueFits (h : QueueFits s.phase s.link.queue) :
    QueueFits (inhibitNotice s).phase (inhibitNotice s).link.queue := by
  unfold inhibitNotice
  (repeat' split) <;> simp [h]

@[simp] theorem watchLead_queueFits (h : QueueFits s.phase s.link.queue) :
    QueueFits (watchLead s).phase (watchLead s).link.queue := by
  unfold watchLead
  split_ifs <;> simp [h]

@[simp] theorem nextPass_queueFits (h : QueueFits s.phase s.link.queue) :
    QueueFits (nextPass s).phase (nextPass s).link.queue := by
  unfold nextPass
  split_ifs <;> simp [h]

@[simp] theorem evaluatePass_queueFits (h : QueueFits s.phase s.link.queue) :
    QueueFits (evaluatePass s).phase (evaluatePass s).link.queue := by
  unfold evaluatePass
  dsimp only
  (repeat' split) <;> simp [h]

@[simp] theorem calibrationDone_queueFits (o : WriteOutcome) (h : QueueFits s.phase s.link.queue) :
    QueueFits (calibrationDone o s).phase (calibrationDone o s).link.queue := by
  unfold calibrationDone
  dsimp only
  split <;> simp [h]

@[simp] theorem stopEffects_queueFits (c : StopCause) (a : Int) (s : State) :
    QueueFits (stopEffects c a s).phase (stopEffects c a s).link.queue := by
  simp

@[simp] theorem raiseStop_queueFits (c : StopCause) (a b : Int) (h : QueueFits s.phase s.link.queue) :
    QueueFits (raiseStop c a b s).phase (raiseStop c a b s).link.queue := by
  unfold raiseStop
  cases hp : s.phase with
  | muster | recovery | ready | reference => exact stopEffects_queueFits _ _ _
  | _ => simp [hp, hp ▸ h]

@[simp] theorem raiseIfOutside_queueFits (n : Int) (h : QueueFits s.phase s.link.queue) :
    QueueFits (raiseIfOutside n s).phase (raiseIfOutside n s).link.queue := by
  unfold raiseIfOutside
  split_ifs <;> simp [h]

@[simp] theorem keepDownFrames_queueFits (s : State) : QueueFits .down (keepDownFrames s).link.queue := fun k hk => by
  cases k <;> first | rfl | exact absurd rfl hk

/-- The entry into DOWN empties every slot but those of HALT and POWER_DOWN before it queues its own frame (R98). -/
@[simp] theorem enterDown_queueFits (s : State) : QueueFits (enterDown s).phase (enterDown s).link.queue := by
  simp [enterDown]

/-! ### Decisions -/

@[simp] theorem enterRecovery_phase (s : State) : (enterRecovery s).phase = .recovery := by
  unfold enterRecovery
  dsimp only
  split_ifs <;> rfl

@[simp] theorem decided_queueFits (c : Capture) (h : QueueFits s.phase s.link.queue) :
    QueueFits (decided c s).phase (decided c s).link.queue := by
  have hreported : QueueFits s.phase (reported c s).link.queue := by
    unfold reported
    split_ifs <;> simp [graded, turnTaken, h]
  rw [decided_phase]
  unfold decided decisionShown
  dsimp only
  split_ifs <;> simp_all [endDecision]

@[simp] theorem decideOn_queueFits (c : Capture) (h : QueueFits s.phase s.link.queue) :
    QueueFits (decideOn c s).phase (decideOn c s).link.queue := by
  rw [decideOn_eq]
  exact raiseIfOutside_queueFits _ (decided_queueFits c h)

@[simp] theorem decideHeld_queueFits (h : QueueFits s.phase s.link.queue) :
    QueueFits (decideHeld s).phase (decideHeld s).link.queue := by
  unfold decideHeld
  split <;> simp [h]

@[simp] theorem advanceDecision_queueFits (h : QueueFits s.phase s.link.queue) :
    QueueFits (advanceDecision s).phase (advanceDecision s).link.queue := by
  unfold advanceDecision
  split_ifs <;> simp [h]

@[simp] theorem gradeCapture_queueFits (c : Capture) (served : Needs) (h : QueueFits s.phase s.link.queue) :
    QueueFits (gradeCapture c served s).phase (gradeCapture c served s).link.queue := by
  unfold gradeCapture
  split_ifs <;> simp [h]

@[simp] theorem captureAnswered_queueFits (c : Capture) (h : QueueFits s.phase s.link.queue) :
    QueueFits (captureAnswered c s).phase (captureAnswered c s).link.queue := by
  unfold captureAnswered
  dsimp only
  split_ifs <;> simp [h]

@[simp] theorem leadResolved_queueFits (l : LeadReport) (h : QueueFits s.phase s.link.queue) :
    QueueFits (leadResolved l s).phase (leadResolved l s).link.queue := by
  unfold leadResolved
  dsimp only
  split_ifs <;> simp [h]

@[simp] theorem leadLost_queueFits (h : QueueFits s.phase s.link.queue) :
    QueueFits (leadLost s).phase (leadLost s).link.queue := by
  unfold leadLost
  (repeat' split) <;> simp [h]

@[simp] theorem leadAtEdge_queueFits (h : QueueFits s.phase s.link.queue) :
    QueueFits (leadAtEdge s).phase (leadAtEdge s).link.queue := by
  unfold leadAtEdge
  (repeat' split) <;> simp [h]

@[simp] theorem answerRead_queueFits (h : QueueFits s.phase s.link.queue) :
    QueueFits (answerRead s).phase (answerRead s).link.queue := by
  unfold answerRead
  dsimp only
  split <;> simp [h]

@[simp] theorem tryMuster_queueFits {q : PerKind (Option Frame)} (h : QueueFits s.phase q) :
    QueueFits (tryMuster s).phase q := by
  unfold tryMuster
  split_ifs <;> simp [h]

/-! ### The events -/

@[simp] theorem overflowTest_queueFits (held : Bool) (n : Int) (h : QueueFits s.phase s.link.queue) :
    QueueFits (overflowTest held n s).phase (overflowTest held n s).link.queue := by
  unfold overflowTest
  split_ifs <;> simp [h]

@[simp] theorem jumpTest_queueFits (d : Int) (h : QueueFits s.phase s.link.queue) :
    QueueFits (jumpTest d s).phase (jumpTest d s).link.queue := by
  unfold jumpTest
  split_ifs <;> simp [h]

@[simp] theorem countGood_queueFits (p : Nat) (h : QueueFits s.phase s.link.queue) :
    QueueFits (countGood p s).phase (countGood p s).link.queue := by
  unfold countGood
  dsimp only
  split_ifs <;> simp [h]

@[simp] theorem answerCapture_queueFits (c : Capture) (h : QueueFits s.phase s.link.queue) :
    QueueFits (answerCapture c s).phase (answerCapture c s).link.queue := by
  unfold answerCapture
  split_ifs <;> simp [h]

@[simp] theorem directionCheck_queueFits (h : QueueFits s.phase s.link.queue) :
    QueueFits (directionCheck s).phase (directionCheck s).link.queue := by
  unfold directionCheck
  (repeat' split) <;> simp [h]

@[simp] theorem stillnessCheck_queueFits (h : QueueFits s.phase s.link.queue) :
    QueueFits (stillnessCheck s).phase (stillnessCheck s).link.queue := by
  unfold stillnessCheck
  (repeat' split) <;> simp [h]

@[simp] theorem goodMotorSample_queueFits (p : Nat) (flag : Bool) (h : QueueFits s.phase s.link.queue) :
    QueueFits (goodMotorSample p flag s).phase (goodMotorSample p flag s).link.queue := by
  have hcounted : QueueFits (countGood p s).phase (countGood p s).link.queue := countGood_queueFits p h
  exact searchSample_queueFits (stillnessCheck_queueFits (trySettle_queueFits (directionCheck_queueFits
    (answerCapture_queueFits _ (by simpa using hcounted)))))

@[simp] theorem badMotorSample_queueFits (flag : Bool) (h : QueueFits s.phase s.link.queue) :
    QueueFits (badMotorSample flag s).phase (badMotorSample flag s).link.queue := by
  unfold badMotorSample
  dsimp only
  split_ifs <;> simp [h]

@[simp] theorem driftCheck_queueFits (h : QueueFits s.phase s.link.queue) :
    QueueFits (driftCheck s).phase (driftCheck s).link.queue := by
  unfold driftCheck
  dsimp only
  (repeat' split) <;> simp [h]

@[simp] theorem goodScaleSample_queueFits (v : Nat) (h : QueueFits s.phase s.link.queue) :
    QueueFits (goodScaleSample v s).phase (goodScaleSample v s).link.queue := by
  simp [goodScaleSample, h]

@[simp] theorem badScaleSample_queueFits (h : QueueFits s.phase s.link.queue) :
    QueueFits (badScaleSample s).phase (badScaleSample s).link.queue := by
  unfold badScaleSample
  dsimp only
  split_ifs <;> simp [h]

@[simp] theorem calDone_queueFits (r : CalRecord) (rb : ReadBack) (h : QueueFits s.phase s.link.queue) :
    QueueFits (calDone r rb s).phase (calDone r rb s).link.queue := by
  unfold calDone
  dsimp only
  split_ifs <;> simp [h]

@[simp] theorem writeEvent_queueFits (rb : ReadBack) (h : QueueFits s.phase s.link.queue) :
    QueueFits (writeEvent rb s).phase (writeEvent rb s).link.queue := by
  unfold writeEvent
  split <;> simp [h]

@[simp] theorem readEvent_queueFits (h : QueueFits s.phase s.link.queue) :
    QueueFits (readEvent s).phase (readEvent s).link.queue := by
  unfold readEvent
  split_ifs <;> simp [h]

@[simp] theorem pfailEvent_queueFits (h : QueueFits s.phase s.link.queue) :
    QueueFits (pfailEvent s).phase (pfailEvent s).link.queue := by
  unfold pfailEvent
  dsimp only
  split
  · exact h
  · exact h
  all_goals exact enterDown_queueFits _

@[simp] theorem failKind_queueFits (k : FrameKind) (h : QueueFits s.phase s.link.queue) :
    QueueFits (failKind k s).phase (failKind k s).link.queue := by
  unfold failKind
  exact raiseStop_queueFits _ _ _ (withdrawFrame_queueFits k h)

@[simp] theorem bitErrorEvent_queueFits (n : Nat) (h : QueueFits s.phase s.link.queue) :
    QueueFits (bitErrorEvent n s).phase (bitErrorEvent n s).link.queue := by
  unfold bitErrorEvent
  dsimp only
  (repeat' split) <;> simp [h]

@[simp] theorem duplicate_queueFits (k : Station) (f : Frame) (h : QueueFits s.phase s.link.queue) :
    QueueFits (duplicate k f s).phase (duplicate k f s).link.queue := by
  unfold duplicate
  exact raiseStop_queueFits _ _ _ h

@[simp] theorem haltFromPeer_queueFits (k : Station) (h : QueueFits s.phase s.link.queue) :
    QueueFits (haltFromPeer k s).phase (haltFromPeer k s).link.queue := by
  unfold haltFromPeer
  split_ifs <;> simp [h]

@[simp] theorem leadReports_queueFits (k : Station) (r : MarkReport) (h : QueueFits s.phase s.link.queue) :
    QueueFits (leadReports k r s).phase (leadReports k r s).link.queue := by
  unfold leadReports
  split_ifs <;> simp [h]

@[simp] theorem reportFromPeer_queueFits (k : Station) (r : MarkReport) (h : QueueFits s.phase s.link.queue) :
    QueueFits (reportFromPeer k r s).phase (reportFromPeer k r s).link.queue := by
  simp [reportFromPeer, h]

@[simp] theorem claimConflict_queueFits (j k : Station) (h : QueueFits s.phase s.link.queue) :
    QueueFits (claimConflict j k s).phase (claimConflict j k s).link.queue := by
  unfold claimConflict
  dsimp only
  split_ifs <;> simp [h]

@[simp] theorem statusFromPeer_queueFits (k : Station) (f : StatusFrame) (h : QueueFits s.phase s.link.queue) :
    QueueFits (statusFromPeer k f s).phase (statusFromPeer k f s).link.queue := by
  unfold statusFromPeer conflictTest
  (repeat' split) <;> simp [h]

@[simp] theorem fallEvent_queueFits (h : QueueFits s.phase s.link.queue) :
    QueueFits (fallEvent s).phase (fallEvent s).link.queue := by
  unfold fallEvent
  dsimp only
  split_ifs <;> simp [h]

@[simp] theorem markEdge_queueFits (h : QueueFits s.phase s.link.queue) :
    QueueFits (markEdge s).phase (markEdge s).link.queue := by
  unfold markEdge
  split_ifs <;> simp [h]

@[simp] theorem riseEvent_queueFits (h : QueueFits s.phase s.link.queue) :
    QueueFits (riseEvent s).phase (riseEvent s).link.queue := by
  unfold riseEvent
  split_ifs <;> simp [h]

@[simp] theorem collectionEvent_queueFits (h : QueueFits s.phase s.link.queue) :
    QueueFits s.phase (collectionEvent s).link.queue := by
  unfold collectionEvent
  split_ifs <;> simp [h]

@[simp] theorem heartbeatEvent_queue (s : State) : (heartbeatEvent s).link.queue = s.link.queue := by
  unfold heartbeatEvent
  split_ifs <;> simp

@[simp] theorem leadWaitEvent_queueFits (h : QueueFits s.phase s.link.queue) :
    QueueFits (leadWaitEvent s).phase (leadWaitEvent s).link.queue := by
  unfold leadWaitEvent
  split_ifs <;> simp [h]

@[simp] theorem untakenEvent_queueFits (h : QueueFits s.phase s.link.queue) :
    QueueFits (untakenEvent s).phase (untakenEvent s).link.queue := by
  unfold untakenEvent
  split_ifs <;> simp [h]

@[simp] theorem allowanceEvent_queueFits (h : QueueFits s.phase s.link.queue) :
    QueueFits (allowanceEvent s).phase (allowanceEvent s).link.queue := by
  unfold allowanceEvent
  split_ifs <;> simp [h]

@[simp] theorem prereqEvent_queueFits (h : QueueFits s.phase s.link.queue) :
    QueueFits (prereqEvent s).phase (prereqEvent s).link.queue := by
  unfold prereqEvent
  split_ifs <;> simp [h]

@[simp] theorem settleEndEvent_queueFits (h : QueueFits s.phase s.link.queue) :
    QueueFits (settleEndEvent s).phase (settleEndEvent s).link.queue := by
  unfold settleEndEvent
  split_ifs <;> simp [h]

/-! ### The drive port -/

@[simp] theorem faultClearAct_queueFits {q : PerKind (Option Frame)} (h : QueueFits s.phase q) :
    QueueFits (faultClearAct s).phase q := by
  unfold faultClearAct leaveFaulted
  (repeat' split) <;> simp [h]

@[simp] theorem directiveTakeAct_queueFits (h : QueueFits s.phase s.link.queue) :
    QueueFits (directiveTakeAct s).phase (directiveTakeAct s).link.queue := by
  unfold directiveTakeAct takePosted
  dsimp only
  (repeat' split) <;> simp [h]

@[simp] theorem referenceStartAct_queueFits (h : QueueFits s.phase s.link.queue) :
    QueueFits (referenceStartAct s).phase (referenceStartAct s).link.queue := by
  unfold referenceStartAct
  split <;> simp [startSearch, h]

@[simp] theorem referenceAbortAct_queueFits (s : State) :
    QueueFits (referenceAbortAct s).phase (referenceAbortAct s).link.queue := abortSearch_queueFits _ _ _

@[simp] theorem turnConfirmAct_queueFits (ps : List Byte) (h : QueueFits s.phase s.link.queue) :
    QueueFits (turnConfirmAct ps s).phase (turnConfirmAct ps s).link.queue := by
  unfold turnConfirmAct confirmTurn
  dsimp only
  (repeat' split) <;> simp [h]

/-- An accepted GO ends in MUSTER, where every kind is taken, or in DOWN by its entry (R60, R99). -/
@[simp] theorem goAct_queueFits (h : QueueFits s.phase s.link.queue) :
    QueueFits (goAct s).phase (goAct s).link.queue := by
  unfold goAct start
  dsimp only
  (repeat' split) <;> simp [h, enterMuster]

end Phases

/-! ### Every step -/

theorem effectOf_queueFits (c : Instr) {s : State} (h : QueueFits s.phase s.link.queue) :
    QueueFits (effectOf c s).phase (effectOf c s).link.queue := by
  cases c with
  | motorSample now r flag => cases r <;> simp [effectOf, h]
  | scaleSample now r => cases r <;> simp [effectOf, h]
  | statusRead | peerRead | faultRead | faultClear | directiveTake | storeRead | markRequest | referenceStart
  | referenceAbort | turnConfirm | peerForget | setup | go =>
    refine command_keeps (P := fun u => QueueFits u.phase u.link.queue) _ _ _ _ _ _ _ ?_ ?_ <;> simp [h]
  | haltArrival | powerDownArrival | markCallArrival | markReportArrival | claimArrival | releaseArrival
  | statusArrival | helloArrival =>
    refine arrive_keeps (P := fun u => QueueFits u.phase u.link.queue) _ _ _ _ _ h ?_ ?_ ?_ ?_ <;> simp [h]
  | _ => simp [effectOf, h]

theorem afterReMark_queueFits (force : Bool) (s0 : State) {s : State} (h : QueueFits s.phase s.link.queue) :
    QueueFits (afterReMark force s0 s).phase (afterReMark force s0 s).link.queue := by
  have hcalled : QueueFits s.phase (tryCall (tryComplete (tryRelease s))).link.queue :=
    tryCall_queueFits (by simp) (by simpa using h)
  unfold afterReMark
  simp only [statusTest_frame]
  exact statusTest_queueFits force s0 rfl (by simpa using hcalled)

theorem finish_queueFits (force : Bool) (s0 : State) {s : State} (h : QueueFits s.phase s.link.queue) :
    QueueFits (finish force s0 s).phase (finish force s0 s).link.queue := by
  have htested : QueueFits (watchLead (leadLost s)).phase (watchLead (leadLost s)).link.queue :=
    watchLead_queueFits (leadLost_queueFits h)
  have hclaimed : QueueFits (watchLead (leadLost s)).phase
      (tryClaim (tryPrereq (applyCeiling (watchLead (leadLost s))))).link.queue :=
    tryClaim_queueFits (by simp) (by simpa using htested)
  refine afterReMark_queueFits force s0 (s := reMarkTest s0 (tryMuster _)) ?_
  simpa using tryMuster_queueFits (s := tryClaim (tryPrereq (applyCeiling (watchLead (leadLost s))))) (by simpa using hclaimed)

theorem queueFits_of_reset {t : State} (h : t.link = linkReset) : QueueFits t.phase t.link.queue := by
  rw [h]
  exact queueFits_empty _

theorem endReset_queueFits (k : ResetKind) (pins : Pins) (cut : CutResidue) (x : ShiftedOut) (s : State) :
    QueueFits (endReset k pins cut x s).phase (endReset k pins cut x s).link.queue :=
  queueFits_of_reset (by simp [endReset, resetBlocks])

theorem exec_keeps_queueFits {c : Instr} {s t : State} (h : exec c s = .next t) (hs : QueueFits s.phase s.link.queue) :
    QueueFits t.phase t.link.queue := by
  cases hr : isReset c with
  | false =>
    exact exec_keeps (P := fun u => QueueFits u.phase u.link.queue) h hr hs hs (fun u hu => effectOf_queueFits c hu)
      (fun force s0 u hu => finish_queueFits force s0 hu)
  | true =>
    cases c with
    | por pins cut =>
      cases h
      split
      · exact hs
      · exact endReset_queueFits _ _ _ _ _
    | pinReset pins cut => cases h; exact endReset_queueFits _ _ _ _ _
    | rstNLow cut =>
      cases h
      split
      · exact hs
      · exact queueFits_of_reset rfl
    | reset now r pins cut =>
      cases h
      unfold reading
      split_ifs
      · exact hs
      · exact command_keeps (P := fun u => QueueFits u.phase u.link.queue) _ _ _ _ _ _ _ (fun st => by simpa using hs)
          (fun ps _ _ => endReset_queueFits _ _ _ _ _)
    | _ => exact absurd hr Bool.noConfusion

/-- Settles O19: a step on an empty queue of commands changes nothing, and every command keeps the frames fit. -/
theorem queueByPhaseKept : Obligations.QueueByPhaseKept := by
  intro s t hs h
  rw [queueByPhase_iff] at hs ⊢
  unfold step at h
  split at h
  · cases h
    exact hs
  · exact exec_keeps_queueFits h hs

end Sys2Proof.Machine
end

section
/-! PROOFS. O40: the line. A frame that is queued or withdrawn leaves the line as it is, but for the mark of an attempt that its
frame has been replaced (R33), and so does everything that sends, withdraws or neither. -/

namespace Sys2Proof.Machine

/-- The line without the mark of a replaced frame. -/
def lineBase : LineState → LineState
  | .sending a => .sending { a with replaced := false }
  | l => l

theorem lineBase_sending {l : LineState} {a : Attempt} (h : lineBase l = .sending a) :
    ∃ r, l = .sending { a with replaced := r } := by
  cases l with
  | sending b => cases h; exact ⟨b.replaced, rfl⟩
  | _ => cases h

theorem lineBase_plain {l m : LineState} (hm : ∀ a, m ≠ .sending a) (h : lineBase l = m) : l = m := by
  cases l with
  | sending a => exact absurd h.symm (hm _)
  | _ => exact h

@[simp] theorem sendFrame_lineBase (f : Frame) (s : State) : lineBase (sendFrame f s).link.line = lineBase s.link.line := by
  have hreplaced : ∀ k l, lineBase (markReplaced k l) = lineBase l := fun k l => by
    cases l with
    | sending a => dsimp only [markReplaced]; split_ifs <;> rfl
    | _ => rfl
  unfold sendFrame
  split_ifs
  · exact hreplaced _ _
  · rfl

@[simp] theorem withdrawFrame_lineBase (k : FrameKind) (s : State) :
    lineBase (withdrawFrame k s).link.line = lineBase s.link.line := rfl

@[simp] theorem tryClaim_lineBase (s : State) : lineBase (tryClaim s).link.line = lineBase s.link.line := by
  unfold tryClaim
  split_ifs <;> simp

@[simp] theorem releaseClaim_lineBase (s : State) : lineBase (releaseClaim s).link.line = lineBase s.link.line := by
  unfold releaseClaim beginRelease
  cases s.claim.state with
  | held => split_ifs <;> simp
  | _ => simp

@[simp] theorem tryCall_lineBase (s : State) : lineBase (tryCall s).link.line = lineBase s.link.line := by
  unfold tryCall
  split_ifs <;> simp

@[simp] theorem queueReport_lineBase (c : Capture) (g : Grade) (theta : Option Int) (s : State) :
    lineBase (queueReport c g theta s).link.line = lineBase s.link.line := by
  simp [queueReport]

@[simp] theorem markAtFault_lineBase (s : State) : lineBase (markAtFault s).link.line = lineBase s.link.line := by
  unfold markAtFault flushReport
  (repeat' split) <;> simp [dropNeeds]

@[simp] theorem watchLead_lineBase (s : State) : lineBase (watchLead s).link.line = lineBase s.link.line := by
  unfold watchLead failSearch endSearch
  split_ifs <;> simp

@[simp] theorem raiseStop_lineBase (c : StopCause) (a b : Int) (s : State) :
    lineBase (raiseStop c a b s).link.line = lineBase s.link.line := by
  unfold raiseStop stopEffects
  dsimp only
  split <;> simp [endDecision]

@[simp] theorem decideOn_lineBase (c : Capture) (s : State) : lineBase (decideOn c s).link.line = lineBase s.link.line := by
  have hdecided : lineBase (decided c s).link.line = lineBase s.link.line := by
    unfold decided decisionShown reported graded
    dsimp only
    split_ifs <;> simp [endDecision, turnTaken, gradeByVerdict]
  rw [decideOn_eq, raiseIfOutside]
  split_ifs <;> simp [hdecided]

@[simp] theorem leadLost_lineBase (s : State) : lineBase (leadLost s).link.line = lineBase s.link.line := by
  unfold leadLost leadResolved advanceDecision decideHeld
  dsimp only
  (repeat' split) <;> simp

@[simp] theorem statusTest_lineBase (force : Bool) (s0 s : State) :
    lineBase (statusTest force s0 s).link.line = lineBase s.link.line := by
  unfold statusTest queueStatus
  split_ifs <;> simp

@[simp] theorem finish_lineBase (force : Bool) (s0 s : State) :
    lineBase (finish force s0 s).link.line = lineBase s.link.line := by
  simp [finish_eq_closing, closing]

end Sys2Proof.Machine
end

section
/-! PROOFS. O40: the slots at the end of a command (R32, R33, R178). -/

namespace Sys2Proof.Machine

/-- A command that runs, out of RST_N. -/
theorem exec_awake (c : Instr) {s : State} (hr : isReset c = false) (hd : readsOnly c = false)
    (hs : s.levels.rstLow = false) :
    exec c s = .next (finish (forcesStatus c s) (tick (instantOf c) s) (effectOf c (tick (instantOf c) s))) := by
  rw [exec_running c s hr hd]
  simp [running, hs]

/-- Every frame is in its slot still, but for the kinds that the closing tests may queue anew, and no slot with a frame has
been emptied (R33). -/
def SlotsKept (s t : State) : Prop :=
  (∀ k, k ≠ .markCall → k ≠ .claim → k ≠ .status → t.link.queue.get k = s.link.queue.get k)
    ∧ (∀ k f, s.link.queue.get k = some f → ∃ g, t.link.queue.get k = some g)
    ∧ (statusDue s t = false → t.link.queue.status = s.link.queue.status)

theorem SlotsKept.congr {s u t : State} (h : SlotsKept u t) (hq : u.link.queue = s.link.queue)
    (hp : statusParts u = statusParts s) : SlotsKept s t := by
  have hdue : statusDue u t = statusDue s t := by
    rw [Bool.eq_iff_iff, statusDue_iff, statusDue_iff, hp]
  unfold SlotsKept at h ⊢
  rwa [hq, hdue] at h

theorem tryClaim_keeps_frame {s : State} {f : Frame} (h : s.link.queue.claim = some f) :
    ∃ g, (tryClaim s).link.queue.claim = some g := by
  unfold tryClaim sendFrame
  split_ifs
  · exact ⟨_, rfl⟩
  · exact ⟨f, h⟩
  · exact ⟨f, h⟩

theorem statusTest_notDue {s0 s : State} (h : statusDue s0 (statusTest false s0 s) = false) : statusTest false s0 s = s := by
  have hdue : statusDue s0 s = false := by
    rw [Bool.eq_false_iff, ne_eq, statusDue_iff] at h ⊢
    rwa [statusTest_parts] at h
  simp [statusTest, hdue]

/-- The closing tests keep every frame (R33). -/
theorem closing_slotsKept {s0 s : State} :
    (∀ k, k ≠ .markCall → k ≠ .claim → k ≠ .status → (closing false s0 s).link.queue.get k = s.link.queue.get k)
      ∧ (∀ k f, s.link.queue.get k = some f → ∃ g, (closing false s0 s).link.queue.get k = some g)
      ∧ (statusDue s0 (closing false s0 s) = false → (closing false s0 s).link.queue.status = s.link.queue.status) := by
  refine ⟨fun k hm hc hs => closing_slot _ _ _ hm hc hs, fun k f hf => ?_, fun hdue => ?_⟩
  · by_cases hm : k = .markCall
    · subst hm
      rcases closing_markCall false s0 s with h | h
      · exact ⟨f, h.trans hf⟩
      · exact ⟨_, h⟩
    by_cases hs : k = .status
    · subst hs
      rcases closing_status false s0 s with h | h
      · exact ⟨f, h.trans hf⟩
      · exact ⟨_, h⟩
    by_cases hc : k = .claim
    · subst hc
      obtain ⟨g, hg⟩ := tryClaim_keeps_frame (s := tryPrereq s) (f := f) (by simpa [PerKind.get] using hf)
      refine ⟨g, Eq.trans ?_ hg⟩
      simp [closing, PerKind.get]
    · exact ⟨f, (closing_slot _ _ _ hm hc hs).trans hf⟩
  · unfold closing at hdue ⊢
    dsimp only at hdue ⊢
    rw [statusTest_notDue hdue]
    simp

/-- Where the tests of the lead have nothing to do, the closing tests keep every frame. -/
theorem finish_slotsKept {now : Instant} {s u : State} (hu : Undisturbed u) (hq : u.link.queue = s.link.queue) :
    SlotsKept s (finish false (tick now s) u) := by
  have hc : (applyCeiling u).link.queue = (tick now s).link.queue := by simpa using hq
  rw [finish_of_undisturbed hu]
  refine SlotsKept.congr (u := tick now s) ?_ rfl (tick_statusParts now s)
  rw [SlotsKept, ← hc]
  exact closing_slotsKept

/-- What leaves the lead, its report and the lead hold leaves the tests of the lead nothing to do. -/
theorem undisturbed_of_steady {s u : State} (hs : Steady s) (hi : leadInputs u = leadInputs s)
    (hh : u.search.leadHold = s.search.leadHold) : Undisturbed u :=
  (leadSteady_of_inputs hi hs.2 (by simp [hh])).undisturbed

end Sys2Proof.Machine
end

section
/-! PROOFS. O40: the idle line, lost arbitration and discarded frames (R27, R31, R32, R37). -/

namespace Sys2Proof.Machine

/-! ### The idle line -/

theorem lowestPending_lowest {q : PerKind (Option Frame)} {k : FrameKind} {f : Frame} (hk : q.get k = some f)
    (hlow : ∀ j, frameClass j < frameClass k → q.get j = none) : lowestPending q = some f := by
  have hfind : (FrameKind.all.find? fun k => (q.get k).isSome) = some k := by
    have hlower : ∀ j ∈ FrameKind.all.take (frameClass k), frameClass j < frameClass k := by cases k <;> decide
    rw [List.find?_eq_some_iff_append]
    exact ⟨by simp [hk], FrameKind.all.take (frameClass k), FrameKind.all.drop (frameClass k + 1), by cases k <;> rfl,
      fun j hj => by simp [hlow j (hlower j hj)]⟩
  rw [lowestPending, hfind]
  exact hk

section Idle

variable {s : State} (hl : ∀ a, s.link.line ≠ .sending a)

include hl

theorem idleEvent_eq : idleEvent s = beginFrame s := by
  unfold idleEvent
  split
  · next a h => exact absurd h (hl a)
  all_goals rfl

theorem idleEvent_begins {st : Station} {k : FrameKind} {f : Frame} (ho : own s = some st)
    (hk : s.link.queue.get k = some f) (hlow : ∀ j, frameClass j < frameClass k → s.link.queue.get j = none) :
    (idleEvent s).link.line = .sending { frame := f, chars := encodeFrame st f, replaced := false } := by
  rw [idleEvent_eq hl, beginFrame, lowestPending_lowest hk hlow, ho]
  rfl

theorem idleEvent_idle (hq : s.link.queue = PerKind.all none) : (idleEvent s).link.line = .idle := by
  have hnone : lowestPending s.link.queue = none := by rw [hq]; rfl
  rw [idleEvent_eq hl, beginFrame, hnone]
  rfl

end Idle

/-! ### The readback -/

theorem mismatchAt_sending {s : State} {a : Attempt} {n : Nat} {b : LineBit} (kind : Readback)
    (hl : s.link.line = .sending a) (hb : (lineBits a.chars)[n]? = some b) (hk : compareBit n b b.other = kind) :
    mismatchAt kind n s = some a := by
  have hn : n < (lineBits a.chars).length := (List.getElem?_eq_some_iff.mp hb).choose
  have hd : drivenBit n s = b := by simp [drivenBit, hl, hb]
  simp [mismatchAt, hl, hn, hd, hk]

theorem loseArbitration_lost {s : State} {a : Attempt} {n : Nat} (hl : s.link.line = .sending a) (hn : n < 10)
    (hb : (lineBits a.chars)[n]? = some .recessive) : loseArbitration n s = setLine .receiving s := by
  rw [loseArbitration, mismatchAt_sending .arbitrationLost hl hb (by simp [compareBit, LineBit.other, hn])]

/-! ### Discarded frames -/

theorem discardEvent_of_discardOk {r : Received} (h : discardOk r = true) (s : State) : discardEvent r s = discardFrame s := by
  cases r with
  | chars cs =>
    have hnone : receiveFrame cs = none := by
      simp only [discardOk, Bool.and_eq_true, Option.isNone_iff_eq_none] at h
      exact h.1
    simp [discardEvent, hnone]
  | _ => rfl

/-- What a discard leaves, counted or not: the receiver waits for idle, and nothing but the count and the fault is touched. -/
theorem discardFrame_keeps (s : State) :
    (discardFrame s).link.line = .waitingForIdle ∧ (discardFrame s).link.queue = s.link.queue
      ∧ leadInputs (discardFrame s) = leadInputs s ∧ (discardFrame s).search = s.search := by
  unfold discardFrame leadInputs
  split
  · next h => exact ⟨h, rfl, rfl, rfl⟩
  · exact ⟨rfl, rfl, rfl, rfl⟩
  all_goals
    unfold countDiscard
    dsimp only
    split_ifs <;> simp

theorem discardFrame_uncounted {s : State} (h : s.link.line = .waitingForIdle ∨ s.link.line = .abandoned) :
    (discardFrame s).link.rxErrors = s.link.rxErrors := by
  rcases h with h | h <;> simp [discardFrame, h]

theorem discardFrame_counted {s : State} (hw : s.link.line ≠ .waitingForIdle) (ha : s.link.line ≠ .abandoned) :
    discardFrame s = countDiscard s := by
  unfold discardFrame
  split
  · next h => exact absurd h hw
  · next h => exact absurd h ha
  all_goals rfl

theorem countDiscard_rxErrors (s : State) : (countDiscard s).link.rxErrors = min 255 (s.link.rxErrors + 1) := by
  unfold countDiscard
  dsimp only
  split_ifs <;> simp [bump]

/-- The passing from 16 to 17 is noted, and the note stands at the end of the command (R37). -/
theorem finish_countDiscard_noted {force : Bool} {s0 s : State} (hrx : s.link.rxErrors = 16)
    (hf : s.fault.record.locked = false) :
    (finish force s0 (countDiscard s)).fault.record.cause = some (.note .linkRxErrors)
      ∧ (finish force s0 (countDiscard s)).fault.record.a = 17 := by
  have hcount : ∃ u, countDiscard s = note .linkRxErrors 17 0 u ∧ u.fault = s.fault := by
    simp only [countDiscard, hrx, ↓reduceIte]
    exact ⟨_, rfl, rfl⟩
  obtain ⟨u, hcount, hu⟩ := hcount
  have hshown : FaultShown (raise (.note .linkRxErrors) 17 0 (own u) u).fault.record (countDiscard s) :=
    hcount ▸ raise_shown _ _ _ _ _
  obtain ⟨-, -, hrec⟩ := (finish_faultShown force s0 hshown).record
  obtain ⟨hcause, -, ha, -⟩ := hrec (by rw [hu, hf])
  exact ⟨hcause, ha⟩

/-- A discard at the end of its command. -/
theorem frameDiscard_ends (now : Instant) (r : Received) (s : State) (hs : s.levels.rstLow = false)
    (hr : discardOk r = true) :
    ∃ t, exec (.frameDiscard now r) s = .next t ∧ t.link.line = .waitingForIdle
      ∧ t.link.bitErrors = s.link.bitErrors ∧ t.link.txErrors = s.link.txErrors ∧ (Steady s → SlotsKept s t)
      ∧ (s.link.line = .waitingForIdle ∨ s.link.line = .abandoned → t.link.rxErrors = s.link.rxErrors)
      ∧ (s.link.line ≠ .waitingForIdle → s.link.line ≠ .abandoned →
          t.link.rxErrors = min 255 (s.link.rxErrors + 1)
            ∧ (s.link.rxErrors = 16 → s.fault.record.locked = false →
                t.fault.record.cause = some (.note .linkRxErrors) ∧ t.fault.record.a = 17)) := by
  obtain ⟨hline, hqueue, hinputs, hsearch⟩ := discardFrame_keeps (tick now s)
  refine ⟨_, exec_awake _ rfl rfl hs, ?_⟩
  simp only [effectOf, instantOf, forcesStatus, discardEvent_of_discardOk hr]
  refine ⟨lineBase_plain (by simp) (by rw [finish_lineBase, hline]; rfl), by simp, by simp, fun hst => ?_, fun h => ?_,
    fun hw ha => ?_⟩
  · exact finish_slotsKept (undisturbed_of_steady hst hinputs (by rw [hsearch]; rfl)) hqueue
  · simpa using discardFrame_uncounted (s := tick now s) h
  · rw [discardFrame_counted (s := tick now s) hw ha]
    exact ⟨by simpa using countDiscard_rxErrors (tick now s), finish_countDiscard_noted (s := tick now s)⟩

end Sys2Proof.Machine
end

section
/-! PROOFS. O40: bit errors (R34), with the STOP effects of the third of a kind (R178). -/

namespace Sys2Proof.Machine

/-! ### The slots after the STOP effects -/

theorem markAtFault_slot {s : State} {k : FrameKind} (hk : k = .markReport → s.mark.reportAwaiting = false)
    (h : s.link.queue.get k = none) : (markAtFault s).link.queue.get k = none := by
  have hdropped : (dropNeeds (abandonHeld s)).link.queue.get k = none := by
    by_cases hkc : k = .markCall
    · subst hkc
      exact withdrawFrame_self _ _
    · exact (withdrawFrame_other _ _ _ hkc).trans (by simpa using h)
  have hawaiting : (dropNeeds (abandonHeld s)).mark.reportAwaiting = s.mark.reportAwaiting := by
    unfold abandonHeld
    split_ifs <;> rfl
  unfold markAtFault flushReport
  split_ifs with ha
  · have hkr : k ≠ .markReport := fun e => by simp [hk e, hawaiting] at ha
    split
    · exact (sendFrame_other _ _ _ hkr).trans hdropped
    · exact hdropped
  · exact hdropped

end Sys2Proof.Machine
end

section
/-! PROOFS. O40: what the STOP effects, and the closing tests after them, leave of an empty slot (R178). -/

namespace Sys2Proof.Machine

/-- Only a RELEASE of a held claim is queued when a claim is given up (R128). -/
theorem releaseClaim_noFrame {s : State} {k : FrameKind} (hk : k = .release → s.claim.state ≠ .held)
    (h : s.link.queue.get k = none) : (releaseClaim s).link.queue.get k = none := by
  unfold releaseClaim beginRelease
  cases hc : s.claim.state with
  | queued =>
    by_cases hkc : k = .claim
    · subst hkc
      exact withdrawFrame_self _ _
    · exact (withdrawFrame_other _ _ _ hkc).trans h
  | held =>
    have hkr : k ≠ .release := fun e => hk e hc
    have hstop : (if moving s then postStop s else s).link.queue.get k = none := by
      split_ifs <;> simpa using h
    dsimp only
    split_ifs at hstop ⊢
    all_goals first | exact hstop | exact (sendFrame_other _ _ _ hkr).trans hstop
  | _ => exact h

/-- The STOP effects fill no slot but that of HALT, of a RELEASE of a held claim, and of a report that waited for its decision
(R79, R128, R178). -/
theorem stopEffects_noFrame {s : State} {k : FrameKind} (c : StopCause) (a : Int) (hh : k ≠ .halt)
    (hr : k = .release → s.claim.state ≠ .held) (hm : k = .markReport → s.mark.reportAwaiting = false)
    (h : s.link.queue.get k = none) : (stopEffects c a s).link.queue.get k = none := by
  have hreleased : (releaseClaim (endSearchByFault (gradeFall c s))).link.queue.get k = none :=
    releaseClaim_noFrame (by simpa using hr) (by simpa using h)
  have hawaiting : (endSearchByFault (gradeFall c s)).mark.reportAwaiting = s.mark.reportAwaiting := by
    unfold endSearchByFault withdrawCalibration withdrawNeed
    split_ifs <;> simp
  have hmarked : (markAtFault (postStop (releaseClaim (endSearchByFault (gradeFall c s))))).link.queue.get k = none :=
    markAtFault_slot (by simpa [hawaiting] using hm) (by simpa using hreleased)
  exact (sendFrame_other _ _ _ hh).trans (by simpa [endDecision] using hmarked)

theorem stopEffects_halt (c : StopCause) (a : Int) (s : State) :
    (stopEffects c a s).link.queue.halt = some (.halt c) :=
  sendFrame_taken (.halt c) _ (by simp [queueTakes, joinStopSet, setPhase])

theorem stopEffects_needs (c : StopCause) (a : Int) (s : State) : (stopEffects c a s).mark.needs = needsNone := by
  have hdropped : ∀ u : State, (markAtFault u).mark.needs = needsNone := fun u => by
    unfold markAtFault flushReport dropNeeds
    (repeat' split) <;> simp
  simp [stopEffects, endDecision, hdropped]

/-- The STOP effects give up the claim and end the search (R163, R178). -/
theorem stopEffects_claimSettled (c : StopCause) (a : Int) (s : State) : ClaimSettled (stopEffects c a s) := by
  have hclaim : (releaseClaim (endSearchByFault (gradeFall c s))).claim.state = .none
      ∨ (releaseClaim (endSearchByFault (gradeFall c s))).claim.state = .releasing := by
    unfold releaseClaim beginRelease
    (repeat' split) <;> simp_all
  have hstate : (stopEffects c a s).claim.state = (releaseClaim (endSearchByFault (gradeFall c s))).claim.state := by
    simp [stopEffects, endDecision]
  rcases hclaim with h | h
  · exact .inr (.inr (.inr ⟨hstate.trans h, stopEffects_searching c a s⟩))
  · exact .inr (.inl (hstate.trans h))

/-- In FAULTED, with no need registered and no claim to wait for, the closing tests leave every slot but that of STATUS. -/
theorem closing_slot_faulted {force : Bool} {s0 s : State} {k : FrameKind} (hp : s.phase = .faulted)
    (hn : s.mark.needs = needsNone) (hc : ClaimSettled s) (hk : k ≠ .status) :
    (closing force s0 s).link.queue.get k = s.link.queue.get k := by
  by_cases hm : k = .markCall
  · subst hm
    have hmuster : tryMuster (tryClaim (tryPrereq s)) = tryClaim (tryPrereq s) := tryMuster_outside (by simp [hp])
    have hneeds : (tryClaim (tryPrereq s)).mark.needs = needsNone := by simp [hn]
    have hremark : reMarkTest s0 (tryClaim (tryPrereq s)) = tryClaim (tryPrereq s) := by
      simp only [reMarkTest, hneeds, needsNone, wantsReMark]
      simp [hp]
    have hcall : ∀ u : State, u.mark.needs = needsNone → tryCall u = u := fun u hu => by
      simp [tryCall, callWanted, hu, needsNone]
    unfold closing
    dsimp only
    rw [hmuster, hremark, hcall _ (by simpa using hneeds)]
    simp [PerKind.get]
  by_cases hcl : k = .claim
  · subst hcl
    exact closing_claim force s0 hc
  · exact closing_slot force s0 s hm hcl hk

end Sys2Proof.Machine
end

section
/-! PROOFS. O40: bit errors (R34), and the theorem. -/

namespace Sys2Proof.Machine

section BitError

variable {s : State} {a : Attempt} {n : Nat}

theorem bitErrorEvent_mismatch (hl : s.link.line = .sending a)
    (hb : (lineBits a.chars)[n]? = some .dominant ∨ 10 ≤ n ∧ (lineBits a.chars)[n]? = some .recessive) :
    bitErrorEvent n s
      = if 3 ≤ s.link.bitErrors.get (frameKind a.frame) + 1 then
          failKind (frameKind a.frame) (countBitError (frameKind a.frame) s)
        else countBitError (frameKind a.frame) s := by
  have hmis : mismatchAt .bitError n s = some a := by
    rcases hb with hb | ⟨hn, hb⟩
    · exact mismatchAt_sending .bitError hl hb rfl
    · exact mismatchAt_sending .bitError hl hb (by simp [compareBit, LineBit.other]; omega)
  simp [bitErrorEvent, hmis, countBitError]

/-- The third bit error of a kind, before the fault: its slot emptied and its count back at 0 (R34). -/
def kindFailed (k : FrameKind) (s : State) : State :=
  { withdrawFrame k s with
    link := { (withdrawFrame k s).link with bitErrors := s.link.bitErrors.set k 0, txFail := true } }

theorem failKind_eq (k : FrameKind) (s : State) :
    failKind k s = raiseStop .linkTxFail (frameClass k : Int) 3 (kindFailed k s) := rfl

theorem failKind_counts (k : FrameKind) (s : State) :
    (failKind k s).link.bitErrors.get k = 0 ∧ (failKind k s).link.txFail = true := by
  rw [failKind_eq]
  simp [kindFailed]

/-- The third of a kind in a phase of R178: its slot stays empty but for what the STOP effects put there. -/
theorem finish_failKind_stops {force : Bool} {s0 : State} {k : FrameKind} (h : stopsIn s.phase = true)
    (hp : s0.phase = s.phase) :
    (finish force s0 (failKind k s)).phase = .faulted
      ∧ .linkTxFail ∈ (finish force s0 (failKind k s)).fault.stopSet
      ∧ (finish force s0 (failKind k s)).link.queue.halt = some (.halt .linkTxFail)
      ∧ (finish force s0 (failKind k s)).link.queue.status
          = some (.status (statusContent (finish force s0 (failKind k s))))
      ∧ (k ≠ .halt → k ≠ .status → (k = .release → s.claim.state ≠ .held) →
          (k = .markReport → s.mark.reportAwaiting = false) →
          (finish force s0 (failKind k s)).link.queue.get k = none) := by
  have hstops : stopsIn (kindFailed k s).phase = true := h
  obtain ⟨hphase, -, hmem, -⟩ := finish_raiseStop (c := .linkTxFail) (a := (frameClass k : Int)) (b := 3) (s0 := s0)
    (force := force) hstops
  rw [← failKind_eq] at hphase hmem
  have hslot : ∀ j, j ≠ .status → (finish force s0 (failKind k s)).link.queue.get j = (failKind k s).link.queue.get j := by
    intro j hj
    rw [failKind_eq, finish_of_undisturbed (raiseStop_undisturbed hstops), raiseStop_stops hstops]
    refine (closing_slot_faulted ?_ ?_ ?_ hj).trans ?_
    · simp
    · simpa using stopEffects_needs _ _ _
    · simpa [ClaimSettled] using stopEffects_claimSettled .linkTxFail (frameClass k : Int)
        (raise (.stop .linkTxFail) (frameClass k : Int) 3 (own (kindFailed k s)) (kindFailed k s))
    · simp
  refine ⟨hphase, hmem, ?_, ?_, fun hh hst hr hm => ?_⟩
  · refine (hslot .halt (by simp)).trans ?_
    rw [failKind_eq, raiseStop_stops hstops]
    exact stopEffects_halt _ _ _
  · refine finish_due (by simp [hphase]) (by simp [hphase]) ?_
    have hne : s0.phase ≠ .faulted := fun e => by simp [← hp, e, stopsIn] at h
    simp [statusParts, hphase, hne]
  · rw [hslot k hst, failKind_eq, raiseStop_stops hstops]
    exact stopEffects_noFrame _ _ hh (by simpa [kindFailed] using hr) (by simpa [kindFailed] using hm)
      (withdrawFrame_self k s)

/-- LINK_TX_FAIL in CONFIG, FAULTED and DOWN is noted, and the slots stay as they are. -/
theorem failKind_quiet {k : FrameKind} (h : stopsIn s.phase = false) :
    (failKind k s).link.queue = (kindFailed k s).link.queue ∧ leadInputs (failKind k s) = leadInputs s
      ∧ (failKind k s).search.leadHold = s.search.leadHold := by
  have hp : (kindFailed k s).phase = s.phase := rfl
  rw [failKind_eq]
  rcases (stopsIn_false_iff _).mp h with h | h | h
  · rw [raiseStop_idle (.inl (hp.trans h))]
    simp [leadInputs, kindFailed]
  · rw [raiseStop_faulted (hp.trans h)]
    simp [leadInputs, kindFailed, gradeFall, fallOf]
  · rw [raiseStop_idle (.inr (hp.trans h))]
    simp [leadInputs, kindFailed]

theorem countBitError_keeps (k : FrameKind) (s : State) :
    (countBitError k s).link.queue = s.link.queue ∧ leadInputs (countBitError k s) = leadInputs s
      ∧ (countBitError k s).search = s.search ∧ (countBitError k s).phase = s.phase
      ∧ (countBitError k s).link.bitErrors = s.link.bitErrors.set k (s.link.bitErrors.get k + 1)
      ∧ (countBitError k s).link.txErrors = min 255 (s.link.txErrors + 1) := ⟨rfl, rfl, rfl, rfl, rfl, rfl⟩

/-- Each bit error is counted and the attempt abandoned (R34). -/
theorem bitErrorEvent_counted (hl : s.link.line = .sending a)
    (hb : (lineBits a.chars)[n]? = some .dominant ∨ 10 ≤ n ∧ (lineBits a.chars)[n]? = some .recessive) :
    lineBase (bitErrorEvent n s).link.line = .abandoned
      ∧ (bitErrorEvent n s).link.txErrors = min 255 (s.link.txErrors + 1) := by
  rw [bitErrorEvent_mismatch hl hb]
  split_ifs
  · rw [failKind_eq, raiseStop_lineBase]
    exact ⟨rfl, by simp [kindFailed, countBitError, bump]⟩
  · exact ⟨rfl, rfl⟩

end BitError

/-- Settles O40: each event by its own lemmas, with what the closing tests leave of the line and the slots. -/
theorem linkEvents : Obligations.LinkEvents := by
  unfold Obligations.LinkEvents
  intro slotsKept
  refine ⟨fun now s st k f hs hl ho hk hlow => ?_, fun now s hs hl hq => ?_, fun now n s a hst hl hn hb => ?_,
    fun now n s a hs hl hb => ?_, frameDiscard_ends⟩
  · obtain ⟨r, hr⟩ := lineBase_sending (l := (finish false (tick now s) (idleEvent (tick now s))).link.line)
      (a := { frame := f, chars := encodeFrame st f, replaced := false })
      (by rw [finish_lineBase, idleEvent_begins (s := tick now s) hl ho hk hlow]; rfl)
    exact ⟨_, r, exec_awake _ rfl rfl hs, hr⟩
  · refine ⟨_, exec_awake _ rfl rfl hs, lineBase_plain (by simp) ?_⟩
    rw [finish_lineBase]
    exact congrArg lineBase (idleEvent_idle (s := tick now s) hl hq)
  · have heffect : loseArbitration n (tick now s) = setLine .receiving (tick now s) :=
      loseArbitration_lost (s := tick now s) hl hn hb
    refine ⟨_, exec_awake _ rfl rfl hst.1, ?_⟩
    simp only [effectOf, instantOf, forcesStatus, heffect]
    exact ⟨lineBase_plain (by simp) (by rw [finish_lineBase]; rfl), by simp, by simp,
      finish_slotsKept (undisturbed_of_steady hst rfl rfl) rfl⟩
  · have heffect : bitErrorEvent n (tick now s) = if 3 ≤ s.link.bitErrors.get (frameKind a.frame) + 1 then
        failKind (frameKind a.frame) (countBitError (frameKind a.frame) (tick now s))
      else countBitError (frameKind a.frame) (tick now s) := bitErrorEvent_mismatch (s := tick now s) hl hb
    obtain ⟨hline, htx⟩ := bitErrorEvent_counted (s := tick now s) hl hb
    obtain ⟨hq, hi, hse, hph, hbe, -⟩ := countBitError_keeps (frameKind a.frame) (tick now s)
    refine ⟨_, exec_awake _ rfl rfl hs, ?_⟩
    simp only [effectOf, instantOf, forcesStatus]
    refine ⟨lineBase_plain (by simp) (by rw [finish_lineBase, hline]), by simpa using htx, fun hlt => ?_,
      fun hlt hst => ?_, fun h3 => ?_⟩
    · rw [heffect, if_neg (Nat.not_le.mpr hlt)]
      simp [hbe]
    · rw [heffect, if_neg (Nat.not_le.mpr hlt)]
      exact finish_slotsKept (undisturbed_of_steady hst hi (by rw [hse]; rfl)) hq
    · rw [heffect, if_pos h3]
      obtain ⟨hcount, hfail⟩ := failKind_counts (frameKind a.frame) (countBitError (frameKind a.frame) (tick now s))
      refine ⟨by simpa using hcount, by simpa using hfail, fun hstops => ?_, fun hstops hst hm hc hs => ?_⟩
      · exact finish_failKind_stops (s := countBitError (frameKind a.frame) (tick now s)) hstops rfl
      · obtain ⟨hq', hi', hh'⟩ := failKind_quiet (s := countBitError (frameKind a.frame) (tick now s))
          (k := frameKind a.frame) hstops
        rw [finish_of_undisturbed (undisturbed_of_steady hst hi' hh'), closing_slot _ _ _ hm hc hs]
        simp only [applyCeiling_frame, hq']
        exact withdrawFrame_self _ _

end Sys2Proof.Machine
end

section
/-! PROOFS. O45: what the closing tests can note. They raise STOP causes and a few notes; any other cause is in the record after
them only if it was there before. -/

namespace Sys2Proof.Machine

/-- The causes that the tests at the end of a command can raise. -/
def closingCause : FaultCause → Bool
  | .stop _ | .note .angleSaturated | .note .scaleDisagree | .note .slipDetected | .note .referenceFail => true
  | _ => false

@[simp] theorem closingCause_notes :
    closingCause (.note .angleSaturated) = true ∧ closingCause (.note .scaleDisagree) = true
      ∧ closingCause (.note .slipDetected) = true ∧ closingCause (.note .referenceFail) = true := ⟨rfl, rfl, rfl, rfl⟩

/-- The record names another cause, or none. -/
def NotCause (c : FaultCause) (r : FaultRecord) : Prop := r.cause ≠ some c

section Family

variable {s : State} {c : FaultCause}

theorem raise_notCause {x : FaultCause} (a b : Int) (st : Option Station) (hx : x ≠ c) (h : NotCause c s.fault.record) :
    NotCause c (raise x a b st s).fault.record := by
  cases hl : s.fault.record.locked with
  | true => rw [NotCause, raise_locked _ _ _ _ _ hl]; exact h
  | false => rw [NotCause, raise_unlocked _ _ _ _ _ hl]; simpa using hx

variable (hc : closingCause c = false)

include hc

theorem raiseClosing_notCause {x : FaultCause} (a b : Int) (st : Option Station) (hx : closingCause x = true)
    (h : NotCause c s.fault.record) : NotCause c (raise x a b st s).fault.record :=
  raise_notCause a b st (fun e => by simp [← e, hx] at hc) h

@[simp] theorem note_notCause {n : NoteCause} (a b : Int) (hn : closingCause (.note n) = true)
    (h : NotCause c s.fault.record) : NotCause c (note n a b s).fault.record :=
  raiseClosing_notCause hc a b _ hn h

@[simp] theorem recomputeTheta_notCause (h : NotCause c s.fault.record) : NotCause c (recomputeTheta s).fault.record := by
  unfold recomputeTheta
  dsimp only
  (repeat' split) <;> simp [hc, h]

@[simp] theorem setLambda_notCause (v : Int) (h : NotCause c s.fault.record) : NotCause c (setLambda v s).fault.record :=
  recomputeTheta_notCause hc h

@[simp] theorem setGradeBasis_notCause (g : Grade) (b : Basis) (h : NotCause c s.fault.record) :
    NotCause c (setGradeBasis g b s).fault.record := by
  have hbasis : NotCause c (setBasis b s).fault.record := by
    unfold setBasis
    split_ifs <;> simp [hc, h]
  unfold setGradeBasis
  dsimp only
  split_ifs <;> simp [hbasis]

@[simp] theorem setGrade_notCause (g : Grade) (b : Basis) (h : NotCause c s.fault.record) :
    NotCause c (setGrade g b s).fault.record := setGradeBasis_notCause hc _ _ h

@[simp] theorem gradeFall_notCause (x : StopCause) (h : NotCause c s.fault.record) :
    NotCause c (gradeFall x s).fault.record := by
  unfold gradeFall
  split <;> simp [hc, h]

@[simp] theorem applyCeiling_notCause (h : NotCause c s.fault.record) : NotCause c (applyCeiling s).fault.record := by
  unfold applyCeiling
  dsimp only
  split_ifs <;> simp [hc, h]

@[simp] theorem endLeadHold_notCause (h : NotCause c s.fault.record) : NotCause c (endLeadHold s).fault.record := by
  unfold endLeadHold
  dsimp only
  (repeat' split) <;> simp [hc, h]

@[simp] theorem watchLead_notCause (h : NotCause c s.fault.record) : NotCause c (watchLead s).fault.record := by
  unfold watchLead failSearch endSearch
  split_ifs <;> simp [hc, h]

@[simp] theorem raiseStop_notCause (x : StopCause) (a b : Int) (h : NotCause c s.fault.record) :
    NotCause c (raiseStop x a b s).fault.record := by
  have hraised : NotCause c (raise (.stop x) a b (own s) s).fault.record := raiseClosing_notCause hc a b _ rfl h
  have hfault : ∀ u : State, NotCause c u.fault.record → NotCause c (endSearchByFault u).fault.record := fun u hu => by
    unfold endSearchByFault
    split_ifs <;> simp [hc, hu]
  unfold raiseStop
  dsimp only
  split
  · exact hraised
  · exact hraised
  · exact gradeFall_notCause hc x (by simpa using hraised)
  all_goals simpa [stopEffects] using hfault _ (gradeFall_notCause hc x hraised)

@[simp] theorem decideOn_notCause (x : Capture) (h : NotCause c s.fault.record) : NotCause c (decideOn x s).fault.record := by
  have hlead : NotCause c (takeLeadAngle s).fault.record := by
    unfold takeLeadAngle
    (repeat' split) <;> simp [hc, h]
  have hnoted : NotCause c (raiseVerdictNotes x (verdictOn x s) (takeLeadAngle s)).fault.record := by
    unfold raiseVerdictNotes
    dsimp only
    (repeat' split) <;> simp [hc, hlead]
  have hturned : NotCause c (turnTaken x s).fault.record := by
    unfold turnTaken fixTurn setRecoveryAnchor applyOffset
    dsimp only
    (repeat' split) <;> simp [hc, hnoted]
  have hgraded : NotCause c (graded x s).fault.record := by
    have hbasis : NotCause c (setBasis (basisOf (verdictOn x s)) (turnTaken x s)).fault.record := by
      unfold setBasis
      split_ifs <;> simp [hc, hturned]
    simpa [graded, gradeByVerdict] using setGrade_notCause hc _ _ hbasis
  have hdecided : NotCause c (decided x s).fault.record := by
    unfold decided decisionShown reported
    dsimp only
    (repeat' split) <;> simpa using hgraded
  rw [decideOn_eq, raiseIfOutside]
  split_ifs <;> simp [hc, hdecided]

@[simp] theorem leadLost_notCause (h : NotCause c s.fault.record) : NotCause c (leadLost s).fault.record := by
  unfold leadLost leadResolved advanceDecision decideHeld
  dsimp only
  (repeat' split) <;> simp [hc, h]

theorem finish_notCause (force : Bool) (s0 : State) (h : NotCause c s.fault.record) :
    NotCause c (finish force s0 s).fault.record := by
  rw [finish_eq_closing]
  simpa using applyCeiling_notCause hc (watchLead_notCause hc (leadLost_notCause hc h))

end Family

/-! ### The muster timer -/

/-- A muster timer that is stopped stays so through the tests at the end: they start none (R60, R62). -/
@[simp] theorem setPhase_musterStopped (p : Phase) {s : State} (h : s.peers.musterTimer = .stopped) :
    (setPhase p s).peers.musterTimer = .stopped := by
  simp [setPhase, h]

@[simp] theorem raiseStop_musterStopped (x : StopCause) (a b : Int) {s : State} (h : s.peers.musterTimer = .stopped) :
    (raiseStop x a b s).peers.musterTimer = .stopped := by
  unfold raiseStop stopEffects
  dsimp only
  split <;> simp [h]

@[simp] theorem decideOn_musterStopped (x : Capture) {s : State} (h : s.peers.musterTimer = .stopped) :
    (decideOn x s).peers.musterTimer = .stopped := by
  have hdecided : (decided x s).peers.musterTimer = .stopped := by
    unfold decided decisionShown reported graded
    dsimp only
    (repeat' split) <;> simp [turnTaken, gradeByVerdict, h]
  rw [decideOn_eq, raiseIfOutside]
  split_ifs <;> simp [hdecided]

theorem finish_musterStopped (force : Bool) (s0 : State) {s : State} (h : s.peers.musterTimer = .stopped) :
    (finish force s0 s).peers.musterTimer = .stopped := by
  have hlost : (leadLost s).peers.musterTimer = .stopped := by
    unfold leadLost leadResolved advanceDecision decideHeld
    dsimp only
    (repeat' split) <;> simp [h]
  have hwatched : (watchLead (leadLost s)).peers.musterTimer = .stopped := by
    unfold watchLead failSearch endSearch
    split_ifs <;> simp [hlost]
  have hmuster : ∀ u : State, u.peers.musterTimer = .stopped → (tryMuster u).peers.musterTimer = .stopped := fun u hu => by
    unfold tryMuster enterRecovery
    dsimp only
    split_ifs <;> simp [hu, startQuiet]
  rw [finish_eq_closing, closing]
  simpa using hmuster (tryClaim (tryPrereq (applyCeiling (watchLead (leadLost s))))) (by simpa using hwatched)

end Sys2Proof.Machine
end

section
/-! PROOFS. O45: a test made of each station in turn, and the heartbeat expiry at the Peer Table (R51, R53). -/

namespace Sys2Proof.Machine

/-! ### The stations in turn -/

/-- The stations in order, split at one of them. -/
theorem stations_split (k : Station) :
    ∃ before after, Station.all = before ++ k :: after ∧ k ∉ before ∧ k ∉ after
      ∧ ∀ j ∈ before, stationNumber j < stationNumber k := by
  refine ⟨Station.all.take (stationNumber k - 1), Station.all.drop (stationNumber k), ?_, ?_, ?_, ?_⟩ <;>
    cases k <;> decide

/-- A step made for each station in turn changes the entry of its station alone, and leaves a view of the rest. -/
structure InTurn {α : Type} (view : State → α) (f : State → Station → State) : Prop where
  view_kept : ∀ s j, view (f s j) = view s
  other : ∀ s {j k}, k ≠ j → entry (f s j) k = entry s k

namespace InTurn

variable {α : Type} {view : State → α} {f : State → Station → State}

theorem foldl_view (h : InTurn view f) (l : List Station) (s : State) : view (l.foldl f s) = view s := by
  induction l generalizing s with
  | nil => rfl
  | cons j l ih => rw [List.foldl_cons, ih, h.view_kept]

theorem foldl_entry (h : InTurn view f) (l : List Station) (s : State) {k : Station} (hk : k ∉ l) :
    entry (l.foldl f s) k = entry s k := by
  induction l generalizing s with
  | nil => rfl
  | cons j l ih =>
    obtain ⟨hj, hl⟩ := not_or.mp (mt List.mem_cons.mpr hk)
    rw [List.foldl_cons, ih _ hl, h.other _ hj]

/-- An entry after all six steps is what its own step makes of it. -/
theorem entry_eq (h : InTurn view f) (s : State) (k : Station) :
    ∃ u, entry (Station.all.foldl f s) k = entry (f u k) k ∧ entry u k = entry s k ∧ view u = view s := by
  obtain ⟨before, after, hall, hb, ha, -⟩ := stations_split k
  refine ⟨before.foldl f s, ?_, h.foldl_entry before s hb, h.foldl_view before s⟩
  rw [hall, List.foldl_append, List.foldl_cons, h.foldl_entry after _ ha]

end InTurn

/-- Such a step raises a fault only for a station of `p`, and what stands in the fault record stays. -/
structure RaisesInTurn {α : Type} (view : State → α) (p : State → Station → Prop) (f : State → Station → State) : Prop
    extends InTurn view f where
  reads : ∀ {s t k}, view t = view s → entry t k = entry s k → (p t k ↔ p s k)
  quiet : ∀ {s k}, ¬ p s k → (f s k).fault = s.fault
  shown : ∀ {r s} k, FaultShown r s → FaultShown r (f s k)

namespace RaisesInTurn

variable {α : Type} {view : State → α} {p : State → Station → Prop} {f : State → Station → State}

theorem foldl_quiet (h : RaisesInTurn view p f) (l : List Station) (s : State) (hn : l.Nodup) (hl : ∀ k ∈ l, ¬ p s k) :
    (l.foldl f s).fault = s.fault := by
  induction l generalizing s with
  | nil => rfl
  | cons j l ih =>
    obtain ⟨hj, hn⟩ := List.nodup_cons.mp hn
    have hrest : ∀ k ∈ l, ¬ p (f s j) k := fun k hk => by
      rw [h.reads (h.view_kept s j) (h.other s fun e => hj (e ▸ hk))]
      exact hl k (List.mem_cons_of_mem j hk)
    rw [List.foldl_cons, ih _ hn hrest, h.quiet (hl j List.mem_cons_self)]

theorem foldl_shown (h : RaisesInTurn view p f) (l : List Station) {r : FaultRecord} {s : State} (hs : FaultShown r s) :
    FaultShown r (l.foldl f s) := by
  induction l generalizing s with
  | nil => exact hs
  | cons j l ih => exact ih (h.shown j hs)

/-- What the step of a station of `p` leaves in the fault record stands after all six steps; and the steps before that of
the least of these stations leave the record. -/
theorem first (h : RaisesInTurn view p f) {s : State} {k : Station} (hk : p s k) :
    ∃ u, p u k ∧ entry u k = entry s k ∧ view u = view s
      ∧ (∀ r, FaultShown r (f u k) → FaultShown r (Station.all.foldl f s))
      ∧ ((∀ j, p s j → stationNumber k ≤ stationNumber j) → u.fault = s.fault) := by
  obtain ⟨before, after, hall, hb, -, hless⟩ := stations_split k
  have hnodup : before.Nodup := by
    have hn : Station.all.Nodup := by decide
    rw [hall] at hn
    exact hn.of_append_left
  have hentry := h.foldl_entry before s hb
  have hview := h.foldl_view before s
  refine ⟨before.foldl f s, (h.reads hview hentry).mpr hk, hentry, hview, fun r hr => ?_, fun hfirst => ?_⟩
  · rw [hall, List.foldl_append, List.foldl_cons]
    exact h.foldl_shown after hr
  · exact h.foldl_quiet before s hnodup fun j hj hs => absurd (hless j hj) (Nat.not_lt.mpr (hfirst j hs))

end RaisesInTurn

/-! ### The entries -/

/-- An entry after the heartbeat expiry: the own one with its heard flag cleared, a peer's with its silence counted (R51). -/
def entrySilenced (s : State) (k : Station) : PeerEntry :=
  if isOwn s k then { entry s k with heard := false } else silenceStep (entry s k)

@[simp] theorem raiseClaimStale_entry (k : Station) (p : Option Purpose) (s : State) (j : Station) :
    entry (raiseClaimStale k p s) j = entry s j := entry_congr (by simp) j

theorem silenceAt_entry_self (s : State) (k : Station) : entry (silenceAt s k) k = entrySilenced s k := by
  have hadded : ∀ u : State, entry (addChangedPeer k u) k = entry u k := fun _ => rfl
  unfold silenceAt entrySilenced
  dsimp only
  split_ifs <;> simp [hadded]

theorem silenceAt_entry_ne (s : State) {j k : Station} (h : k ≠ j) : entry (silenceAt s j) k = entry s k := by
  have hadded : ∀ u : State, entry (addChangedPeer j u) k = entry u k := fun _ => rfl
  unfold silenceAt
  dsimp only
  split_ifs <;> simp [hadded, entry_setEntry_ne _ _ _ _ h]

theorem silenceAt_inTurn : InTurn own silenceAt := ⟨fun s j => by simp [own], silenceAt_entry_ne⟩

theorem countSilence_entry (s : State) (k : Station) : entry (countSilence s) k = entrySilenced s k := by
  obtain ⟨u, hu, he, ho⟩ := silenceAt_inTurn.entry_eq s k
  rw [countSilence, hu, silenceAt_entry_self, entrySilenced, entrySilenced, isOwn, isOwn, he, ho]

/-! ### CLAIM_STALE -/

/-- The entry of a station becomes SILENT at this expiry with its claim flag set (R53). -/
def GoesStale (s : State) (k : Station) : Prop :=
  own s ≠ some k ∧ (entry s k).heard = false ∧ ((entry s k).presence = .alive ∨ (entry s k).presence = .stale)
    ∧ 8 ≤ (entry s k).silence + 1 ∧ (entry s k).claim = true

theorem isOwn_iff (s : State) (k : Station) : isOwn s k = true ↔ own s = some k := by simp [isOwn]

/-- The three tests of `silenceAt` for CLAIM_STALE are those of R53. -/
theorem silenceStep_goesSilent (e : PeerEntry) :
    (silenceStep e).presence = .silent ∧ e.presence ≠ .silent
      ↔ e.heard = false ∧ (e.presence = .alive ∨ e.presence = .stale) ∧ 8 ≤ e.silence + 1 := by
  unfold silenceStep
  dsimp only
  split_ifs with h h8 h3
  · simp only [true_and, h8, and_true]
    exact ⟨fun _ => h, fun _ => by rcases h.2 with h | h <;> simp [h]⟩
  all_goals
    constructor
    · rintro ⟨h1, h2⟩
      first | exact absurd h1 h2 | exact absurd h1 (by simp)
    · rintro ⟨h1, h2, h4⟩
      first | exact absurd h4 h8 | exact absurd ⟨h1, h2⟩ h

theorem GoesStale.congr {s t : State} {k : Station} (ho : own t = own s) (he : entry t k = entry s k) :
    GoesStale t k ↔ GoesStale s k := by
  unfold GoesStale
  rw [ho, he]

/-- One station's expiry: CLAIM_STALE when it goes stale, and otherwise the record stands. -/
theorem silenceAt_fault (s : State) (k : Station) :
    (GoesStale s k → ∃ u, u.fault = s.fault ∧ silenceAt s k = raiseClaimStale k (entry s k).purpose u)
      ∧ (¬ GoesStale s k → (silenceAt s k).fault = s.fault
        ∧ (silenceAt s k).port.attention.fault = s.port.attention.fault) := by
  have hsilent := silenceStep_goesSilent (entry s k)
  cases ho : isOwn s k with
  | true =>
    have hs : silenceAt s k = setEntry k { entry s k with heard := false } s := by simp [silenceAt, ho]
    exact ⟨fun h => absurd ((isOwn_iff s k).mp ho) h.1, fun _ => by rw [hs]; exact ⟨rfl, rfl⟩⟩
  | false =>
    have hown : own s ≠ some k := fun e => by simp [(isOwn_iff s k).mpr e] at ho
    have hstale : GoesStale s k ↔ (silenceStep (entry s k)).presence = .silent ∧ (entry s k).presence ≠ .silent
        ∧ (entry s k).claim = true := by
      unfold GoesStale
      tauto
    unfold silenceAt
    simp only [ho, Bool.false_eq_true, ↓reduceIte]
    rw [hstale]
    refine ⟨fun h => ?_, fun h => ?_⟩
    · rw [if_pos h]
      refine ⟨_, ?_, rfl⟩
      split_ifs <;> rfl
    · rw [if_neg h]
      split_ifs <;> exact ⟨rfl, rfl⟩

theorem raiseClaimStale_shown (k : Station) (p : Option Purpose) {r : FaultRecord} {s : State} (h : FaultShown r s) :
    FaultShown r (raiseClaimStale k p s) := by
  cases p <;> exact noteOf_faultShown _ _ _ _ h

theorem silenceAt_raises : RaisesInTurn own GoesStale silenceAt where
  toInTurn := silenceAt_inTurn
  reads := GoesStale.congr
  quiet h := ((silenceAt_fault _ _).2 h).1
  shown k h := by
    unfold silenceAt
    dsimp only
    split_ifs
    all_goals first | exact h | exact raiseClaimStale_shown _ _ h

/-- A station that goes stale leaves its CLAIM_STALE, or an earlier fault, in the record; the first one that does leaves its
own in an unlocked record, with its purpose and 8 (R53, log 48). -/
theorem countSilence_stale {s : State} {k : Station} (h : GoesStale s k) :
    (∃ r, FaultShown r (countSilence s))
      ∧ ∀ p, (∀ j, GoesStale s j → stationNumber k ≤ stationNumber j) → (entry s k).purpose = some p →
          ∃ u : State, u.fault = s.fault
            ∧ FaultShown (raise (.note .claimStale) (purposeCode p : Int) 8 (some k) u).fault.record (countSilence s) := by
  obtain ⟨u, hstale, hentry, -, hshown, hquiet⟩ := silenceAt_raises.first h
  obtain ⟨v, hv, hraise⟩ := (silenceAt_fault u k).1 hstale
  rw [hraise, hentry] at hshown
  unfold countSilence
  constructor
  · have hraised : ∃ r, FaultShown r (raiseClaimStale k (entry s k).purpose v) := by
      cases (entry s k).purpose <;> exact ⟨_, raise_shown _ _ _ _ _⟩
    exact hraised.imp hshown
  · intro p hfirst hp
    rw [hp] at hshown
    exact ⟨v, hv.trans (hquiet hfirst), hshown _ (raise_shown _ _ _ _ _)⟩

end Sys2Proof.Machine
end

section
/-! PROOFS. O45: the muster condition, the muster timer, and the theorem. -/

namespace Sys2Proof.Machine

/-! ### Masks -/

theorem maskHas_maskOf (p : Station → Bool) (k : Station) : maskHas (maskOf p) k = p k := by
  cases k <;> simp only [maskOf, Station.all, List.foldl] <;>
    generalize p .j1 = b1 <;> generalize p .j2 = b2 <;> generalize p .j3 = b3 <;>
    generalize p .j4 = b4 <;> generalize p .j5 = b5 <;> generalize p .j6 = b6 <;>
    revert b1 b2 b3 b4 b5 b6 <;> decide

theorem mask_eq_zero_iff (m : StationMask) : m = 0#6 ↔ ∀ k, maskHas m k = false := by
  have hall : ∀ m : StationMask, (∀ k ∈ Station.all, maskHas m k = false) → m = 0#6 := by decide
  refine ⟨fun h k => ?_, fun h => hall m fun k _ => h k⟩
  subst h
  cases k <;> rfl

/-- The muster is complete exactly when every peer entry is ALIVE, matches the own digest and was heard in MUSTER (R61). -/
theorem musterMissing_eq_zero (s : State) : musterMissing s = 0#6 ↔
    ∀ k, own s ≠ some k →
      (entry s k).presence = .alive ∧ (entry s k).digestMatch = true ∧ (entry s k).heardInMuster = true := by
  rw [mask_eq_zero_iff]
  refine forall_congr' fun k => ?_
  rw [musterMissing, maskHas_maskOf]
  cases ho : isOwn s k with
  | true => simp [(isOwn_iff s k).mp ho]
  | false =>
    have hown : own s ≠ some k := fun e => by simp [(isOwn_iff s k).mpr e] at ho
    simp [musterFails, hown, and_assoc]

theorem maskCount_le (m : StationMask) : maskCount m ≤ 6 := List.length_filter_le _ Station.all

theorem faultValue_small {n : Nat} (h : n ≤ 255) : faultValue (n : Int) = n :=
  faultValue_of_inRange (countInRange_iff.mpr ⟨by unfold countMin; omega, by unfold countMax; omega⟩)

/-! ### The two timers -/

section Expiry

variable {now : Instant} {s : State}

/-- The station with its heartbeat timer restarted. -/
def beatRestarted (now : Instant) (s : State) : State :=
  { tick now s with link := { s.link with heartbeat := .running now.ms (setupOf s).plan.h } }

/-- The station between the tick and the closing tests of a heartbeat expiry. -/
def beatCounted (now : Instant) (s : State) : State := countSilence (beatRestarted now s)

theorem exec_heartbeatExpiry (hs : s.levels.rstLow = false) (hr : timerRunning s.link.heartbeat = true) :
    exec (.heartbeatExpiry now) s = .next (finish true (tick now s) (beatCounted now s)) := by
  have heffect : heartbeatEvent (tick now s) = beatCounted now s := by
    rw [heartbeatEvent, if_pos (show timerRunning (tick now s).link.heartbeat = true from hr)]
    rfl
  rw [exec_awake _ rfl rfl hs]
  simp only [effectOf, instantOf, forcesStatus, hr, heffect]

theorem beatEnded_entry (k : Station) :
    entry (finish true (tick now s) (beatCounted now s)) k
      = if own s ≠ some k ∧ (entry s k).heard = false
          ∧ ((entry s k).presence = .alive ∨ (entry s k).presence = .stale) then
        { entry s k with
          silence := (entry s k).silence + 1
          presence :=
            if 8 ≤ (entry s k).silence + 1 then .silent
            else if 3 ≤ (entry s k).silence + 1 then .stale
            else (entry s k).presence }
      else { entry s k with heard := false } := by
  have hkept : entry (finish true (tick now s) (beatCounted now s)) k = entry (beatCounted now s) k :=
    entry_congr (by simp) k
  rw [hkept, beatCounted, countSilence_entry]
  change (if isOwn s k = true then { entry s k with heard := false } else silenceStep (entry s k)) = _
  cases ho : isOwn s k with
  | true => simp [(isOwn_iff s k).mp ho]
  | false =>
    have hown : own s ≠ some k := fun e => by simp [(isOwn_iff s k).mpr e] at ho
    unfold silenceStep
    by_cases h : (entry s k).heard = false ∧ ((entry s k).presence = .alive ∨ (entry s k).presence = .stale)
    · simp [h, hown]
    · simp [h]

theorem goesStale_beat (k : Station) :
    GoesStale (beatRestarted now s) k ↔ GoesStale s k :=
  GoesStale.congr rfl rfl

theorem beatCounted_stale {k : Station} (h : GoesStale s k) :
    (∃ r, FaultShown r (beatCounted now s))
      ∧ ∀ p, (∀ j, GoesStale s j → stationNumber k ≤ stationNumber j) → (entry s k).purpose = some p →
          ∃ u : State, u.fault = s.fault
            ∧ FaultShown (raise (.note .claimStale) (purposeCode p : Int) 8 (some k) u).fault.record
                (beatCounted now s) := by
  unfold beatCounted
  obtain ⟨hshown, hfirst⟩ := countSilence_stale ((goesStale_beat (now := now) k).mpr h)
  refine ⟨hshown, fun p hleast hp => ?_⟩
  have hentry : entry (beatRestarted now s) k = entry s k := rfl
  rw [hentry] at hfirst
  obtain ⟨u, hu, hu'⟩ := hfirst p (fun j hj => hleast j ((goesStale_beat j).mp hj)) hp
  have hfault : (beatRestarted now s).fault = s.fault := rfl
  exact ⟨u, hu.trans hfault, hu'⟩

theorem purposeValue (p : Purpose) : faultValue (purposeCode p : Int) = (purposeCode p : Int) :=
  faultValue_small (by cases p <;> decide)

/-- CLAIM_STALE at the end of a heartbeat expiry (R53). -/
theorem beatEnded_stale {k : Station} (h : GoesStale s k) :
    (finish true (tick now s) (beatCounted now s)).port.attention.fault = true
      ∧ ∀ p, (∀ j, GoesStale s j → stationNumber k ≤ stationNumber j) → (entry s k).purpose = some p →
          s.fault.record.locked = false →
            (finish true (tick now s) (beatCounted now s)).fault.record.cause = some (.note .claimStale)
              ∧ (finish true (tick now s) (beatCounted now s)).fault.record.station = some k
              ∧ (finish true (tick now s) (beatCounted now s)).fault.record.a = (purposeCode p : Int)
              ∧ (finish true (tick now s) (beatCounted now s)).fault.record.b = 8 := by
  obtain ⟨⟨r, hr⟩, hfirst⟩ := beatCounted_stale (now := now) h
  refine ⟨(finish_faultShown true (tick now s) hr).1, fun p hleast hp hl => ?_⟩
  obtain ⟨u, hu, hshown⟩ := hfirst p hleast hp
  have hfree : u.fault.record.locked = false := by rw [hu]; exact hl
  obtain ⟨-, -, hrec⟩ := (finish_faultShown true (tick now s) hshown).record
  have h8 : faultValue 8 = 8 := faultValue_small (n := 8) (by decide)
  rw [purposeValue, h8] at hrec
  exact hrec hfree

theorem beatEnded_notStale (h : ∀ k, ¬ GoesStale s k) (hc : s.fault.record.cause ≠ some (.note .claimStale)) :
    (finish true (tick now s) (beatCounted now s)).fault.record.cause ≠ some (.note .claimStale) := by
  have hquiet : (beatCounted now s).fault = s.fault := by
    unfold beatCounted countSilence
    rw [silenceAt_raises.foldl_quiet Station.all _ (by decide) fun k _ => fun hk => h k ((goesStale_beat k).mp hk)]
    rfl
  exact finish_notCause (c := .note .claimStale) rfl true _ (by rw [hquiet]; exact hc)

/-- The muster timer's expiry at the end of its command (R62). -/
theorem musterTimerExpiry_ends (hs : s.levels.rstLow = false) (hr : timerRunning s.peers.musterTimer = true) :
    ∃ t, exec (.musterTimerExpiry now) s = .next t ∧ t.peers.musterTimer = .stopped
      ∧ t.port.attention.fault = true
      ∧ (s.fault.record.locked = false →
          t.fault.record.cause = some (.note .musterIncomplete)
            ∧ t.fault.record.a = ((Station.all.filter fun k => maskHas (musterMissing s) k).length : Int)
            ∧ t.fault.record.b = ((musterMissing s).toNat : Int)) := by
  have heffect : ∃ u, u.fault = s.fault ∧ u.peers.musterTimer = .stopped
      ∧ musterTimerEvent (tick now s)
        = note .musterIncomplete (maskCount (musterMissing s) : Int) ((musterMissing s).toNat : Int) u := by
    rw [musterTimerEvent, if_pos (show timerRunning (tick now s).peers.musterTimer = true from hr)]
    exact ⟨{ tick now s with peers := { s.peers with musterTimer := .stopped } }, rfl, rfl, rfl⟩
  obtain ⟨u, hfault, htimer, hnote⟩ := heffect
  refine ⟨_, exec_awake _ rfl rfl hs, ?_⟩
  simp only [effectOf, instantOf, forcesStatus, hnote]
  have hshown : FaultShown _ (note .musterIncomplete (maskCount (musterMissing s) : Int) ((musterMissing s).toNat : Int) u) :=
    raise_shown (.note .musterIncomplete) (maskCount (musterMissing s) : Int) ((musterMissing s).toNat : Int) (own u) u
  obtain ⟨hatt, -, hrec⟩ := (finish_faultShown false (tick now s) hshown).record
  refine ⟨finish_musterStopped _ _ (by simpa using htimer), hatt, fun hl => ?_⟩
  obtain ⟨hcause, -, ha, hb⟩ := hrec (by rw [hfault, hl])
  have hcount := maskCount_le (musterMissing s)
  have hmask := (musterMissing s).isLt
  exact ⟨hcause, ha.trans (faultValue_small (by omega)), hb.trans (faultValue_small (by omega))⟩

end Expiry

/-- Settles O45: the entries by `countSilence_entry`, CLAIM_STALE by the first station that goes stale, the muster by
`finish_musters`. -/
theorem heartbeatAndMuster : Obligations.HeartbeatAndMuster := by
  refine ⟨fun now s k hs hr => ⟨_, exec_heartbeatExpiry hs hr, ?_, finish_forced, beatEnded_entry k, fun hp hg hse => ?_⟩,
    fun now s hs hr => ⟨_, exec_heartbeatExpiry hs hr, fun k h => ⟨?_, ?_⟩, fun k p h hleast hp hl => ?_,
      beatEnded_notStale⟩,
    musterMissing_eq_zero, fun now s => musterTimerExpiry_ends⟩
  · simp [beatCounted, beatRestarted]
  · have hm : Mustering (beatCounted now s) := ⟨by simpa [beatCounted, beatRestarted] using hp,
      by simpa [beatCounted, beatRestarted] using hg,
      by simpa [beatCounted, beatRestarted] using hse⟩
    obtain ⟨hdone, hopen⟩ := finish_musters true (tick now s) hm
    exact ⟨fun h => ⟨(hdone h).1, (hdone h).2.1⟩, hopen⟩
  · obtain ⟨hown, hheard, hpres, h8, -⟩ := h
    rw [beatEnded_entry, if_pos ⟨hown, hheard, hpres⟩]
    simp [h8]
  · exact (beatEnded_stale h).1
  · exact (beatEnded_stale h).2 p hleast hp hl

end Sys2Proof.Machine
end

section
/-! PROOFS. O60: the digests that GO compares (R59, R60). -/

namespace Sys2Proof.Machine

/-- One station's digest compared at GO, but for the own station (R59). -/
def compareAtGo (s : State) (k : Station) : State := if isOwn s k then s else mismatchTest k s

theorem mismatchesAtGo_eq (s : State) : mismatchesAtGo s = Station.all.foldl compareAtGo s := rfl

/-- A peer shows a digest that differs from the own one, and has not been reported for it (R59). -/
def Differs (s : State) (k : Station) : Prop :=
  own s ≠ some k ∧ mismatches s.peers.digest (entry s k) = true ∧ (entry s k).mismatchReported = false

/-- What the comparison reads beside the entry of its station. -/
def comparedWith (s : State) : Option Station × Option (BitVec 16) := (own s, s.peers.digest)

theorem Differs.congr {s t : State} {k : Station} (hv : comparedWith t = comparedWith s) (he : entry t k = entry s k) :
    Differs t k ↔ Differs s k := by
  obtain ⟨ho, hd⟩ := Prod.mk.inj hv
  unfold Differs
  rw [ho, hd, he]

/-- The comparison of a peer that differs raises PLAN_MISMATCH with both digests. -/
theorem compareAtGo_differs {s : State} {k : Station} {d o : BitVec 16} (h : Differs s k)
    (hd : (entry s k).digest = some d) (ho : s.peers.digest = some o) :
    compareAtGo s k
      = setEntry k { entry s k with mismatchReported := true }
          (noteOf k .planMismatch (d.toNat : Int) (o.toNat : Int) s) := by
  obtain ⟨hown, hm, hr⟩ := h
  obtain ⟨d', o', hd', ho', hne⟩ := (mismatches_iff _ _).mp hm
  rw [hd] at hd'
  rw [ho] at ho'
  cases hd'
  cases ho'
  rw [compareAtGo, if_neg (mt (isOwn_iff s k).mp hown)]
  simp only [mismatchTest, hd, ho, hr, ne_eq, hne, not_false_eq_true, and_self, ↓reduceIte]

/-- The comparison of any other station changes nothing. -/
theorem compareAtGo_same {s : State} {k : Station} (h : ¬ Differs s k) : compareAtGo s k = s := by
  unfold compareAtGo
  split_ifs with hown
  · rfl
  · have hown : own s ≠ some k := mt (isOwn_iff s k).mpr hown
    unfold mismatchTest
    split
    · next d o hd ho =>
      refine if_neg fun hn => h ⟨hown, (mismatches_iff _ _).mpr ⟨d, o, hd, ho, hn.1⟩, hn.2⟩
    · rfl

theorem compareAtGo_inTurn : InTurn comparedWith compareAtGo where
  view_kept s j := by
    unfold compareAtGo
    split_ifs
    · rfl
    · simp [comparedWith, own]
  other s {j k} h := by
    by_cases hd : Differs s j
    · obtain ⟨d, o, hd', ho, -⟩ := (mismatches_iff _ _).mp hd.2.1
      rw [compareAtGo_differs hd hd' ho, entry_setEntry_ne _ _ _ _ h]
      exact entry_congr (by simp) k
    · rw [compareAtGo_same hd]

theorem compareAtGo_raises : RaisesInTurn comparedWith Differs compareAtGo where
  toInTurn := compareAtGo_inTurn
  reads := Differs.congr
  quiet h := by rw [compareAtGo_same h]
  shown k h := by
    unfold compareAtGo
    split_ifs
    · exact h
    · exact mismatchTest_faultShown k h

/-- An entry after the comparison: its mismatch is marked as reported when it differs, and the rest stands (R59). -/
theorem mismatchesAtGo_entry (s : State) (k : Station) :
    ∃ b, entry (mismatchesAtGo s) k = { entry s k with mismatchReported := b } ∧ (Differs s k → b = true) := by
  obtain ⟨u, hu, he, hv⟩ := compareAtGo_inTurn.entry_eq s k
  rw [mismatchesAtGo_eq, hu]
  by_cases h : Differs u k
  · obtain ⟨d, o, hd, ho, -⟩ := (mismatches_iff _ _).mp h.2.1
    refine ⟨true, ?_, fun _ => rfl⟩
    rw [compareAtGo_differs h hd ho, entry_setEntry_self, he]
  · refine ⟨(entry s k).mismatchReported, ?_, fun hs => absurd ((Differs.congr hv he).mpr hs) h⟩
    rw [compareAtGo_same h, he]

/-- A peer that differs leaves its PLAN_MISMATCH, or an earlier fault, in the record; the first one that does leaves its own
in an unlocked record, with both digests (R59, log 48). -/
theorem mismatchesAtGo_first {s : State} {k : Station} {d o : BitVec 16} (h : Differs s k)
    (hd : (entry s k).digest = some d) (ho : s.peers.digest = some o) :
    ∃ u : State, FaultShown (raise (.note .planMismatch) (d.toNat : Int) (o.toNat : Int) (some k) u).fault.record
        (mismatchesAtGo s)
      ∧ ((∀ j, Differs s j → stationNumber k ≤ stationNumber j) → u.fault = s.fault) := by
  rw [mismatchesAtGo_eq]
  obtain ⟨u, hdiff, hentry, hview, hshown, hquiet⟩ := compareAtGo_raises.first h
  obtain ⟨-, hdigest⟩ := Prod.mk.inj hview
  rw [compareAtGo_differs hdiff (hentry ▸ hd) (hdigest.trans ho)] at hshown
  exact ⟨u, hshown _ (raise_shown _ _ _ _ _), hquiet⟩

end Sys2Proof.Machine
end

section
/-! PROOFS. O60: the entry to MUSTER, and to DOWN, to the end of the command (R60, R99). -/

namespace Sys2Proof.Machine

/-! ### The entry to MUSTER -/

/-- The station in MUSTER before the digests are compared (R60). -/
def musterBegun (s : State) : State :=
  let s1 : State :=
    { s with
      peers :=
        { entries := s.peers.entries.map (entryAtGo s (planDigest (setupOf s).plan))
          musterTimer := startTimer (8 * (setupOf s).plan.h) s
          digest := some (planDigest (setupOf s).plan) }
      link := { s.link with heartbeat := startTimer (setupOf s).plan.h s } }
  setPhase .muster (match own s with
    | none => s1
    | some k => addChangedPeer k s1)

theorem enterMuster_eq (s : State) :
    enterMuster s
      = sendFrame (.hello { digest := planDigest (setupOf s).plan, interval := byte (setupOf s).plan.h })
          (mismatchesAtGo (musterBegun s)) := rfl

theorem get_map {α β : Type} (f : Station → α → β) (t : PerStation α) (k : Station) :
    (t.map f).get k = f k (t.get k) := by
  cases k <;> rfl

theorem musterBegun_entry (s : State) (k : Station) :
    entry (musterBegun s) k = entryAtGo s (planDigest (setupOf s).plan) k (entry s k) := by
  unfold musterBegun entry
  cases own s <;> exact get_map _ _ k

theorem musterBegun_kept {s : State} (h : s.phase = .config) :
    own (musterBegun s) = own s ∧ (musterBegun s).fault = s.fault ∧ (musterBegun s).phase = .muster
      ∧ (musterBegun s).peers.digest = some (planDigest (setupOf s).plan)
      ∧ (musterBegun s).peers.musterTimer = .running s.ms (8 * (setupOf s).plan.h)
      ∧ (musterBegun s).link.heartbeat = .running s.ms (setupOf s).plan.h := by
  unfold musterBegun
  split <;> simp [setPhase, h, own, startTimer, addChangedPeer]

theorem enterMuster_kept {s : State} (h : s.phase = .config) :
    (enterMuster s).phase = .muster ∧ (enterMuster s).peers.digest = some (planDigest (setupOf s).plan)
      ∧ (enterMuster s).peers.musterTimer = .running s.ms (8 * (setupOf s).plan.h)
      ∧ (enterMuster s).link.heartbeat = .running s.ms (setupOf s).plan.h
      ∧ (enterMuster s).link.queue.hello
        = some (.hello { digest := planDigest (setupOf s).plan, interval := byte (setupOf s).plan.h }) := by
  obtain ⟨-, -, hphase, hdigest, htimer, hbeat⟩ := musterBegun_kept h
  rw [enterMuster_eq, sendFrame, if_pos (by simp [hphase, queueTakes, frameKind])]
  simp [hphase, hdigest, htimer, hbeat, frameKind, PerKind.set]

/-- The entries at the entry to MUSTER: the own one as R60 gives it, a peer's with its digest compared, every heard flag
cleared. -/
theorem enterMuster_entry (s : State) (k : Station) :
    ∃ b, entry (enterMuster s) k = { entryAtGo s (planDigest (setupOf s).plan) k (entry s k) with mismatchReported := b }
      ∧ (Differs (musterBegun s) k → b = true) := by
  obtain ⟨b, hb, hd⟩ := mismatchesAtGo_entry (musterBegun s) k
  refine ⟨b, ?_, hd⟩
  rw [enterMuster_eq, entry_congr (by simp : _ = (mismatchesAtGo (musterBegun s)).peers.entries), hb, musterBegun_entry]

theorem entryAtGo_flags (s : State) (d : BitVec 16) (k : Station) (e : PeerEntry) :
    (entryAtGo s d k e).heard = false ∧ (entryAtGo s d k e).heardInMuster = false
      ∧ (entryAtGo s d k e).mismatchReported = e.mismatchReported := by
  unfold entryAtGo
  dsimp only
  split_ifs <;> exact ⟨rfl, rfl, rfl⟩

theorem enterMuster_shown {r : FaultRecord} {s : State} (h : FaultShown r (mismatchesAtGo (musterBegun s))) :
    FaultShown r (enterMuster s) := by
  have hsent : ∀ (f : Frame) (u : State), FaultShown r u → FaultShown r (sendFrame f u) := fun f u hu => by
    simpa [FaultShown] using hu
  rw [enterMuster_eq]
  exact hsent _ _ h

/-! ### The end of the command in MUSTER -/

/-- MUSTER stands with its timer and the HELLO, no search runs, and M is in its range. -/
structure MusterStands (timer : Timer) (hello : Option Frame) (s : State) : Prop where
  phase : s.phase = .muster
  timer : s.peers.musterTimer = timer
  hello : s.link.queue.hello = hello
  search : s.search.sub = .none
  range : countInRange s.reck.count = true

section Stands

variable {timer : Timer} {hello : Option Frame} {s : State}

/-- A decision without the lead's report fixes no turn (R110), so it leaves M, and MUSTER stands. -/
theorem verdictOn_missing {c : Capture} (hc : coupled s = true) (hr : s.gradeUnit.leadReport = .missing) :
    (verdictOn c s).n = none := by
  have hcourse : courseOf s ≠ .resolution := by
    unfold courseOf
    rw [hc, hr]
    cases s.reck.calibrated <;> simp
  unfold verdictOn judge verdictOf
  cases hcs : courseOf s with
  | noCalibration => dsimp only; split_ifs <;> rfl
  | noLead => dsimp only; split_ifs <;> rfl
  | resolution => exact absurd hcs hcourse

theorem decideOn_stands (c : Capture) (h : MusterStands timer hello s) (hc : coupled s = true)
    (hr : s.gradeUnit.leadReport = .missing) : (decideOn c s).phase = .muster
      ∧ (decideOn c s).peers.musterTimer = timer ∧ (decideOn c s).link.queue.hello = hello
      ∧ (decideOn c s).search.sub = .none := by
  have hsum : countInRange (sumDecided c s) = true := by
    rw [sumDecided, verdictOn_missing hc hr]
    simpa using h.range
  have hsub := decideOn_no_search (c := c) h.search
  have hphase : (decided c s).phase = .muster := by rw [decided_phase, h.phase]; simp
  rw [decideOn_inRange hsum] at hsub ⊢
  refine ⟨hphase, ?_, ?_, hsub⟩
  · rw [← h.timer]
    unfold decided decisionShown reported graded
    dsimp only
    (repeat' split) <;> simp_all [turnTaken, gradeByVerdict, endDecision, h.phase]
  · rw [← h.hello]
    unfold decided decisionShown reported graded queueReport sendFrame
    dsimp only
    (repeat' split) <;> simp [turnTaken, gradeByVerdict, endDecision, frameKind, PerKind.set]

theorem leadLost_stands (h : MusterStands timer hello s) : (leadLost s).phase = .muster
      ∧ (leadLost s).peers.musterTimer = timer ∧ (leadLost s).link.queue.hello = hello
      ∧ (leadLost s).search.sub = .none := by
  have hself : s.phase = .muster ∧ s.peers.musterTimer = timer ∧ s.link.queue.hello = hello ∧ s.search.sub = .none :=
    ⟨h.phase, h.timer, h.hello, h.search⟩
  unfold leadLost
  split
  · exact hself
  · next k hk =>
    have hc : coupled s = true := by simp [coupled, hk]
    unfold leadResolved advanceDecision decideHeld
    dsimp only
    split_ifs
    · exact hself
    · exact hself
    · split
      · exact hself
      · exact decideOn_stands _ ⟨h.phase, h.timer, h.hello, h.search, h.range⟩ hc rfl
    · exact hself
    · exact hself

/-- MUSTER stands at the end of a command while a peer is missing. -/
theorem finish_stands (force : Bool) (s0 : State) (h : MusterStands timer hello s) (hm : musterMissing s ≠ 0#6) :
    (finish force s0 s).phase = .muster ∧ (finish force s0 s).peers.musterTimer = timer
      ∧ (finish force s0 s).link.queue.hello = hello := by
  obtain ⟨hphase, htimer, hhello, hsub⟩ := leadLost_stands h
  have hw : watchLead (leadLost s) = leadLost s := by simp [watchLead, searching, hsub]
  have hmissing : musterMissing (tryClaim (tryPrereq (applyCeiling (leadLost s)))) = musterMissing s := by
    unfold musterMissing isOwn own entry
    simp
  have hmuster : tryMuster (tryClaim (tryPrereq (applyCeiling (leadLost s))))
      = tryClaim (tryPrereq (applyCeiling (leadLost s))) := if_neg fun hn => hm (hmissing ▸ hn.2)
  rw [finish_eq_closing, hw, closing, hmuster]
  simp [hphase, htimer, hhello]

end Stands

/-- While every heard-in-MUSTER flag is clear, a peer is missing (R61). -/
theorem musterMissing_of_unheard {s : State} (h : ∀ k, (entry s k).heardInMuster = false) : musterMissing s ≠ 0#6 := by
  intro hm
  obtain ⟨j, hj⟩ : ∃ j, own s ≠ some j := by
    by_cases h1 : own s = some .j1
    · exact ⟨.j2, by simp [h1]⟩
    · exact ⟨.j1, h1⟩
  obtain ⟨-, -, hheard⟩ := (musterMissing_eq_zero s).mp hm j hj
  simp [h j] at hheard

/-! ### The entry to DOWN -/

theorem enterDown_settled (s : State) :
    (enterDown s).phase = .down ∧ (enterDown s).search.sub = .none ∧ leadWaiting (enterDown s) = false := by
  unfold enterDown endSearchByPower
  dsimp only
  split_ifs with hs
  · simp [leadWaiting, timerRunning, endDecision, clearSearch]
  · have hsub : s.search.sub = .none := by simpa [searching] using hs
    simp [leadWaiting, timerRunning, endDecision, hsub]

/-- The tests at the end of a command leave the station DOWN. -/
theorem finish_enterDown (force : Bool) (s0 s : State) : (finish force s0 (enterDown s)).phase = .down := by
  obtain ⟨hphase, hsub, hwait⟩ := enterDown_settled s
  have hu : Undisturbed (enterDown s) := undisturbed_of_no_search (leadHeard_of_not_waiting hwait) hsub
  exact (finish_undisturbed_frame hu (by simp [hphase])).1.trans hphase

end Sys2Proof.Machine
end

section
/-! PROOFS. O60: GO, its tests and its start (R56 to R60, R99, R191). -/

namespace Sys2Proof.Machine

/-! ### The tests of GO -/

theorem travelBad_iff (su : Setup) : travelBad su = true ↔
    su.travelHigh ≤ su.travelLow
      ∨ su.scaleWraps = false ∧ 16777216 ≤ su.travelHigh - su.travelLow
      ∨ su.homeAngle < su.travelLow ∨ su.travelHigh < su.homeAngle
      ∨ ∃ a, su.parkAngle = some a ∧ (a < su.travelLow ∨ su.travelHigh < a) := by
  unfold travelBad turn
  cases su.parkAngle <;> simp [or_assoc]

section Tests

variable {s : State}

theorem goRefusal_strap (h : own s = none) : goRefusal s = some .strap := by simp [goRefusal, h]

theorem goRefusal_cycle (h : own s ≠ none) (hc : planCycle (normalise (setupOf s).plan) = true) :
    goRefusal s = some .planCycle := by simp [goRefusal, h, hc]

theorem goRefusal_travel (h : own s ≠ none) (hc : planCycle (normalise (setupOf s).plan) = false)
    (ht : travelBad (setupOf s) = true) : goRefusal s = some .travel := by simp [goRefusal, h, hc, ht]

theorem goRefusal_zone (h : own s ≠ none) (hc : planCycle (normalise (setupOf s).plan) = false)
    (ht : travelBad (setupOf s) = false) :
    (goRefusal s = some .zone ↔
        ∃ z ∈ [(setupOf s).zone1, (setupOf s).zone2, (setupOf s).zone3, (setupOf s).zone4],
          zoneEnabled z = true ∧ (z.low < (setupOf s).travelLow ∨ (setupOf s).travelHigh + 1 < z.high))
      ∧ (goRefusal s = some .zone ∨ goRefusal s = none) := by
  have hnone : (own s).isNone = false := Option.isNone_eq_false_iff.mpr (Option.isSome_iff_ne_none.mpr h)
  have hbad : (zoneBad (setupOf s) (setupOf s).zone1 || zoneBad (setupOf s) (setupOf s).zone2
        || zoneBad (setupOf s) (setupOf s).zone3 || zoneBad (setupOf s) (setupOf s).zone4) = true
      ↔ ∃ z ∈ [(setupOf s).zone1, (setupOf s).zone2, (setupOf s).zone3, (setupOf s).zone4],
          zoneEnabled z = true ∧ (z.low < (setupOf s).travelLow ∨ (setupOf s).travelHigh + 1 < z.high) := by
    simp [zoneBad, or_assoc]
  rw [← hbad]
  simp only [goRefusal, hnone, hc, ht, Bool.false_eq_true, ↓reduceIte]
  split_ifs with hz <;> simp [hz]

end Tests

/-! ### The digest -/

theorem bytes16_ofNat (n : Nat) : bytes16 (BitVec.ofNat 16 n) = [byte (n / 256), byte n] := by
  have hhigh : (BitVec.ofNat 16 n).extractLsb' 8 8 = BitVec.ofNat 8 (n / 256) := by
    apply BitVec.eq_of_toNat_eq
    simp [Nat.shiftRight_eq_div_pow]
    omega
  have hlow : (BitVec.ofNat 16 n).extractLsb' 0 8 = BitVec.ofNat 8 n := by
    apply BitVec.eq_of_toNat_eq
    simp
  rw [bytes16, hhigh, hlow]
  rfl

/-- The 22 characters of Table 3-2. -/
theorem planDigest_chars (p : Plan) {leads : Station → Byte}
    (h : ∀ j, leads j = byte (((p.lead.get j).map stationNumber).getD 0)) :
    crc16 ([byte p.h, byte p.holdoff, byte (p.markTimeout / 256), byte p.markTimeout]
        ++ (Station.all.map leads)
        ++ (Station.all.map fun j => byte (p.prereq.get j).toNat)
        ++ (Station.all.map fun j => byte (p.conflict.get j).toNat))
      = planDigest p := by
  obtain rfl : leads = _ := funext h
  rw [planDigest, planChars, bytes16_ofNat]
  rfl

/-! ### The start -/

/-- The station that has answered an accepted GO, its setup not yet frozen (R191). -/
def goAnswered (now : Instant) (s : State) : State :=
  answer 17 (if tauOf (setupOf s) < ((setupOf s).scaleTol : Int) then .clamped else .ok) .none
    (.go (tauOf (setupOf s)) (spanOf (setupOf s)) (planDigest (normalise (setupOf s).plan)))
    (openTransaction (tick now s))

/-- The station with its setup frozen, as it enters MUSTER (R189). -/
def goFrozen (now : Instant) (s : State) : State := freezeSetup (goAnswered now s)

/-- The station at the end of an accepted GO. -/
def goEnded (now : Instant) (s : State) : State := finish false (tick now s) (start (goAnswered now s))

section Go

variable {now : Instant} {rest : List Byte} {s : State}

theorem exec_go (hr : s.levels.rstLow = false) (h : parameters 17 rest = some []) (hc : s.phase = .config) :
    exec (.go now rest) s = .next (finish false (tick now s) (goAct (openTransaction (tick now s)))) := by
  change Host.Outcome.next (running now s _ _) = _
  rw [running_out hr, command_accepted h rfl rfl (by simpa [configOnly] using hc)]

theorem goRefusal_open : goRefusal (openTransaction (tick now s)) = goRefusal s := rfl

theorem goAct_refused {r : Reason} (h : goRefusal s = some r) :
    goAct (openTransaction (tick now s)) = refuse 17 r (openTransaction (tick now s)) := by
  simp only [goAct, goRefusal_open, h]

theorem goAct_accepted (h : goRefusal s = none) :
    goAct (openTransaction (tick now s)) = start (goAnswered now s) := by
  simp only [goAct, goRefusal_open, h]
  rfl

/-- A refused GO leaves CONFIG and the setup (R191). -/
theorem go_refused {r : Reason} (hs : Steady s) (hsub : s.search.sub = .none) (hp : parameters 17 rest = some [])
    (hc : s.phase = .config) (h : goRefusal s = some r) :
    ∃ t, exec (.go now rest) s = .next t ∧ t.phase = .config ∧ t.port.setup = s.port.setup
      ∧ t.port.frozen = s.port.frozen
      ∧ t.port.slot = { status := .refused, echo := 17#8, reason := r, data := .none } := by
  obtain ⟨hrst, hheard, -⟩ := hs
  have hu : Undisturbed (refuse 17 r (openTransaction (tick now s))) :=
    undisturbed_of_no_search (leadHeard_of_inputs rfl hheard) (by simpa using hsub)
  refine ⟨_, (exec_go hrst hp hc).trans (by rw [goAct_refused h]), ?_, by simp, by simp, by simp [refuse, answer, byte]⟩
  rw [(finish_undisturbed_frame hu (by simp [hc])).1]
  simpa using hc

theorem start_goAnswered : start (goAnswered now s)
    = if (s.levels.pfail && now.pfail) = true then enterDown (enterMuster (goFrozen now s))
      else enterMuster (goFrozen now s) := rfl

/-- What the start keeps of the entry to MUSTER. -/
theorem goEnded_kept : (goEnded now s).peers.entries = (enterMuster (goFrozen now s)).peers.entries
    ∧ (goEnded now s).peers.digest = (enterMuster (goFrozen now s)).peers.digest
    ∧ (goEnded now s).link.heartbeat = (enterMuster (goFrozen now s)).link.heartbeat
    ∧ (goEnded now s).port.setup = { setupOf s with plan := normalise (setupOf s).plan }
    ∧ (goEnded now s).port.frozen = true ∧ (goEnded now s).port.tau = some (tauOf (setupOf s))
    ∧ (goEnded now s).port.span = some (spanOf (setupOf s))
    ∧ (goEnded now s).port.slot = (goAnswered now s).port.slot := by
  have hport : (goFrozen now s).port.setup = { setupOf s with plan := normalise (setupOf s).plan }
      ∧ (goFrozen now s).port.frozen = true ∧ (goFrozen now s).port.tau = some (tauOf (setupOf s))
      ∧ (goFrozen now s).port.span = some (spanOf (setupOf s))
      ∧ (goFrozen now s).port.slot = (goAnswered now s).port.slot := ⟨rfl, rfl, rfl, rfl, rfl⟩
  rw [goEnded, start_goAnswered]
  split_ifs <;> simp [hport]

theorem goEnded_entry (j : Station) :
    ∃ b, entry (goEnded now s) j
        = { entryAtGo (goFrozen now s) (planDigest (normalise (setupOf s).plan)) j (entry s j) with mismatchReported := b }
      ∧ (Differs (musterBegun (goFrozen now s)) j → b = true) := by
  rw [entry_congr goEnded_kept.1 j]
  exact enterMuster_entry (goFrozen now s) j

theorem goEnded_shown {r : FaultRecord} (h : FaultShown r (enterMuster (goFrozen now s))) :
    FaultShown r (goEnded now s) := by
  refine finish_faultShown false (tick now s) ?_
  rw [start_goAnswered]
  split_ifs
  · exact enterDown_faultShown h
  · exact h

/-! ### The peers that differ -/

theorem entryAtGo_own (u : State) (d : BitVec 16) {k : Station} (e : PeerEntry) (h : own u = some k) :
    entryAtGo u d k e = ownEntryAtGo d { e with heard := false, heardInMuster := false } := by
  rw [entryAtGo, if_pos ((isOwn_iff u k).mpr h)]

theorem entryAtGo_peer (u : State) (d : BitVec 16) {k : Station} (e : PeerEntry) (h : own u ≠ some k) :
    entryAtGo u d k e = matchDigest (some d) { e with heard := false, heardInMuster := false } := by
  rw [entryAtGo, if_neg (mt (isOwn_iff u k).mp h)]

theorem goBegun_kept (hc : s.phase = .config) :
    own (musterBegun (goFrozen now s)) = own s ∧ (musterBegun (goFrozen now s)).fault = s.fault
      ∧ (musterBegun (goFrozen now s)).peers.digest = some (planDigest (normalise (setupOf s).plan)) := by
  obtain ⟨hown, hfault, -, hdigest, -⟩ := musterBegun_kept (s := goFrozen now s) hc
  exact ⟨hown.trans rfl, hfault.trans rfl, hdigest.trans rfl⟩

theorem goBegun_peer {j : Station} (hj : own s ≠ some j) :
    entry (musterBegun (goFrozen now s)) j
      = matchDigest (some (planDigest (normalise (setupOf s).plan)))
          { entry s j with heard := false, heardInMuster := false } := by
  have hown : own (goFrozen now s) ≠ some j := hj
  exact (musterBegun_entry _ j).trans (entryAtGo_peer _ _ _ hown)

/-- A peer differs at GO when its entry shows another digest than that of the normalised plan, not yet reported (R59). -/
theorem differs_goFrozen (hc : s.phase = .config) (j : Station) :
    Differs (musterBegun (goFrozen now s)) j ↔
      own s ≠ some j ∧ (∃ d, (entry s j).digest = some d ∧ d ≠ planDigest (normalise (setupOf s).plan))
        ∧ (entry s j).mismatchReported = false := by
  obtain ⟨hown, -, hdigest⟩ := goBegun_kept (now := now) hc
  unfold Differs
  rw [hown, hdigest]
  refine and_congr_right fun hj => ?_
  rw [goBegun_peer hj, mismatches_iff]
  simp [matchDigest]

/-- A peer that differs leaves PLAN_MISMATCH, or an earlier fault, in the record; the first one its own in an unlocked record
(R59, log 48). -/
theorem goEnded_differs (hc : s.phase = .config) {j : Station} {d : BitVec 16}
    (h : Differs (musterBegun (goFrozen now s)) j) (hd : (entry s j).digest = some d) :
    (goEnded now s).port.attention.fault = true ∧ (entry (goEnded now s) j).mismatchReported = true
      ∧ ((∀ i, Differs (musterBegun (goFrozen now s)) i → stationNumber j ≤ stationNumber i) →
          s.fault.record.locked = false →
            (goEnded now s).fault.record.cause = some (.note .planMismatch)
              ∧ (goEnded now s).fault.record.station = some j
              ∧ (goEnded now s).fault.record.a = (d.toNat : Int)
              ∧ (goEnded now s).fault.record.b = ((planDigest (normalise (setupOf s).plan)).toNat : Int)) := by
  obtain ⟨hown, hfault, hdigest⟩ := goBegun_kept (now := now) hc
  have hj : own s ≠ some j := hown ▸ h.1
  have hshows : (entry (musterBegun (goFrozen now s)) j).digest = some d := by rw [goBegun_peer hj]; exact hd
  obtain ⟨u, hshown, hfirst⟩ := mismatchesAtGo_first h hshows hdigest
  have hended := goEnded_shown (enterMuster_shown hshown)
  obtain ⟨b, hb, hreported⟩ := goEnded_entry (now := now) (s := s) j
  obtain ⟨hatt, -, hrec⟩ := hended.record
  rw [faultValue_seq, faultValue_seq] at hrec
  refine ⟨hatt, by rw [hb]; exact hreported h, fun hleast hfree => hrec ?_⟩
  rw [hfirst hleast, hfault]
  exact hfree

/-- A peer's digest is judged against that of the normalised plan (R59). -/
theorem goEnded_match {j : Station} (hj : own s ≠ some j) :
    (entry (goEnded now s) j).digestMatch = true
      ↔ (entry s j).digest = some (planDigest (normalise (setupOf s).plan)) := by
  have hown : own (goFrozen now s) ≠ some j := hj
  obtain ⟨b, hb, -⟩ := goEnded_entry (now := now) (s := s) j
  rw [hb, entryAtGo_peer _ _ _ hown]
  simp +contextual [matchDigest]

/-! ### The phase, the timer and the frames -/

theorem goEnded_unheard (j : Station) :
    (entry (goEnded now s) j).heard = false ∧ (entry (goEnded now s) j).heardInMuster = false := by
  obtain ⟨b, hb, -⟩ := goEnded_entry (now := now) (s := s) j
  obtain ⟨h1, h2, -⟩ := entryAtGo_flags (goFrozen now s) (planDigest (normalise (setupOf s).plan)) j (entry s j)
  rw [hb]
  exact ⟨h1, h2⟩

/-- With PFAIL asserted GO ends DOWN (R99). -/
theorem goEnded_down (h : s.levels.pfail = true) (hn : now.pfail = true) : (goEnded now s).phase = .down := by
  rw [goEnded, start_goAnswered, if_pos (by simp [h, hn])]
  exact finish_enterDown _ _ _

/-- Otherwise it ends in MUSTER, with the HELLO and a STATUS queued (R42, R60). -/
theorem goEnded_muster (hb : CountsBounded s) (hsub : s.search.sub = .none) (hc : s.phase = .config)
    (h : s.levels.pfail = false ∨ now.pfail = false) :
    (goEnded now s).phase = .muster
      ∧ (goEnded now s).peers.musterTimer = .running now.ms (8 * (setupOf s).plan.h)
      ∧ (goEnded now s).link.queue.hello
        = some (.hello { digest := planDigest (normalise (setupOf s).plan), interval := byte (setupOf s).plan.h })
      ∧ (goEnded now s).link.queue.status = some (.status (statusContent (goEnded now s))) := by
  obtain ⟨-, hcount, -⟩ := hb
  obtain ⟨hphase, -, htimer, -, hhello⟩ := enterMuster_kept (s := goFrozen now s) hc
  have hstart : start (goAnswered now s) = enterMuster (goFrozen now s) := by
    rw [start_goAnswered, if_neg (by rcases h with h | h <;> simp [h])]
  have hsearch : (enterMuster (goFrozen now s)).search = (goFrozen now s).search := by simp
  have hreck : (enterMuster (goFrozen now s)).reck = (goFrozen now s).reck := by simp
  have hstands := MusterStands.mk hphase htimer hhello (by rw [hsearch]; exact hsub)
    (by rw [hreck]; exact countInRange_iff.mpr hcount)
  have hmissing : musterMissing (enterMuster (goFrozen now s)) ≠ 0#6 := by
    refine musterMissing_of_unheard fun j => ?_
    rw [← entry_congr goEnded_kept.1 j]
    exact (goEnded_unheard j).2
  have hended : goEnded now s = finish false (tick now s) (enterMuster (goFrozen now s)) := by rw [goEnded, hstart]
  obtain ⟨h1, h2, h3⟩ := finish_stands false (tick now s) hstands hmissing
  rw [← hended] at h1 h2 h3
  refine ⟨h1, h2, h3, ?_⟩
  have hdue : statusParts (tick now s) ≠ statusParts (goEnded now s) := fun he => by
    have hp : s.phase = (goEnded now s).phase := congrArg Prod.fst he
    rw [hc, h1] at hp
    exact Phase.noConfusion hp
  exact finish_due (by rw [← goEnded, h1]; exact Phase.noConfusion) (by rw [← goEnded, h1]; exact Phase.noConfusion) hdue

end Go

/-- Settles O60: the tests in their order, and the station followed through the start to the end of the command. -/
theorem goStarts : Obligations.GoStarts := by
  intro now rest s hsteady hbounded hsub hp hc
  refine ⟨fun r h => go_refused hsteady hsub hp hc h, goRefusal_strap, goRefusal_cycle, goRefusal_travel,
    goRefusal_zone, travelBad_iff, fun k hk hnone => ?_⟩
  intro su span tau plan stations digest
  have hdigest : digest = planDigest plan :=
    planDigest_chars plan (fun j => by cases plan.lead.get j <;> rfl)
  rw [hdigest]
  have hruns : exec (.go now rest) s = .next (goEnded now s) :=
    (exec_go hsteady.1 hp hc).trans (by rw [goAct_accepted hnone, goEnded])
  obtain ⟨-, hpeers, hbeat, hsetup, hfrozen, htau, hspan, hslot⟩ := goEnded_kept (now := now) (s := s)
  obtain ⟨-, hown, -, hheart, -⟩ := enterMuster_kept (s := goFrozen now s) hc
  have hk' : own (goFrozen now s) = some k := hk
  obtain ⟨b, hself, -⟩ := goEnded_entry (now := now) (s := s) k
  rw [entryAtGo_own _ _ _ hk'] at hself
  refine ⟨goEnded now s, hruns, hsetup, hfrozen, htau, hspan, hpeers.trans hown, hslot, ?_, ?_, ?_, ?_, ?_, fun j hj => ?_,
    fun j d hd => ?_, goEnded_unheard, hbeat.trans hheart, goEnded_down, goEnded_muster hbounded hsub hc⟩
  any_goals rw [hself]; rfl
  · exact goEnded_match (fun e => hj (Option.some.inj (e.symm.trans hk)))
  · have hdiff : ∀ i, Differs (musterBegun (goFrozen now s)) i ↔
        ∃ e, i ≠ k ∧ (entry s i).digest = some e ∧ e ≠ planDigest plan
          ∧ (entry s i).mismatchReported = false := fun i => by
      rw [differs_goFrozen hc, hk, ne_eq, Option.some_inj, eq_comm]
      exact ⟨fun ⟨hi, ⟨e, he, hne⟩, hr⟩ => ⟨e, hi, he, hne, hr⟩,
        fun ⟨e, hi, he, hne, hr⟩ => ⟨hi, ⟨e, he, hne⟩, hr⟩⟩
    obtain ⟨hatt, hreported, hfirst⟩ := goEnded_differs (now := now) hc ((hdiff j).mpr ⟨d, hd⟩) hd.2.1
    refine ⟨hatt, hreported, fun hleast => hfirst fun i hi => ?_⟩
    obtain ⟨e, he⟩ := (hdiff i).mp hi
    exact hleast i e he

end Sys2Proof.Machine
end

section
/-! PROOFS. O6: what changes the Peer Table, the setup and the response slot. -/

namespace Sys2Proof.Machine

/-! ### The entries that a command may write -/

/-- Whether a command other than GO may write the entry of a station: an arrival its sender's, a heartbeat expiry every one, a
PEER_FORGET the one that its parameter names. -/
def mayWriteEntry (c : Instr) (j : Station) : Prop :=
  match arrivalOf c, c with
  | some (_, k, _), _ => j = k
  | none, .heartbeatExpiry _ => True
  | none, .peerForget _ r => parameters 11 r = some [byte (stationNumber j)]
  | none, _ => False

theorem effectOf_arrival {c : Instr} {now : Instant} {k : Station} {f : Frame} (h : arrivalOf c = some (now, k, f))
    (s : State) : effectOf c s = arrive k f (onEchoOf k f) (onPeerOf k f) s := by
  cases c with
  | haltArrival | powerDownArrival | markCallArrival | markReportArrival | claimArrival | releaseArrival | statusArrival
  | helloArrival =>
    cases h
    rfl
  | _ => exact absurd h (by simp [arrivalOf])

theorem ownArrival_entry_ne {k j : Station} (h : j ≠ k) (f : Frame) (s : State) :
    entry (ownArrival k f s) j = entry s j := entry_setEntry_ne k j _ s h

theorem mismatchTest_entry_ne {k j : Station} (h : j ≠ k) (s : State) : entry (mismatchTest k s) j = entry s j := by
  unfold mismatchTest
  split
  · split_ifs
    · rw [entry_setEntry_ne k j _ _ h]
      exact entry_congr (by simp) j
    · rfl
  · rfl

theorem peerArrival_entry_ne {k j : Station} (h : j ≠ k) (f : Frame) (s : State) :
    entry (peerArrival k f s) j = entry s j := by
  have hset : entry (setEntry k (entryAfter s k f) s) j = entry s j := entry_setEntry_ne k j _ s h
  rw [entry, peerArrival_entries]
  split_ifs
  · exact (mismatchTest_entry_ne h _).trans hset
  · exact hset

/-- An arrival leaves every entry but its sender's (R46, R50). -/
theorem arrive_entry_ne {k j : Station} (h : j ≠ k) (f : Frame) (s : State) :
    entry (arrive k f (onEchoOf k f) (onPeerOf k f) s) j = entry s j := by
  refine arrive_keeps (P := fun u => entry u j = entry s j) k f _ _ s rfl (entry_congr (by simp) j) (fun a => ?_)
    (entry_congr (by simp) j) ?_
  · rw [entry_congr (onEchoOf_frame k f _).1, ownArrival_entry_ne h]
    rfl
  · rw [entry_congr (onPeerOf_frame k f _).1, peerArrival_entry_ne h]
    rfl

/-! ### The station that a parameter names -/

theorem stationOf_some {n : Nat} {k : Station} (h : stationOf n = some k) : n = stationNumber k := by
  unfold stationOf at h
  split at h <;> cases h <;> rfl

@[simp] theorem stationParameter_number (k : Station) : stationParameter [byte (stationNumber k)] = some k := by
  cases k <;> rfl

theorem stationParameter_some {ps : List Byte} {k : Station} (h : stationParameter ps = some k) :
    ps = [byte (stationNumber k)] := by
  match ps, h with
  | [n], h => simp [← stationOf_some h, byte]

/-- A PEER_FORGET leaves every entry but the one that its parameter names (R54). -/
theorem peerForgetAct_entry_ne {ps : List Byte} {j : Station} (h : ps ≠ [byte (stationNumber j)]) (s : State) :
    entry (peerForgetAct ps s) j = entry s j := by
  unfold peerForgetAct
  split
  · rfl
  · next k hk =>
    have hjk : j ≠ k := fun e => h (e ▸ stationParameter_some hk)
    split
    · rfl
    · rfl
    · exact entry_setEntry_ne k j entryReset _ hjk
    · exact entry_setEntry_ne k j entryReset _ hjk
    · rfl

/-! ### Every command -/

/-- What a command that is no reset leaves of the Peer Table, the setup and the response slot. -/
def TableKept (c : Instr) (s t : State) : Prop :=
  ((∀ now r, c ≠ .go now r) →
      t.peers.digest = s.peers.digest ∧ ∀ j, ¬ mayWriteEntry c j → entry t j = entry s j)
    ∧ ((∀ now r, c ≠ .setup now r) → (∀ now r, c ≠ .go now r) →
        t.port.setup = s.port.setup ∧ t.port.frozen = s.port.frozen ∧ t.port.tau = s.port.tau
          ∧ t.port.span = s.port.span)
    ∧ (isPortCommand c = false →
        t.port.slot = s.port.slot ∧ t.port.shifted = s.port.shifted ∧ t.port.lastEnd = s.port.lastEnd)

theorem TableKept.of_eq {c : Instr} {s t : State} (hp : t.peers.entries = s.peers.entries)
    (hd : t.peers.digest = s.peers.digest) (h : t.port.setup = s.port.setup ∧ t.port.frozen = s.port.frozen
      ∧ t.port.tau = s.port.tau ∧ t.port.span = s.port.span)
    (hs : t.port.slot = s.port.slot ∧ t.port.shifted = s.port.shifted ∧ t.port.lastEnd = s.port.lastEnd) :
    TableKept c s t :=
  ⟨fun _ => ⟨hd, fun j _ => entry_congr hp j⟩, fun _ _ => h, fun _ => hs⟩

theorem TableKept.trans {c : Instr} {s u t : State} (h : TableKept c s u) (h' : TableKept c u t) : TableKept c s t := by
  obtain ⟨hp, hc, hs⟩ := h
  obtain ⟨hp', hc', hs'⟩ := h'
  refine ⟨fun g => ⟨(hp' g).1.trans (hp g).1, fun j hj => ((hp' g).2 j hj).trans ((hp g).2 j hj)⟩, fun x y => ?_, fun x => ?_⟩
  · simp [hc x y, hc' x y]
  · simp [hs x, hs' x]

theorem effectOf_port_table {c : Instr} (h : isPortCommand c = true) (hr : isReset c = false) (s : State) :
    TableKept c s (effectOf c s) := by
  refine ⟨fun hg => ?_, fun hset hg => ?_, fun hf => absurd h (by simp [hf])⟩
  · cases c with
    | transactionIgnored | fetch | unknownCommand => simp [effectOf, entry]
    | peerForget now r =>
      refine command_keeps (P := fun u => u.peers.digest = s.peers.digest ∧ ∀ j, ¬ mayWriteEntry (.peerForget now r) j →
        entry u j = entry s j) _ _ _ _ _ _ _ (by simp [entry]) fun ps hps _ => ⟨by simp, fun j hj => ?_⟩
      exact peerForgetAct_entry_ne (fun e => hj (hps.trans (congrArg some e))) _
    | go now r => exact absurd rfl (hg now r)
    | statusRead | peerRead | faultRead | faultClear | directiveTake | storeRead | markRequest | referenceStart
    | referenceAbort | turnConfirm | setup =>
      refine command_keeps (P := fun u => u.peers.digest = s.peers.digest ∧ ∀ j, ¬ mayWriteEntry _ j → entry u j = entry s j)
        _ _ _ _ _ _ _ ?_ ?_ <;> simp [entry]
    | reset => exact absurd hr Bool.noConfusion
    | _ => exact absurd h Bool.noConfusion
  · cases c with
    | transactionIgnored | fetch | unknownCommand => simp [effectOf]
    | setup now r => exact absurd rfl (hset now r)
    | go now r => exact absurd rfl (hg now r)
    | statusRead | peerRead | faultRead | faultClear | directiveTake | storeRead | markRequest | referenceStart
    | referenceAbort | turnConfirm | peerForget =>
      refine command_keeps (P := fun u => u.port.setup = s.port.setup ∧ u.port.frozen = s.port.frozen
        ∧ u.port.tau = s.port.tau ∧ u.port.span = s.port.span) _ _ _ _ _ _ _ ?_ ?_ <;> simp
    | reset => exact absurd hr Bool.noConfusion
    | _ => exact absurd h Bool.noConfusion

theorem effectOf_arrival_table {c : Instr} {now : Instant} {k : Station} {f : Frame} (h : arrivalOf c = some (now, k, f))
    (s : State) : TableKept c s (effectOf c s) := by
  have hframe := effectOf_arrival_frame c s (by simp [h])
  refine ⟨fun _ => ⟨by simp [hframe], fun j hj => ?_⟩, fun _ _ => by simp [hframe], fun _ => by simp [hframe]⟩
  rw [effectOf_arrival h]
  exact arrive_entry_ne (fun e => hj (by simp [mayWriteEntry, h, e])) f s

theorem effectOf_table (c : Instr) (hr : isReset c = false) (s : State) : TableKept c s (effectOf c s) := by
  by_cases hp : isPortCommand c = true
  · exact effectOf_port_table hp hr s
  cases ha : arrivalOf c with
  | some x => exact effectOf_arrival_table (now := x.1) (k := x.2.1) (f := x.2.2) ha s
  | none =>
    cases c with
    | motorSample now r f => cases r <;> exact .of_eq (by simp [effectOf]) (by simp [effectOf]) (by simp [effectOf]) (by simp [effectOf])
    | scaleSample now r => cases r <;> exact .of_eq (by simp [effectOf]) (by simp [effectOf]) (by simp [effectOf]) (by simp [effectOf])
    | heartbeatExpiry now =>
      exact ⟨fun _ => ⟨by simp [effectOf], fun j hj => absurd trivial hj⟩, by simp [effectOf], by simp [effectOf]⟩
    | startupScanEnd | writeCompletion | recoveryRead | pfailAsserted | linkIdle | arbitrationLost | bitError
    | frameDiscard | alhFall | alhRise | musterTimerExpiry | quietTimerExpiry | holdoffExpiry | markTimeoutExpiry
    | collectionTimerExpiry | leadReportWaitExpiry | untakenTimerExpiry | allowanceTimerExpiry | dwellTimerExpiry
    | prereqWaitExpiry | settleFirstIntervalEnd | settleEnd =>
      exact .of_eq (by simp [effectOf]) (by simp [effectOf]) (by simp [effectOf]) (by simp [effectOf])
    | por | pinReset | reset | rstNLow => exact absurd hr Bool.noConfusion
    | _ => first | exact absurd rfl hp | exact absurd ha (by simp [arrivalOf])

theorem exec_table {c : Instr} {s t : State} (h : exec c s = .next t) (hr : isReset c = false) : TableKept c s t :=
  exec_keeps h hr (.of_eq rfl rfl (by simp) (by simp)) (.of_eq rfl rfl (by simp) (by simp))
    (fun u hu => hu.trans (effectOf_table c hr u))
    (fun _ _ _ hu => hu.trans (.of_eq (by simp) (by simp) (by simp) (by simp)))

/-- A table of which every entry is as before is as before. -/
theorem PerStation.eq_of_get {α : Type} {t u : PerStation α} (h : ∀ k, t.get k = u.get k) : t = u := by
  cases t
  cases u
  have h1 := h .j1
  have h2 := h .j2
  have h3 := h .j3
  have h4 := h .j4
  have h5 := h .j5
  have h6 := h .j6
  simp_all [PerStation.get]

/-- Settles O6: the tick, every effect and the closing tests keep the table but the entries that the command may write, and the
setup and the response slot. -/
theorem frameTableAndPort : Obligations.FrameTableAndPort := by
  intro c s t h hr
  obtain ⟨htable, hrest⟩ := exec_table h hr
  refine ⟨fun hgo => ⟨(htable hgo).1, ?_⟩, hrest⟩
  have hentry := (htable hgo).2
  unfold mayWriteEntry at hentry
  split
  · next k _ ha => simpa [ha] using hentry
  · trivial
  · next now r ha => simpa [ha] using hentry
  · exact PerStation.eq_of_get fun j => hentry j (by split <;> simp_all)

end Sys2Proof.Machine
end

section
/-! PROOFS. O29: the normalised plan (R56), and the cycle test (R57). A station left after n removals begins a walk of n links; a
walk of six links visits seven stations and so one of them twice. -/

namespace Sys2Proof.Machine

/-! ### Masks -/

theorem maskHas_stationBit (k j : Station) : maskHas (stationBit k) j = decide (j = k) := by
  cases k <;> cases j <;> rfl

@[simp] theorem maskHas_or (m n : StationMask) (k : Station) : maskHas (m ||| n) k = (maskHas m k || maskHas n k) :=
  BitVec.getLsbD_or

@[simp] theorem maskHas_and (m n : StationMask) (k : Station) : maskHas (m &&& n) k = (maskHas m k && maskHas n k) :=
  BitVec.getLsbD_and

@[simp] theorem maskHas_drop (m : StationMask) (k j : Station) :
    maskHas (maskDrop m k) j = (maskHas m j && decide (j ≠ k)) := by
  have hj : stationNumber j - 1 < 6 := by cases j <;> decide
  have hbit : (stationBit k).getLsbD (stationNumber j - 1) = decide (j = k) := maskHas_stationBit k j
  simp only [maskDrop, maskHas, BitVec.getLsbD_and, BitVec.getLsbD_not, hbit, hj, decide_true, Bool.true_and, decide_not]

@[simp] theorem maskHas_all (k : Station) : maskHas 0x3F#6 k = true := by cases k <;> rfl

theorem mask_ne_zero_iff (m : StationMask) : m ≠ 0#6 ↔ ∃ k, maskHas m k = true := by
  simp [mask_eq_zero_iff]

/-! ### The normalised plan -/

@[simp] theorem maskHas_dropSelf (t : PerStation StationMask) (n m : Station) :
    maskHas ((dropSelf t).get n) m = (maskHas (t.get n) m && decide (m ≠ n)) := by
  rw [dropSelf, get_map, maskHas_drop]

@[simp] theorem maskHas_symmetric (t : PerStation StationMask) (n m : Station) :
    maskHas ((symmetric t).get n) m = (maskHas (t.get n) m || maskHas (t.get m) n) := by
  rw [symmetric, get_map, maskHas_or, maskHas_maskOf]

theorem normalise_masks (p : Plan) (n m : Station) :
    maskHas ((normalise p).prereq.get n) m = (maskHas (p.prereq.get n) m && decide (m ≠ n))
      ∧ maskHas ((normalise p).conflict.get n) m
        = ((maskHas (p.conflict.get n) m || maskHas (p.conflict.get m) n) && decide (m ≠ n)) := by
  refine ⟨maskHas_dropSelf _ _ _, ?_⟩
  rw [normalise, maskHas_symmetric, maskHas_dropSelf, maskHas_dropSelf, Bool.and_or_distrib_right]
  simp only [ne_comm]

theorem normalise_lead (p : Plan) (n : Station) :
    (normalise p).lead.get n = if p.lead.get n = some n then none else p.lead.get n := get_map _ _ _

/-! ### Walks along links -/

section Links

variable (links : Station → StationMask)

/-- A link of the graph. -/
def Linked (a b : Station) : Prop := maskHas (links a) b = true

/-- The stations left after removals of those without a link among the rest. -/
def leftAfter (n : Nat) : StationMask := (withLinks links)^[n] 0x3F#6

theorem hasCycle_eq : hasCycle links = decide (leftAfter links 6 ≠ 0#6) := rfl

theorem maskHas_withLinks (r : StationMask) (k : Station) :
    maskHas (withLinks links r) k = true ↔ maskHas r k = true ∧ ∃ b, Linked links k b ∧ maskHas r b = true := by
  simp [withLinks, maskHas_maskOf, mask_ne_zero_iff, Linked]

theorem leftAfter_succ (n : Nat) : leftAfter links (n + 1) = withLinks links (leftAfter links n) :=
  Function.iterate_succ_apply' _ _ _

variable {links}

/-- A station left after n removals begins a walk of n links. -/
theorem walk_of_leftAfter {n : Nat} {k : Station} (h : maskHas (leftAfter links n) k = true) :
    ∃ v : Nat → Station, v 0 = k ∧ ∀ i < n, Linked links (v i) (v (i + 1)) := by
  induction n generalizing k with
  | zero => exact ⟨fun _ => k, rfl, by simp⟩
  | succ n ih =>
    rw [leftAfter_succ, maskHas_withLinks] at h
    obtain ⟨-, b, hkb, hb⟩ := h
    obtain ⟨v, rfl, hv⟩ := ih hb
    refine ⟨fun i => i.casesOn k v, rfl, fun i hi => ?_⟩
    cases i with
    | zero => exact hkb
    | succ i => exact hv i (by omega)

theorem walk_transGen {n i j : Nat} {v : Nat → Station} (hv : ∀ i < n, Linked links (v i) (v (i + 1))) (hij : i < j)
    (hj : j ≤ n) : Relation.TransGen (Linked links) (v i) (v j) := by
  have hwalk : Relation.TransGen (fun a b => Linked links (v a) (v b)) i j :=
    transGen_of_succ_of_lt _ (fun a ha => hv a (by simp at ha; omega)) hij
  exact hwalk.lift v fun _ _ hab => hab

theorem stationNumber_injective : Function.Injective stationNumber := fun a b h => by
  cases a <;> cases b <;> first | rfl | exact absurd h (by decide)

/-- A walk of six links comes back to a station. -/
theorem walk_returns {v : Nat → Station} (hv : ∀ i < 6, Linked links (v i) (v (i + 1))) :
    ∃ k, Relation.TransGen (Linked links) k k := by
  have hcard : (Finset.Icc 1 6).card < (Finset.range 7).card := by decide
  have hmaps : ∀ i ∈ Finset.range 7, stationNumber (v i) ∈ Finset.Icc 1 6 := fun i _ => by cases v i <;> decide
  obtain ⟨i, hi, j, hj, hne, heq⟩ := Finset.exists_ne_map_eq_of_card_lt_of_maps_to hcard hmaps
  have hback : v i = v j := stationNumber_injective heq
  simp only [Finset.mem_range] at hi hj
  rcases Nat.lt_or_gt_of_ne hne with hlt | hgt
  · have hwalk := walk_transGen hv hlt (by omega)
    exact ⟨v j, hback ▸ hwalk⟩
  · have hwalk := walk_transGen hv hgt (by omega)
    exact ⟨v j, hback ▸ hwalk⟩

/-- A station on a cycle is never removed: its next station lies on the cycle too. -/
theorem leftAfter_of_cycle {k : Station} (h : Relation.TransGen (Linked links) k k) (n : Nat) :
    maskHas (leftAfter links n) k = true := by
  induction n generalizing k with
  | zero => exact maskHas_all k
  | succ n ih =>
    rw [leftAfter_succ, maskHas_withLinks]
    obtain ⟨b, hkb, hbk⟩ := (Relation.TransGen.head'_iff).1 h
    exact ⟨ih h, b, hkb, ih (Relation.TransGen.tail' hbk hkb)⟩

/-- The cycle test finds exactly the graphs in which following links from some station leads back to it (R57). -/
theorem hasCycle_iff : hasCycle links = true ↔ ∃ k, Relation.TransGen (Linked links) k k := by
  rw [hasCycle_eq, decide_eq_true_eq, mask_ne_zero_iff]
  constructor
  · rintro ⟨k, hk⟩
    obtain ⟨v, -, hv⟩ := walk_of_leftAfter hk
    exact walk_returns hv
  · rintro ⟨k, hk⟩
    exact ⟨k, leftAfter_of_cycle hk 6⟩

end Links

theorem linked_leadLinks (p : Plan) (a b : Station) : Linked (leadLinks p) a b ↔ p.lead.get a = some b := by
  unfold Linked leadLinks
  cases p.lead.get a with
  | none => cases b <;> simp [maskHas]
  | some l => simp [maskHas_stationBit, eq_comm]

/-- Settles O29: the masks of the normalised plan station by station, and the cycle test by its walks. -/
theorem planNormalisedAndCycleFree : Obligations.PlanNormalisedAndCycleFree := by
  refine ⟨fun p => ⟨rfl, rfl, rfl, fun n m => (normalise_masks p n m).1, normalise_lead p,
    fun n m => (normalise_masks p n m).2⟩, fun p => ?_⟩
  have hlead : Linked (leadLinks p) = fun a b => p.lead.get a = some b :=
    funext₂ fun a b => propext (linked_leadLinks p a b)
  rw [planCycle, Bool.or_eq_true, hasCycle_iff, hasCycle_iff, hlead]
  rfl

end Sys2Proof.Machine
end

section
/-! PROOFS. O50: the reading commands. Out of RST_N each runs its effect after the tick, on the opened transaction. -/

namespace Sys2Proof.Machine

/-! ### Reading commands out of RST_N -/

theorem reading_out {now : Instant} {s : State} {effect : State → State} (h : s.levels.rstLow = false) :
    reading now s effect = effect (tick now s) := by
  simp [reading, h]

/-- A reading command that passes the tests of R188 answers the effect of its own rule on the opened transaction. -/
theorem exec_reading_accepted {c : Instr} {code : Nat} {rest ps : List Byte} {lengthOk domainOk : List Byte → Bool}
    {act : List Byte → State → State} {s : State} (hr : readsOnly c = true)
    (hc : ∀ u, effectOf c u = command code rest lengthOk domainOk everyPhase act u) (hs : s.levels.rstLow = false)
    (h : parameters code rest = some ps) (hl : lengthOk ps = true) (hd : domainOk ps = true) :
    exec c s = .next (act ps (opened (instantOf c) s)) := by
  rw [exec_reading c s hr, reading_out hs, hc, command_accepted h hl hd rfl]
  rfl

/-! ### Attention -/

theorem atn_iff (s : State) : atn s = true ↔
    s.port.attention.fault = true ∨ s.port.attention.directive = true ∨ s.port.attention.grade = true
      ∨ s.port.attention.mark = true ∨ s.port.attention.referenceDone = true
      ∨ ∃ k, maskHas s.port.changedPeers k = true := by
  have hpeer : peerAttention s = true ↔ ∃ k, maskHas s.port.changedPeers k = true := by
    simp [peerAttention, mask_eq_zero_iff]
  simp only [atn, Bool.or_eq_true, hpeer, or_assoc]

/-! ### Images -/

theorem slotFields_valid (r : SnapRecord) : slotFields (.valid r) =
    { cls := match r.body.state with | .sound => .sound | .void => .void
      fields := snapBody r ++ bytes16 (crc16 (snapBody r)) } := by
  cases h : r.body.state <;> simp [slotFields, slotClass, imageRecord, encodeSnap, h]

theorem newest_flag (slot : Slot) (s : State) :
    decide ((newest s).map (fun n => n.1) = some slot) = (newest s).any fun x => x.1 == slot := by
  cases newest s <;> simp [Bool.beq_eq_decide_eq]

/-- The record that STORE_READ returns for each of its three parameters (R97). -/
theorem storeRead_parameter {n : Nat} (h1 : 1 ≤ n) (h3 : n ≤ 3) (s : State) :
    ∃ which, recordParameter [byte n] = some which
      ∧ storeData which s = (if n = 1 then .slot .a (slotFields s.store.imageA) ((newest s).any fun x => x.1 == .a)
          else if n = 2 then .slot .b (slotFields s.store.imageB) ((newest s).any fun x => x.1 == .b)
          else .calibration (calFields s.store.imageCal)) := by
  interval_cases n
  · exact ⟨some .a, rfl, by simp [storeData, newest_flag]⟩
  · exact ⟨some .b, rfl, by simp [storeData, newest_flag]⟩
  · exact ⟨none, rfl, rfl⟩

/-! ### Each command -/

section Reading

variable {now : Instant} {rest : List Byte} {s : State}

theorem exec_statusRead (hs : s.levels.rstLow = false) (h : parameters 1 rest = some []) :
    exec (.statusRead now rest) s = .next (statusReadAct (opened now s)) :=
  exec_reading_accepted (c := .statusRead now rest) (act := fun _ => statusReadAct) rfl (fun _ => rfl) hs h rfl rfl

theorem exec_faultRead (hs : s.levels.rstLow = false) (h : parameters 3 rest = some []) :
    exec (.faultRead now rest) s = .next (faultReadAct (opened now s)) :=
  exec_reading_accepted (c := .faultRead now rest) (act := fun _ => faultReadAct) rfl (fun _ => rfl) hs h rfl rfl

theorem exec_peerRead {k : Station} (hs : s.levels.rstLow = false) (h : parameters 2 rest = some [byte (stationNumber k)]) :
    exec (.peerRead now rest) s = .next (answerOk 2 (.peer (peerData k (opened now s)))
      { opened now s with port := { (opened now s).port with
          changedPeers := maskDrop s.port.changedPeers k } }) := by
  rw [exec_reading_accepted rfl (fun _ => rfl) hs h rfl (by simp [stationDomain]), peerReadAct, stationParameter_number]
  rfl

theorem exec_storeRead {n : Nat} (hs : s.levels.rstLow = false) (h1 : 1 ≤ n) (h3 : n ≤ 3)
    (h : parameters 6 rest = some [byte n]) :
    exec (.storeRead now rest) s = .next (answerOk 6
      (.store (if n = 1 then .slot .a (slotFields s.store.imageA) ((newest s).any fun x => x.1 == .a)
        else if n = 2 then .slot .b (slotFields s.store.imageB) ((newest s).any fun x => x.1 == .b)
        else .calibration (calFields s.store.imageCal))) (opened now s)) := by
  obtain ⟨which, hw, hd⟩ := storeRead_parameter h1 h3 (opened now s)
  rw [exec_reading_accepted rfl (fun _ => rfl) hs h rfl (by simp [recordDomain, hw]), storeReadAct, hw]
  exact congrArg (fun d => Host.Outcome.next (answerOk 6 (.store d) (opened now s))) hd

end Reading

/-- Settles O50: each command's rule on the opened transaction, field by field. -/
theorem readingCommands : Obligations.ReadingCommands := by
  refine ⟨atn_iff, slotFields_valid, fun _ => rfl, by simp [slotFields, slotClass, imageRecord],
    by simp [calFields, calClass], fun now s hs => ?_, fun now s hs => ?_, fun now rest s hs h => ?_,
    fun now rest k s hs h => ?_, fun now rest s hs h => ?_, fun now rest n s hs h1 h3 h => ?_⟩
  · exact ⟨_, (exec_reading _ s rfl).trans (congrArg _ (reading_out hs)), rfl, rfl⟩
  · exact ⟨_, (exec_reading _ s rfl).trans (congrArg _ (reading_out hs)), rfl, rfl⟩
  · refine ⟨_, statusData (opened now s), exec_statusRead hs h, rfl, rfl, rfl, rfl, rfl, rfl, rfl, rfl, rfl, rfl, rfl,
      rfl, ?_, rfl, rfl, rfl, rfl⟩
    change ((leadGrade s).map gradeCode).getD 0 = _
    cases leadGrade s <;> rfl
  · refine ⟨_, peerData k (opened now s), exec_peerRead hs h, rfl, rfl, rfl, rfl, rfl, rfl, rfl, ?_, ?_, rfl,
      fun r hr => ?_, fun hr => ?_, ?_⟩
    · change ((entry s k).purpose.map purposeCode).getD 0 = _
      cases (entry s k).purpose <;> rfl
    · change ((entry s k).haltCause.map stopCode).getD 0 = _
      cases (entry s k).haltCause <;> rfl
    · change (entry s k).report.getD reportAbsent = r
      rw [hr, Option.getD_some]
    · have hreport : (peerData k (opened now s)).report = reportAbsent := congrArg (Option.getD · reportAbsent) hr
      simp [hreport, reportAbsent, gradeCode]
    · change ageOf now.ms (entry s k).lastHeard = _
      cases (entry s k).lastHeard <;> rfl
  · refine ⟨_, faultData (opened now s), exec_faultRead hs h, rfl, rfl, rfl, rfl, ?_, rfl, rfl, rfl, rfl, rfl, rfl, rfl, rfl⟩
    change (s.fault.record.station.map stationNumber).getD 0 = _
    cases s.fault.record.station <;> rfl
  · exact ⟨_, exec_storeRead hs h1 h3 h, rfl, rfl⟩

end Sys2Proof.Machine
end

section
/-! PROOFS. O54: MARK_REQUEST in READY, and PEER_FORGET. -/

namespace Sys2Proof.Machine

/-- A command of the drive port that is taken in every phase or in the present one, and that changes the station, runs its own
rule between the opening of the transaction and the tests at the end. -/
theorem exec_port_accepted {c : Instr} {code : Nat} {rest ps : List Byte} {lengthOk domainOk : List Byte → Bool}
    {phaseOk : Phase → Bool} {act : List Byte → State → State} {s : State} (hr : isReset c = false)
    (hd : readsOnly c = false) (hc : ∀ u, effectOf c u = command code rest lengthOk domainOk phaseOk act u)
    (hf : forcesStatus c s = false) (hs : s.levels.rstLow = false) (h : parameters code rest = some ps)
    (hl : lengthOk ps = true) (hdom : domainOk ps = true) (hp : phaseOk s.phase = true) :
    exec c s = .next (finish false (tick (instantOf c) s) (act ps (opened (instantOf c) s))) := by
  rw [exec_awake c hr hd hs, hc, hf, command_accepted h hl hdom (s := tick (instantOf c) s) hp]
  rfl

theorem answer_slot (code : Nat) (st : Status) (r : Reason) (d : ResponseData) (s : State) :
    (answer code st r d s).port.slot = { status := st, echo := byte code, reason := r, data := d } := rfl

/-! ### MARK_REQUEST -/

/-- The drive's need goes through the closing tests outside MUSTER. -/
theorem closing_needs_drive {force : Bool} {s0 s : State} (h : s.phase ≠ .muster) :
    (closing force s0 s).mark.needs.drive = s.mark.needs.drive := by
  rw [closing_needs h]
  unfold reMarkTest
  split_ifs <;> simp [withdrawNeed, register, needsMinus, needsUnion, onlyReMark, needsNone]

theorem tryCall_of_drive {s : State} (hi : s.mark.state = .idle) (hq : s.link.queue.markCall = none)
    (hn : s.mark.needs.drive = true) (ht : queueTakes s.phase .markCall = true) :
    (tryCall s).link.queue.markCall = some (.markCall (s.mark.number + 1#8)) := by
  have hw : callWanted s = true := by simp [callWanted, framePending, PerKind.get, hi, hq, hn]
  simp [tryCall, hw, sendFrame, frameKind, PerKind.set, ht]

/-- An idle station with a DRIVE need calls a mark at the end of the command, outside MUSTER (R66). -/
theorem closing_calls {force : Bool} {s0 s : State} (hm : s.phase ≠ .muster) (ht : queueTakes s.phase .markCall = true)
    (hi : s.mark.state = .idle) (hq : s.link.queue.markCall = none) (hn : s.mark.needs.drive = true) :
    (closing force s0 s).mark.state = .idle
      ∧ (closing force s0 s).link.queue.markCall = some (.markCall (s.mark.number + 1#8)) := by
  have hmuster : tryMuster (tryClaim (tryPrereq s)) = tryClaim (tryPrereq s) := tryMuster_outside (by simpa using hm)
  have hdrive : (reMarkTest s0 (tryClaim (tryPrereq s))).mark.needs.drive = true := by
    rw [← closing_needs (force := force) hm, closing_needs_drive hm, hn]
  have hrelease : tryRelease (reMarkTest s0 (tryClaim (tryPrereq s))) = reMarkTest s0 (tryClaim (tryPrereq s)) := by
    simp [tryRelease, hi]
  have hcomplete : tryComplete (reMarkTest s0 (tryClaim (tryPrereq s))) = reMarkTest s0 (tryClaim (tryPrereq s)) := by
    simp [tryComplete, hi]
  have hcall := tryCall_of_drive (s := reMarkTest s0 (tryClaim (tryPrereq s))) (by simpa using hi) (by simpa using hq)
    hdrive (by simpa using ht)
  simp only [closing, hmuster, hrelease, hcomplete]
  exact ⟨by simpa using hi, by simpa using hcall⟩

theorem markRequest_runs {now : Instant} {rest : List Byte} {s : State} (hs : s.levels.rstLow = false)
    (h : parameters 7 rest = some []) (hp : s.phase = .ready) :
    exec (.markRequest now rest) s = .next (finish false (tick now s) (markRequestAct (opened now s))) :=
  exec_port_accepted (c := .markRequest now rest) (act := fun _ => markRequestAct) rfl rfl (fun _ => rfl) rfl hs h rfl rfl
    (by simp [readyOnly, hp])

theorem markRequestAct_accepted {s : State} (hi : s.mark.state = .idle) (hq : s.link.queue.markCall = none) :
    markRequestAct s = register onlyDrive (answerOk 7 .none s) := by
  simp [markRequestAct, framePending, PerKind.get, hi, hq]

theorem markRequestAct_refused {s : State} (h : s.mark.state ≠ .idle ∨ s.link.queue.markCall ≠ none) :
    markRequestAct s = refuse 7 .markBusy s := by
  unfold markRequestAct
  rw [if_neg]
  simpa [framePending, PerKind.get, ← not_and_or] using h

theorem markRequest_ready {now : Instant} {rest : List Byte} {s : State} (hs : Steady s) (h : parameters 7 rest = some [])
    (hp : s.phase = .ready) : ∃ t, exec (.markRequest now rest) s = .next t
      ∧ (s.mark.state = .idle → s.link.queue.markCall = none →
          t.port.slot = { status := .ok, echo := 7#8, reason := .none, data := .none }
            ∧ t.mark.needs.drive = true ∧ t.mark.state = .idle
            ∧ t.link.queue.markCall = some (.markCall (s.mark.number + 1#8)))
      ∧ (s.mark.state ≠ .idle ∨ s.link.queue.markCall ≠ none →
          t.port.slot = { status := .refused, echo := 7#8, reason := .markBusy, data := .none }
            ∧ t.mark.needs.drive = s.mark.needs.drive) := by
  refine ⟨_, markRequest_runs hs.1 h hp, fun hi hq => ?_, fun hb => ?_⟩
  · have hu : Undisturbed (register onlyDrive (answerOk 7 .none (opened now s))) :=
      undisturbed_of_steady hs (opened_inputs now s) (by simp)
    have hready : (applyCeiling (register onlyDrive (answerOk 7 .none (opened now s)))).phase ≠ .muster := by simp [hp]
    have hdrive : (applyCeiling (register onlyDrive (answerOk 7 .none (opened now s)))).mark.needs.drive = true := by
      simp [register, needsUnion, onlyDrive]
    rw [markRequestAct_accepted (by simpa using hi) (by simpa using hq)]
    refine ⟨by simp [answerOk, answer_slot, byte], ?_⟩
    rw [finish_of_undisturbed hu, closing_needs_drive hready]
    refine ⟨hdrive, ?_⟩
    simpa using closing_calls (force := false) (s0 := tick now s) hready (by simp [hp, queueTakes]) (by simpa using hi)
      (by simpa using hq) hdrive
  · have hu : Undisturbed (refuse 7 .markBusy (opened now s)) :=
      undisturbed_of_steady hs (opened_inputs now s) (by simp)
    rw [markRequestAct_refused (by simpa using hb)]
    refine ⟨by simp [refuse, answer_slot, byte], ?_⟩
    rw [finish_of_undisturbed hu, closing_needs_drive (by simp [hp])]
    simp

/-! ### PEER_FORGET -/

theorem peerForget_runs {now : Instant} {rest : List Byte} {k : Station} {s : State} (hs : s.levels.rstLow = false)
    (h : parameters 11 rest = some [byte (stationNumber k)]) :
    exec (.peerForget now rest) s
      = .next (finish false (tick now s) (peerForgetAct [byte (stationNumber k)] (opened now s))) :=
  exec_port_accepted (c := .peerForget now rest) rfl rfl (fun _ => rfl) rfl hs h rfl (by simp [stationDomain]) rfl

theorem peerForgetAct_refused {k : Station} {s : State}
    (h : (entry s k).presence = .alive ∨ (entry s k).presence = .stale) :
    peerForgetAct [byte (stationNumber k)] s = refuse 11 .present s := by
  rcases h with h | h <;> simp [peerForgetAct, h]

theorem peerForgetAct_forgets {k : Station} {s : State}
    (h : (entry s k).presence = .silent ∨ (entry s k).presence = .down) :
    peerForgetAct [byte (stationNumber k)] s = forgetEntry k (answerOk 11 .none s) := by
  rcases h with h | h <;> simp [peerForgetAct, h]

theorem peerForgetAct_absent {k : Station} {s : State} (h : (entry s k).presence = .absent) :
    peerForgetAct [byte (stationNumber k)] s = answerOk 11 .none s := by
  simp [peerForgetAct, h]

theorem maskHas_maskAdd_self (m : StationMask) (k : Station) : maskHas (maskAdd m k) k = true := by
  simp [maskAdd, maskHas_stationBit]

/-- The tests at the end of a command leave the Peer Table. -/
theorem finish_entry (force : Bool) (s0 s : State) (k : Station) : entry (finish force s0 s) k = entry s k :=
  entry_congr (by simp) k

/-- Settles O54: each rule by its cases, and the call among the closing tests. -/
theorem markRequestAndPeerForget : Obligations.MarkRequestAndPeerForget := by
  refine ⟨fun now rest s hs h hp => markRequest_ready hs h hp, fun now rest k s hs h => ?_⟩
  have hentry : entry (opened now s) k = entry s k := entry_congr (by simp) k
  refine ⟨_, peerForget_runs hs h, fun hp => ?_, fun hp => ?_, fun hp => ?_⟩
  · rw [peerForgetAct_refused (by rwa [hentry]), finish_entry]
    exact ⟨entry_congr (by simp) k, by simp [opened], by simp [refuse, answer_slot, byte]⟩
  · rw [peerForgetAct_forgets (by rwa [hentry]), finish_entry]
    exact ⟨get_set_self _ k _, by simp [forgetEntry, addChangedPeer, maskHas_maskAdd_self],
      by simp [forgetEntry, addChangedPeer, setEntry, answerOk, answer_slot, byte]⟩
  · rw [peerForgetAct_absent (by rwa [hentry]), finish_entry]
    exact ⟨entry_congr (by simp) k, by simp [opened], by simp [answerOk, answer_slot, byte]⟩

end Sys2Proof.Machine
end

section
/-! PROOFS. O52: FAULT_CLEAR. Its own rule by the phase and the stop set, and the closing tests, which raise nothing while the
lead is steady. -/

namespace Sys2Proof.Machine

/-! ### The closing tests raise nothing -/

theorem setBasis_none_quiet (s : State) : (setBasis .none s).fault = s.fault ∧ (setBasis .none s).port = s.port := by
  unfold setBasis
  split_ifs <;> exact ⟨rfl, rfl⟩

/-- A grade set with the basis as it stands raises nothing: the basis changes to NONE at most, which forms no angle (R106). -/
theorem setGrade_standing_quiet (g : Grade) (s : State) :
    (setGrade g s.reck.basis s).fault = s.fault
      ∧ (setGrade g s.reck.basis s).port.attention.fault = s.port.attention.fault := by
  have hbasis : (setBasis (basisFor g s.reck.basis) s).fault = s.fault
      ∧ (setBasis (basisFor g s.reck.basis) s).port = s.port := by
    unfold basisFor
    split_ifs
    · exact setBasis_none_quiet s
    · simp [setBasis]
  unfold setGrade setGradeBasis
  dsimp only
  split_ifs <;> simp [hbasis]

theorem applyCeiling_quiet (s : State) :
    (applyCeiling s).fault = s.fault ∧ (applyCeiling s).port.attention.fault = s.port.attention.fault := by
  unfold applyCeiling
  dsimp only
  split_ifs
  · exact ⟨rfl, rfl⟩
  · exact setGrade_standing_quiet (ceiling s)
      { s with gradeUnit := { s.gradeUnit with capped := true, recordedLead := leadGrade s } }
  · exact setGrade_standing_quiet (ceiling s) s

theorem closing_ceiling_quiet (force : Bool) (s0 s : State) :
    (closing force s0 (applyCeiling s)).fault = s.fault
      ∧ (closing force s0 (applyCeiling s)).port.attention.fault = s.port.attention.fault
      ∧ (closing force s0 (applyCeiling s)).port.slot = s.port.slot := by
  simp [applyCeiling_quiet]

/-! ### The phase at the end of a command -/

theorem musterMissing_congr {s t : State} (hs : t.straps = s.straps) (he : t.peers.entries = s.peers.entries) :
    musterMissing t = musterMissing s := by
  simp only [musterMissing, isOwn, own, entry, hs, he]

/-- The tests from the prerequisites on change the phase only where the muster is complete (R61). -/
theorem closing_phase (force : Bool) (s0 s : State) :
    (closing force s0 s).phase = if s.phase = .muster ∧ musterMissing s = 0#6 then .recovery else s.phase := by
  have hm : musterMissing (tryClaim (tryPrereq s)) = musterMissing s := musterMissing_congr (by simp) (by simp)
  have ht : (tryMuster (tryClaim (tryPrereq s))).phase
      = if s.phase = .muster ∧ musterMissing s = 0#6 then .recovery else s.phase := by
    unfold tryMuster
    rw [hm]
    simp only [tryClaim_frame, tryPrereq_frame]
    split_ifs
    · exact enterRecovery_phase _
    · simp
  simpa [closing] using ht

/-- A lead that is lost while no decision waits for it changes the lead's report and its timer alone (R73). -/
theorem leadLost_unawaited {s : State} (h : s.gradeUnit.sub ≠ .leadWait) :
    ∃ l w, leadLost s
      = { s with gradeUnit := { s.gradeUnit with leadReport := l }, mark := { s.mark with leadWait := w } } := by
  unfold leadLost leadResolved
  split
  · exact ⟨_, _, rfl⟩
  · dsimp only
    split_ifs
    · exact ⟨_, _, rfl⟩
    · exact ⟨_, _, rfl⟩

/-! ### The rule of FAULT_CLEAR -/

theorem faultClear_runs {now : Instant} {rest : List Byte} {s : State} (hs : s.levels.rstLow = false)
    (h : parameters 4 rest = some []) :
    exec (.faultClear now rest) s = .next (finish false (tick now s) (faultClearAct (opened now s))) :=
  exec_port_accepted (c := .faultClear now rest) (act := fun _ => faultClearAct) rfl rfl (fun _ => rfl) rfl hs h rfl rfl rfl

/-- Causes are told apart by their codes (Table 10-1). -/
theorem stopCode_injective : Function.Injective stopCode := fun a b h => by
  have hof : ∀ c, stopOf (stopCode c) = some c := fun c => by cases c <;> rfl
  exact Option.some.inj ((hof a).symm.trans ((congrArg stopOf h).trans (hof b)))

/-- The first present cause is the one of the lowest code (R183). -/
theorem firstPresent_least {s : State} {c : StopCause} (hc : c ∈ s.fault.stopSet) (hp : causePresent s c = true)
    (hleast : ∀ d, d ∈ s.fault.stopSet → causePresent s d = true → stopCode c ≤ stopCode d) :
    firstPresent s = some c := by
  have hmem : c ∈ StopCause.all := by cases c <;> decide
  have hsorted : StopCause.all.Pairwise fun a b => stopCode a < stopCode b := by decide
  cases hf : firstPresent s with
  | none =>
    have := List.find?_eq_none.mp hf c hmem
    simp [hc, hp] at this
  | some d =>
    obtain ⟨hd, before, after, hall, hbefore⟩ := List.find?_eq_some_iff_append.mp hf
    simp only [Bool.and_eq_true, decide_eq_true_eq] at hd
    have hcd := hleast d hd.1 hd.2
    rw [hall, List.pairwise_append] at hsorted
    rw [hall, List.mem_append, List.mem_cons] at hmem
    rcases hmem with hm | rfl | hm
    · have := hbefore c hm
      simp [hc, hp] at this
    · rfl
    · obtain ⟨-, htail, -⟩ := hsorted
      have := List.rel_of_pairwise_cons htail hm
      omega

theorem firstPresent_none {s : State} (h : ∀ c, c ∈ s.fault.stopSet → causePresent s c = false) :
    firstPresent s = none := by
  refine List.find?_eq_none.mpr fun c _ => ?_
  simp only [Bool.and_eq_true, decide_eq_true_eq, not_and, Bool.not_eq_true]
  exact h c

/-- The record cleared and the FAULT cause with it, before the phase is left. -/
def faultCleared (now : Instant) (s : State) : State := clearRecord (answerOk 4 .none (opened now s))

theorem faultCleared_frame (now : Instant) (s : State) :
    (faultCleared now s).phase = s.phase ∧ (faultCleared now s).peers = s.peers ∧ (faultCleared now s).straps = s.straps
      ∧ (faultCleared now s).gradeUnit = s.gradeUnit ∧ (faultCleared now s).search = s.search
      ∧ (faultCleared now s).fault.record = recordReset ∧ (faultCleared now s).port.attention.fault = false
      ∧ (faultCleared now s).port.slot = { status := .ok, echo := 4#8, reason := .none, data := .none } :=
  ⟨rfl, rfl, rfl, rfl, rfl, rfl, rfl, rfl⟩

theorem faultCleared_inputs (now : Instant) (s : State) : leadInputs (faultCleared now s) = leadInputs s := rfl

/-- The entry to RECOVERY begins its reading (R107). -/
theorem enterRecovery_begins (s : State) :
    (enterRecovery s).fault = (setPhase .recovery s).fault ∧ (enterRecovery s).gradeUnit.sub = .reading
      ∧ (enterRecovery s).gradeUnit.readPending = true ∧ (enterRecovery s).gradeUnit.chosen = none
      ∧ (enterRecovery s).mark.needs.recovery = true := by
  unfold enterRecovery
  dsimp only
  split_ifs <;> simp [register, needsUnion, onlyRecovery, startQuiet]

section FaultClear

variable {now : Instant} {s : State}

theorem faultClear_refused {c : StopCause} (hs : Steady s) (hp : s.phase = .faulted)
    (hf : firstPresent (opened now s) = some c) :
    (finish false (tick now s) (faultClearAct (opened now s))).phase = .faulted
      ∧ (finish false (tick now s) (faultClearAct (opened now s))).fault = s.fault
      ∧ (finish false (tick now s) (faultClearAct (opened now s))).port.slot
        = { status := .refused, echo := 4#8, reason := .stillPresent, data := .stillPresent c } := by
  have hact : faultClearAct (opened now s) = answer 4 .refused .stillPresent (.stillPresent c) (opened now s) := by
    simp [faultClearAct, hp, hf]
  have hu : Undisturbed (answer 4 .refused .stillPresent (.stillPresent c) (opened now s)) :=
    undisturbed_of_steady hs (opened_inputs now s) (by simp)
  obtain ⟨hfault, -, hslot⟩ := closing_ceiling_quiet false (tick now s)
    (answer 4 .refused .stillPresent (.stillPresent c) (opened now s))
  rw [hact]
  refine ⟨?_, ?_, ?_⟩
  · rw [(finish_undisturbed_frame hu (by simp [hp])).1]
    simpa using hp
  · rw [finish_of_undisturbed hu, hfault]
    simp
  · rw [finish_of_undisturbed hu, hslot]
    rfl

theorem faultClear_elsewhere (hs : Steady s) (hp : s.phase ≠ .faulted) :
    (finish false (tick now s) (faultClearAct (opened now s))).fault.record = recordReset
      ∧ (finish false (tick now s) (faultClearAct (opened now s))).phase
        = (if s.phase = .muster ∧ musterMissing s = 0#6 then .recovery else s.phase)
      ∧ (finish false (tick now s) (faultClearAct (opened now s))).port.attention.fault = false
      ∧ (finish false (tick now s) (faultClearAct (opened now s))).port.slot
        = { status := .ok, echo := 4#8, reason := .none, data := .none } := by
  have hact : faultClearAct (opened now s) = faultCleared now s := by simp [faultClearAct, hp, faultCleared]
  have hu : Undisturbed (faultCleared now s) := undisturbed_of_steady hs (faultCleared_inputs now s) rfl
  obtain ⟨hfault, hatt, hslot⟩ := closing_ceiling_quiet false (tick now s) (faultCleared now s)
  have hmissing : musterMissing (applyCeiling (faultCleared now s)) = musterMissing s :=
    musterMissing_congr (by simp [faultCleared_frame]) (by simp [faultCleared_frame])
  rw [hact, finish_of_undisturbed hu, hfault, hatt, hslot, closing_phase, hmissing]
  simp [faultCleared_frame]

/-- An accepted FAULT_CLEAR with a grade of RESOLVED or above leads to READY (R183). -/
theorem faultClear_ready (hs : Steady s) (hp : s.phase = .faulted) (hf : firstPresent (opened now s) = none)
    (hg : gradeLe .resolved s.gradeUnit.grade = true) :
    ∃ u, finish false (tick now s) (faultClearAct (opened now s)) = closing false (tick now s) (applyCeiling u)
      ∧ u.fault = faultReset recordReset ∧ u.port = (faultCleared now s).port ∧ u.phase = .ready := by
  have hact : faultClearAct (opened now s) = setPhase .ready (faultCleared now s) := by
    have hgrade : (faultCleared now s).gradeUnit.grade = s.gradeUnit.grade := rfl
    simp only [faultClearAct, opened_frame, hp, hf, ↓reduceIte]
    rw [← faultCleared, leaveFaulted, hgrade, hg, if_pos rfl]
  have hu : Undisturbed (setPhase .ready (faultCleared now s)) :=
    undisturbed_of_steady hs (faultCleared_inputs now s) rfl
  exact ⟨setPhase .ready (faultCleared now s), by rw [hact, finish_of_undisturbed hu],
    by simp [setPhase, faultCleared_frame, hp], rfl, rfl⟩

/-- An accepted FAULT_CLEAR below RESOLVED leads to RECOVERY, which the tests of the lead leave in its reading (R107, R183). -/
theorem faultClear_recovery (hs : Steady s) (hp : s.phase = .faulted) (hf : firstPresent (opened now s) = none)
    (hg : gradeLe .resolved s.gradeUnit.grade = false) :
    ∃ u, finish false (tick now s) (faultClearAct (opened now s)) = closing false (tick now s) (applyCeiling u)
      ∧ u.fault = faultReset recordReset ∧ u.port = (faultCleared now s).port ∧ u.phase = .recovery
      ∧ u.gradeUnit.sub = .reading ∧ u.gradeUnit.readPending = true ∧ u.gradeUnit.chosen = none
      ∧ u.mark.needs.recovery = true := by
  have hact : faultClearAct (opened now s) = enterRecovery (faultCleared now s) := by
    have hgrade : (faultCleared now s).gradeUnit.grade = s.gradeUnit.grade := rfl
    simp only [faultClearAct, opened_frame, hp, hf, ↓reduceIte]
    rw [← faultCleared, leaveFaulted, hgrade, hg]
    rfl
  obtain ⟨hfault, hsub, hread, hchosen, hneed⟩ := enterRecovery_begins (faultCleared now s)
  obtain ⟨l, w, hlost⟩ := leadLost_unawaited (s := enterRecovery (faultCleared now s)) (by simp [hsub])
  have hwatch : watchLead (leadLost (enterRecovery (faultCleared now s))) = leadLost (enterRecovery (faultCleared now s)) := by
    refine watchLead_of_settled fun hh => ?_
    rw [hlost] at hh ⊢
    have hl := leadSettled_congr (s := s) (t := enterRecovery (faultCleared now s))
      (lead_congr (by simp; rfl) (by simp; rfl) (by simp [faultCleared_frame])) (by simp [faultCleared_frame])
    exact hl.trans (hs.2.2 (by simpa [faultCleared_frame] using hh))
  refine ⟨leadLost (enterRecovery (faultCleared now s)), by rw [hact, finish_eq_closing, hwatch], ?_⟩
  rw [hlost]
  refine ⟨hfault.trans (by simp [setPhase, faultCleared_frame, hp]), by simp, enterRecovery_phase _, hsub, hread, hchosen, hneed⟩

end FaultClear

/-- Settles O52: the rule of each case, and the closing tests after it. -/
theorem faultClear : Obligations.FaultClear := by
  intro now rest s hs h
  refine ⟨_, faultClear_runs hs.1 h, fun hp c hc hpresent hleast => ?_, fun hp habsent => ?_, fun hp => ?_⟩
  · exact faultClear_refused hs hp (firstPresent_least hc hpresent hleast)
  · have hf : firstPresent (opened now s) = none := firstPresent_none habsent
    cases hg : gradeLe .resolved s.gradeUnit.grade with
    | true =>
      obtain ⟨u, hu, hfault, hport, hphase⟩ := faultClear_ready hs hp hf hg
      obtain ⟨kfault, katt, kslot⟩ := closing_ceiling_quiet false (tick now s) u
      rw [hu, kfault, katt, kslot, closing_phase, hfault, hport]
      simp only [gradeLe, gradeLt, decide_eq_true_eq] at hg ⊢
      refine ⟨rfl, rfl, rfl, rfl, by simp [hphase], fun hl => absurd hl (not_lt.mpr hg)⟩
    | false =>
      obtain ⟨u, hu, hfault, hport, hphase, hsub, hread, hchosen, hneed⟩ := faultClear_recovery hs hp hf hg
      obtain ⟨kfault, katt, kslot⟩ := closing_ceiling_quiet false (tick now s) u
      have hm : (applyCeiling u).phase ≠ .muster := by simp [hphase]
      rw [hu, kfault, katt, kslot, closing_phase, (closing_outside hm).2.1, closing_needs_recovery hm, hfault, hport]
      exact ⟨rfl, rfl, rfl, rfl, by simp [hphase], fun _ => by simp [hsub, hread, hchosen, hneed]⟩
  · exact faultClear_elsewhere hs hp

end Sys2Proof.Machine
end

section
/-! PROOFS. O3: the changes of phase. What an operation may do to the phase depends on the phase and the sub-state of the search
alone: an operation that leaves both keeps the property by its frame, and the others have one lemma each below. -/

namespace Sys2Proof.Machine

/-- Where decisions, searches and faults may lead from a phase: a recovery or a search that ends leads to READY, a STOP fault to
FAULTED. -/
def PhaseDrifts (p q : Phase) : Prop :=
  p = q ∨ (p = .recovery ∨ p = .reference) ∧ q = .ready ∨ stopsIn p = true ∧ q = .faulted

/-- From phase `p` decisions, searches and faults may lead to phase `q` with the search in sub-state `sub`: a search in progress
is in REFERENCE. -/
def Drifts (p q : Phase) (sub : SearchSub) : Prop := (sub ≠ .none → q = .reference) ∧ PhaseDrifts p q

/-- What a station that has not changed its phase has from the premise of O3. -/
theorem Drifts.start {p : Phase} {sub : SearchSub} (h : sub ≠ .none → p = .reference) : Drifts p p sub := ⟨h, .inl rfl⟩

theorem Drifts.searching {p q : Phase} {sub : SearchSub} (h : Drifts p q sub) (hs : sub ≠ .none) : q = .reference := h.1 hs

theorem Drifts.resume {p q : Phase} {sub sub' : SearchSub} (h : Drifts p q sub) (hr : q = .reference) : Drifts p q sub' :=
  ⟨fun _ => hr, h.2⟩

theorem Drifts.ended {p q : Phase} {sub : SearchSub} (h : Drifts p q sub) (hr : q = .reference) : Drifts p .ready .none := by
  obtain ⟨-, hq⟩ := h
  subst hr
  refine ⟨absurd rfl, ?_⟩
  simp only [PhaseDrifts, reduceCtorEq, and_false, or_false] at hq
  exact .inr (.inl ⟨.inr hq, rfl⟩)

theorem Drifts.stopped {p q : Phase} {sub : SearchSub} (h : Drifts p q sub) (hq : stopsIn q = true) :
    Drifts p .faulted .none := by
  obtain ⟨-, hpq⟩ := h
  refine ⟨absurd rfl, .inr (.inr ⟨?_, rfl⟩)⟩
  rcases hpq with rfl | ⟨hp | hp, rfl⟩ | ⟨hp, -⟩
  · exact hq
  · rw [hp]; rfl
  · rw [hp]; rfl
  · exact hp

theorem Drifts.decided {p q : Phase} {sub : SearchSub} (h : Drifts p q sub) :
    Drifts p (if q = .recovery then .ready else q) sub := by
  split_ifs with hq
  · subst hq
    have hsub : sub = .none := by
      by_contra hs
      exact Phase.noConfusion (h.1 hs)
    refine ⟨fun hs => absurd hsub hs, .inr (.inl ⟨.inl ?_, rfl⟩)⟩
    simpa [PhaseDrifts] using h.2
  · exact h

section Drift

variable {p : Phase} {s : State}

/-! ### Searches -/

theorem endSearch_drifts (o : SearchOutcome) (hr : s.phase = .reference) (h : Drifts p s.phase s.search.sub) :
    Drifts p (endSearch o s).phase (endSearch o s).search.sub := by
  have := h.ended hr
  simpa [endSearch, clearSearch] using this

theorem failSearch_drifts (c : FailCause) (n : Int) (hr : s.phase = .reference) (h : Drifts p s.phase s.search.sub) :
    Drifts p (failSearch c n s).phase (failSearch c n s).search.sub :=
  endSearch_drifts _ (by simpa using hr) (by simpa using h)

theorem abortSearch_drifts (r : AbortReason) (st : Option Station) (hr : s.phase = .reference)
    (h : Drifts p s.phase s.search.sub) : Drifts p (abortSearch r st s).phase (abortSearch r st s).search.sub :=
  endSearch_drifts _ (by simpa using hr) (by simpa using h)

theorem completeSearch_drifts (hr : s.phase = .reference) (h : Drifts p s.phase s.search.sub) :
    Drifts p (completeSearch s).phase (completeSearch s).search.sub := by
  have := h.ended hr
  simpa [completeSearch, clearSearch] using this

theorem enterClear_drifts (hr : s.phase = .reference) (h : Drifts p s.phase s.search.sub) :
    Drifts p (enterClear s).phase (enterClear s).search.sub := by
  simpa [enterClear] using h.resume hr

theorem enterForward_drifts (hr : s.phase = .reference) (h : Drifts p s.phase s.search.sub) :
    Drifts p (enterForward s).phase (enterForward s).search.sub := by
  simpa [enterForward] using h.resume hr

theorem restartForward_drifts (hr : s.phase = .reference) (h : Drifts p s.phase s.search.sub) :
    Drifts p (restartForward s).phase (restartForward s).search.sub := by
  simpa [restartForward] using h.resume hr

theorem enterReverse_drifts (hr : s.phase = .reference) (h : Drifts p s.phase s.search.sub) :
    Drifts p (enterReverse s).phase (enterReverse s).search.sub := by
  simpa [enterReverse] using h.resume hr

theorem enterSettle_drifts (hr : s.phase = .reference) (h : Drifts p s.phase s.search.sub) :
    Drifts p (enterSettle s).phase (enterSettle s).search.sub := by
  simpa [enterSettle] using h.resume hr

theorem enterPark_drifts (hr : s.phase = .reference) (h : Drifts p s.phase s.search.sub) :
    Drifts p (enterPark s).phase (enterPark s).search.sub := by
  simpa [enterPark] using h.resume hr

theorem enterCalibrate_drifts (x : Int) (d : Nat) (hr : s.phase = .reference) (h : Drifts p s.phase s.search.sub) :
    Drifts p (enterCalibrate x d s).phase (enterCalibrate x d s).search.sub := by
  simpa [enterCalibrate] using h.resume hr

@[simp] theorem tryRestart_drifts (h : Drifts p s.phase s.search.sub) :
    Drifts p (tryRestart s).phase (tryRestart s).search.sub := by
  unfold tryRestart
  split
  · next hc =>
    have hr : s.phase = .reference := h.searching (by simpa [searching] using hc.1)
    dsimp only
    split
    · split
      · exact enterClear_drifts hr h
      · exact enterForward_drifts hr h
    iterate 2
      split
      · simpa using h
      · exact restartForward_drifts hr h
    all_goals exact h
  · exact h

@[simp] theorem advanceSearch_drifts (h : Drifts p s.phase s.search.sub) :
    Drifts p (advanceSearch s).phase (advanceSearch s).search.sub := by
  have hr : ∀ sub, s.search.sub = sub → sub ≠ .none → s.phase = .reference := fun sub hs hn => h.searching (hs ▸ hn)
  unfold advanceSearch
  split
  · exact tryRestart_drifts h
  · split
    · split
      · next hs => exact enterForward_drifts (hr _ hs (by simp)) h
      · next hs =>
        split
        · exact restartForward_drifts (hr _ hs (by simp)) h
        · exact enterReverse_drifts (hr _ hs (by simp)) h
      · next hs =>
        split
        · exact restartForward_drifts (hr _ hs (by simp)) h
        · exact enterSettle_drifts (hr _ hs (by simp)) h
      · next hs => exact completeSearch_drifts (hr _ hs (by simp)) h
      all_goals exact h
    · exact h

@[simp] theorem trySettle_drifts (h : Drifts p s.phase s.search.sub) :
    Drifts p (trySettle s).phase (trySettle s).search.sub := by
  unfold trySettle
  split
  · exact advanceSearch_drifts h
  · exact h

@[simp] theorem searchSample_drifts (h : Drifts p s.phase s.search.sub) :
    Drifts p (searchSample s).phase (searchSample s).search.sub := by
  have hmove : ∀ sub, s.search.sub = sub → sub ≠ .none → ∀ n, Drifts p (failSearch .flagNotFound n s).phase
      (failSearch .flagNotFound n s).search.sub := fun sub hs hn n => failSearch_drifts _ _ (h.searching (hs ▸ hn)) h
  unfold searchSample
  split
  · split
    · next hs => split_ifs <;> simp [h, hmove _ hs]
    · next hs => split_ifs <;> simp [h, hmove _ hs]
    · next hs => split_ifs <;> simp [h, hmove _ hs]
    · split_ifs <;> simpa using h
    all_goals exact h
  · exact h

@[simp] theorem inhibitNotice_drifts (h : Drifts p s.phase s.search.sub) :
    Drifts p (inhibitNotice s).phase (inhibitNotice s).search.sub := by
  have hfail : ∀ sub, s.search.sub = sub → sub ≠ .none → Drifts p (failSearch .interrupted 5 s).phase
      (failSearch .interrupted 5 s).search.sub := fun sub hs hn => failSearch_drifts _ _ (h.searching (hs ▸ hn)) h
  unfold inhibitNotice
  split
  · next hs => split_ifs <;> simp [h, hfail _ hs]
  · next hs => split_ifs <;> simp [h, hfail _ hs]
  · next hs => split_ifs <;> simp [h, hfail _ hs]
  all_goals simpa using h

@[simp] theorem watchLead_drifts (h : Drifts p s.phase s.search.sub) :
    Drifts p (watchLead s).phase (watchLead s).search.sub := by
  unfold watchLead
  split_ifs with hc
  · simp only [Bool.and_eq_true, searching, decide_eq_true_eq] at hc
    exact failSearch_drifts _ _ (h.searching hc.1.2) h
  · exact h

theorem nextPass_drifts (hr : s.phase = .reference) (h : Drifts p s.phase s.search.sub) :
    Drifts p (nextPass s).phase (nextPass s).search.sub := by
  unfold nextPass
  split_ifs
  · exact enterForward_drifts hr h
  · exact enterForward_drifts hr h
  · exact failSearch_drifts _ _ hr h

theorem evaluatePass_drifts (hr : s.phase = .reference) (h : Drifts p s.phase s.search.sub) :
    Drifts p (evaluatePass s).phase (evaluatePass s).search.sub := by
  unfold evaluatePass
  dsimp only
  split
  · split_ifs
    · exact enterCalibrate_drifts _ _ hr h
    · exact nextPass_drifts hr h
  · exact nextPass_drifts hr h
  · exact nextPass_drifts hr h

theorem calibrationDone_drifts (o : WriteOutcome) (hr : s.phase = .reference) (h : Drifts p s.phase s.search.sub) :
    Drifts p (calibrationDone o s).phase (calibrationDone o s).search.sub := by
  unfold calibrationDone
  dsimp only
  split
  · exact enterPark_drifts (by simpa using hr) (by simpa using h)
  · exact completeSearch_drifts (by simpa using hr) (by simpa using h)

@[simp] theorem claimGranted_drifts (h : Drifts p s.phase s.search.sub) :
    Drifts p (claimGranted s).phase (claimGranted s).search.sub := by
  unfold claimGranted
  split
  · next hs =>
    have hr : s.phase = .reference := h.searching (by simp [hs])
    dsimp only
    split
    · exact enterClear_drifts (by split_ifs <;> exact hr) (by split_ifs <;> exact h)
    · exact enterForward_drifts (by split_ifs <;> exact hr) (by split_ifs <;> exact h)
  · exact h

@[simp] theorem tryPrereq_drifts (h : Drifts p s.phase s.search.sub) :
    Drifts p (tryPrereq s).phase (tryPrereq s).search.sub := by
  unfold tryPrereq
  split_ifs with hs
  · simpa using h.resume (h.searching (by simp [hs.1]))
  · exact h

/-! ### Faults and decisions -/

@[simp] theorem raiseStop_drifts (c : StopCause) (a b : Int) (h : Drifts p s.phase s.search.sub) :
    Drifts p (raiseStop c a b s).phase (raiseStop c a b s).search.sub := by
  cases hs : stopsIn s.phase with
  | true =>
    have hsub : (stopEffects c a (raise (.stop c) a b (own s) s)).search.sub = .none := stopEffects_searching _ _ _
    rw [raiseStop_stops hs, stopEffects_phase, hsub]
    exact h.stopped hs
  | false =>
    rcases (stopsIn_false_iff _).mp hs with hp | hp | hp
    · rw [raiseStop_idle (.inl hp)]
      simpa using h
    · rw [raiseStop_faulted hp]
      simpa using h
    · rw [raiseStop_idle (.inr hp)]
      simpa using h

@[simp] theorem raiseIfOutside_drifts (n : Int) (h : Drifts p s.phase s.search.sub) :
    Drifts p (raiseIfOutside n s).phase (raiseIfOutside n s).search.sub := by
  unfold raiseIfOutside
  split_ifs
  · exact h
  · exact raiseStop_drifts _ _ _ h

@[simp] theorem decideOn_drifts (c : Capture) (h : Drifts p s.phase s.search.sub) :
    Drifts p (decideOn c s).phase (decideOn c s).search.sub := by
  obtain ⟨-, -, -, -, -, -, hs, -⟩ := decided_frame c s
  rw [decideOn_eq]
  refine raiseIfOutside_drifts _ ?_
  rw [decided_phase, hs]
  exact h.decided

@[simp] theorem decideHeld_drifts (h : Drifts p s.phase s.search.sub) :
    Drifts p (decideHeld s).phase (decideHeld s).search.sub := by
  unfold decideHeld
  split
  · exact h
  · exact decideOn_drifts _ h

@[simp] theorem advanceDecision_drifts (h : Drifts p s.phase s.search.sub) :
    Drifts p (advanceDecision s).phase (advanceDecision s).search.sub := by
  unfold advanceDecision
  split_ifs
  · exact h
  · exact h
  · exact decideHeld_drifts h

@[simp] theorem captureAnswered_drifts (c : Capture) (h : Drifts p s.phase s.search.sub) :
    Drifts p (captureAnswered c s).phase (captureAnswered c s).search.sub := by
  have hgrade : ∀ served u, Drifts p u.phase u.search.sub →
      Drifts p (gradeCapture c served u).phase (gradeCapture c served u).search.sub := by
    intro served u hu
    unfold gradeCapture
    split_ifs
    · exact advanceDecision_drifts hu
    · simpa using hu
  unfold captureAnswered
  dsimp only
  split_ifs <;> simp [h, hgrade]

@[simp] theorem leadResolved_drifts (l : LeadReport) (h : Drifts p s.phase s.search.sub) :
    Drifts p (leadResolved l s).phase (leadResolved l s).search.sub := by
  unfold leadResolved
  dsimp only
  split_ifs
  · exact advanceDecision_drifts h
  · exact h

@[simp] theorem leadLost_drifts (h : Drifts p s.phase s.search.sub) :
    Drifts p (leadLost s).phase (leadLost s).search.sub := by
  unfold leadLost
  split
  · exact h
  · split_ifs
    · exact leadResolved_drifts _ h
    · exact h

@[simp] theorem leadAtEdge_drifts (h : Drifts p s.phase s.search.sub) :
    Drifts p (leadAtEdge s).phase (leadAtEdge s).search.sub := by
  unfold leadAtEdge
  (repeat' split) <;> simp [h]

@[simp] theorem answerRead_drifts (h : Drifts p s.phase s.search.sub) :
    Drifts p (answerRead s).phase (answerRead s).search.sub := by
  unfold answerRead
  dsimp only
  split
  · exact advanceDecision_drifts (by simpa using h)
  · simpa using h

end Drift

end Sys2Proof.Machine
end

section
/-! PROOFS. O3: the events, the tests at the end of a command, and the theorem. -/

namespace Sys2Proof.Machine

section Drift

variable {p : Phase} {s : State}

/-! ### The events -/

@[simp] theorem overflowTest_drifts (held : Bool) (n : Int) (h : Drifts p s.phase s.search.sub) :
    Drifts p (overflowTest held n s).phase (overflowTest held n s).search.sub := by
  unfold overflowTest
  split_ifs <;> simp [h]

@[simp] theorem jumpTest_drifts (d : Int) (h : Drifts p s.phase s.search.sub) :
    Drifts p (jumpTest d s).phase (jumpTest d s).search.sub := by
  unfold jumpTest
  split_ifs <;> simp [h]

@[simp] theorem countGood_drifts (n : Nat) (h : Drifts p s.phase s.search.sub) :
    Drifts p (countGood n s).phase (countGood n s).search.sub := by
  unfold countGood
  dsimp only
  split_ifs <;> simp [h]

@[simp] theorem answerCapture_drifts (c : Capture) (h : Drifts p s.phase s.search.sub) :
    Drifts p (answerCapture c s).phase (answerCapture c s).search.sub := by
  unfold answerCapture
  split_ifs <;> simp [h]

@[simp] theorem directionCheck_drifts (h : Drifts p s.phase s.search.sub) :
    Drifts p (directionCheck s).phase (directionCheck s).search.sub := by
  unfold directionCheck
  (repeat' split) <;> simp [h]

@[simp] theorem stillnessCheck_drifts (h : Drifts p s.phase s.search.sub) :
    Drifts p (stillnessCheck s).phase (stillnessCheck s).search.sub := by
  unfold stillnessCheck
  (repeat' split) <;> simp [h]

@[simp] theorem goodMotorSample_drifts (n : Nat) (flag : Bool) (h : Drifts p s.phase s.search.sub) :
    Drifts p (goodMotorSample n flag s).phase (goodMotorSample n flag s).search.sub := by
  have hcounted := countGood_drifts n h
  exact searchSample_drifts (stillnessCheck_drifts (trySettle_drifts (directionCheck_drifts
    (answerCapture_drifts _ (by simpa using hcounted)))))

@[simp] theorem badMotorSample_drifts (flag : Bool) (h : Drifts p s.phase s.search.sub) :
    Drifts p (badMotorSample flag s).phase (badMotorSample flag s).search.sub := by
  unfold badMotorSample
  dsimp only
  split_ifs <;> simp [h]

@[simp] theorem driftCheck_drifts (h : Drifts p s.phase s.search.sub) :
    Drifts p (driftCheck s).phase (driftCheck s).search.sub := by
  unfold driftCheck
  dsimp only
  (repeat' split) <;> simp [h]

@[simp] theorem goodScaleSample_drifts (v : Nat) (h : Drifts p s.phase s.search.sub) :
    Drifts p (goodScaleSample v s).phase (goodScaleSample v s).search.sub := by
  simp [goodScaleSample, h]

@[simp] theorem badScaleSample_drifts (h : Drifts p s.phase s.search.sub) :
    Drifts p (badScaleSample s).phase (badScaleSample s).search.sub := by
  unfold badScaleSample
  dsimp only
  split_ifs <;> simp [h]

@[simp] theorem calDone_drifts (r : CalRecord) (rb : ReadBack) (h : Drifts p s.phase s.search.sub) :
    Drifts p (calDone r rb s).phase (calDone r rb s).search.sub := by
  unfold calDone
  dsimp only
  split
  · next ho =>
    have hr : s.phase = .reference := h.searching (by
      simp only [ownCalibration, Bool.and_eq_true, decide_eq_true_eq] at ho
      simp [ho.1.1])
    refine calibrationDone_drifts _ ?_ ?_
    · split_ifs <;> simp [hr]
    · split_ifs <;> simp [h]
  · split_ifs <;> simp [h]

@[simp] theorem writeEvent_drifts (rb : ReadBack) (h : Drifts p s.phase s.search.sub) :
    Drifts p (writeEvent rb s).phase (writeEvent rb s).search.sub := by
  unfold writeEvent
  split <;> simp [h]

@[simp] theorem readEvent_drifts (h : Drifts p s.phase s.search.sub) :
    Drifts p (readEvent s).phase (readEvent s).search.sub := by
  unfold readEvent
  split_ifs <;> simp [h]

@[simp] theorem bitErrorEvent_drifts (n : Nat) (h : Drifts p s.phase s.search.sub) :
    Drifts p (bitErrorEvent n s).phase (bitErrorEvent n s).search.sub := by
  unfold bitErrorEvent failKind
  dsimp only
  (repeat' split) <;> simp [h]

@[simp] theorem duplicate_drifts (k : Station) (f : Frame) (h : Drifts p s.phase s.search.sub) :
    Drifts p (duplicate k f s).phase (duplicate k f s).search.sub := raiseStop_drifts _ _ _ h

@[simp] theorem fallEvent_drifts (h : Drifts p s.phase s.search.sub) :
    Drifts p (fallEvent s).phase (fallEvent s).search.sub := by
  unfold fallEvent
  dsimp only
  split_ifs <;> simp [h]

@[simp] theorem markEdge_drifts (h : Drifts p s.phase s.search.sub) :
    Drifts p (markEdge s).phase (markEdge s).search.sub := by
  unfold markEdge
  split_ifs <;> simp [h]

@[simp] theorem riseEvent_drifts (h : Drifts p s.phase s.search.sub) :
    Drifts p (riseEvent s).phase (riseEvent s).search.sub := by
  unfold riseEvent
  split_ifs
  · exact h
  · have hedge : ∀ u, Drifts p u.phase u.search.sub → Drifts p (tryMove (markEdge u)).phase (tryMove (markEdge u)).search.sub :=
      fun u hu => by simpa using markEdge_drifts hu
    exact tryRestart_drifts (hedge _ h)

@[simp] theorem heartbeatEvent_drifts (h : Drifts p s.phase s.search.sub) :
    Drifts p (heartbeatEvent s).phase (heartbeatEvent s).search.sub := by
  simpa using h

@[simp] theorem leadWaitEvent_drifts (h : Drifts p s.phase s.search.sub) :
    Drifts p (leadWaitEvent s).phase (leadWaitEvent s).search.sub := by
  unfold leadWaitEvent
  split_ifs <;> simp [h]

@[simp] theorem untakenEvent_drifts (h : Drifts p s.phase s.search.sub) :
    Drifts p (untakenEvent s).phase (untakenEvent s).search.sub := by
  unfold untakenEvent
  split_ifs <;> simp [h]

@[simp] theorem allowanceEvent_drifts (h : Drifts p s.phase s.search.sub) :
    Drifts p (allowanceEvent s).phase (allowanceEvent s).search.sub := by
  unfold allowanceEvent
  split_ifs <;> simp [h]

@[simp] theorem prereqEvent_drifts (h : Drifts p s.phase s.search.sub) :
    Drifts p (prereqEvent s).phase (prereqEvent s).search.sub := by
  unfold prereqEvent
  split
  · next hc =>
    simp only [Bool.and_eq_true, decide_eq_true_eq] at hc
    exact failSearch_drifts _ _ (h.searching (by simp [hc.2])) h
  · exact h

@[simp] theorem settleEndEvent_drifts (h : Drifts p s.phase s.search.sub) :
    Drifts p (settleEndEvent s).phase (settleEndEvent s).search.sub := by
  unfold settleEndEvent
  split
  · next hc =>
    simp only [Bool.and_eq_true, decide_eq_true_eq] at hc
    have hr : s.phase = .reference := h.searching (by simp [hc.2])
    exact evaluatePass_drifts hr (h.resume hr)
  · exact h

/-! ### Arrivals -/

@[simp] theorem haltFromPeer_drifts (k : Station) (h : Drifts p s.phase s.search.sub) :
    Drifts p (haltFromPeer k s).phase (haltFromPeer k s).search.sub := by
  unfold haltFromPeer
  split
  · next hc => exact abortSearch_drifts _ _ (h.searching (by simpa [searching] using hc)) h
  · exact h

@[simp] theorem reportFromPeer_drifts (k : Station) (r : MarkReport) (h : Drifts p s.phase s.search.sub) :
    Drifts p (reportFromPeer k r s).phase (reportFromPeer k r s).search.sub := by
  unfold reportFromPeer leadReports
  split_ifs <;> simp [h]

@[simp] theorem claimConflict_drifts (j k : Station) (h : Drifts p s.phase s.search.sub) :
    Drifts p (claimConflict j k s).phase (claimConflict j k s).search.sub := by
  unfold claimConflict
  dsimp only
  split
  · split
    · next hc =>
      have hs : s.search.sub ≠ .none := by simpa [searching] using hc
      exact abortSearch_drifts _ _ (by simpa using h.searching hs) (by simpa using h)
    · simpa using h
  · simpa using h

@[simp] theorem statusFromPeer_drifts (k : Station) (f : StatusFrame) (h : Drifts p s.phase s.search.sub) :
    Drifts p (statusFromPeer k f s).phase (statusFromPeer k f s).search.sub := by
  unfold statusFromPeer conflictTest
  (repeat' split) <;> simp [h]

theorem onPeerOf_drifts (k : Station) (f : Frame) (h : Drifts p s.phase s.search.sub) :
    Drifts p (onPeerOf k f s).phase (onPeerOf k f s).search.sub := by
  cases f <;> simp [onPeerOf, h]

@[simp] theorem claimEcho_drifts (h : Drifts p s.phase s.search.sub) :
    Drifts p (claimEcho s).phase (claimEcho s).search.sub := by
  unfold claimEcho
  split
  · exact h
  · split
    · exact claimGranted_drifts h
    · simpa using h
  all_goals simpa using h

theorem onEchoOf_drifts (k : Station) (f : Frame) (h : Drifts p s.phase s.search.sub) :
    Drifts p (onEchoOf k f s).phase (onEchoOf k f s).search.sub := by
  cases f with
  | claim x => exact claimEcho_drifts h
  | _ => simpa [onEchoOf] using h

theorem arrive_drifts (k : Station) (f : Frame) (h : Drifts p s.phase s.search.sub) :
    Drifts p (arrive k f (onEchoOf k f) (onPeerOf k f) s).phase (arrive k f (onEchoOf k f) (onPeerOf k f) s).search.sub :=
  arrive_keeps (P := fun u => Drifts p u.phase u.search.sub) k f _ _ s h (by simpa using h)
    (fun a => onEchoOf_drifts k f (by simpa using h)) (duplicate_drifts k f h) (onPeerOf_drifts k f (by simpa using h))

/-! ### The drive port -/

@[simp] theorem directiveTakeAct_drifts (h : Drifts p s.phase s.search.sub) :
    Drifts p (directiveTakeAct s).phase (directiveTakeAct s).search.sub := by
  unfold directiveTakeAct takePosted
  dsimp only
  (repeat' split) <;> simp [h]

@[simp] theorem turnConfirmAct_drifts (ps : List Byte) (h : Drifts p s.phase s.search.sub) :
    Drifts p (turnConfirmAct ps s).phase (turnConfirmAct ps s).search.sub := by
  unfold turnConfirmAct confirmTurn
  dsimp only
  (repeat' split) <;> simp [h]

/-- The commands that no drift covers: GO, REFERENCE_START, FAULT_CLEAR, PFAIL and the resets. -/
def leadsOn : Instr → Bool
  | .go _ _ | .referenceStart _ _ | .faultClear _ _ | .pfailAsserted _ => true
  | c => isReset c

theorem effectOf_drifts (c : Instr) (hc : leadsOn c = false) (h : Drifts p s.phase s.search.sub) :
    Drifts p (effectOf c s).phase (effectOf c s).search.sub := by
  cases ha : arrivalOf c with
  | some x =>
    rw [effectOf_arrival (now := x.1) (k := x.2.1) (f := x.2.2) ha]
    exact arrive_drifts _ _ h
  | none =>
    cases c with
    | motorSample now r flag => cases r <;> simp [effectOf, h]
    | scaleSample now r => cases r <;> simp [effectOf, h]
    | statusRead | peerRead | faultRead | directiveTake | storeRead | markRequest | turnConfirm | peerForget | setup =>
      refine command_keeps (P := fun u => Drifts p u.phase u.search.sub) _ _ _ _ _ _ _ ?_ ?_ <;> simp [h]
    | referenceAbort now rest =>
      refine command_keeps (P := fun u => Drifts p u.phase u.search.sub) _ _ _ _ _ _ _ (fun _ => by simpa using h)
        fun ps _ hr => abortSearch_drifts _ _ ?_ (by simpa using h)
      simpa [referenceOnly] using hr
    | go | referenceStart | faultClear | pfailAsserted | por | pinReset | reset | rstNLow =>
      exact absurd hc (by simp [leadsOn, isReset])
    | haltArrival | powerDownArrival | markCallArrival | markReportArrival | claimArrival | releaseArrival
    | statusArrival | helloArrival => exact absurd ha (by simp [arrivalOf])
    | _ => simp [effectOf, h]

/-! ### The end of a command -/

/-- The closing tests drift on, or end a muster (R61). -/
theorem finish_drifts (force : Bool) (s0 : State) (h : Drifts p s.phase s.search.sub) :
    PhaseDrifts p (finish force s0 s).phase ∨ p = .muster ∧ (finish force s0 s).phase = .recovery := by
  obtain ⟨-, hd⟩ := watchLead_drifts (leadLost_drifts h)
  rw [finish_eq_closing, closing_phase]
  simp only [applyCeiling_frame]
  split_ifs with hm
  · rw [hm.1] at hd
    exact .inr ⟨by simpa [PhaseDrifts] using hd, rfl⟩
  · exact .inl hd

end Drift

theorem phaseDrift_of_drifts {p q : Phase} (h : PhaseDrifts p q ∨ p = .muster ∧ q = .recovery) : phaseDrift p q = true := by
  rcases h with (rfl | ⟨rfl | rfl, rfl⟩ | ⟨hp, rfl⟩) | ⟨rfl, rfl⟩
  · cases p <;> rfl
  · rfl
  · rfl
  · cases p <;> first | rfl | exact absurd hp Bool.noConfusion
  · rfl

theorem phaseMay_of_drift {p q : Phase} (c : Instr) (h : phaseDrift p q = true) : phaseMay c p q = true := by
  simp [phaseMay, h]

/-! ### The commands that lead on -/

section LeadsOn

variable {now : Instant} {rest : List Byte} {s : State} (hs : s.search.sub ≠ .none → s.phase = .reference)

include hs

/-- What leaves the phase and the search drifts from it at the end of the command. -/
theorem finish_phaseMay (c : Instr) (s0 : State) {u : State} (hp : u.phase = s.phase)
    (hsub : u.search.sub = s.search.sub) : phaseMay c s.phase (finish false s0 u).phase = true :=
  phaseMay_of_drift c (phaseDrift_of_drifts (finish_drifts false s0 (by rw [hp, hsub]; exact .start hs)))

/-- A command of the drive port leads where its own rule leads, or is refused and drifts. -/
theorem port_phaseMay (c : Instr) {code : Nat} {lengthOk domainOk : List Byte → Bool} {phaseOk : Phase → Bool}
    {act : List Byte → State → State}
    (hact : ∀ ps, phaseOk s.phase = true → phaseMay c s.phase (finish false (tick now s) (act ps (opened now s))).phase = true) :
    phaseMay c s.phase (finish false (tick now s)
      (command code rest lengthOk domainOk phaseOk act (tick now s))).phase = true :=
  command_keeps (P := fun u => phaseMay c s.phase (finish false (tick now s) u).phase = true) code rest lengthOk domainOk
    phaseOk act (tick now s) (fun _ => finish_phaseMay hs c _ (by simp) (by simp)) (fun ps _ hp => hact ps hp)

theorem referenceStart_phaseMay :
    phaseMay (.referenceStart now rest) s.phase (finish false (tick now s) (effectOf (.referenceStart now rest) (tick now s))).phase
      = true := by
  refine port_phaseMay hs _ fun ps hp => ?_
  have hready : s.phase = .ready := by simpa [readyOnly] using hp
  unfold referenceStartAct
  split
  · exact finish_phaseMay hs _ _ (by simp) (by simp)
  · next h =>
    have hdrift := finish_drifts (p := .reference) false (tick now s)
      (s := startSearch (endDecision (flushReport (withdrawNeed onlyReMark (answerOk 8 .none (opened now s))))))
      (.start fun _ => rfl)
    rw [hready]
    generalize (finish false (tick now s) _).phase = q at hdrift
    rcases hdrift with (rfl | ⟨-, rfl⟩ | ⟨-, rfl⟩) | ⟨hm, -⟩
    · rfl
    · rfl
    · rfl
    · exact absurd hm (by simp)

theorem faultClear_phaseMay :
    phaseMay (.faultClear now rest) s.phase (finish false (tick now s) (effectOf (.faultClear now rest) (tick now s))).phase
      = true := by
  refine port_phaseMay hs _ fun ps _ => ?_
  by_cases hp : s.phase = .faulted
  · have hsub : s.search.sub = .none := by
      by_contra hn
      exact absurd (hp.symm.trans (hs hn)) (by simp)
    cases hf : firstPresent (opened now s) with
    | some c =>
      simp only [faultClearAct, opened_frame, hp, hf, ↓reduceIte]
      rw [← hp]
      exact finish_phaseMay hs _ _ (by simp) (by simp)
    | none =>
      have hready := finish_drifts (p := .ready) false (tick now s) (s := setPhase .ready (faultCleared now s))
        (.start fun hn => absurd hsub hn)
      have hrecovery := finish_drifts (p := .recovery) false (tick now s) (s := enterRecovery (faultCleared now s))
        (by rw [enterRecovery_phase]; exact .start fun hn => absurd (by simpa [faultCleared_frame] using hsub) hn)
      simp only [faultClearAct, opened_frame, hp, hf, ↓reduceIte]
      rw [← faultCleared, leaveFaulted]
      split_ifs
      · generalize (finish false (tick now s) _).phase = q at hready ⊢
        rcases hready with (rfl | ⟨-, rfl⟩ | ⟨-, rfl⟩) | ⟨hm, -⟩ <;> first | rfl | exact absurd hm (by simp)
      · generalize (finish false (tick now s) (enterRecovery _)).phase = q at hrecovery ⊢
        rcases hrecovery with (rfl | ⟨-, rfl⟩ | ⟨-, rfl⟩) | ⟨hm, -⟩ <;> first | rfl | exact absurd hm (by simp)
  · have hact : faultClearAct (opened now s) = faultCleared now s := by simp [faultClearAct, hp, faultCleared]
    rw [hact]
    exact finish_phaseMay hs _ _ rfl rfl

theorem go_phaseMay (hb : CountsBounded s) :
    phaseMay (.go now rest) s.phase (finish false (tick now s) (effectOf (.go now rest) (tick now s))).phase = true := by
  refine port_phaseMay hs _ fun ps hp => ?_
  have hconfig : s.phase = .config := by simpa [configOnly] using hp
  have hsub : s.search.sub = .none := by
    by_contra hn
    exact absurd (hconfig.symm.trans (hs hn)) (by simp)
  cases hr : goRefusal s with
  | some r =>
    rw [opened, goAct_refused hr]
    exact finish_phaseMay hs _ _ (by simp) (by simp)
  | none =>
    rw [opened, goAct_accepted hr]
    change phaseMay _ _ (goEnded now s).phase = true
    by_cases hpf : s.levels.pfail = true ∧ now.pfail = true
    · rw [goEnded_down hpf.1 hpf.2, hconfig]
      rfl
    · rw [(goEnded_muster hb hsub hconfig (by simpa [← Bool.not_eq_true, ← not_and_or] using hpf)).1, hconfig]
      rfl

theorem pfail_phaseMay :
    phaseMay (.pfailAsserted now) s.phase (finish false (tick now s) (effectOf (.pfailAsserted now) (tick now s))).phase
      = true := by
  have hstays : phaseMay (.pfailAsserted now) s.phase
      (finish false (tick now s) { tick now s with levels := { (tick now s).levels with pfail := true } }).phase = true :=
    finish_phaseMay hs _ _ rfl rfl
  change phaseMay _ _ (finish false (tick now s) (pfailEvent (tick now s))).phase = true
  unfold pfailEvent
  cases hp : s.phase with
  | config | down => simpa only [tick_frame, hp] using hstays
  | _ =>
    simp only [tick_frame, hp, finish_enterDown]
    rfl

end LeadsOn

/-- A reset ends in CONFIG, or has no effect on the phase. -/
theorem exec_reset_phase {c : Instr} {s t : State} (h : exec c s = .next t) (hr : isReset c = true) :
    t.phase = .config ∨ t.phase = s.phase := by
  have hend : ∀ k pins cut x u, (endReset k pins cut x u).phase = .config := fun k pins cut x u => by
    simp [endReset, resetBlocks]
  cases c with
  | por pins cut =>
    cases h
    split
    · exact .inr rfl
    · exact .inl (hend _ _ _ _ _)
  | pinReset pins cut =>
    cases h
    exact .inl (hend _ _ _ _ _)
  | rstNLow cut =>
    cases h
    split
    · exact .inr rfl
    · exact .inl rfl
  | reset now r pins cut =>
    cases h
    unfold reading
    split_ifs
    · exact .inr rfl
    · exact command_keeps (P := fun u => u.phase = .config ∨ u.phase = s.phase) _ _ _ _ _ _ _ (fun _ => .inr (by simp))
        (fun _ _ _ => .inl (hend _ _ _ _ _))
  | _ => exact absurd hr Bool.noConfusion

theorem leadsOn_of_reads {c : Instr} (h : readsOnly c = true) : leadsOn c = false := by
  cases c <;> first | rfl | exact absurd h Bool.noConfusion

theorem phaseMay_reset {c : Instr} (p : Phase) (hr : isReset c = true) : phaseMay c p .config = true := by
  cases c with
  | por | pinReset | reset | rstNLow => simp [phaseMay, isReset]
  | _ => exact absurd hr Bool.noConfusion

/-- Settles O3: the commands that lead on by their own rules, a reset to CONFIG, and every other command by its drift. -/
theorem phaseGraph : Obligations.PhaseGraph := by
  intro c s t hs hb h
  have hsearch : s.search.sub ≠ .none → s.phase = .reference := hs.mpr
  have hself : ∀ q, q = s.phase → phaseMay c s.phase q = true := fun q hq =>
    phaseMay_of_drift c (phaseDrift_of_drifts (.inl (.inl hq.symm)))
  cases hr : isReset c with
  | true =>
    rcases exec_reset_phase h hr with ht | ht
    · rw [ht]
      exact phaseMay_reset _ hr
    · exact hself _ ht
  | false =>
    obtain rfl | ⟨hd, rfl⟩ | ⟨hd, -, rfl⟩ := exec_cases h hr
    · exact hself _ rfl
    · have hdrift := effectOf_drifts (s := tick (instantOf c) s) c (leadsOn_of_reads hd) (.start hsearch)
      exact phaseMay_of_drift c (phaseDrift_of_drifts (.inl hdrift.2))
    · by_cases hl : leadsOn c = true
      · cases c with
        | go now rest => exact go_phaseMay hsearch hb
        | referenceStart now rest => exact referenceStart_phaseMay hsearch
        | faultClear now rest => exact faultClear_phaseMay hsearch
        | pfailAsserted now => exact pfail_phaseMay hsearch
        | por | pinReset | reset | rstNLow => exact absurd hr Bool.noConfusion
        | _ => exact absurd hl Bool.noConfusion
      · exact phaseMay_of_drift c (phaseDrift_of_drifts (finish_drifts _ _
          (effectOf_drifts c (by simpa using hl) (.start hsearch))))

end Sys2Proof.Machine
end

section
/-! PROOFS. O43: the entry of a peer that is DOWN holds no grade of a MARK_REPORT. Every command keeps it: a POWER_DOWN alone
makes a peer's entry DOWN, and it writes the grade (R47, R52). -/

namespace Sys2Proof.Machine

/-- The flags of an entry that DownWithoutReport speaks of. -/
def EntrySpent (e : PeerEntry) : Prop := e.presence = .down → e.gradeFromReport = false

theorem downWithoutReport_of_entry {s t : State} (h : DownWithoutReport s) (ho : own t = own s)
    (he : ∀ k, own s ≠ some k → EntrySpent (entry s k) → EntrySpent (entry t k)) : DownWithoutReport t :=
  fun k hk => he k (ho ▸ hk) (h k (ho ▸ hk))

theorem DownWithoutReport.of_entries {s t : State} (h : DownWithoutReport s) (hs : t.straps = s.straps)
    (he : t.peers.entries = s.peers.entries) : DownWithoutReport t :=
  downWithoutReport_of_entry h (by simp [own, hs]) fun k _ hk => by rwa [entry_congr he]

theorem entrySpent_reset : EntrySpent entryReset := fun h => absurd h (by decide)

theorem downWithoutReport_of_reset {s : State} (h : s.peers = peersReset) : DownWithoutReport s := by
  intro k _
  have he : entry s k = entryReset := by
    rw [entry, h]
    cases k <;> rfl
  rw [he]
  exact entrySpent_reset

/-- The frame that makes a peer's entry DOWN writes its grade (R47, R52). -/
theorem entryTested_spent (s : State) (k : Station) (f : Frame) : EntrySpent (entryTested s k f) := by
  cases f <;>
    simp [EntrySpent, entryTested, entryAfter, writeFields, markHeard, matchDigest, presenceBy, carriesDigest, frameKind]

theorem entrySilenced_spent {s : State} {k : Station} (h : EntrySpent (entry s k)) : EntrySpent (entrySilenced s k) := by
  unfold EntrySpent entrySilenced silenceStep at *
  dsimp only
  split_ifs <;> simp_all

theorem entryAtGo_spent {s : State} {d : BitVec 16} {k : Station} {e : PeerEntry} (ho : own s ≠ some k)
    (h : EntrySpent e) : EntrySpent (entryAtGo s d k e) := by
  rw [entryAtGo_peer s d e ho]
  exact h

section Effect

variable {s : State}

theorem peerArrival_downWithoutReport (k : Station) (f : Frame) (h : DownWithoutReport s) :
    DownWithoutReport (peerArrival k f s) := by
  refine downWithoutReport_of_entry h (by simp [own]) fun j _ hj => ?_
  by_cases hjk : j = k
  · rw [hjk, peerArrival_entry]
    exact entryTested_spent s k f
  · rwa [peerArrival_entry_ne hjk]

theorem arrive_downWithoutReport (k : Station) (f : Frame) (h : DownWithoutReport s) :
    DownWithoutReport (arrive k f (onEchoOf k f) (onPeerOf k f) s) := by
  by_cases ho : own s = some k
  · refine downWithoutReport_of_entry h ?_ fun j hj he => ?_
    · refine arrive_keeps (P := fun u => own u = own s) k f _ _ s rfl (by simp [own]) (fun a => ?_) (by simp [own]) ?_
      · obtain ⟨-, -, -, hst, -⟩ := onEchoOf_frame k f (ownArrival k f (completeAttempt a s))
        exact congrArg (fun x : Straps => stationOf x.st.toNat) hst
      · obtain ⟨-, -, hst, -⟩ := onPeerOf_frame k f (peerArrival k f (setLine .waitingForIdle s))
        simp [own, hst]
    · have hjk : j ≠ k := by
        rintro rfl
        exact hj ho
      rwa [arrive_entry_ne hjk]
  · unfold arrive
    split_ifs with h1 h2 h3
    · exact h
    · exact h.of_entries (by simp) (by simp)
    · exact absurd (by simpa [isOwn] using h3) ho
    · obtain ⟨he, -, hst, -⟩ := onPeerOf_frame k f (peerArrival k f (setLine .waitingForIdle s))
      exact (peerArrival_downWithoutReport k f (s := setLine .waitingForIdle s) h).of_entries hst he

theorem heartbeatEvent_downWithoutReport (h : DownWithoutReport s) : DownWithoutReport (heartbeatEvent s) := by
  refine downWithoutReport_of_entry h (by simp [own]) fun k _ hk => ?_
  unfold heartbeatEvent
  split_ifs
  · rw [countSilence_entry]
    exact entrySilenced_spent hk
  · exact hk

theorem peerForgetAct_downWithoutReport (ps : List Byte) (h : DownWithoutReport s) :
    DownWithoutReport (peerForgetAct ps s) := by
  refine downWithoutReport_of_entry h (by simp [own]) fun j _ hj => ?_
  by_cases hp : ps = [byte (stationNumber j)]
  · have hforget : ∀ u, EntrySpent (entry (forgetEntry j u) j) := fun u => by
      have he : entry (forgetEntry j u) j = entryReset := get_set_self _ j _
      rw [he]
      exact entrySpent_reset
    simp only [hp, peerForgetAct, stationParameter_number]
    split
    · exact hj
    · exact hj
    · exact hforget _
    · exact hforget _
    · exact hj
  · rwa [peerForgetAct_entry_ne hp]

theorem goAct_downWithoutReport (h : DownWithoutReport s) : DownWithoutReport (goAct s) := by
  have hmuster : ∀ u, DownWithoutReport u → DownWithoutReport (enterMuster u) := fun u hu =>
    downWithoutReport_of_entry hu (by simp [own]) fun k hk he => by
      obtain ⟨b, hb, -⟩ := enterMuster_entry u k
      rw [hb]
      exact entryAtGo_spent hk he
  have hstart : ∀ u, DownWithoutReport u → DownWithoutReport (start u) := fun u hu => by
    unfold start
    dsimp only
    have hs : DownWithoutReport (enterMuster (freezeSetup u)) := hmuster _ (hu.of_entries rfl rfl)
    split_ifs
    · exact hs.of_entries (by simp) (by simp)
    · exact hs
  unfold goAct
  split
  · exact h.of_entries (by simp) (by simp)
  · exact hstart _ (h.of_entries rfl rfl)

end Effect

theorem effectOf_downWithoutReport (c : Instr) (hr : isReset c = false) {s : State} (h : DownWithoutReport s) :
    DownWithoutReport (effectOf c s) := by
  cases ha : arrivalOf c with
  | some x =>
    obtain ⟨now, k, f⟩ := x
    rw [effectOf_arrival ha]
    exact arrive_downWithoutReport k f h
  | none =>
    have hkept : (∀ now r, c ≠ .go now r) → (∀ j, ¬ mayWriteEntry c j) → DownWithoutReport (effectOf c s) := fun hg hw =>
      h.of_entries (effectOf_keeps_front c s hr).2.1
        (PerStation.eq_of_get fun j => ((effectOf_table c hr s).1 hg).2 j (hw j))
    cases c with
    | heartbeatExpiry now => exact heartbeatEvent_downWithoutReport h
    | peerForget now r =>
      exact command_keeps (P := DownWithoutReport) _ _ _ _ _ _ _ (fun _ => h.of_entries rfl rfl)
        fun ps _ _ => peerForgetAct_downWithoutReport ps (h.of_entries rfl rfl)
    | go now r =>
      exact command_keeps (P := DownWithoutReport) _ _ _ _ _ _ _ (fun _ => h.of_entries rfl rfl)
        fun _ _ _ => goAct_downWithoutReport (h.of_entries rfl rfl)
    | _ => exact hkept (by simp) (by simp [mayWriteEntry, ha])

/-- Every command keeps it; a reset empties the Peer Table. -/
theorem exec_downWithoutReport {c : Instr} {s t : State} (hs : DownWithoutReport s) (h : exec c s = .next t) :
    DownWithoutReport t := by
  have hend : ∀ k pins cut x u, DownWithoutReport (endReset k pins cut x u) := fun k pins cut x u =>
    downWithoutReport_of_reset (by simp [endReset, resetBlocks])
  cases hr : isReset c with
  | false =>
    exact exec_keeps h hr hs (hs.of_entries rfl rfl) (fun u hu => effectOf_downWithoutReport c hr hu)
      fun force s0 u hu => hu.of_entries (by simp) (by simp)
  | true =>
    cases c with
    | por pins cut =>
      cases h
      split
      · exact hs
      · exact hend _ _ _ _ _
    | pinReset pins cut =>
      cases h
      exact hend _ _ _ _ _
    | rstNLow cut =>
      cases h
      split
      · exact hs
      · exact downWithoutReport_of_reset rfl
    | reset now r pins cut =>
      cases h
      unfold reading
      split_ifs
      · exact hs
      · exact command_keeps (P := DownWithoutReport) _ _ _ _ _ _ _ (fun _ => hs.of_entries rfl rfl)
          fun _ _ _ => hend _ _ _ _ _
    | _ => exact absurd hr Bool.noConfusion

end Sys2Proof.Machine
end

section
/-! PROOFS. O43: the claim and the CLAIM slot at the end of a command, and the lead after a CLAIM or a RELEASE. -/

namespace Sys2Proof.Machine

/-! ### The blocking stations -/

section Blocking

variable {s t : State}

theorem conflictSet_congr (hst : t.straps = s.straps) (hset : t.port.setup = s.port.setup) :
    conflictSet t = conflictSet s := by
  simp only [conflictSet, own, setupOf, hst, hset]

/-- The stations that block a claim are read from the entries of the conflict set. -/
theorem blocking_congr (hst : t.straps = s.straps) (hset : t.port.setup = s.port.setup)
    (he : ∀ k, maskHas (conflictSet s) k = true → entry t k = entry s k) :
    blockingClaims t = blockingClaims s ∧ blockingMotion t = blockingMotion s := by
  have hc := conflictSet_congr hst hset
  have hif : ∀ p : PeerEntry → Bool, (maskOf fun k => maskHas (conflictSet t) k && p (entry t k))
      = maskOf fun k => maskHas (conflictSet s) k && p (entry s k) := fun p => by
    refine congrArg maskOf (funext fun k => ?_)
    rw [hc]
    cases hk : maskHas (conflictSet s) k with
    | false => rfl
    | true => rw [he k hk]
  constructor
  · simpa only [blockingClaims, Bool.and_assoc] using hif fun e => e.claim && decide (e.presence ≠ .absent)
  · simpa only [blockingMotion, Bool.and_assoc] using hif fun e => decide (e.presence = .alive) && !e.atRest

theorem blocking_of_entries (hst : t.straps = s.straps) (hset : t.port.setup = s.port.setup)
    (he : t.peers.entries = s.peers.entries) :
    blockingClaims t = blockingClaims s ∧ blockingMotion t = blockingMotion s :=
  blocking_congr hst hset fun k _ => entry_congr he k

theorem blockingClaims_ne_zero {k : Station} (hk : maskHas (conflictSet s) k = true) (hc : (entry s k).claim = true)
    (hp : (entry s k).presence ≠ .absent) : blockingClaims s ≠ 0#6 :=
  (mask_ne_zero_iff _).mpr ⟨k, by simp [blockingClaims, maskHas_maskOf, hk, hc, hp]⟩

end Blocking

/-! ### The claim at the end of a command -/

section Closing

variable {force : Bool} {s0 s : State}

/-- After `tryClaim` no test of the end of a command reads or writes the claim. -/
theorem closing_claimUnit : (closing force s0 s).claim.state = (tryClaim (tryPrereq s)).claim.state
    ∧ (closing force s0 s).claim.wanted = (tryClaim (tryPrereq s)).claim.wanted
    ∧ (closing force s0 s).claim.purpose = (tryClaim (tryPrereq s)).claim.purpose
    ∧ (closing force s0 s).link.queue.claim = (tryClaim (tryPrereq s)).link.queue.claim
    ∧ (closing force s0 s).search.sub = (tryPrereq s).search.sub := by
  unfold closing
  simp

theorem requestClaim_unit (p : Purpose) (s : State) :
    (requestClaim p s).claim.state = (if s.claim.state = .none then .waiting else s.claim.state)
      ∧ (requestClaim p s).claim.wanted = (s.claim.wanted || decide (s.claim.state = .releasing)) := by
  unfold requestClaim
  cases h : s.claim.state <;> simp [h]

/-- A claim asked for while one stands changes the purpose alone; RELEASING keeps it wanted (R124). -/
theorem tryPrereq_state (h : s.claim.state ≠ .none) : (tryPrereq s).claim.state = s.claim.state := by
  unfold tryPrereq
  split_ifs
  · rw [(requestClaim_unit _ _).1]
    exact if_neg h
  · rfl

theorem tryPrereq_wanted (h : s.claim.state ≠ .releasing ∨ s.claim.wanted = true) :
    (tryPrereq s).claim.wanted = s.claim.wanted := by
  unfold tryPrereq
  split_ifs
  · rw [(requestClaim_unit _ _).2]
    rcases h with h | h <;> simp [h]
  · rfl

theorem tryClaim_not_waiting (h : s.claim.state ≠ .waiting) : tryClaim s = s := by simp [tryClaim, h]

/-- No test of the end of a command ends a claim that stands. -/
theorem closing_claim_stands (hn : s.claim.state ≠ .none) (hw : s.claim.state ≠ .waiting) :
    (closing force s0 s).claim.state = s.claim.state := by
  obtain ⟨hstate, -⟩ := closing_claimUnit (force := force) (s0 := s0) (s := s)
  have hp := tryPrereq_state hn
  rw [hstate, tryClaim_not_waiting (by rwa [hp]), hp]

/-- A claim that waits is queued as soon as nothing blocks it (R124). -/
theorem closing_queues (h : s.claim.state = .waiting) (hq : queueTakes s.phase .claim = true)
    (hc : blockingClaims s = 0#6) (hm : blockingMotion s = 0#6) :
    (closing force s0 s).claim.state = .queued
      ∧ (closing force s0 s).link.queue.claim = some (.claim ((closing force s0 s).claim.purpose.getD .search)) := by
  obtain ⟨hstate, -, hpurpose, hqueue, -⟩ := closing_claimUnit (force := force) (s0 := s0) (s := s)
  obtain ⟨hbc, hbm⟩ := blocking_of_entries (s := s) (t := tryPrereq s) (by simp) (by simp) (by simp)
  have hwaits : (tryPrereq s).claim.state = .waiting := (tryPrereq_state (by simp [h])).trans h
  rw [hstate, hpurpose, hqueue, tryClaim, if_pos ⟨hwaits, hbc.trans hc, hbm.trans hm⟩]
  simp [sendFrame, frameKind, hq, PerKind.set]

theorem closing_waits (h : s.claim.state = .waiting) (hb : blockingClaims s ≠ 0#6 ∨ blockingMotion s ≠ 0#6) :
    (closing force s0 s).claim.state = .waiting ∧ (closing force s0 s).link.queue.claim = s.link.queue.claim := by
  obtain ⟨hstate, -, -, hqueue, -⟩ := closing_claimUnit (force := force) (s0 := s0) (s := s)
  obtain ⟨hbc, hbm⟩ := blocking_of_entries (s := s) (t := tryPrereq s) (by simp) (by simp) (by simp)
  have hwaits : (tryPrereq s).claim.state = .waiting := (tryPrereq_state (by simp [h])).trans h
  have hblocked : tryClaim (tryPrereq s) = tryPrereq s := by
    rw [tryClaim, hbc, hbm, if_neg (by tauto)]
  rw [hstate, hqueue, hblocked]
  exact ⟨hwaits, by simp⟩

end Closing

section Finish

variable {force : Bool} {s0 s : State}

theorem applyCeiling_blocking (s : State) :
    blockingClaims (applyCeiling s) = blockingClaims s ∧ blockingMotion (applyCeiling s) = blockingMotion s :=
  blocking_of_entries (by simp) (by simp) (by simp)

theorem finish_blocking : blockingClaims (finish force s0 s) = blockingClaims s
    ∧ blockingMotion (finish force s0 s) = blockingMotion s :=
  blocking_of_entries (by simp) (by simp) (by simp)

theorem finish_claim_stands (hu : Undisturbed s) (hn : s.claim.state ≠ .none) (hw : s.claim.state ≠ .waiting) :
    (finish force s0 s).claim.state = s.claim.state := by
  rw [finish_of_undisturbed hu, closing_claim_stands (by simpa using hn) (by simpa using hw)]
  simp

theorem finish_wanted (hu : Undisturbed s) (h : s.claim.state ≠ .releasing ∨ s.claim.wanted = true) :
    (finish force s0 s).claim.wanted = s.claim.wanted := by
  obtain ⟨-, hwanted, -⟩ := closing_claimUnit (force := force) (s0 := s0) (s := applyCeiling s)
  rw [finish_of_undisturbed hu, hwanted, (tryClaim_claim _).1, tryPrereq_wanted (by simpa using h)]
  simp

/-- No claim begins at the end of a command without a search. -/
theorem finish_claim_none (hu : Undisturbed s) (hc : s.claim.state = .none) (hs : s.search.sub = .none) :
    (finish force s0 s).claim.state = .none := by
  obtain ⟨hstate, -⟩ := closing_claimUnit (force := force) (s0 := s0) (s := applyCeiling s)
  rw [finish_of_undisturbed hu, hstate, tryPrereq_other (by simp [hs]), tryClaim_not_waiting (by simp [hc])]
  simpa using hc

theorem finish_claim_waits (hu : Undisturbed s) (h : s.claim.state = .waiting)
    (hb : blockingClaims s ≠ 0#6 ∨ blockingMotion s ≠ 0#6) :
    (finish force s0 s).claim.state = .waiting ∧ (finish force s0 s).link.queue.claim = s.link.queue.claim := by
  obtain ⟨hac, ham⟩ := applyCeiling_blocking s
  have h := closing_waits (force := force) (s0 := s0) (s := applyCeiling s) (by simpa using h) (by rwa [hac, ham])
  rw [finish_of_undisturbed hu]
  simpa using h

/-- A claim that waits at the end of a command is queued there, or is still blocked (R124). -/
theorem finish_claim_waiting (hu : Undisturbed s) (h : s.claim.state = .waiting) (hq : queueTakes s.phase .claim = true) :
    (blockingClaims (finish force s0 s) = 0#6 → blockingMotion (finish force s0 s) = 0#6 →
        (finish force s0 s).claim.state = .queued
          ∧ (finish force s0 s).link.queue.claim = some (.claim ((finish force s0 s).claim.purpose.getD .search)))
      ∧ (blockingClaims (finish force s0 s) ≠ 0#6 ∨ blockingMotion (finish force s0 s) ≠ 0#6 →
        (finish force s0 s).claim.state = .waiting) := by
  obtain ⟨hfc, hfm⟩ := finish_blocking (force := force) (s0 := s0) (s := s)
  obtain ⟨hac, ham⟩ := applyCeiling_blocking s
  rw [hfc, hfm]
  refine ⟨fun hc hm => ?_, fun hb => (finish_claim_waits hu h hb).1⟩
  rw [finish_of_undisturbed hu]
  exact closing_queues (by simpa using h) (by simpa using hq) (hac.trans hc) (ham.trans hm)

end Finish

/-! ### The lead after an arrival -/

/-- What an entry shows of a lead that is settled (R147). -/
def Settles (e : PeerEntry) : Prop := e.atRest = true ∧ gradeLe .resolved (gradeAsLead e) = true

theorem leadSettled_iff (s : State) : leadSettled s = true ↔ ∀ k, lead s = some k → Settles (entry s k) := by
  unfold leadSettled leadAtRest leadGrade Settles
  cases lead s <;> simp

/-- The lead's entry may change as long as it stays ALIVE and settled where it was. -/
theorem LeadSteady.of_entry {s t : State} (h : LeadSteady s) (hl : lead t = lead s)
    (hr : t.gradeUnit.leadReport = s.gradeUnit.leadReport) (hw : t.mark.leadWait = s.mark.leadWait)
    (hh : t.search.leadHold = true → s.search.leadHold = true ∨ leadSettled s = true)
    (hp : ∀ k, lead s = some k → (entry s k).presence = .alive → (entry t k).presence = .alive)
    (he : ∀ k, lead s = some k → Settles (entry s k) → Settles (entry t k)) : LeadSteady t := by
  obtain ⟨hheard, hsettled⟩ := h
  refine ⟨fun k hk hwait => ?_, fun ht => ?_⟩
  · rw [hl] at hk
    exact hp k hk (hheard k hk (by simpa [leadWaiting, hr, hw] using hwait))
  · have hs : leadSettled s = true := (hh ht).elim hsettled id
    rw [leadSettled_iff] at hs ⊢
    exact fun k hk => he k (hl ▸ hk) (hs k (hl ▸ hk))

/-- CLAIM and RELEASE write nothing that the lead is judged by: of an entry that settles a lead they leave rest and grade. -/
theorem entryTested_settles {s : State} {k : Station} {f : Frame} (hf : frameKind f = .claim ∨ frameKind f = .release)
    (hd : EntrySpent (entry s k)) (h : Settles (entry s k)) : Settles (entryTested s k f) := by
  obtain ⟨hrest, hgrade⟩ := h
  have hr : isRestart (entry s k) f = decide ((entry s k).presence = .down) := by
    cases f <;> simp_all [isRestart, frameKind]
  have he : (entryTested s k f).atRest = (entry s k).atRest ∧ gradeAsLead (entryTested s k f) = gradeAsLead (entry s k) := by
    cases hp : (entry s k).presence with
    | silent | absent => simp [gradeAsLead, hp, gradeLe, gradeCode] at hgrade
    | alive | stale =>
      cases f <;>
        simp_all [entryTested, entryAfter, writeFields, markHeard, presenceBy, carriesDigest, frameKind, gradeAsLead]
    | down =>
      have hg := hd hp
      cases f <;>
        simp_all [entryTested, entryAfter, writeFields, markHeard, presenceBy, carriesDigest, frameKind, gradeAsLead,
          clearForRestart]
  exact ⟨he.1.trans hrest, he.2 ▸ hgrade⟩

section Peer

variable {now : Instant} {k : Station} {f : Frame} {s : State}

/-- The station with a peer's frame at the Peer Table. -/
def peerHeard (now : Instant) (k : Station) (f : Frame) (s : State) : State :=
  peerArrival k f (setLine .waitingForIdle (tick now s))

theorem peerTaken_eq : peerTaken now k f s
    = finish (arrivalForces k f s) (tick now s) (onPeerOf k f (peerHeard now k f s)) := rfl

theorem peerHeard_frame : (peerHeard now k f s).phase = s.phase ∧ (peerHeard now k f s).straps = s.straps
    ∧ (peerHeard now k f s).port.setup = s.port.setup ∧ (peerHeard now k f s).port.frozen = s.port.frozen
    ∧ (peerHeard now k f s).claim = s.claim ∧ (peerHeard now k f s).search = s.search
    ∧ (peerHeard now k f s).gradeUnit = s.gradeUnit ∧ (peerHeard now k f s).mark.leadWait = s.mark.leadWait
    ∧ (peerHeard now k f s).link.queue = s.link.queue := by
  simp [peerHeard]

/-- A peer's CLAIM or RELEASE leaves the tests of the lead nothing to do. -/
theorem peerHeard_steady (hs : Steady s) (hd : DownWithoutReport s) (ho : own s ≠ some k)
    (hf : frameKind f = .claim ∨ frameKind f = .release) : LeadSteady (peerHeard now k f s) := by
  obtain ⟨-, hsteady⟩ := hs
  have hself : entry (peerHeard now k f s) k = entryTested (setLine .waitingForIdle (tick now s)) k f :=
    peerArrival_entry k f _
  have hother : ∀ j, j ≠ k → entry (peerHeard now k f s) j = entry s j := fun j hj => peerArrival_entry_ne hj f _
  obtain ⟨halive, -⟩ := entryTested_heard (setLine .waitingForIdle (tick now s)) k f
  refine LeadSteady.of_entry hsteady (peerArrival_lead f) (by simp [peerHeard]) (by simp [peerHeard]) (by simp +contextual [peerHeard])
    (fun j _ hp => ?_) (fun j _ hj => ?_)
  · by_cases hjk : j = k
    · subst hjk
      rw [hself, halive, if_neg]
      rcases hf with hf | hf <;> simp [hf]
    · rwa [hother j hjk]
  · by_cases hjk : j = k
    · subst hjk
      rw [hself]
      exact entryTested_settles hf (hd j ho) hj
    · rwa [hother j hjk]

end Peer

section Echo

variable {now : Instant} {k : Station} {f : Frame} {s : State} {a : Attempt}

/-- The echo of the own CLAIM or RELEASE leaves what a lead is judged by, of the own entry too. -/
theorem echoHeard_entry (hf : frameKind f = .claim ∨ frameKind f = .release) (j : Station) :
    (entry (echoHeard now k f a s) j).presence = (entry s j).presence
      ∧ (Settles (entry s j) → Settles (entry (echoHeard now k f a s) j)) := by
  by_cases hjk : j = k
  · subst hjk
    have he : entry (echoHeard now j f a s) j = writeFields f (markHeard now.ms (entry s j)) := by
      have hc : carriesDigest f = false := by cases f <;> simp_all [frameKind, carriesDigest]
      have hself : entry (echoHeard now j f a s) j = _ := entry_setEntry_self j _ _
      rw [hself, hc]
      rfl
    rw [he]
    cases f <;> simp_all [frameKind, writeFields, markHeard, Settles, gradeAsLead]
  · have he : entry (echoHeard now k f a s) j = entry s j := ownArrival_entry_ne hjk f _
    rw [he]
    exact ⟨rfl, id⟩

theorem echoHeard_steady (hs : Steady s) (hf : frameKind f = .claim ∨ frameKind f = .release) :
    LeadSteady (echoHeard now k f a s) := by
  obtain ⟨-, hsteady⟩ := hs
  exact LeadSteady.of_entry hsteady (lead_congr rfl rfl rfl) rfl rfl .inl (fun j _ hj => (echoHeard_entry hf j).1.trans hj)
    fun j _ hj => (echoHeard_entry hf j).2 hj

theorem echoHeard_settled (hf : frameKind f = .claim ∨ frameKind f = .release) (h : leadSettled s = true) :
    leadSettled (echoHeard now k f a s) = true := by
  rw [leadSettled_iff] at h ⊢
  exact fun j hj => (echoHeard_entry hf j).2 (h j hj)

end Echo

end Sys2Proof.Machine
end

section
/-! PROOFS. O43: a claim that waits, a peer's CLAIM, and the echo of the own RELEASE. -/

namespace Sys2Proof.Machine

section Peer

variable {now : Instant} {k : Station} {s : State}

/-- A waiting claim at a peer's RELEASE (R124). -/
theorem release_waiting (hs : Steady s) (hd : DownWithoutReport s) (ho : own s ≠ some k) (hp : s.phase = .reference)
    (hw : s.claim.state = .waiting) :
    (blockingClaims (peerTaken now k .release s) = 0#6 → blockingMotion (peerTaken now k .release s) = 0#6 →
        (peerTaken now k .release s).claim.state = .queued
          ∧ (peerTaken now k .release s).link.queue.claim
            = some (.claim ((peerTaken now k .release s).claim.purpose.getD .search)))
      ∧ (blockingClaims (peerTaken now k .release s) ≠ 0#6 ∨ blockingMotion (peerTaken now k .release s) ≠ 0#6 →
        (peerTaken now k .release s).claim.state = .waiting) := by
  have hsteady := peerHeard_steady (now := now) (f := .release) hs hd ho (.inr rfl)
  have hback : onPeerOf k .release (peerHeard now k .release s) = peerHeard now k .release s := rfl
  rw [peerTaken_eq, hback]
  exact finish_claim_waiting hsteady.undisturbed (by simpa [peerHeard_frame] using hw) (by simp [peerHeard_frame, hp, queueTakes])

theorem claimFromPeer_withdraws {u : State} (hc : maskHas (conflictSet u) k = true) (hq : u.claim.state = .queued) :
    claimFromPeer k u = withdrawFrame .claim { u with claim := { u.claim with state := .waiting } } := by
  simp [claimFromPeer, hc, hq]

theorem claimFromPeer_outside {u : State} (hq : u.claim.state ≠ .queued) : claimFromPeer k u = u := by
  simp [claimFromPeer, hq]

/-- The flag of a conflicting CLAIM blocks the own claim (R124). -/
theorem peerHeard_blocks {p : Purpose} (hc : maskHas (conflictSet s) k = true) :
    blockingClaims (peerHeard now k (.claim p) s) ≠ 0#6 := by
  have hset : conflictSet (peerHeard now k (.claim p) s) = conflictSet s :=
    conflictSet_congr (by simp [peerHeard_frame]) (by simp [peerHeard_frame])
  have hself : entry (peerHeard now k (.claim p) s) k = entryTested (setLine .waitingForIdle (tick now s)) k (.claim p) :=
    peerArrival_entry k _ _
  obtain ⟨halive, -⟩ := entryTested_heard (setLine .waitingForIdle (tick now s)) k (.claim p)
  obtain ⟨hflag, -⟩ := entryTested_holds (s := setLine .waitingForIdle (tick now s)) (k := k) (f := .claim p)
  exact blockingClaims_ne_zero (hset ▸ hc) (hself ▸ hflag) (by simp [hself, halive, frameKind])

/-- A conflicting CLAIM takes the own pending one back (R125). -/
theorem claim_withdrawn {p : Purpose} (hs : Steady s) (hd : DownWithoutReport s) (ho : own s ≠ some k)
    (hc : maskHas (conflictSet s) k = true) (hq : s.claim.state = .queued) :
    (peerTaken now k (.claim p) s).claim.state = .waiting ∧ (peerTaken now k (.claim p) s).link.queue.claim = none := by
  have hsteady := peerHeard_steady (now := now) (f := .claim p) hs hd ho (.inl rfl)
  have hblocks := peerHeard_blocks (now := now) (p := p) hc
  have hset : conflictSet (peerHeard now k (.claim p) s) = conflictSet s :=
    conflictSet_congr (by simp [peerHeard_frame]) (by simp [peerHeard_frame])
  have hback : onPeerOf k (.claim p) (peerHeard now k (.claim p) s) = withdrawFrame .claim
      { peerHeard now k (.claim p) s with claim := { (peerHeard now k (.claim p) s).claim with state := .waiting } } :=
    claimFromPeer_withdraws (by rwa [hset]) (by simpa [peerHeard_frame] using hq)
  have hu : LeadSteady (withdrawFrame .claim
      { peerHeard now k (.claim p) s with claim := { (peerHeard now k (.claim p) s).claim with state := .waiting } }) :=
    leadSteady_of_inputs rfl hsteady id
  rw [peerTaken_eq, hback]
  obtain ⟨hstate, hqueue⟩ := finish_claim_waits (force := arrivalForces k (.claim p) s) (s0 := tick now s)
    hu.undisturbed rfl (.inl hblocks)
  exact ⟨hstate, hqueue.trans (withdrawFrame_self .claim _)⟩

/-- A CLAIM changes nothing of a claim in HELD (R129). -/
theorem claim_held {p : Purpose} (hs : Steady s) (hd : DownWithoutReport s) (ho : own s ≠ some k)
    (hh : s.claim.state = .held) :
    (peerTaken now k (.claim p) s).claim.state = .held ∧ (peerTaken now k (.claim p) s).claim.dir = s.claim.dir := by
  have hsteady := peerHeard_steady (now := now) (f := .claim p) hs hd ho (.inl rfl)
  have hstate : (peerHeard now k (.claim p) s).claim.state = .held := by simpa [peerHeard_frame] using hh
  have hback : onPeerOf k (.claim p) (peerHeard now k (.claim p) s) = peerHeard now k (.claim p) s :=
    claimFromPeer_outside (by simp [hstate])
  rw [peerTaken_eq, hback]
  refine ⟨(finish_claim_stands hsteady.undisturbed (by simp [hstate]) (by simp [hstate])).trans hstate, ?_⟩
  rw [finish_of_undisturbed hsteady.undisturbed]
  simp [peerHeard_frame]

end Peer

section Echo

variable {now : Instant} {k : Station} {a : Attempt} {s : State}

/-- A claim whose RELEASE has been heard: it waits again where it is wanted (R128). -/
def claimEnded (u : State) : State :=
  { u with claim := { u.claim with state := if u.claim.wanted then .waiting else .none, wanted := false } }

theorem releaseEcho_ends {u : State} (h : u.claim.state = .releasing) : releaseEcho u = claimEnded u := by
  simp [releaseEcho, claimEnded, h]

theorem claimEnded_frame (u : State) :
    (claimEnded u).phase = u.phase ∧ (claimEnded u).search = u.search ∧ (claimEnded u).claim.wanted = false
      ∧ (claimEnded u).claim.state = if u.claim.wanted then .waiting else .none := ⟨rfl, rfl, rfl, rfl⟩

/-- The echo of the own RELEASE ends RELEASING (R128). -/
theorem release_ended (hs : Steady s) (hr : s.claim.state = .releasing) :
    (echoTaken now k .release a s).claim.wanted = false
      ∧ (s.claim.wanted = false → s.search.sub = .none → (echoTaken now k .release a s).claim.state = .none)
      ∧ (s.claim.wanted = true → s.phase = .reference →
          (blockingClaims (echoTaken now k .release a s) = 0#6 → blockingMotion (echoTaken now k .release a s) = 0#6 →
              (echoTaken now k .release a s).claim.state = .queued
                ∧ (echoTaken now k .release a s).link.queue.claim
                  = some (.claim ((echoTaken now k .release a s).claim.purpose.getD .search)))
            ∧ (blockingClaims (echoTaken now k .release a s) ≠ 0#6
                ∨ blockingMotion (echoTaken now k .release a s) ≠ 0#6 →
              (echoTaken now k .release a s).claim.state = .waiting)) := by
  have hsteady := echoHeard_steady (now := now) (k := k) (f := .release) (a := a) hs (.inr rfl)
  have hback : onEchoOf k .release (echoHeard now k .release a s) = claimEnded (echoHeard now k .release a s) :=
    releaseEcho_ends hr
  have hu : LeadSteady (claimEnded (echoHeard now k .release a s)) := leadSteady_of_inputs rfl hsteady id
  obtain ⟨hphase, hsearch, hwanted, hstate⟩ := claimEnded_frame (echoHeard now k .release a s)
  rw [echoTaken, hback]
  simp only [echoHeard_frame] at hphase hsearch hstate
  refine ⟨(finish_wanted hu.undisturbed (.inl ?_)).trans hwanted, fun hw hsub => ?_, fun hw hp => ?_⟩
  · rw [hstate]
    split_ifs <;> simp
  · rw [hw] at hstate
    exact finish_claim_none hu.undisturbed hstate (by rw [hsearch, hsub])
  · rw [hw] at hstate
    exact finish_claim_waiting hu.undisturbed hstate (by simp [hphase, hp, queueTakes])

end Echo

end Sys2Proof.Machine
end

section
/-! PROOFS. O43: the echo of the own CLAIM, the grant and its first move (R126, R146 to R150). -/

namespace Sys2Proof.Machine

/-! ### The first move of a granted search -/

section Move

variable {u : State}

theorem beginMove_high (hs : u.search.sub ≠ .none) (hp : u.search.sub ≠ .park) (hc : u.claim.state = .held)
    (ha : u.levels.alhHigh = true) :
    (beginMove u).search = { u.search with stage := .underway, moveStart := some u.reck.count }
      ∧ (beginMove u).claim.dirState = .posted
      ∧ (beginMove u).claim.dir.kind = some (jogKind u.search.plus (moveAlong u))
      ∧ (beginMove u).claim.dir.speed = some u.search.level := by
  have hdue : beginMove u
      = { postMove (jogKind u.search.plus (moveAlong u)) u.search.level none
            { u with search := { u.search with stage := .due } } with
          search := { u.search with stage := .underway, moveStart := some u.reck.count } } := by
    unfold beginMove tryMove
    rw [if_pos ⟨by simp [searching, hs], rfl, ha, hc⟩]
    dsimp only
    split
    · next h _ => exact absurd h hp
    · next h _ => exact absurd h hp
    · simp [moveAlong]
  have hpost : postMove (jogKind u.search.plus (moveAlong u)) u.search.level none
      { u with search := { u.search with stage := .due } }
      = postDirective (jogKind u.search.plus (moveAlong u)) u.search.level none
        { u with search := { u.search with stage := .due } } := by
    simp [postMove, hc]
  obtain ⟨hposted, -, hkind, hspeed, -⟩ := postDirective_record (jogKind u.search.plus (moveAlong u)) u.search.level none
    { u with search := { u.search with stage := .due } }
  rw [hdue, hpost]
  exact ⟨rfl, hposted, hkind, hspeed⟩

theorem beginMove_low (ha : u.levels.alhHigh = false) :
    beginMove u = { u with search := { u.search with stage := .due } } := by
  simp [beginMove, tryMove, ha]

/-- What a move leaves of the search in any case. -/
theorem beginMove_search : ∃ st m, (beginMove u).search = { u.search with stage := st, moveStart := m } := by
  rw [beginMove, tryMove_search]
  split_ifs
  · exact ⟨_, _, rfl⟩
  · exact ⟨_, _, rfl⟩

end Move

/-! ### The grant -/

/-- The search record at the grant: the lead hold of a coupled station, then CLEAR with the flag active and FORWARD as a new
pass without it (R146, R147, R149, R150). -/
def grantedSearch (s : State) : Search :=
  let r : Search := if coupled s then { s.search with heldLambda := some s.reck.lambda, leadHold := true } else s.search
  if s.sensor.flagLevel = some true then { r with sub := .clear, clearPoint := none, returning := false }
  else
    { r with
      sub := .forward, e1 := none, e2 := none, e3 := none, e4 := none, chatter := 0
      passStart := some s.reck.count, returning := false }

/-- The search at the grant, before its first move. -/
def granting (s : State) : State := { s with search := grantedSearch s }

section Grant

variable {s : State}

theorem claimGranted_claiming (h : s.search.sub = .claiming) :
    claimGranted s = beginMove (granting s) := by
  unfold claimGranted granting grantedSearch enterClear enterForward
  dsimp only
  split_ifs <;> rfl

theorem claimGranted_outside (h : s.search.sub ≠ .claiming) : claimGranted s = s := by simp [claimGranted, h]

theorem grantedSearch_kept (s : State) :
    (grantedSearch s).plus = s.search.plus ∧ (grantedSearch s).level = s.search.level
      ∧ (grantedSearch s).restartPending = s.search.restartPending ∧ (grantedSearch s).returning = false
      ∧ (coupled s = true → (grantedSearch s).leadHold = true ∧ (grantedSearch s).heldLambda = some s.reck.lambda) := by
  unfold grantedSearch
  dsimp only
  split_ifs <;> simp [*]

theorem grantedSearch_clear (h : s.sensor.flagLevel = some true) :
    (grantedSearch s).sub = .clear ∧ (grantedSearch s).clearPoint = none := by
  simp [grantedSearch, h]

theorem grantedSearch_forward (h : s.sensor.flagLevel ≠ some true) :
    (grantedSearch s).sub = .forward ∧ (grantedSearch s).passStart = some s.reck.count ∧ (grantedSearch s).e1 = none
      ∧ (grantedSearch s).e2 = none ∧ (grantedSearch s).e3 = none ∧ (grantedSearch s).e4 = none
      ∧ (grantedSearch s).chatter = 0 := by
  simp [grantedSearch, h]

theorem grantedSearch_sub (s : State) :
    (grantedSearch s).sub = if s.sensor.flagLevel = some true then .clear else .forward := by
  split_ifs with h
  · exact (grantedSearch_clear h).1
  · exact (grantedSearch_forward h).1

theorem granted_along (s : State) :
    moveAlong (granting s) = decide (s.sensor.flagLevel ≠ some true) := by
  obtain ⟨-, -, -, hreturning, -⟩ := grantedSearch_kept s
  simp only [moveAlong, granting, hreturning, grantedSearch_sub]
  split_ifs with h <;> simp [h]

end Grant

end Sys2Proof.Machine
end

section
/-! PROOFS. O43: the own CLAIM at the end of its command: granted or released (R126, R146 to R150). -/

namespace Sys2Proof.Machine

/-- A snapshot that is asked for leaves the search but for the snapshot it waits for. -/
theorem requestSnapshot_searchRecord (c : SnapCause) (w : SnapState) (s : State) :
    ∃ o, (requestSnapshot c w s).search = { s.search with refSnapshot := o } := by
  unfold requestSnapshot putSnapshot
  (repeat' split) <;> exact ⟨_, rfl⟩

theorem setGrade_searchRecord (g : Grade) (b : Basis) (s : State) :
    ∃ o, (setGrade g b s).search = { s.search with refSnapshot := o } := by
  unfold setGrade setGradeBasis
  dsimp only
  split_ifs
  · obtain ⟨o, h⟩ := requestSnapshot_searchRecord .gradeLoss .void (putGrade g (setBasis (basisFor g b) s))
    exact ⟨o, by rw [h]; simp⟩
  · exact ⟨s.search.refSnapshot, by simp⟩

theorem applyCeiling_searchRecord (s : State) : ∃ o, (applyCeiling s).search = { s.search with refSnapshot := o } := by
  unfold applyCeiling
  dsimp only
  split_ifs
  · exact ⟨s.search.refSnapshot, rfl⟩
  · exact setGrade_searchRecord _ _ _
  · exact setGrade_searchRecord _ _ _

section Finish

variable {force : Bool} {s0 u : State}

/-- Without a wait for prerequisites no test of the end of a command writes what the grant has set up. -/
theorem finish_search (hu : Undisturbed u) (hsub : u.search.sub ≠ .waitPrereq) :
    (finish force s0 u).search.sub = u.search.sub ∧ (finish force s0 u).search.stage = u.search.stage
      ∧ (finish force s0 u).search.moveStart = u.search.moveStart
      ∧ (finish force s0 u).search.clearPoint = u.search.clearPoint
      ∧ (finish force s0 u).search.passStart = u.search.passStart ∧ (finish force s0 u).search.e1 = u.search.e1
      ∧ (finish force s0 u).search.e2 = u.search.e2 ∧ (finish force s0 u).search.e3 = u.search.e3
      ∧ (finish force s0 u).search.e4 = u.search.e4 ∧ (finish force s0 u).search.chatter = u.search.chatter
      ∧ (finish force s0 u).search.restartPending = u.search.restartPending := by
  obtain ⟨-, -, -, -, h⟩ := closing_claimUnit (force := force) (s0 := s0) (s := applyCeiling u)
  obtain ⟨o, hsearch⟩ := applyCeiling_searchRecord u
  rw [finish_of_undisturbed hu, h, tryPrereq_other (by simpa using hsub)]
  simp [hsearch]

theorem finish_hold (hu : Undisturbed u) : (finish force s0 u).search.leadHold = u.search.leadHold
    ∧ (finish force s0 u).search.heldLambda = u.search.heldLambda ∧ (finish force s0 u).claim.dir = u.claim.dir
    ∧ (finish force s0 u).claim.dirState = u.claim.dirState
    ∧ (finish force s0 u).link.queue.release = u.link.queue.release := by
  obtain ⟨o, hsearch⟩ := applyCeiling_searchRecord u
  rw [finish_of_undisturbed hu]
  simp [hsearch]

end Finish

section Echo

variable {now : Instant} {k : Station} {p : Purpose} {a : Attempt} {s : State}

/-- The own CLAIM writes the own entry alone, which is not in the own conflict set. -/
theorem echoHeard_blocking (hk : maskHas (conflictSet s) k = false) :
    blockingClaims (echoHeard now k (.claim p) a s) = blockingClaims s := by
  have hother : ∀ j, maskHas (conflictSet s) j = true → entry (echoHeard now k (.claim p) a s) j = entry s j := by
    intro j hj
    have hjk : j ≠ k := by
      rintro rfl
      simp [hj] at hk
    exact ownArrival_entry_ne hjk _ _
  exact (blocking_congr (s := s) (t := echoHeard now k (.claim p) a s) rfl rfl hother).1

/-- The own claim as held, before the grant is reported to the sequencer. -/
def claimHeld (u : State) : State := { u with claim := { u.claim with state := .held } }

theorem claimEcho_granted {u : State} (hq : u.claim.state = .queued) (hb : blockingClaims u = 0#6) :
    claimEcho u = claimGranted (claimHeld u) := by
  simp [claimEcho, hq, hb, claimHeld]

theorem claimEcho_blocked {u : State} (hq : u.claim.state = .queued) (hb : blockingClaims u ≠ 0#6) :
    claimEcho u = beginRelease true u := by
  simp [claimEcho, hq, hb]

/-- The station at the grant, before the tests at the end of the command. -/
def granted (now : Instant) (k : Station) (p : Purpose) (a : Attempt) (s : State) : State :=
  claimGranted (claimHeld (echoHeard now k (.claim p) a s))

theorem granted_claiming (hsub : s.search.sub = .claiming) :
    granted now k p a s = beginMove (granting (claimHeld (echoHeard now k (.claim p) a s))) :=
  claimGranted_claiming hsub

theorem granted_undisturbed (hs : Steady s) (hl : leadSettled s = true) : Undisturbed (granted now k p a s) := by
  have hi : leadInputs (granted now k p a s) = leadInputs (echoHeard now k (.claim p) a s) := by
    simp [leadInputs, granted, claimHeld]
  obtain ⟨hheard, -⟩ := echoHeard_steady (now := now) (k := k) (f := .claim p) (a := a) hs (.inl rfl)
  exact LeadSteady.undisturbed ⟨leadHeard_of_inputs hi hheard, fun _ =>
    (leadSettled_of_inputs hi).trans (echoHeard_settled (.inl rfl) hl)⟩

theorem echoTaken_granted (hq : s.claim.state = .queued) (hk : maskHas (conflictSet s) k = false)
    (hb : blockingClaims s = 0#6) : echoTaken now k (.claim p) a s = finish false (tick now s) (granted now k p a s) := by
  have hecho : onEchoOf k (.claim p) (echoHeard now k (.claim p) a s) = granted now k p a s :=
    claimEcho_granted hq ((echoHeard_blocking hk).trans hb)
  rw [echoTaken, hecho]
  rfl

/-- The grant holds the claim, and of a coupled search the lead's angle (R126, R147). -/
theorem granted_holds (hs : Steady s) (hl : leadSettled s = true) :
    (finish false (tick now s) (granted now k p a s)).claim.state = .held
      ∧ (s.search.sub = .claiming → coupled s = true →
          (finish false (tick now s) (granted now k p a s)).search.leadHold = true
            ∧ (finish false (tick now s) (granted now k p a s)).search.heldLambda = some s.reck.lambda) := by
  have hu := granted_undisturbed (now := now) (k := k) (p := p) (a := a) hs hl
  have hheld : (granted now k p a s).claim.state = .held := by simp [granted, claimHeld]
  refine ⟨(finish_claim_stands hu (by simp [hheld]) (by simp [hheld])).trans hheld, fun hsub hc => ?_⟩
  obtain ⟨hhold, hlambda, -⟩ := finish_hold (force := false) (s0 := tick now s) hu
  obtain ⟨-, -, -, -, hcoupled⟩ := grantedSearch_kept (claimHeld (echoHeard now k (.claim p) a s))
  obtain ⟨st, m, hsearch⟩ := beginMove_search (u := granting (claimHeld (echoHeard now k (.claim p) a s)))
  rw [hhold, hlambda, granted_claiming hsub, hsearch]
  exact hcoupled hc

theorem granting_sub (g : State) : (granting g).search.sub = .clear ∨ (granting g).search.sub = .forward := by
  have h : (granting g).search.sub = _ := grantedSearch_sub g
  rw [h]
  split_ifs <;> simp

/-- The search at the grant waits for no prerequisites, so the tests at the end leave it. -/
theorem granted_not_waiting (hsub : s.search.sub = .claiming) : (granted now k p a s).search.sub ≠ .waitPrereq := by
  obtain ⟨st, m, hsearch⟩ := beginMove_search (u := granting (claimHeld (echoHeard now k (.claim p) a s)))
  rw [granted_claiming hsub, hsearch]
  rcases granting_sub (claimHeld (echoHeard now k (.claim p) a s)) with h | h <;> simp [h]

/-- The search that the grant begins: CLEAR with the flag active, and without it FORWARD as a new pass (R146, R149, R150). -/
theorem granted_searches (hs : Steady s) (hl : leadSettled s = true) (hsub : s.search.sub = .claiming)
    (hp : s.phase = .reference) {t : State} (ht : t = finish false (tick now s) (granted now k p a s)) :
    t.phase = .reference ∧ t.search.restartPending = s.search.restartPending
      ∧ (s.sensor.flagLevel = some true → t.search.sub = .clear ∧ t.search.clearPoint = none)
      ∧ (s.sensor.flagLevel ≠ some true →
          t.search.sub = .forward ∧ t.search.passStart = some s.reck.count ∧ t.search.e1 = none ∧ t.search.e2 = none
            ∧ t.search.e3 = none ∧ t.search.e4 = none ∧ t.search.chatter = 0) := by
  have hu := granted_undisturbed (now := now) (k := k) (p := p) (a := a) hs hl
  obtain ⟨hphase, -⟩ := finish_undisturbed_frame (force := false) (s0 := tick now s) hu
    (by simp [granted, claimHeld, echoHeard_frame, hp])
  obtain ⟨-, -, hrestart, -⟩ := grantedSearch_kept (claimHeld (echoHeard now k (.claim p) a s))
  obtain ⟨st, m, hsearch⟩ := beginMove_search (u := granting (claimHeld (echoHeard now k (.claim p) a s)))
  obtain ⟨h1, -, -, h4, h5, h6, h7, h8, h9, h10, h11⟩ := finish_search (force := false) (s0 := tick now s) hu
    (granted_not_waiting hsub)
  subst ht
  rw [hphase, h1, h4, h5, h6, h7, h8, h9, h10, h11, granted_claiming hsub, hsearch]
  have hkept : (beginMove (granting (claimHeld (echoHeard now k (.claim p) a s)))).phase = .reference := by
    rw [(beginMove_frame _).1]
    exact hp
  exact ⟨hkept, hrestart, grantedSearch_clear, grantedSearch_forward⟩

/-- The first JOG: posted at once while ALH is high, and due while it is low (R148). -/
theorem granted_moves (hs : Steady s) (hl : leadSettled s = true) (hsub : s.search.sub = .claiming)
    {t : State} (ht : t = finish false (tick now s) (granted now k p a s)) :
    (s.levels.alhHigh = true →
        t.claim.dirState = .posted ∧ t.search.stage = .underway
          ∧ t.claim.dir.kind = some (jogKind s.search.plus (decide (s.sensor.flagLevel ≠ some true)))
          ∧ t.claim.dir.speed = some s.search.level ∧ t.search.moveStart = some s.reck.count)
      ∧ (s.levels.alhHigh = false →
          t.claim.dirState = s.claim.dirState ∧ t.claim.dir = s.claim.dir ∧ t.search.stage = .due) := by
  have hu := granted_undisturbed (now := now) (k := k) (p := p) (a := a) hs hl
  obtain ⟨hplus, hlevel, -⟩ := grantedSearch_kept (claimHeld (echoHeard now k (.claim p) a s))
  obtain ⟨-, -, hdir, hstate, -⟩ := finish_hold (force := false) (s0 := tick now s) hu
  have halong := granted_along (claimHeld (echoHeard now k (.claim p) a s))
  obtain ⟨-, hstage, hstart, -⟩ := finish_search (force := false) (s0 := tick now s) hu (granted_not_waiting hsub)
  subst ht
  rw [hdir, hstate, hstage, hstart, granted_claiming hsub]
  refine ⟨fun ha => ?_, fun ha => ?_⟩
  · have hsub' := granting_sub (claimHeld (echoHeard now k (.claim p) a s))
    have hsearch : (granting (claimHeld (echoHeard now k (.claim p) a s))).search
        = grantedSearch (claimHeld (echoHeard now k (.claim p) a s)) := rfl
    obtain ⟨hmove, hposted, hkind, hspeed⟩ := beginMove_high (u := granting (claimHeld (echoHeard now k (.claim p) a s)))
      (by rcases hsub' with h | h <;> simp [h]) (by rcases hsub' with h | h <;> simp [h]) rfl ha
    rw [hmove, hposted, hkind, hspeed, halong, hsearch, hplus, hlevel]
    exact ⟨rfl, rfl, rfl, rfl, rfl⟩
  · rw [beginMove_low (u := granting (claimHeld (echoHeard now k (.claim p) a s))) ha]
    exact ⟨rfl, rfl, rfl⟩

/-- A CLAIM that has come too late is released and stays wanted (R126). -/
theorem echo_released (hs : Steady s) (hq : s.claim.state = .queued) (hk : maskHas (conflictSet s) k = false)
    (hb : blockingClaims s ≠ 0#6) (hp : s.phase = .reference) :
    (echoTaken now k (.claim p) a s).claim.state = .releasing ∧ (echoTaken now k (.claim p) a s).claim.wanted = true
      ∧ (echoTaken now k (.claim p) a s).link.queue.release = some .release := by
  have hecho : onEchoOf k (.claim p) (echoHeard now k (.claim p) a s) = beginRelease true (echoHeard now k (.claim p) a s) :=
    claimEcho_blocked hq (by rwa [echoHeard_blocking hk])
  have hbegin : (beginRelease true (echoHeard now k (.claim p) a s)).claim.state = .releasing
      ∧ (beginRelease true (echoHeard now k (.claim p) a s)).claim.wanted = true
      ∧ (beginRelease true (echoHeard now k (.claim p) a s)).link.queue.release = some .release := by
    simp [beginRelease, sendFrame, echoHeard_frame, hp, queueTakes, frameKind, PerKind.set]
  obtain ⟨hstate, hwanted, hrelease⟩ := hbegin
  have hsteady := echoHeard_steady (now := now) (k := k) (f := .claim p) (a := a) hs (.inl rfl)
  have hu : LeadSteady (beginRelease true (echoHeard now k (.claim p) a s)) :=
    leadSteady_of_inputs (by simp [leadInputs]) hsteady (by simp)
  obtain ⟨-, -, -, -, hslot⟩ := finish_hold (force := arrivalForces k (.claim p) s) (s0 := tick now s) hu.undisturbed
  rw [echoTaken, hecho, hslot, finish_wanted hu.undisturbed (.inr hwanted),
    finish_claim_stands hu.undisturbed (by simp [hstate]) (by simp [hstate])]
  exact ⟨hstate, hwanted, hrelease⟩

end Echo

end Sys2Proof.Machine
end

section
/-! PROOFS. O43: CLAIM_CONFLICT, and the yielding of the higher number (R130). -/

namespace Sys2Proof.Machine

/-! ### The end of a search whose claim is released already -/

theorem releaseClaim_releasing {s : State} (h : s.claim.state = .releasing) :
    releaseClaim s = { s with claim := { s.claim with wanted := false } } := by
  simp [releaseClaim, h]

theorem endSearch_releasing (o : SearchOutcome) {s : State} (h : s.claim.state = .releasing) :
    (endSearch o s).claim = { s.claim with wanted := false } ∧ (endSearch o s).link = s.link
      ∧ (endSearch o s).search.sub = .none ∧ (endSearch o s).search.outcome = o ∧ (endSearch o s).phase = .ready := by
  have hclaim : (endLeadHold (withdrawCalibration s)).claim = s.claim := by simp [withdrawCalibration]
  have hlink : (endLeadHold (withdrawCalibration s)).link = s.link := by simp [withdrawCalibration]
  unfold endSearch
  rw [releaseClaim_releasing (by rw [hclaim, h])]
  refine ⟨?_, hlink, rfl, rfl, rfl⟩
  rw [← hclaim]
  rfl

/-! ### The yielding station -/

section Conflict

variable {j k : Station} {s : State}

theorem claimConflict_shown : FaultShown
    (raise (.note .claimConflict) (stationNumber j : Int) (stationNumber k : Int) (some k) s).fault.record
    (claimConflict j k s) := by
  have hnote := raise_shown (.note .claimConflict) (stationNumber j : Int) (stationNumber k : Int) (some k) s
  unfold claimConflict
  dsimp only
  split_ifs
  · exact abortSearch_faultShown _ _ (by simpa [FaultShown, noteOf] using hnote)
  · simpa [FaultShown, noteOf] using hnote
  · exact hnote

theorem claimConflict_stays (h : stationNumber j < stationNumber k) :
    claimConflict j k s = noteOf k .claimConflict (stationNumber j : Int) (stationNumber k : Int) s := by
  simp [claimConflict, Nat.not_lt.mpr h.le]

/-- A held claim given up after a STOP. -/
theorem releaseClaim_stopped (hh : s.claim.state = .held) (hp : s.phase = .reference) :
    (releaseClaim (postStop s)).claim.state = .releasing ∧ (releaseClaim (postStop s)).claim.wanted = false
      ∧ stopCurrent (releaseClaim (postStop s)) = true
      ∧ (releaseClaim (postStop s)).link.queue.release = some .release := by
  have hheld : (postStop s).claim.state = .held := by simpa using hh
  have hstill : moving (postStop s) = false := moving_of_stop (postStop_kind s)
  have hrelease : releaseClaim (postStop s) = beginRelease false (postStop s) := by
    rw [releaseClaim, hheld, hstill]
    rfl
  have hbegin : beginRelease false (postStop s)
      = sendFrame .release { postStop s with claim := { (postStop s).claim with state := .releasing, wanted := false } } := by
    simp [beginRelease, hp]
  rw [hrelease, hbegin]
  refine ⟨by simp, by simp, ?_, by simp [sendFrame, hp, queueTakes, frameKind, PerKind.set]⟩
  exact (stopCurrent_congr (by simp) (by simp)).trans (postStop_current_after s)

/-- The higher number yields: STOP, the claim released, the search aborted (R130). -/
theorem claimConflict_yields (h : stationNumber k < stationNumber j) (hh : s.claim.state = .held)
    (hp : s.phase = .reference) :
    (claimConflict j k s).claim.state = .releasing ∧ (claimConflict j k s).claim.wanted = false
      ∧ stopCurrent (claimConflict j k s) = true ∧ (claimConflict j k s).link.queue.release = some .release
      ∧ (claimConflict j k s).search.sub = .none
      ∧ (s.search.sub ≠ .none →
          (claimConflict j k s).search.outcome = .aborted .claimConflict ∧ (claimConflict j k s).phase = .ready) := by
  obtain ⟨hstate, hwanted, hstop, hslot⟩ := releaseClaim_stopped
    (s := noteOf k .claimConflict (stationNumber j : Int) (stationNumber k : Int) s) (by simpa [noteOf] using hh)
    (by simpa [noteOf] using hp)
  have hsub : (releaseClaim (postStop (noteOf k .claimConflict (stationNumber j : Int) (stationNumber k : Int) s))).search.sub
      = s.search.sub := by simp [noteOf]
  unfold claimConflict
  dsimp only
  rw [if_pos h]
  generalize releaseClaim (postStop (noteOf k .claimConflict (stationNumber j : Int) (stationNumber k : Int) s)) = u at *
  split_ifs with hs
  · obtain ⟨hclaim, hlink, hend, hout, hphase⟩ := endSearch_releasing (.aborted .claimConflict)
      (s := raise (.note .referenceAborted) (abortCode .claimConflict) (subCode u.search.sub : Int) (some k) u)
      (by simpa using hstate)
    unfold abortSearch
    refine ⟨by rw [hclaim]; simpa using hstate, by rw [hclaim], ?_, by rw [hlink]; simpa using hslot, hend,
      fun _ => ⟨hout, hphase⟩⟩
    exact (stopCurrent_congr (by rw [hclaim]; simp) (by rw [hclaim]; simp)).trans hstop
  · have hnone : u.search.sub = .none := by simpa [searching] using hs
    exact ⟨hstate, hwanted, hstop, hslot, hnone, fun hn => absurd (hsub.symm.trans hnone) hn⟩

end Conflict

/-! ### A conflicting STATUS in HELD -/

theorem finish_unsearched {force : Bool} {s0 s : State} (hu : Undisturbed s) (hsub : s.search.sub = .none)
    (hw : s.claim.state ≠ .waiting) :
    (finish force s0 s).claim.state = s.claim.state ∧ (finish force s0 s).claim.wanted = s.claim.wanted
      ∧ (finish force s0 s).search.sub = .none := by
  obtain ⟨hstate, hwanted, -, -, hs⟩ := closing_claimUnit (force := force) (s0 := s0) (s := applyCeiling s)
  have hother : tryPrereq (applyCeiling s) = applyCeiling s := tryPrereq_other (by simp [hsub])
  rw [finish_of_undisturbed hu, hstate, hwanted, hs, hother, tryClaim_not_waiting (by simpa using hw)]
  simpa using hsub

section Status

variable {now : Instant} {j k : Station} {x : StatusFrame} {s : State}

/-- A STATUS of another station than the lead leaves the tests of the lead nothing to do. -/
theorem peerHeard_other (hs : Steady s) (hl : lead s ≠ some k) (f : Frame) : LeadSteady (peerHeard now k f s) := by
  obtain ⟨-, hsteady⟩ := hs
  have hother : ∀ i, lead s = some i → entry (peerHeard now k f s) i = entry s i := fun i hi => by
    have hik : i ≠ k := by
      rintro rfl
      exact hl hi
    exact peerArrival_entry_ne hik f _
  exact LeadSteady.of_entry hsteady (peerArrival_lead f) (by simp [peerHeard]) (by simp [peerHeard])
    (by simp +contextual [peerHeard]) (fun i hi hp => by rwa [hother i hi]) (fun i hi he => by rwa [hother i hi])

/-- A STATUS of the own plan in REFERENCE raises nothing at the Peer Table (R49, R59). -/
theorem peerHeard_fault (hp : x.phase = .reference) (hd : some x.digest = s.peers.digest) :
    (peerHeard now k (.status x) s).fault = s.fault := by
  have hi : inconsistent (entry (setLine .waitingForIdle (tick now s)) k).phase (.status x) = false := by
    simp [inconsistent, hp]
  rw [peerHeard, peerArrival_eq, hi, if_neg Bool.false_ne_true]
  refine digestTested_fault fun d o hx ho hne => absurd ?_ hne
  have hdx : x.digest = d := Option.some.inj hx
  exact Option.some.inj ((congrArg some hdx).symm.trans (hd.trans ho))

theorem status_conflicts (ho : own s = some j) (hl : lead s ≠ some k) (hh : s.claim.state = .held)
    (hc : maskHas (conflictSet s) k = true) (hx : x.claim = true) :
    onPeerOf k (.status x) (peerHeard now k (.status x) s) = claimConflict j k (peerHeard now k (.status x) s) := by
  have hlead : leadAngle k x.theta (peerHeard now k (.status x) s) = peerHeard now k (.status x) s := by
    have hlead : lead (peerHeard now k (.status x) s) ≠ some k := by rwa [peerHeard, peerArrival_lead]
    unfold leadAngle
    split
    · rfl
    · exact if_neg fun h => hlead h.1
  have hown : own (peerHeard now k (.status x) s) = some j := by simpa [own, peerHeard_frame] using ho
  have hset : conflictSet (peerHeard now k (.status x) s) = conflictSet s :=
    conflictSet_congr (by simp [peerHeard_frame]) (by simp [peerHeard_frame])
  change conflictTest k x (leadAngle k x.theta (peerHeard now k (.status x) s)) = _
  simp [hlead, conflictTest, hown, hset, hc, hx, peerHeard_frame, hh]

/-- What a conflicting STATUS with its claim flag set brings about in HELD (R130). -/
theorem status_in_held (hs : Steady s) (ho : own s = some j) (hl : lead s ≠ some k) (hp : s.phase = .reference)
    (hh : s.claim.state = .held) (hc : maskHas (conflictSet s) k = true) (hx : x.claim = true) {t : State}
    (ht : t = peerTaken now k (.status x) s) :
    t.port.attention.fault = true
      ∧ (s.fault.record.locked = false → x.phase = .reference → some x.digest = s.peers.digest →
          t.fault.record.cause = some (.note .claimConflict) ∧ t.fault.record.station = some k
            ∧ t.fault.record.a = (stationNumber j : Int) ∧ t.fault.record.b = (stationNumber k : Int))
      ∧ (stationNumber j < stationNumber k →
          t.claim.state = .held ∧ (s.search.sub ≠ .waitPrereq → t.search.sub = s.search.sub))
      ∧ (stationNumber k < stationNumber j →
          t.claim.state = .releasing ∧ t.claim.wanted = false ∧ claimFlag t = false ∧ stopCurrent t = true
            ∧ t.link.queue.release = some .release
            ∧ (s.search.sub ≠ .none →
                t.search.sub = .none ∧ t.search.outcome = .aborted .claimConflict ∧ t.phase = .ready)) := by
  have htaken : t = finish (arrivalForces k (.status x) s) (tick now s)
      (claimConflict j k (peerHeard now k (.status x) s)) := by
    rw [ht, peerTaken_eq, status_conflicts ho hl hh hc hx]
  have hsteady := peerHeard_other (now := now) hs hl (.status x)
  have hi : leadInputs (claimConflict j k (peerHeard now k (.status x) s)) = leadInputs (peerHeard now k (.status x) s) := by
    simp [leadInputs]
  have hsmall : ∀ i : Station, faultValue (stationNumber i : Int) = stationNumber i := fun i =>
    faultValue_small (by cases i <;> decide)
  obtain ⟨hatt, -, hrecord⟩ := (finish_faultShown (arrivalForces k (.status x) s) (tick now s)
    (claimConflict_shown (j := j) (k := k) (s := peerHeard now k (.status x) s))).record
  have hheld : (peerHeard now k (.status x) s).claim.state = .held := by simpa [peerHeard_frame] using hh
  rw [htaken]
  refine ⟨hatt, fun hu hxp hxd => ?_, fun hlt => ?_, fun hlt => ?_⟩
  · obtain ⟨hcause, hstation, ha, hb⟩ := hrecord (by rwa [peerHeard_fault hxp hxd])
    exact ⟨hcause, hstation, ha.trans (hsmall j), hb.trans (hsmall k)⟩
  · have hstays := claimConflict_stays (s := peerHeard now k (.status x) s) hlt
    have hu : LeadSteady (claimConflict j k (peerHeard now k (.status x) s)) :=
      leadSteady_of_inputs hi hsteady (by simp [hstays, noteOf])
    have hstate : (claimConflict j k (peerHeard now k (.status x) s)).claim.state = .held := by
      simpa [hstays, noteOf] using hheld
    have hsub : (claimConflict j k (peerHeard now k (.status x) s)).search.sub = s.search.sub := by
      simp [hstays, noteOf, peerHeard_frame]
    refine ⟨(finish_claim_stands hu.undisturbed (by simp [hstate]) (by simp [hstate])).trans hstate, fun hn => ?_⟩
    rw [(finish_search hu.undisturbed (by rwa [hsub])).1, hsub]
  · obtain ⟨hstate, hwanted, hstop, hslot, hsub, habort⟩ := claimConflict_yields hlt hheld (by simpa [peerHeard_frame] using hp)
    have hu : Undisturbed (claimConflict j k (peerHeard now k (.status x) s)) :=
      undisturbed_of_no_search (leadHeard_of_inputs hi hsteady.1) hsub
    obtain ⟨hstate', hwanted', hsub'⟩ := finish_unsearched (force := arrivalForces k (.status x) s) (s0 := tick now s) hu hsub
      (by simp [hstate])
    obtain ⟨-, -, hdir, hdirState, hslot'⟩ := finish_hold (force := arrivalForces k (.status x) s) (s0 := tick now s) hu
    rw [claimFlag, hstate', hwanted', hsub', hslot', hstate]
    refine ⟨rfl, hwanted, rfl, (stopCurrent_congr hdirState hdir).trans hstop, hslot, fun hn => ?_⟩
    obtain ⟨hout, hphase⟩ := habort (by simpa [peerHeard_frame] using hn)
    obtain ⟨hphase', -⟩ := finish_undisturbed_frame (force := arrivalForces k (.status x) s) (s0 := tick now s) hu
      (by simp [hphase])
    rw [hphase', hphase, finish_of_undisturbed hu]
    exact ⟨rfl, by simpa using hout, rfl⟩

end Status

end Sys2Proof.Machine
end

section
/-! PROOFS. O43: the theorem. -/

namespace Sys2Proof.Machine

/-- The echo of the own CLAIM in QUEUED with nothing in its way: the grant and the first move (R126, R146 to R150). -/
theorem claim_granted {now : Instant} {k : Station} {p : Purpose} {a : Attempt} {s t : State} (hs : Steady s)
    (hl : leadSettled s = true) (hq : s.claim.state = .queued) (hk : maskHas (conflictSet s) k = false)
    (hb : blockingClaims s = 0#6) (ht : t = echoTaken now k (.claim p) a s) :
    t.claim.state = .held ∧ claimFlag t = true
      ∧ (s.search.sub = .claiming → coupled s = true →
          t.search.leadHold = true ∧ t.search.heldLambda = some s.reck.lambda)
      ∧ (s.search.sub = .claiming → s.phase = .reference →
          let along := decide (s.sensor.flagLevel ≠ some true)
          t.phase = .reference ∧ t.search.restartPending = s.search.restartPending
            ∧ (along = false → t.search.sub = .clear ∧ t.search.clearPoint = none)
            ∧ (along = true →
                t.search.sub = .forward ∧ t.search.passStart = some s.reck.count
                  ∧ t.search.e1 = none ∧ t.search.e2 = none ∧ t.search.e3 = none ∧ t.search.e4 = none
                  ∧ t.search.chatter = 0)
            ∧ (s.levels.alhHigh = true →
                t.claim.dirState = .posted ∧ t.search.stage = .underway
                  ∧ t.claim.dir.kind = some (if s.search.plus = along then .jogPos else .jogNeg)
                  ∧ t.claim.dir.speed = some s.search.level
                  ∧ t.search.moveStart = some s.reck.count)
            ∧ (s.levels.alhHigh = false →
                t.claim.dirState = s.claim.dirState ∧ t.claim.dir = s.claim.dir ∧ t.search.stage = .due)) := by
  rw [echoTaken_granted hq hk hb] at ht
  obtain ⟨hheld, hhold⟩ := granted_holds (now := now) (k := k) (p := p) (a := a) hs hl
  rw [← ht] at hheld hhold
  refine ⟨hheld, by simp [claimFlag, hheld], hhold, fun hsub hp => ?_⟩
  obtain ⟨hphase, hrestart, hclear, hforward⟩ := granted_searches hs hl hsub hp ht
  obtain ⟨hhigh, hlow⟩ := granted_moves hs hl hsub ht
  have hkind : ∀ along : Bool, jogKind s.search.plus along = if s.search.plus = along then .jogPos else .jogNeg :=
    fun along => by simp [jogKind]
  rw [hkind] at hhigh
  exact ⟨hphase, hrestart, fun h => hclear (by simpa using h), fun h => hforward (by simpa using h), hhigh, hlow⟩

/-- Settles O43: each part is a lemma above, for the frame that the part names. -/
theorem claimsDecided : Obligations.ClaimsDecided := by
  refine ⟨fun c s t hd h => exec_downWithoutReport hd h, fun now k s hs hd ho hl hp hw => ?_,
    fun now k p a s hs ho hl ha hlead hq hk => ?_, fun now k p s hs hd ho hl hc hq => ?_,
    fun now k p s hs hd ho hl hh => ?_, fun now j k x s hs ho hne hl hok hlead hp hh hc hx => ?_,
    fun now k a s hs ho hl ha hr => ?_⟩
  · exact ⟨_, exec_peer (c := .releaseArrival now k) rfl hs.1 rfl hl ho, release_waiting hs hd ho hp hw⟩
  · obtain ⟨hline, -⟩ := echoTaken_link (now := now) (k := k) (s := s) ha
    exact ⟨_, exec_echo (c := .claimArrival now k p) rfl hs.1 rfl ho hl ha, hline,
      fun hb => claim_granted hs hlead hq hk hb rfl, fun hb hp => echo_released hs hq hk hb hp⟩
  · exact ⟨_, exec_peer (c := .claimArrival now k p) rfl hs.1 rfl hl ho, claim_withdrawn hs hd ho hc hq⟩
  · exact ⟨_, exec_peer (c := .claimArrival now k p) rfl hs.1 rfl hl ho, claim_held hs hd ho hh⟩
  · have hother : own s ≠ some k := fun h => hne (Option.some.inj (ho.symm.trans h))
    exact ⟨_, exec_peer (c := .statusArrival now k x) rfl hs.1 hok hl hother, status_in_held hs ho hlead hp hh hc hx rfl⟩
  · exact ⟨_, exec_echo (c := .releaseArrival now k) rfl hs.1 rfl ho hl ha, release_ended hs hr⟩

end Sys2Proof.Machine
end
